-- ==== Sys2Proof/Word.lean ====
section
/-! DEFINITION. The word types of the chip and the sparse stores that hold its tables: a store is a list of
(key, value) pairs with strictly rising keys (R8 gives the word width, R525 the spaces that the keys number). -/
namespace Sys2Proof

abbrev Byte := BitVec 8
abbrev W16 := BitVec 16
abbrev W32 := BitVec 32
abbrev W64 := BitVec 64

/-- A sparse table: the keys that do not hold what an unlisted key reads as. -/
abbrev Store (α : Type) := List (Nat × α)

/-- Bits [hi:lo] of a number. -/
def bitsOf (x hi lo : Nat) : Nat := (x >>> lo) % 2 ^ (hi + 1 - lo)

/-- Field [hi:lo] of a register word. -/
def fld (v : W32) (hi lo : Nat) : Nat := bitsOf v.toNat hi lo

/-- Bit `i` of a register word. -/
def bit (v : W32) (i : Nat) : Bool := v.getLsbD i

/-- `v` with field [hi:lo] replaced by `x`. -/
def withFld (v : W32) (hi lo x : Nat) : W32 :=
  let m : W32 := BitVec.ofNat 32 ((2 ^ (hi + 1 - lo) - 1) <<< lo)
  (v &&& ~~~ m) ||| (BitVec.ofNat 32 ((x % 2 ^ (hi + 1 - lo)) <<< lo))

/-- The word with bit `i` set and no other. -/
def bitWord (i : Nat) : W32 := BitVec.ofNat 32 (2 ^ i)

/-- A 64-bit value from its low and its high word (R8: little-endian). -/
def join64 (lo hi : W32) : Nat := lo.toNat + 2 ^ 32 * hi.toNat

end Sys2Proof
end

