-- ==== Sys2Proof/Config.lean ====
section
/-! DEFINITION. What one part fixes (its grade) and the free values: what the spec leaves open is a constant with no
body, applied to the data it depends on or to a fresh number, so that no proof can see what it is. -/
namespace Sys2Proof

/-- The three grades of R3. -/
inductive Grade where
  | xa
  | sa
  | la
deriving DecidableEq, Repr

/-- Plateau arrays present (R3). -/
def Grade.plts : Grade → Nat
  | .xa => 4 | .sa => 2 | .la => 0

/-- Crest cores present (R3). -/
def Grade.crests : Grade → Nat
  | .xa => 16 | .sa => 8 | .la => 0

/-- Traverse ports present (R3). -/
def Grade.trvs : Grade → Nat
  | .xa => 16 | .sa => 8 | .la => 4

/-- JESD ingress and encoders present (R3, R7). -/
def Grade.ingress : Grade → Bool
  | .xa => true | .sa => true | .la => false

/-- DRAM dies present (R3, R7). -/
def Grade.dies : Grade → Nat
  | .xa => 2 | .sa => 2 | .la => 1

/-- DRAM slices present (R156, R157). -/
def Grade.slices (g : Grade) : Nat := 64 * g.dies

/-- `CHP_CAPS` by grade (R541). -/
def Grade.caps : Grade → W32
  | .xa => 0x90860001#32 | .sa => 0x48460002#32 | .la => 0x00210003#32

namespace Config

/-- Free: 64 bits of the Bedrock TRNG, one value for each draw (R97, R652). (DESIGN CHOICE, log 13) -/
opaque trng : Nat → BitVec 64
/-- Free: a 32-bit word that the spec does not determine, one value for each use. -/
opaque word : Nat → BitVec 32
/-- Free: a number that the spec does not determine, one value for each use. -/
opaque num : Nat → Nat

/-- Free: word i of the identity digest of this device (R382, R641). (DESIGN CHOICE, log 11) -/
opaque identity : Nat → BitVec 32
/-- Free: the code of a kind of control message of a Traverse link (R374), by the model's own number of the kind. (PRESUMED, log 61) -/
opaque ctrlKind : Nat → BitVec 8

/-- Free: what GCM-AES-256 opens with a key, salt, SSCI and packet number, from the authenticated bytes and the
ciphertext with its ICV; none where the ICV fails (R418). -/
opaque gcmOpen : List (BitVec 8) → List (BitVec 8) → Nat → Nat → List (BitVec 8) → List (BitVec 8) → Option (List (BitVec 8))

/-- Free: word k of the 65,536 OTP bits as the part leaves manufacture (R635). (DESIGN CHOICE, log 10) -/
opaque otp : Nat → BitVec 32
/-- SHA-512 of a byte string, its first byte lowest: the standard's function, not unfolded here (R629). (DESIGN CHOICE, log 12) -/
opaque sha512 : List (BitVec 8) → BitVec 512
/-- Ed25519 and ML-DSA-65 verification of a signature over a message with a public key (R629). -/
opaque edOk : List (BitVec 8) → List (BitVec 8) → List (BitVec 8) → Bool
opaque mlOk : List (BitVec 8) → List (BitVec 8) → List (BitVec 8) → Bool
/-- Free: byte i of the two identity public keys, Ed25519 first (R641). -/
opaque idKey : Nat → BitVec 8
/-- Free: byte i of the Ed25519 signature (kind 0) or ML-DSA-65 signature (kind 1) of a message with the identity keys;
the number is the randomness of hedged signing (R629, R641, R653). -/
opaque idSign : Nat → List (BitVec 8) → Nat → Nat → BitVec 8

end Config
end Sys2Proof
end

