-- ==== Sys2Proof/Syntax.lean ====
section
/-! DEFINITION. The commands of the chip: one constructor for each row of the opcode table, with the operands that its
rule gives it, and the data that those operands carry. -/
namespace Sys2Proof

/-- Who makes an access (R12, R525): the host's accesses are made by RFG1 in U-mode on its behalf (R427, R485). -/
inductive Who where
  | host
  | crs (c : Fin 16)
  | rfg (k : Fin 4)
  | jtag
deriving DecidableEq, Repr

/-- A requester and whether it runs in machine mode (R447, R485, R643). -/
structure Requester where
  who : Who
  mmode : Bool
deriving DecidableEq, Repr

/-- A fabric packet: eight words, the header first (R198, R203). -/
structure Packet where
  words : List W32
deriving DecidableEq, Repr

/-- An atomic operation of a Tarn bank (R184). -/
inductive AtomicOp where
  | addS32
  | addFP32
  | swap
deriving DecidableEq, Repr

/-- An access to a Tarn bank: a load, a store, or an atomic on a 32-bit word (R181, R184, R189). -/
inductive TarnOp where
  | load (offset bytes : Nat)
  | store (offset : Nat) (data : List Byte)
  | atomic (op : AtomicOp) (offset : Nat) (operand : W32)
deriving DecidableEq, Repr

/-- A row of an image: its cell, DRAM offset and bytes (R148). -/
structure ImageRow where
  cell : Nat
  base : Nat
  bytes : List Byte
deriving DecidableEq, Repr

/-- What a Yunasil image carries, as the loader sees it (R21, R84, R119, R127, R148, R226, R241). -/
structure Image where
  /-- reservations by requester index, in units of 15.625 kB/s on a slice (R161, R174) -/
  rates : List (Nat × Nat)
  /-- the rows of its logical cells -/
  rows : List ImageRow
  /-- row tables and other bytes of DRAM, by DRAM offset -/
  tables : List (Nat × Byte)
  /-- profile words, by cell × 64 + profile (R118) -/
  profiles : List (Nat × List W32)
  /-- queue descriptors, by cell × 512 + queue (R127) -/
  queues : List (Nat × List W32)
  /-- axon words, and the words U V and F A of neurons, by cell × 8,192 + neuron (R117, R124) -/
  axons : List (Nat × W32)
  neurons : List (Nat × W32 × W32)
  /-- route entries by region × 2¹⁸ + index, and the entries that each region's chains need (R226) -/
  routes : List (Nat × List W32)
  routeNeed : List Nat
  /-- channel entries by channel ID: low and high word (R240, R241) -/
  channels : List (Nat × W32 × W32)
  /-- other configuration registers, by page × 4,096 + offset -/
  regs : List (Nat × W32)
  /-- the synapse store (R162) -/
  synBase : Nat
  synLimit : Nat
  /-- the whole image as one byte string, with its signature trailer where it has one (R630, R634) -/
  raw : List Byte
deriving DecidableEq, Repr

/-- A link frame as it comes off the lanes of a Traverse port: its 64 words, the codewords corrected and uncorrectable
in it, and the corrected symbols of each lane (R361, R373). -/
structure LinkRx where
  words : List W32
  corrected : Nat
  uncorrectable : Nat
  symbols : List Nat
deriving DecidableEq, Repr

/-- An error in a Crest cache (R442): instruction cache parity, a single-bit error, an uncorrectable error in a clean
line, one in a dirty line, and a load of the poison that it left. -/
inductive CacheError where
  | parity
  | single
  | clean
  | dirty
  | load
deriving DecidableEq, Repr

/-- The commands. Each constructor is one row of spec/opcode_table.json, in the order of the table. -/
inductive Instr where
  /-- REGISTER_WRITE (R10): A write to a register that has no row of its own stores, sets or clears bits as its type code gives. -/
  | registerWrite (req : Requester) (addr : Nat) (bytes : Nat) (v : W64)
  /-- RC_READ (R10): A read of an RC register returns its value and then clears it, except for an increment in the same cycle. -/
  | rcRead (req : Requester) (addr : Nat) (bytes : Nat)
  /-- LOW_WORD_READ (R527): A read of the low word of a 64-bit register latches its high word for the reading requester. -/
  | lowWordRead (req : Requester) (addr : Nat)
  /-- YUNASIL_LOAD (R21): The loader loads a Yunasil image, checking reservations, overlap, formats, profiles, CAP and signatures. -/
  | yunasilLoad (image : Image)
  /-- TICK (R40): The step timer reaches zero and raises the tick: STP_COUNT increments, the timer reloads and step n begins. -/
  | tick
  /-- STEP_TIMER_START (R41): Setting PG_CTRL.EN on the STP page loads STP_PERIOD and starts the count. -/
  | stepTimerStart (req : Requester)
  /-- STEP_TIMER_STOP (R41): Clearing PG_CTRL.EN on the STP page stops the timer at its current count. -/
  | stepTimerStop (req : Requester)
  /-- STP_PERIOD_WRITE (R39): A write to STP_PERIOD takes effect at the next reload, or is refused outside the allowed range. -/
  | stpPeriodWrite (req : Requester) (v : W32)
  /-- TICK_PACKET_SEND (R42): The tick master sends a TICK packet STP_TICK_LEAD ns before its own tick. -/
  | tickPacketSend
  /-- TICK_PACKET_RECEIVE (R42): A member takes a TICK packet, subtracts its link latency and schedules its tick. -/
  | tickPacketReceive (port : Fin 16)
  /-- TICK_LEAD_EXPIRY (R42): The remaining lead of a received TICK packet runs out and the member raises its tick. -/
  | tickLeadExpiry
  /-- FLYWHEEL_TICK (R45): No tick has come from the source within 1,000 ns of timer expiry, so the chip raises its tick from the timer. -/
  | flywheelTick
  /-- TICK_IN_EDGE (R46): A rising edge on TICK_IN raises the tick, is dropped when it comes too soon, or is held under STRETCH. -/
  | tickInEdge
  /-- HELD_TICK_RELEASE (R64): Under STRETCH, the held tick is raised on the cycle after the summit and the timer reloads. -/
  | heldTickRelease
  /-- NEURON_UPDATE (R121): The update engine updates one active neuron from its accumulator. -/
  | neuronUpdate (cell : Fin 2048)
  /-- CELL_UPDATE_DONE (R49): A cell completes its update and starts taking due queue heads. -/
  | cellUpdateDone (cell : Fin 2048)
  /-- BLOCK_UPDATE_DONE (R49): When all its cells have finished the update, the block sends UPDATE_DONE(n) to its region. -/
  | blockUpdateDone (block : Fin 128)
  /-- REGION_UPDATE_DONE (R28): With all blocks done, the region reports UPDATE_DONE(n), which releases STEP_BOUND jobs waiting for it. -/
  | regionUpdateDone (region : Fin 8)
  /-- CELL_QUIESCENT (R51): A cell becomes quiescent for the step. -/
  | cellQuiescent (cell : Fin 2048)
  /-- BLOCK_QUIESCENT (R52): The block sends QUIESCENT(n) with its injected and consumed counts to its region. -/
  | blockQuiescent (block : Fin 128)
  /-- REGION_QUIESCENT (R52): The region sends QUIESCENT(n) with the summed counts to the chip. -/
  | regionQuiescent (region : Fin 8)
  /-- CUT (R50): All regions are quiescent and STEP_BOUND jobs have ended, so external sources begin to stamp the next step. -/
  | cut
  /-- COLLECTION_WAVE (R53): A collection wave of summit tokens completes and its totals are compared with the previous wave. -/
  | collectionWave
  /-- SUMMIT (R53): The root finds two equal waves with injected equal to consumed, reaches the summit of step n and sends the release. -/
  | summit
  /-- SUMMIT_RELEASE (R54): The release reaches a unit, which performs the summit actions of step n in order. -/
  | summitRelease (unit : Fin 137)
  /-- SUMMIT_WATCHDOG_EXPIRY (R57): SUM_WDOG_CNT reaches SUM_WDOG_TICKS, which sets PG_INT.WDOG and begins hang recovery. -/
  | summitWatchdogExpiry
  /-- ELAPSED_WRAP (R74): STP_ELAPSED_NS wraps to zero and sets STP_ELAPSED_WRAP.WRAP and PG_INT.ELAPSED_WRAP. -/
  | elapsedWrap
  /-- FENCE (R71): A write of 1 to CHP_FENCE.FENCE holds the requester's later accesses until its earlier writes take effect. -/
  | fence (req : Requester)
  /-- FENCE_COMPLETE (R71): Every earlier write of the requester has taken effect, so the fence completes and its accesses resume. -/
  | fenceComplete (req : Requester)
  /-- SAT_WINDOW_WRITE (R104): A write to SAT_WIN or SAT_LIMIT ends the current window and begins a new one. -/
  | satWindowWrite (req : Requester) (page : Nat) (limit : Bool) (v : W32)
  /-- SR_SEED_WRITE (R98): A write that completes SR_SEED requests a reseed at the next summit, or at once while the timer is stopped. -/
  | srSeedWrite (req : Requester) (page : Nat) (v : W64)
  /-- POSTED_CELL_WRITE (R137): A write to a cell's profile, neuron, axon or learning registers is posted for the next summit. -/
  | postedCellWrite (req : Requester) (site : Fin 2176) (off : Nat) (v : W32)
  /-- QDESC_WRITE (R132): A write to a queue descriptor applies its fields or refuses them and requests a STATE transition. -/
  | qdescWrite (req : Requester) (site : Fin 2176) (word : Fin 4) (v : W32)
  /-- QUEUE_RESET_DONE (R130): The last entry of a queue in RESET is freed and the queue becomes CLOSED. -/
  | queueResetDone (cell : Fin 2048) (queue : Fin 512)
  /-- EVENT_ENQUEUE (R128): An arriving event is placed in its queue, due in step s + DELAY, or dropped. -/
  | eventEnqueue (block : Fin 128)
  /-- QUEUE_HEAD_TAKE (R129): Stage 1 takes the next due entry in priority order and reads its row table entry. -/
  | queueHeadTake (cell : Fin 2048)
  /-- ROW_TABLE_READ_COMPLETE (R146): A row table entry read from DRAM returns to the cell. -/
  | rowTableReadComplete (item : Nat)
  /-- ROW_FETCH_COMPLETE (R155): The last granule of a row arrives, and the cell expands the row and accumulates its contributions. -/
  | rowFetchComplete (item : Nat)
  /-- WRITE_BACK_COMPLETE (R160): A plastic row write-back completes and releases fetches of the row that were waiting. -/
  | writeBackComplete (cell : Fin 2048) (row : Nat)
  /-- HANDSHAKE_STALL (R115): A stage boundary stays in one phase longer than CEL_STALL_NS, which sets PG_ERR.STALL and escalates. -/
  | handshakeStall (site : Fin 2176) (boundary : Fin 8)
  /-- DRAM_REQUEST_SERVE (R158): A slice serves a request whose requester has credit, or in an unreserved cycle, and charges its bytes. -/
  | dramRequestServe (slice : Fin 128) (pick : Nat) (symbols : Nat)
  /-- RESERVATION_WINDOW (R158): A reservation window begins: every requester's credit is reset and waits are counted. -/
  | reservationWindow (slice : Fin 128)
  /-- POSTED_SYNAPSE_WRITE (R162): A write into the synapse store is buffered for the next summit, or held while the buffer is full. -/
  | postedSynapseWrite (req : Requester) (addr : Nat) (bytes : List Byte)
  /-- POSTED_WRITE_ADMIT (R162): A held posted write enters the emptied slice buffer after a summit and completes. -/
  | postedWriteAdmit (slice : Fin 128)
  /-- REFRESH_CHANGE (R165): The slice temperature crosses a threshold, which changes the refresh multiplier and sets PG_INT.REFRESH. -/
  | refreshChange (slice : Fin 128) (temp : Nat)
  /-- ROW_REMAP_COMPLETE (R169): The copy of a failing row to a spare completes, the remap list entry is written and PG_INT.REMAP is set. -/
  | rowRemapComplete (slice : Fin 128)
  /-- PATROL_SCRUB (R168): The patrol scrubber reads a beat in an unreserved cycle. -/
  | patrolScrub (slice : Fin 128) (symbols : Nat)
  /-- DRM_REMAP_ADD (R170): Software adds a row to the remap list, or is refused. -/
  | drmRemapAdd (req : Requester) (die : Fin 2) (v : W32)
  /-- SLICE_POWER_DOWN (R171): A slice with no access for DRM_PD_NS enters POWER_DOWN. -/
  | slicePowerDown (slice : Fin 128)
  /-- TARN_ACCESS (R181): An owner port accesses a bank, stalling when ports of the same owner collide. -/
  | tarnAccess (bank : Fin 128) (owner : Nat) (req : Requester) (atomic dma loadStore : Option TarnOp)
  /-- ADD_S32 (R184): An atomic adds a saturating S32 operand to a word and returns its old value. -/
  | addS32 (bank : Fin 128) (owner : Nat) (req : Requester) (offset : Nat) (operand : W32)
  /-- ADD_FP32 (R184): An atomic adds an FP32 operand to a word and returns its old value. -/
  | addFp32 (bank : Fin 128) (owner : Nat) (req : Requester) (offset : Nat) (operand : W32)
  /-- SWAP (R184): An atomic writes the operand to a word and returns its old value. -/
  | swap (bank : Fin 128) (owner : Nat) (req : Requester) (offset : Nat) (operand : W32)
  /-- TAR_OWNER_WRITE (R186): A write to TAR_OWNER requests a handover, or is refused when busy or naming an absent owner. -/
  | tarOwnerWrite (req : Requester) (bank : Fin 128) (v : W32)
  /-- HANDOVER_DRAIN_DONE (R186): The old owner's outstanding accesses complete, and the bank is either cleared or passed to the new owner. -/
  | handoverDrainDone (bank : Fin 128)
  /-- BANK_CLEAR_DONE (R186): The zeroing of a bank ends, so the new owner is admitted and OWNER_ACK is set. -/
  | bankClearDone (bank : Fin 128)
  /-- TAR_PWR_WRITE (R193): A write to TAR_PWR.REQ requests a change of bank power state. -/
  | tarPwrWrite (req : Requester) (bank : Fin 128) (v : W32)
  /-- BANK_POWER_CHANGE (R192): The bank reaches the requested power state after its drain, wake or clear. -/
  | bankPowerChange (bank : Fin 128)
  /-- SIDE_PORT_ACCESS (R190): A side-port access is served in a free cycle, or after 64 cycles of waiting. -/
  | sidePortAccess (bank : Fin 128) (req : Requester) (op : TarnOp) (waited : Nat) (busy : Bool)
  /-- PACKET_RECEIVE (R206): A router takes a packet whole and checks its header and sideband. -/
  | packetReceive (router : Fin 272) (port : Fin 13) (ok : Bool)
  /-- PACKET_FORWARD (R211): An output sends the head packet of the input and VC that its slot names. -/
  | packetForward (router : Fin 272) (out : Fin 12) (slot : Fin 64)
  /-- SLOT_FRAME_END (R218): A 64-slot frame ends, and FAB_BACKLOG counts it if an EVT or MSG packet still waits. -/
  | slotFrameEnd (router : Fin 272)
  /-- STARVATION (R217): A packet has waited FAB_STARVE frames, which sets PG_ERR.STARVE and records the port. -/
  | starvation (router : Fin 272)
  /-- FAB_SWAP (R215): A write of 1 to FAB_SWAP.SWAP requests a swap of the shadow slot tables at the next summit. -/
  | fabSwap (req : Requester) (page : Nat)
  /-- ROUTE_TABLE_WRITE (R226): A write to a route, gate, channel or chip route window is posted, or ignored when the buffer is full. -/
  | routeTableWrite (req : Requester) (page off : Nat) (v : W32)
  /-- RTE_ALLOC (R227): A read of RTE_ALLOC takes one entry index off the free list, or returns NONE. -/
  | rteAlloc (req : Requester) (region : Fin 8) (pick : Nat)
  /-- RTE_RELEASE (R227): A write to RTE_RELEASE posts the clear of an entry's VALID bit. -/
  | rteRelease (req : Requester) (region : Fin 8) (v : W32)
  /-- SPIKE_RECORD_TAKE (R222): The route engine takes a spike record into one of its four chains. -/
  | spikeRecordTake (region : Fin 8)
  /-- ROUTE_ENTRY_FOLLOW (R224): The engine reads a chain entry and makes an event, or skips the entry because of its gate, and packs it. -/
  | routeEntryFollow (region : Fin 8) (chain : Fin 4)
  /-- CHN_TX_GO (R245): A send engine sends a message on a channel, or refuses it and posts a completion. -/
  | chnTxGo (req : Requester) (engine : Fin 20) (v : W32)
  /-- PING (R252): The PING handler answers with the chip ID and STP_COUNT. -/
  | ping (node : Fin 8)
  /-- INJECT (R253): The INJECT handler places one event in a queue, or answers with a NACK. -/
  | inject (block : Fin 128)
  /-- READ_STATE (R252): The READ_STATE handler returns a neuron's state in force. -/
  | readState (block : Fin 128)
  /-- WRITE_STATE (R138): The WRITE_STATE handler posts a write of a neuron's V, U, A and F. -/
  | writeState (block : Fin 128)
  /-- SET_PROFILE (R252): The SET_PROFILE handler posts a write of half a profile, or refuses it. -/
  | setProfile (block : Fin 128)
  /-- OPEN_QUEUE (R254): The OPEN_QUEUE handler requests that a queue open at the next summit. -/
  | openQueue (block : Fin 128)
  /-- CLOSE_QUEUE (R254): The CLOSE_QUEUE handler requests that a queue close at the next summit. -/
  | closeQueue (block : Fin 128)
  /-- READ_ROW (R284): The READ_ROW handler brings a row up to date and returns up to five of its words. -/
  | readRow (block : Fin 128)
  /-- WRITE_ROW (R252): The WRITE_ROW handler posts row words, refusing KIND 3 synapses. -/
  | writeRow (block : Fin 128)
  /-- ROW_APPLY (R284): The ROW_APPLY handler brings a row up to date and writes it back. -/
  | rowApply (block : Fin 128)
  /-- ROUTE_INSERT (R252): The ROUTE_INSERT handler takes a free entry, posts its contents and returns its index. -/
  | routeInsert (region : Fin 8) (pick : Nat)
  /-- ROUTE_RELEASE (R252): The ROUTE_RELEASE handler posts the release of a route entry. -/
  | routeRelease (region : Fin 8)
  /-- GATE_SET (R252): The GATE_SET handler posts HOLD, FORCE and FORCE_SEL of a gate. -/
  | gateSet (region : Fin 8)
  /-- SOFTWARE_HANDLER (R255): A message to a software handler is placed in a Crest receive queue and answered DONE, or refused. -/
  | softwareHandler
  /-- ANSWER (R245): An answer arrives at the sender, which returns the credit, posts a completion or schedules a retry. -/
  | answer (node : Fin 8)
  /-- RETRY (R248): The backoff of a retried message runs out and the engine sends its copy again. -/
  | retry (engine : Fin 20)
  /-- MESSAGE_TIMEOUT (R246): A message without an answer for CHN_TIMEOUT_NS completes with TIMEOUT. -/
  | messageTimeout (engine : Fin 20)
  /-- CHN_CQ_POP (R258): A read of the low word of CHN_CQ_POP removes the oldest completion entry and loads its data. -/
  | chnCqPop (req : Requester) (engine : Fin 20)
  /-- CHN_RX_NEXT (R256): A write of 1 to CHN_RX_NEXT frees the oldest receive queue entry. -/
  | chnRxNext (req : Requester) (engine : Fin 20) (v : W32)
  /-- SWEEPER_ROW (R279): The sweeper reads a plastic row, brings it up to date or ages its PRE, and writes it back. -/
  | sweeperRow (region : Fin 8)
  /-- SWEEPER_PASS_DONE (R279): A sweeper pass ends, and a pass that was due begins. -/
  | sweeperPassDone (region : Fin 8)
  /-- CHECKPOINT_COMPLETE (R288): Every mapped cell has written its slot, so LRN_CKPT_LAST is updated and CKPT_DONE is set. -/
  | checkpointComplete
  /-- RULESET_WRITE (R269): A write to a rule parameter set is posted, or refused for ECLR 3 or a negative AMAX. -/
  | rulesetWrite (req : Requester) (off : Nat) (v : W32)
  /-- CKPT_BASE_WRITE (R289): A write to LRN_CKPT_BASE is taken, or refused when the buffers would not fit. -/
  | ckptBaseWrite (req : Requester) (v : W64)
  /-- NOP (R309): A Plateau job with opcode NOP runs and ends. -/
  | nop (plt : Fin 4)
  /-- GEMM (R310): A Plateau job computes O := A × B. -/
  | gemm (plt : Fin 4) (order : List Nat)
  /-- GEMM_ACC (R310): A Plateau job computes O := O + A × B. -/
  | gemmAcc (plt : Fin 4) (order : List Nat)
  /-- CONV1D (R309): A Plateau job computes a one-dimensional convolution. -/
  | conv1d (plt : Fin 4) (order : List Nat)
  /-- FFT (R310): A Plateau job computes M forward or inverse complex FFTs. -/
  | fft (plt : Fin 4)
  /-- ELT (R309): A Plateau job performs an element-wise operation. -/
  | elt (plt : Fin 4)
  /-- REDUCE (R309): A Plateau job reduces a tensor along one axis. -/
  | reduce (plt : Fin 4) (order : List Nat)
  /-- EXP_NORM (R309): A Plateau job computes a scaled softmax by rows. -/
  | expNorm (plt : Fin 4) (order : List Nat)
  /-- QUANT (R309): A Plateau job converts a tensor to FMT_O with its scale. -/
  | quant (plt : Fin 4)
  /-- DEQUANT (R309): A Plateau job converts a tensor to a float format. -/
  | dequant (plt : Fin 4)
  /-- SPK_GATHER (R316): A Plateau job gathers V, SPK or spike counts of listed neurons into a tensor. -/
  | spkGather (plt : Fin 4)
  /-- SPK_EMIT (R317): A Plateau job turns tensor elements into events by threshold, rate or delta. -/
  | spkEmit (plt : Fin 4)
  /-- SGD_UPDATE (R309): A Plateau job writes w := w − η × g. -/
  | sgdUpdate (plt : Fin 4)
  /-- SURROGATE (R310): A Plateau job computes a surrogate gradient. -/
  | surrogate (plt : Fin 4)
  /-- JOB_END (R305): A Plateau job ends with a status, a record is posted or lost, and the next job may start. -/
  | jobEnd (plt : Fin 4) (cycles : Nat)
  /-- PLT_DT_TAIL (R301): A write to PLT_DT_TAIL announces new detached descriptors. -/
  | pltDtTail (req : Requester) (plt : Fin 4) (v : W32)
  /-- DETACHED_PREEMPT (R303): At a preemption point the detached job is stopped for the step program, or ended by ABORT_DT. -/
  | detachedPreempt (plt : Fin 4)
  /-- ABORT_DT (R303): A write of 1 to PLT_CTRL.ABORT_DT requests the end of the detached job with ABORTED. -/
  | abortDt (req : Requester) (plt : Fin 4) (v : W32)
  /-- PLT_SIDE_ACCESS (R298): A requester reads or writes Plateau local SRAM in a cycle that the array leaves unused. -/
  | pltSideAccess (req : Requester) (plt : Fin 4) (op : TarnOp) (waited : Nat) (busy : Bool)
  /-- LINK_ENABLE (R330): Setting ING_LCFGk.EN starts training of a JESD link, or is refused for a bad configuration. -/
  | linkEnable (req : Requester) (link : Fin 4) (v : W32)
  /-- JESD_SYNC_LOCK (R330): Sync headers lock on every lane and the link enters SYNC. -/
  | jesdSyncLock (link : Fin 4)
  /-- JESD_EMB_LOCK (R330): Extended multiblocks lock on every lane and the link enters EMB_LOCK. -/
  | jesdEmbLock (link : Fin 4)
  /-- JESD_ALIGNED (R330): The link releases its elastic buffers after the RBD delay and enters ALIGNED. -/
  | jesdAligned (link : Fin 4) (jitter : Bool)
  /-- JESD_LINK_LOSS (R330): A lane loses sync header lock for 4 blocks, so the link returns to SYNC and its channels lose input. -/
  | jesdLinkLoss (link : Fin 4) (lane : Fin 8)
  /-- SYSREF_EDGE (R331): An accepted SYSREF edge latches the time, aligns LEMC and loads NCO phases. -/
  | sysrefEdge (off : Bool)
  /-- JESD_MULTIBLOCK (R333): A multiblock arrives, and on a CRC-12 failure its samples are marked invalid. -/
  | jesdMultiblock (link : Fin 4) (ok : Bool) (frames : List (List Nat))
  /-- CHANNEL_START (R342): A write of a MODE other than OFF starts an encoder channel, or is refused. -/
  | channelStart (req : Requester) (chan : Fin 64) (v : W32)
  /-- CHANNEL_STOP (R342): A write of MODE = OFF stops the channel at once and discards its unsent events. -/
  | channelStop (req : Requester) (chan : Fin 64) (v : W32)
  /-- ENC_POSTED_WRITE (R342): A write to a running channel's parameters is checked and posted for the next summit. -/
  | encPostedWrite (req : Requester) (chan : Fin 64) (off : Nat) (v : W64)
  /-- LEVEL (R339): A decimated sample in LEVEL mode emits UP and DOWN events at threshold crossings. -/
  | level (chan : Fin 64)
  /-- DELTA (R339): A decimated sample in DELTA mode emits a multiple of D on change. -/
  | delta (chan : Fin 64)
  /-- ZC (R339): A decimated sample in ZC mode emits zero crossings with hysteresis. -/
  | zc (chan : Fin 64)
  /-- PEAK (R339): A decimated sample in PEAK mode emits local peaks above THR with a hold-off. -/
  | peak (chan : Fin 64)
  /-- LATENCY (R339): A decimated sample in LATENCY mode emits the first crossing of THR in each step. -/
  | latency (chan : Fin 64)
  /-- BLOCK (R344): A decimated sample in BLOCK mode is written to the current sample block slot. -/
  | block (chan : Fin 64)
  /-- BLOCK_COMPLETE (R346): A block's writes have completed, so descriptors are copied to the array's detached ring or the block is dropped. -/
  | blockComplete (chan : Fin 64)
  /-- CSI2_FRAME_START (R349): A frame start packet sets the time anchor of its virtual channel. -/
  | csi2FrameStart (rx : Fin 4) (vc : Fin 16) (ecc : Fin 3)
  /-- CSI2_LONG_PACKET (R348): A long packet is decoded by its template into sensor events and time-high words. -/
  | csi2LongPacket (rx : Fin 4) (vc : Fin 16) (dt : Fin 64) (ecc : Fin 3) (crcOk : Bool) (payload : List Byte)
  /-- TEMPLATE_WRITE (R348): A template write is accepted or refused with PG_ERR.TPL. -/
  | templateWrite (req : Requester) (rx : Fin 4) (word : Fin 32) (v : W32)
  /-- AER_WORD (R350): An AER_REQ handshake delivers one word, which is buffered, dropped or held. -/
  | aerWord (port : Fin 2) (word : W32)
  /-- AER_ACK_RELEASE (R350): The buffer has room again, so a withheld AER_ACK rises. -/
  | aerAckRelease (port : Fin 2)
  /-- MAP_LOOKUP (R351): A sensor event is mapped through its pixel map entry into an event, or dropped. -/
  | mapLookup (src : Fin 6)
  /-- MAP_MISS_FILL (R353): A pixel map line read from DRAM after a miss returns and serves the waiting event. -/
  | mapMissFill (miss : Nat)
  /-- EVC_MAP_FLUSH (R353): A write of 1 to EVC_MAP_FLUSH.FLUSH requests a flush of the map cache. -/
  | evcMapFlush (req : Requester)
  /-- PORT_TRAINING_START (R365): A port with EN = 1 begins DETECT. -/
  | portTrainingStart (port : Fin 16)
  /-- DETECT_RETRY (R365): A port in DOWN with EN = 1 starts DETECT again every 1 ms. -/
  | detectRetry (port : Fin 16)
  /-- DETECT_DONE (R365): Signal and clock lock are reached and equalisation begins. -/
  | detectDone (port : Fin 16)
  /-- EQ_DONE (R365): Equalisation ends and the lane test begins. -/
  | eqDone (port : Fin 16)
  /-- LANE_TEST_DONE (R366): The PRBS31 lane test ends and the good lanes are known. -/
  | laneTestDone (port : Fin 16) (good : BitVec 5)
  /-- WIDTH_AGREED (R366): Both sides agree the width and HELLO frames are exchanged, or the port stays DOWN. -/
  | widthAgreed (port : Fin 16) (partner : BitVec 5)
  /-- LANE_FAIL (R369): A working lane fails and moves to the spare, or the port retrains narrower. -/
  | laneFail (port : Fin 16) (lane : Fin 5)
  /-- DEGRADE_WINDOW (R370): A 1 ms replay window ends and the port enters or leaves DEGRADED. -/
  | degradeWindow (port : Fin 16)
  /-- PORT_DOWN (R372): A port leaves every UP state and discards its buffered and chosen packets. -/
  | portDown (port : Fin 16)
  /-- LINK_FRAME (R377): A DATA or NULL link frame is received, checked, sequenced and unpacked, and its credits and ACK are taken. -/
  | linkFrame (port : Fin 16) (frame : LinkRx)
  /-- REPLAY_REQUEST_TIMEOUT (R377): A requested frame has not arrived after 1,000 ns, so RPL is sent again, with a retrain after eight requests. -/
  | replayRequestTimeout (port : Fin 16)
  /-- HELLO (R382): A HELLO frame is received and the partner registers are updated. -/
  | hello (port : Fin 16) (frame : LinkRx)
  /-- LATENCY_MEASURE (R381): Every 1 ms the port sends a LAT_PROBE frame. -/
  | latencyMeasure (port : Fin 16)
  /-- LAT_PROBE (R381): A LAT_PROBE frame is received and answered with LAT_ECHO. -/
  | latProbe (port : Fin 16) (frame : LinkRx)
  /-- LAT_ECHO (R381): A LAT_ECHO frame is received and TRV_LAT_NS is updated. -/
  | latEcho (port : Fin 16) (frame : LinkRx)
  /-- TRV_ASSIGN (R385): A write to TRV_ASSIGN with GO sends an ASSIGN frame on the port. -/
  | trvAssign (req : Requester) (port : Fin 16) (v : W32)
  /-- ASSIGN (R385): An ASSIGN frame is received, and the chip takes the ID if it is unassigned and enabled. -/
  | assign (port : Fin 16) (frame : LinkRx)
  /-- TRV_CHIP_ID (R384): A write to TRV_CHIP_ID takes effect while ALONE, or is ignored with ID_LOCKED. -/
  | trvChipId (req : Requester) (v : W32)
  /-- JOIN_REQUEST (R386): A write of 1 to TRV_JOIN.REQ sends JOIN_REQ, or is refused at once with NOT_READY. -/
  | joinRequest (req : Requester) (v : W32)
  /-- JOIN_REQ (R387): A partner receives a JOIN_REQ frame, checks it and forwards it to the root or refuses it. -/
  | joinReq (port : Fin 16) (frame : LinkRx)
  /-- SUMMIT_JOIN_REQ (R389): The root receives a forwarded join request and checks it for a grant at the next join boundary. -/
  | summitJoinReq (port : Fin 16)
  /-- JOIN_GRANT (R390): A JOIN_GRANT summit packet travels down, and at the release members mark the joiner PRESENT. -/
  | joinGrant (port : Fin 16)
  /-- SUMMIT_JOIN_REFUSE (R387): A refusal from the root travels to the partner of the joiner. -/
  | summitJoinRefuse (port : Fin 16)
  /-- JOIN_REFUSE (R387): The joiner receives a JOIN_REFUSE frame and returns to ALONE with the code. -/
  | joinRefuse (port : Fin 16) (frame : LinkRx)
  /-- JOIN_ACK (R390): The joiner receives the JOIN_ACK frame. -/
  | joinAck (port : Fin 16) (frame : LinkRx)
  /-- MTABLE (R391): An MTABLE frame is received, and after the last one the joiner applies STEP and EPOCH and becomes MEMBER. -/
  | mtable (port : Fin 16) (frame : LinkRx)
  /-- JOIN_TIMEOUT (R388): TRV_JOIN_TMO_MS runs out while REQUESTED and the joiner returns to ALONE. -/
  | joinTimeout
  /-- LEAVE_REQUEST (R396): A write of 1 to TRV_JOIN.LEAVE sends LEAVE, or cancels a pending join. -/
  | leaveRequest (req : Requester) (v : W32)
  /-- LEAVE (R396): A LEAVE frame from a child declares it absent, or from a parent orphans the member. -/
  | leave (port : Fin 16) (frame : LinkRx)
  /-- ABSENT_DECLARE (R394): A child's count reaches SUM_ABSENT_TICKS and the parent sends ABSENT towards the root. -/
  | absentDeclare (port : Fin 16)
  /-- ABSENT (R394): An ABSENT summit packet is carried down, and at the release members mark the subtree ABSENT. -/
  | absent (port : Fin 16)
  /-- ORPHAN (R397): A member without its parent for SUM_ABSENT_TICKS becomes the root of its own subtree. -/
  | orphan
  /-- PROBE (R400): A member receives a PROBE, forwards it and answers with TOKEN when quiescent. -/
  | probe (port : Fin 16)
  /-- TOKEN (R400): A parent receives a child's TOKEN with counts and member count. -/
  | token (port : Fin 16)
  /-- RELEASE (R400): A member receives RELEASE, performs the summit actions and forwards it. -/
  | release (port : Fin 16)
  /-- FREEZE_PACKET (R403): A FREEZE packet received on a port with FRZ_IN_EN freezes the chip, or is counted and dropped. -/
  | freezePacket (port : Fin 16)
  /-- RETRAIN (R367): A write of 1 to TRV_CFG.RETRAIN retrains the port with stored coefficients. -/
  | retrain (req : Requester) (port : Fin 16) (v : W32)
  /-- TRV_SWAP (R379): A write of 1 to TRV_SWAP.SWAP requests a swap of the slot plan. -/
  | trvSwap (req : Requester) (port : Fin 16)
  /-- REMOTE_ACCESS (R405): A core access to the remote window sends READ_REQ or WRITE, or is refused. -/
  | remoteAccess (req : Requester) (addr : Nat) (bytes : Nat) (data : Option (List Byte))
  /-- READ_REQ (R407): The target serves a remote read request from its DRAM and returns READ_RSP. -/
  | readReq (port : Fin 16)
  /-- WRITE (R407): The target serves a remote write and returns COMPLETION. -/
  | write (port : Fin 16)
  /-- READ_RSP (R408): A remote read reply arrives and completes or fails the access. -/
  | readRsp
  /-- COMPLETION (R408): A remote write completion arrives. -/
  | completion
  /-- REMOTE_TIMEOUT (R408): A remote access without reply for TRV_RMT_TIMEOUT_NS ends in error. -/
  | remoteTimeout
  /-- ETH_FRAME_RECEIVE (R421): A port receives a frame and checks MTU, VLAN and MACsec, then answers it or passes it on. -/
  | ethFrameReceive (port : Fin 4) (frame : List Byte)
  /-- ETH_LINK_CHANGE (R440): A port's link goes up or down and PG_INT.LINK_CHANGE is set. -/
  | ethLinkChange (port : Fin 4) (link : Fin 3) (speed : Fin 4)
  /-- UMHOMA_HELLO (R423): A HELLO without CLAIM or RELEASE returns the chip identity. -/
  | umhomaHello (port : Fin 4)
  /-- HELLO_CLAIM (R425): A HELLO with CLAIM makes the requester owner with a new SESSION, or is answered OWNED. -/
  | helloClaim (port : Fin 4)
  /-- HELLO_RELEASE (R426): A HELLO with RELEASE from the owner ends ownership. -/
  | helloRelease (port : Fin 4)
  /-- ATTEST (R642): An ATTEST request returns a report signed by both identity keys. -/
  | attest (port : Fin 4)
  /-- REG_READ (R428): RFG1 reads up to 256 register items for the owner. -/
  | regRead (port : Fin 4)
  /-- REG_WRITE (R428): RFG1 writes up to 256 register items in order, optionally ending with a fence. -/
  | regWrite (port : Fin 4)
  /-- BULK_READ (R432): A BULK engine reads memory and returns it in fragments, or BUSY. -/
  | bulkRead (port : Fin 4)
  /-- BULK_WRITE (R432): A BULK engine writes up to 8,192 bytes to memory. -/
  | bulkWrite (port : Fin 4)
  /-- EVENT_INJECT (R431): The port injects up to 512 events as an external source, or answers LATE. -/
  | eventInject (port : Fin 4)
  /-- NOTIFY (R435): RFG1 sends claimed host-context sources to the owner in a NOTIFY frame. -/
  | notify
  /-- NOTIFY_ACK (R435): The host echoes a NOTIFY REQ_ID and RFG1 completes its sources. -/
  | notifyAck (port : Fin 4)
  /-- NOTIFY_RESEND (R435): An unechoed NOTIFY is sent again after ETH_UMH_NOTIFY_MS. -/
  | notifyResend
  /-- OWNER_IDLE_TIMEOUT (R426): ETH_UMH_IDLE_MS passes without an owner request and ownership ends. -/
  | ownerIdleTimeout
  /-- DROP_OWNER (R426): A write of 1 to ETH_UMH_CTRL.DROP_OWNER ends ownership. -/
  | dropOwner (req : Requester) (v : W32)
  /-- STREAM_BUFFER_SEND (R432): A BUFFER engine sends its step's buffer after a summit, or skips it. -/
  | streamBufferSend (port : Fin 4) (engine : Fin 8)
  /-- ETH_SE_TAIL (R432): A write to ETH_SE_TAIL announces new ring entries to a RING engine. -/
  | ethSeTail (req : Requester) (port : Fin 4) (engine : Fin 8) (v : W32)
  /-- STREAM_RING_SEND (R432): A RING engine sends one entry stamped with STP_COUNT. -/
  | streamRingSend (port : Fin 4) (engine : Fin 8)
  /-- RAW_TX (R436): Software advances the raw transmit tail and the port sends the frame, with a timestamp if asked. -/
  | rawTx (req : Requester) (port : Fin 4) (v : W32)
  /-- ETH_TS_TX_ID (R420): A read of ETH_TS_TX_ID takes the oldest two-step capture and latches its time. -/
  | ethTsTxId (req : Requester) (port : Fin 4)
  /-- CORE_RUN (R448): A write of 1 to CRS_CTRL.RUN releases a Crest core at CRS_BOOT_ADDR. -/
  | coreRun (req : Requester) (core : Fin 16)
  /-- CORE_RESET (R448): A write of 1 to CRS_CTRL.RESET returns the core to RESET and discards its private caches. -/
  | coreReset (req : Requester) (core : Fin 16)
  /-- MACHINE_TIMER (R446): time reaches CRS_MTIMECMP and raises the machine timer interrupt. -/
  | machineTimer (core : Fin 16)
  /-- CREST_WDOG_EXPIRY (R449): The Crest watchdog period expires, and a second expiry acts as ACTION gives. -/
  | crestWdogExpiry (core : Fin 16)
  /-- CRS_WDOG_KICK (R449): A write to CRS_WDOG_KICK restarts the watchdog period. -/
  | crsWdogKick (req : Requester) (core : Fin 16)
  /-- L3_FLUSH (R468): A write of 1 to CRS_L3_FLUSH starts write-back and invalidation of the L3. -/
  | l3Flush (req : Requester)
  /-- L3_FLUSH_DONE (R468): The L3 flush ends. -/
  | l3FlushDone
  /-- HEARTBEAT_MISS (R457): RFG_HB_MS passes without a kick, which restarts the core or begins recovery on a third miss. -/
  | heartbeatMiss (core : Fin 4) (pc : W32)
  /-- RFG_RESTART (R457): A write of 1 to a bit of RFG_RESTART restarts that Refuge core. -/
  | rfgRestart (req : Requester) (v : W32) (pc : W32)
  /-- RESTART_COPY_DONE (R457): The core segment has been copied to private SRAM. -/
  | restartCopyDone (core : Fin 4)
  /-- RESTART_DIGEST_DONE (R457): Bedrock checks the segment digest and releases the core, or holds it and begins recovery. -/
  | restartDigestDone (core : Fin 4) (ok : Bool)
  /-- RFG_HB_KICK (R457): A heartbeat kick restarts the period and ends a restart in progress. -/
  | rfgHbKick (req : Requester) (core : Fin 4)
  /-- RESTART_TIMEOUT (R457): A restart not ended 25 ms after stage 1 counts as a further heartbeat miss. -/
  | restartTimeout (core : Fin 4) (pc : W32)
  /-- CRN_PUSH (R463): A write of an ID to CRN_PUSHk writes a Cairn entry when its mask bit is set. -/
  | crnPush (req : Requester) (core : Fin 4) (v : W32)
  /-- SOURCE_ASSERT (R475): An interrupt source asserts or rises and its PEND bit is set. -/
  | sourceAssert (src : Fin 4096)
  /-- MODERATION_EXPIRY (R486): A source's moderation interval runs out and it becomes eligible. -/
  | moderationExpiry (src : Fin 4096)
  /-- WFI_ENTRY (R487): A core enters wait-for-interrupt, which bypasses moderation of its context's sources. -/
  | wfiEntry (ctx : Fin 21)
  /-- PIC_CLAIM (R481): A read of PIC_CLAIMx returns the best eligible source and raises the running level. -/
  | picClaim (req : Requester) (ctx : Fin 21)
  /-- PIC_COMPLETE (R482): A write to PIC_COMPLETEx completes the latest claim and restores the running level. -/
  | picComplete (req : Requester) (ctx : Fin 21) (v : W32)
  /-- PIC_PEND_SET (R488): A write of 1 sets PEND of a source as an edge would. -/
  | picPendSet (req : Requester) (word : Fin 128) (v : W32)
  /-- PIC_PEND_CLR (R488): A write of 1 clears PEND of an EDGE or software-set source. -/
  | picPendClr (req : Requester) (word : Fin 128) (v : W32)
  /-- WAKE_LATCH_EDGE (R490): A rising edge at an armed latch while the controller clock is stopped sets the latch and may wake the device. -/
  | wakeLatchEdge (latch : Fin 64)
  /-- COL_SEND (R493): A write of 1 to COL_SEND sends the message, sets FULL and may wake the receiver. -/
  | colSend (req : Requester) (chan : Fin 64) (v : W32)
  /-- COL_LAST_WORD_READ (R494): A read of word COL_LEN − 1 clears FULL and acknowledges the sender. -/
  | colLastWordRead (req : Requester) (chan : Fin 64)
  /-- TIMER_WRAP (R502): A general timer reaches its load point, raises WRAP and loads TMR_PERIOD. -/
  | timerWrap (timer : Fin 32)
  /-- COMPARE_MATCH (R507): A compare channel matches, applies OUTACT and the auto-add, and raises its event. -/
  | compareMatch (timer : Fin 32) (channel : Fin 4)
  /-- TIMER_START (R506): A write of RUN from 0 to 1 resumes counting and restarts the prescaler. -/
  | timerStart (req : Requester) (timer : Fin 32)
  /-- TIMER_STOP (R506): A write of RUN = 0 holds the count. -/
  | timerStop (req : Requester) (timer : Fin 32)
  /-- LOAD_NOW (R505): A write of 1 to TMR_CTRL.LOAD_NOW loads TMR_PERIOD at once without WRAP. -/
  | loadNow (req : Requester) (timer : Fin 32)
  /-- TMR_PERIOD_WRITE (R504): A write to TMR_PERIOD takes effect at the next load. -/
  | tmrPeriodWrite (req : Requester) (timer : Fin 32) (v : W64)
  /-- TMR_GSTART (R513): A write to TMR_GSTART starts every selected timer on one cycle. -/
  | tmrGstart (req : Requester) (v : W32)
  /-- CAPTURE_EDGE (R515): A filtered, prescaled input edge captures the count or elapsed time into the buffers. -/
  | captureEdge (pin : Fin 16) (rising : Bool)
  /-- CAPTURE_READ (R516): A read of the low word of TMR_CAPk clears VALID and moves the second buffer forward. -/
  | captureRead (req : Requester) (timer : Fin 32) (channel : Fin 4)
  /-- CRC_INIT (R517): A write of CRC_CTRL.INIT sets reg := INIT. -/
  | crcInit (req : Requester) (crcUnit : Fin 8)
  /-- CRC_DATA8 (R518): A write to CRC_DATA8 feeds one byte. -/
  | crcData8 (req : Requester) (crcUnit : Fin 8) (v : W32)
  /-- CRC_DATA16 (R518): A write to CRC_DATA16 feeds two bytes. -/
  | crcData16 (req : Requester) (crcUnit : Fin 8) (v : W32)
  /-- CRC_DATA32 (R518): A write to CRC_DATA32 feeds four bytes. -/
  | crcData32 (req : Requester) (crcUnit : Fin 8) (v : W32)
  /-- SOFT_RESET (R533): A write of 1 to PG_CTRL.SOFT_RESET resets the unit as its chapter or R677 gives. -/
  | softReset (req : Requester) (page : Nat)
  /-- ERROR_INJECT (R535): A write of 1 to PG_ERR_SET sets the error bit and escalates it as injected. -/
  | errorInject (req : Requester) (page : Nat) (v : W32)
  /-- PG_INT_SET (R536): A write of 1 to PG_INT_SET sets the PG_INT bit. -/
  | pgIntSet (req : Requester) (page : Nat) (v : W32)
  /-- PG_LOCK (R540): A write of 1 to PG_LOCK.LOCK locks the page's RW fields. -/
  | pgLock (req : Requester) (page : Nat) (v : W32)
  /-- PG_SEC_WRITE (R538): A secure write to PG_SEC changes the page's security attribute or owner. -/
  | pgSecWrite (req : Requester) (page : Nat) (v : W32)
  /-- ERROR_RECORD_WRITE (R571): The ring writer writes a queued error record and sets PG_INT.RECORD. -/
  | errorRecordWrite
  /-- POWER_ON (R548): The release of POR_N starts the always-on domain and the cold path. -/
  | powerOn (src : Fin 4)
  /-- OTP_STAGE (R556): OTP is read and checked, repairs applied and PLLs locked. -/
  | otpStage (supplyOk : Bool) (unlocked : BitVec 6)
  /-- DRAM_TRAIN (R548): DRAM training ends. -/
  | dramTrain (ok : Bool)
  /-- DRAM_ROW_TEST (R559): The DRAM row test ends with failing rows remapped and DRAM zeroed. -/
  | dramRowTest (rows : List (Nat × Nat × Nat))
  /-- BOOT_LANE_TEST (R560): The Traverse lane loopback test ends and bad lanes are marked. -/
  | bootLaneTest (bad : List (Fin 16 × Fin 5))
  /-- IMAGE_FETCH (R551): An image from the boot directory has been copied to the staging area. -/
  | imageFetch (answers : Bool) (image : List Byte)
  /-- IMAGE_VERIFY (R554): Bedrock verifies the staged image and loads it, or fails it with a code. -/
  | imageVerify
  /-- CHP_BOOT_IMG (R553): In host boot, a write to CHP_BOOT_IMG starts VERIFY of the staged image. -/
  | chpBootImg (req : Requester) (v : W32)
  /-- KNOWN_ANSWER_RUN (R561): The known-answer run ends and failed engines are faulted or sites added to the site list. -/
  | knownAnswerRun (sites : List (Fin 2176)) (engines : List Nat)
  /-- READY (R562): The chip declares READY or DEGRADED. -/
  | ready
  /-- WARM_N (R546): WARM_N held low begins a warm reset, or restarts the warm path or a halted start. -/
  | warmN
  /-- CHP_RESET (R567): A write to CHP_RESET with KEY 0xB007 and WARM begins a warm reset. -/
  | chpReset (req : Requester) (v : W32)
  /-- WARM_PATH_DIGEST (R565): The image store digest is checked on the warm path, falling back to FETCH and VERIFY on a mismatch. -/
  | warmPathDigest
  /-- MIGRATION_COMPLETE (R577): The copy to the spare site ends, items resume, buffered traffic is placed and a record is written. -/
  | migrationComplete (block : Fin 128) (bad badTrace badPool : List Nat)
  /-- BLK_MIGRATE (R581): A write of BLK_MIGRATE with GO fences the named cell to test migration. -/
  | blkMigrate (req : Requester) (block : Fin 128) (v : W32)
  /-- BLK_RESTORE (R587): A write of 1 to BLK_CTRL.RESTORE loads each cell from its checkpoint slot, or is refused. -/
  | blkRestore (req : Requester) (block : Fin 128)
  /-- RESTORE_DONE (R587): The block restore ends and RESTORE_BUSY clears. -/
  | restoreDone (block : Fin 128)
  /-- FABRIC_PROGRESS_EXPIRY (R582): A head packet has not moved for FRZ_FPW_US and a FATAL FABRIC_WDOG is raised. -/
  | fabricProgressExpiry (page : Nat)
  /-- COLLECT_DONE (R584): The crash dump is written and the KILL stage begins. -/
  | collectDone
  /-- COLLECT_TIMEOUT (R585): COLLECT reaches 300 ms and ends with TIMEOUT set. -/
  | collectTimeout
  /-- KILL_DONE (R584): KILL ends and RETRAIN begins. -/
  | killDone (tj : Fin 2048)
  /-- RECOVERY_RETRAIN_DONE (R584): PLL relock, DRAM training and the beat read end, and RELOAD begins. -/
  | recoveryRetrainDone (fail : Fin 3)
  /-- RELOAD_DONE (R584): RELOAD ends and the chip reads READY_RECOVERED. -/
  | reloadDone
  /-- FREEZE_N_LOW (R591): FREEZE_N low for 20 ns with PIN_EN triggers a freeze. -/
  | freezeNLow
  /-- FREEZE (R591): A write of 1 to FRZ_CTRL.FREEZE triggers a freeze with cause SOFTWARE. -/
  | freeze (req : Requester)
  /-- FREEZE_STOPPED (R592): Every domain has stopped, so the state becomes FROZEN and the auto readout runs. -/
  | freezeStopped
  /-- RESUME (R596): A write of 1 to FRZ_RESUME.GO starts a resume, or is refused. -/
  | resume (req : Requester)
  /-- FREEZE_N_RISE (R596): A rising edge of FREEZE_N with PIN_RESUME starts a resume. -/
  | freezeNRise
  /-- RECOVER (R596): A write of 1 to FRZ_CTRL.RECOVER begins recovery from FROZEN. -/
  | recover (req : Requester)
  /-- RESUME_COMPLETE (R597): DRAM is active, every domain restarts together and the state becomes RUN. -/
  | resumeComplete
  /-- JTAG_ACCESS (R594): A JTAG access through the readout engine reads state, and a write sets WRITTEN. -/
  | jtagAccess (addr : Nat) (write : Option W32)
  /-- PWR_REQ_NAP (R603): A write of NAP to PWR_REQ starts entry to NAP, or is refused. -/
  | pwrReqNap (req : Requester)
  /-- PWR_REQ_SLEEP (R611): A write of SLEEP to PWR_REQ starts entry to SLEEP, or is refused. -/
  | pwrReqSleep (req : Requester)
  /-- PWR_REQ_RUN (R607): A write of RUN returns regions, DRAM and Tarn banks to service after a wake. -/
  | pwrReqRun (req : Requester)
  /-- ENTRY_COMPLETE (R604): The hand-over window ends and the device is in NAP or SLEEP. -/
  | entryComplete
  /-- WAKE (R607): A wake event starts RFG0 on the oscillator, or the shortened cold path from SLEEP. -/
  | wake (pins : Fin 16)
  /-- AON_TIMER_EXPIRY (R606): STP_ELAPSED_NS reaches PWR_WAKE_AT_NS. -/
  | aonTimerExpiry
  /-- ENERGY_DETECT (R606): Energy is detected on an Ethernet port. -/
  | energyDetect (port : Fin 4)
  /-- PLL_ENABLE (R627): A write to CLK_PLLn_CTRL enables or sets a PLL. -/
  | pllEnable (req : Requester) (pll : Fin 6) (v : W32)
  /-- PLL_LOCK (R627): A PLL achieves lock. -/
  | pllLock (pll : Fin 6)
  /-- PLL_UNLOCK (R616): A PLL loses lock and gates its domains. -/
  | pllUnlock (pll : Fin 6)
  /-- CLK_DSRC (R615): A write to CLK_DSRC switches the selected domain's clock, or is refused. -/
  | clkDsrc (req : Requester) (v : W32)
  /-- THROTTLE_RAISE (R617): Every 100 µs at or above 105 °C the throttle level rises. -/
  | throttleRaise (tj : Fin 2048)
  /-- THROTTLE_LOWER (R617): After 10 ms below 102 °C the throttle level falls. -/
  | throttleLower (tj : Fin 2048)
  /-- THERMAL_SHUTDOWN (R618): The junction reaches 115 °C and a FATAL THERMAL record is written. -/
  | thermalShutdown (tj : Fin 2048) (sensor : Fin 64)
  /-- SCREE_SAMPLE (R620): RFG3 samples the Scree monitors and updates the end-of-life estimate. -/
  | screeSample (ds : List Nat)
  /-- EPOCH_FUSE_BURN (R622): Powered time passes a multiple of 512 hours and the next epoch fuse is burned. -/
  | epochFuseBurn
  /-- LEDGER_EXPORT (R623): A write of 1 to SCR_LEDGER_CTRL.EXPORT writes the signed ledger to DRAM. -/
  | ledgerExport (req : Requester)
  /-- LEDGER_RESTORE (R624): A write of 1 to SCR_LEDGER_CTRL.RESTORE reads and checks a ledger. -/
  | ledgerRestore (req : Requester)
  /-- BROWN_OUT (R612): An always-on overload, a low VIN_AON or a fall of PG_MAIN resets the always-on domain. -/
  | brownOut
  /-- PG_MAIN_RISE (R661): PG_MAIN rises after a wake from SLEEP and the shortened cold path begins. -/
  | pgMainRise
  /-- PWR_VID_WRITE (R674): A write of TARGET to PWR_VID retargets the VID code, or is refused above 40. -/
  | pwrVidWrite (req : Requester) (v : W32)
  /-- VID_STEP (R674): Every 10 µs CODE moves one step towards TARGET. -/
  | vidStep
  /-- BDR_VERIFY (R633): A write of BDR_VER_CTRL with GO starts verification of an object. -/
  | bdrVerify (req : Requester) (v : W32)
  /-- VERIFY_DONE (R631): Both signatures are checked and BDR_VER_STAT reports the result. -/
  | verifyDone
  /-- SLOT (R640): The OTP SLOT command programs a key hash slot. -/
  | slot (req : Requester) (arg : Fin 256)
  /-- REVOKE (R640): The OTP REVOKE command revokes a slot unless it is the last FIRMWARE slot. -/
  | revoke (req : Requester) (arg : Fin 256)
  /-- ARB (R639): The OTP ARB command advances the anti-rollback counter. -/
  | arb (req : Requester) (arg : Fin 256)
  /-- CONFIG (R640): The OTP CONFIG command burns configuration bits. -/
  | config (req : Requester) (arg : Fin 256)
  /-- EPOCH (R640): The OTP EPOCH command burns the next epoch fuse when allowed. -/
  | epoch (req : Requester)
  /-- OTP_CMD_DONE (R640): An OTP command ends with its code after burning and verifying its bits. -/
  | otpCmdDone (good : Nat)
  /-- DRANGE_WRITE (R646): A write to a secure DRAM range register adds coverage, or starts clearing removed bytes. -/
  | drangeWrite (req : Requester) (range : Fin 8) (isLimit : Bool) (v : W64)
  /-- DRANGE_CLEAR_DONE (R646): The removed bytes have been zeroed and the range change takes effect. -/
  | drangeClearDone
  /-- NEW_CHALLENGE (R648): A write of DBG_CTRL.NEW_CHALLENGE fills the challenge from the TRNG. -/
  | newChallenge (req : Requester)
  /-- RELOCK (R649): A write of DBG_CTRL.RELOCK returns the debug level to locked. -/
  | relock (req : Requester)
  /-- DBG_TOKEN (R648): A debug token word is written, and the last word starts the token check. -/
  | dbgToken (req : Requester) (v : W32)
  /-- TOKEN_CHECK_DONE (R648): The token is checked and the debug level set, or it is refused with a code. -/
  | tokenCheckDone
  /-- TRNG_TEST_FAIL (R652): A health test fails, and three consecutive failures put the TRNG in FAILED. -/
  | trngTestFail (again : Bool)
  /-- BDR_TRNG_DATA (R652): A read of BDR_TRNG_DATA consumes one random word, or returns zero when none is held. -/
  | bdrTrngData (req : Requester) (got : Fin 65)
  /-- JESD_CDR_LOCK (R330): The lanes of an enabled JESD link achieve clock and data recovery lock, and the link passes from DOWN to CDR_LOCK. -/
  | jesdCdrLock (link : Fin 4)
  /-- CSI2_LOCK_CHANGE (R357): A CSI-2 receiver gains or loses lock on its D-PHY lanes, which changes EVC_STAT.LOCKED and may set PG_INT.LINK_ERR. -/
  | csi2LockChange (rx : Fin 4) (locked : Bool)
  /-- AER_REQ_FALL (R350): The sender drops AER_REQ, and the device lowers AER_ACK 1.5 ns to 2.5 ns later, which completes the four-phase handshake. -/
  | aerReqFall (port : Fin 2)
  /-- CREST_CACHE_ERROR (R442): A Crest access meets a parity or SECDED error in its instruction, data, L2 or L3 cache, which is corrected, refetched or poisoned and may raise an access fault with PG_ERR.CACHE_UE. -/
  | crestCacheError (core : Fin 17) (cache : CacheError) (line : Nat)
deriving DecidableEq, Repr

end Sys2Proof
end

