-- ==== Sys2Proof/Machine/RegTable.lean ====
section
/-! DEFINITION. The register table: every register of the spec at its page kind, with its type code, its writable bits and its reset value,
as the register tables of the chapters give them (R77, R79, R102, R141 … R656). One row may stand for several registers at equal strides. -/
namespace Sys2Proof.Machine

/-- Which word of a 64-bit register a row describes (R8, R527). -/
inductive Half where
  | single
  | low
  | high
deriving DecidableEq, Repr

/-- The access classes of the type codes of R10. `plain` covers RO and RW (the writable bits say which), `w1c`, `w1s`, `wo` and `rc` are the codes of those names. -/
inductive Access where
  | plain
  | w1c
  | w1s
  | wo
  | rc
deriving DecidableEq, Repr

/-- One row of a register table: `count` registers at `base`, `base + stride`, …; `mask` holds the bits that a write stores, sets or clears. -/
structure RegRow where
  base : Nat
  count : Nat
  stride : Nat
  access : Access
  mask : Nat
  reset : Nat
  half : Half := .single
  secure : Bool := false
deriving DecidableEq, Repr

/-- A register stands at `off` in this row. -/
def RegRow.covers (r : RegRow) (off : Nat) : Bool :=
  decide (r.base ≤ off) && decide (off < r.base + r.count * r.stride) && decide ((off - r.base) % r.stride = 0)

/-! Offsets of the registers by the spec's names. -/
abbrev Reg.STP_PERIOD : Nat := 0x40
abbrev Reg.STP_PERIOD_ACT : Nat := 0x44
abbrev Reg.STP_POLICY : Nat := 0x48
abbrev Reg.STP_DEFER_MAX : Nat := 0x4C
abbrev Reg.STP_TICK_SRC : Nat := 0x50
abbrev Reg.STP_TICK_LEAD : Nat := 0x54
abbrev Reg.STP_TICK_LAT_NS : Nat := 0x58
abbrev Reg.STP_COUNT : Nat := 0x60
abbrev Reg.STP_ELAPSED_NS : Nat := 0x68
abbrev Reg.STP_TICK_NS : Nat := 0x70
abbrev Reg.STP_SUMMIT_NS : Nat := 0x78
abbrev Reg.STP_LAST_LEN_NS : Nat := 0x80
abbrev Reg.STP_SLACK_MIN : Nat := 0x84
abbrev Reg.STP_SLACK_LAST : Nat := 0x88
abbrev Reg.STP_OVERRUNS : Nat := 0x8C
abbrev Reg.STP_STRETCH_NS : Nat := 0x90
abbrev Reg.STP_LATE_EVT : Nat := 0x98
abbrev Reg.STP_SHED_EVT : Nat := 0x9C
abbrev Reg.STP_TICK_MISS : Nat := 0xA0
abbrev Reg.STP_TICK_LATE : Nat := 0xA4
abbrev Reg.STP_STAT : Nat := 0xA8
abbrev Reg.STP_ELAPSED_WRAP : Nat := 0xAC
abbrev Reg.SUM_GROUP : Nat := 0x40
abbrev Reg.SUM_ABSENT_TICKS : Nat := 0x44
abbrev Reg.SUM_WDOG_TICKS : Nat := 0x48
abbrev Reg.SUM_STAT : Nat := 0x4C
abbrev Reg.SUM_PARENT_PORT : Nat := 0x50
abbrev Reg.SUM_CHILD_MASK : Nat := 0x54
abbrev Reg.SUM_LAST_STEP : Nat := 0x58
abbrev Reg.SUM_ABSENT_CNT : Nat := 0x60
abbrev Reg.SUM_DROP_ABSENT : Nat := 0x64
abbrev Reg.SUM_LAT_NS : Nat := 0x68
abbrev Reg.SUM_WDOG_CNT : Nat := 0x6C
abbrev Reg.SAT_CTRL : Nat := 0xFC0
abbrev Reg.SAT_WIN : Nat := 0xFC4
abbrev Reg.SAT_LIMIT : Nat := 0xFC8
abbrev Reg.SAT_FLAG : Nat := 0xFCC
abbrev Reg.SAT_CNTn : Nat := 0xFD0
abbrev Reg.SAT_TOTAL : Nat := 0xFF0
abbrev Reg.SAT_NAN : Nat := 0xFF4
abbrev Reg.SR_SEED : Nat := 0xFF8
abbrev Reg.CEL_MAP : Nat := 0x40
abbrev Reg.CEL_ACTIVE : Nat := 0x44
abbrev Reg.CEL_POOL : Nat := 0x48
abbrev Reg.CEL_STALL_NS : Nat := 0x4C
abbrev Reg.CEL_SPIKES : Nat := 0x50
abbrev Reg.CEL_EVENTS : Nat := 0x54
abbrev Reg.CEL_SYN : Nat := 0x58
abbrev Reg.CEL_DROP_FULL : Nat := 0x5C
abbrev Reg.CEL_DROP_CLOSED : Nat := 0x60
abbrev Reg.CEL_DROP_RESET : Nat := 0x64
abbrev Reg.CEL_DROP_ROW : Nat := 0x68
abbrev Reg.CEL_DROP_TGT : Nat := 0x6C
abbrev Reg.CEL_SNAP_SPIKES : Nat := 0x70
abbrev Reg.CEL_SNAP_ACTIVE : Nat := 0x74
abbrev Reg.CEL_SNAP_POOL : Nat := 0x78
abbrev Reg.CEL_QSEL : Nat := 0x80
abbrev Reg.CEL_QDESC0 : Nat := 0x84
abbrev Reg.CEL_QHELD : Nat := 0x94
abbrev Reg.CEL_NSEL : Nat := 0xA0
abbrev Reg.CEL_NDATA0 : Nat := 0xA4
abbrev Reg.CEL_NDATA1 : Nat := 0xA8
abbrev Reg.CEL_NDATA2 : Nat := 0xAC
abbrev Reg.CEL_ASEL : Nat := 0xB0
abbrev Reg.CEL_ADATA : Nat := 0xB4
abbrev Reg.CEL_PROF : Nat := 0x100
abbrev Reg.CEL_BITMAP : Nat := 0x900
abbrev Reg.DRM_WIN_NS : Nat := 0x40
abbrev Reg.DRM_DIE_STAT : Nat := 0x44
abbrev Reg.DRM_CE_THR : Nat := 0x48
abbrev Reg.DRM_SCRUB_S : Nat := 0x4C
abbrev Reg.DRM_REMAP_IDX : Nat := 0x50
abbrev Reg.DRM_REMAP_DATA : Nat := 0x54
abbrev Reg.DRM_REMAP_ADD : Nat := 0x58
abbrev Reg.DRM_ROW_BAD : Nat := 0x5C
abbrev Reg.DRM_ROW_BAD_ADDR : Nat := 0x60
abbrev Reg.DRM_SYN_BASE : Nat := 0x68
abbrev Reg.DRM_SYN_LIMIT : Nat := 0x70
abbrev Reg.DRM_SLICE_STAT : Nat := 0x40
abbrev Reg.DRM_TEMP : Nat := 0x44
abbrev Reg.DRM_BW_AVAIL : Nat := 0x48
abbrev Reg.DRM_UE : Nat := 0x4C
abbrev Reg.DRM_POISON_RD : Nat := 0x50
abbrev Reg.DRM_LAST_ERR_ADDR : Nat := 0x58
abbrev Reg.DRM_RES_SEL : Nat := 0x60
abbrev Reg.DRM_RES_RATE : Nat := 0x64
abbrev Reg.DRM_RES_WAITS : Nat := 0x68
abbrev Reg.DRM_RES_BYTES : Nat := 0x6C
abbrev Reg.DRM_WAIT_ANY : Nat := 0x70
abbrev Reg.DRM_PD_NS : Nat := 0x74
abbrev Reg.DRM_POST_HELD : Nat := 0x78
abbrev Reg.TAR_OWNER : Nat := 0x40
abbrev Reg.TAR_OWNER_ACK : Nat := 0x44
abbrev Reg.TAR_PWR : Nat := 0x48
abbrev Reg.TAR_STAT : Nat := 0x4C
abbrev Reg.TAR_CONFLICTS : Nat := 0x50
abbrev Reg.TAR_REFUSED : Nat := 0x54
abbrev Reg.TAR_SIDE : Nat := 0x58
abbrev Reg.TAR_ATOM_SAT : Nat := 0x5C
abbrev Reg.TAR_LAST_ERR_ADDR : Nat := 0x60
abbrev Reg.FAB_PHASE : Nat := 0x40
abbrev Reg.FAB_SWAP : Nat := 0x44
abbrev Reg.FAB_WAIT_MAX : Nat := 0x48
abbrev Reg.FAB_BACKLOG : Nat := 0x4C
abbrev Reg.FAB_RETRY : Nat := 0x50
abbrev Reg.FAB_DROP_HDR : Nat := 0x54
abbrev Reg.FAB_DROP_TYPE : Nat := 0x58
abbrev Reg.FAB_MNT_SLOTS : Nat := 0x5C
abbrev Reg.FAB_PKTS : Nat := 0x60
abbrev Reg.FAB_STARVE : Nat := 0x64
abbrev Reg.FAB_STARVE_PORT : Nat := 0x68
abbrev Reg.RTE_USED : Nat := 0x40
abbrev Reg.RTE_FREE : Nat := 0x44
abbrev Reg.RTE_ALLOC : Nat := 0x48
abbrev Reg.RTE_RELEASE : Nat := 0x4C
abbrev Reg.RTE_SPIKES : Nat := 0x50
abbrev Reg.RTE_EVENTS : Nat := 0x54
abbrev Reg.RTE_GATED : Nat := 0x58
abbrev Reg.RTE_CHAIN_ERR : Nat := 0x5C
abbrev Reg.RTE_POST_HELD : Nat := 0x60
abbrev Reg.CHN_TX_CHAN : Nat := 0x40
abbrev Reg.CHN_TX_ARG0 : Nat := 0x44
abbrev Reg.CHN_TX_GO : Nat := 0x58
abbrev Reg.CHN_TX_STAT : Nat := 0x5C
abbrev Reg.CHN_BACKOFF : Nat := 0x60
abbrev Reg.CHN_TIMEOUT_NS : Nat := 0x64
abbrev Reg.CHN_CQ_POP : Nat := 0x68
abbrev Reg.CHN_CQ_DATA0 : Nat := 0x70
abbrev Reg.CHN_CQ_COUNT : Nat := 0x84
abbrev Reg.CHN_SENT : Nat := 0x88
abbrev Reg.CHN_RETRIES : Nat := 0x8C
abbrev Reg.CHN_NACKED : Nat := 0x90
abbrev Reg.CHN_TX_REFUSED : Nat := 0x94
abbrev Reg.CHN_LATE_ANS : Nat := 0x98
abbrev Reg.CHN_RX_COUNT : Nat := 0xA0
abbrev Reg.CHN_HMASK0 : Nat := 0xA4
abbrev Reg.CHN_RX_FULL : Nat := 0xBC
abbrev Reg.CHN_RX_W0 : Nat := 0xC0
abbrev Reg.CHN_RX_NEXT : Nat := 0xE0
abbrev Reg.CEL_PRE_CTRL : Nat := 0xC0
abbrev Reg.CEL_MOD : Nat := 0xC4
abbrev Reg.CEL_MOD_CTRL : Nat := 0xC8
abbrev Reg.CEL_MODL0 : Nat := 0xCC
abbrev Reg.CEL_LRN_APPLY : Nat := 0xDC
abbrev Reg.CEL_LRN_WARM : Nat := 0xE0
abbrev Reg.CEL_LRN_STALE : Nat := 0xE4
abbrev Reg.CEL_LRN_WB : Nat := 0xE8
abbrev Reg.LRN_CTRL : Nat := 0x40
abbrev Reg.LRN_EPOCH_LEN : Nat := 0x44
abbrev Reg.LRN_EPOCH_POS : Nat := 0x48
abbrev Reg.LRN_AGE_STEPS : Nat := 0x4C
abbrev Reg.LRN_EPOCH : Nat := 0x50
abbrev Reg.LRN_STAT : Nat := 0x58
abbrev Reg.LRN_SWEEP_DONE : Nat := 0x5C
abbrev Reg.LRN_SWEEP_WAITS : Nat := 0x60
abbrev Reg.LRN_CKPT_EVERY : Nat := 0x64
abbrev Reg.LRN_CKPT_BASE : Nat := 0x68
abbrev Reg.LRN_CKPT_LAST : Nat := 0x70
abbrev Reg.LRN_CKPT_SKIP : Nat := 0x78
abbrev Reg.LRN_RULESET : Nat := 0x100
abbrev Reg.LRN_RSW_LIST : Nat := 0x40
abbrev Reg.LRN_RSW_COUNT : Nat := 0x48
abbrev Reg.LRN_RSW_STAT : Nat := 0x4C
abbrev Reg.LRN_RSW_PASS_STEPS : Nat := 0x50
abbrev Reg.LRN_RSW_PASSES : Nat := 0x54
abbrev Reg.LRN_RSW_ROWS : Nat := 0x58
abbrev Reg.LRN_RSW_AGED : Nat := 0x5C
abbrev Reg.LRN_RSW_STALE : Nat := 0x60
abbrev Reg.RGN_STAT : Nat := 0x40
abbrev Reg.RGN_UPD_MASK : Nat := 0x44
abbrev Reg.RGN_UPD_NS : Nat := 0x48
abbrev Reg.RGN_QUI_NS : Nat := 0x4C
abbrev Reg.RGN_SNAP_INJ : Nat := 0x50
abbrev Reg.RGN_SNAP_CONS : Nat := 0x54
abbrev Reg.PLT_CTRL : Nat := 0x40
abbrev Reg.PLT_STAT : Nat := 0x44
abbrev Reg.PLT_SB_BASE : Nat := 0x48
abbrev Reg.PLT_SB_COUNT : Nat := 0x4C
abbrev Reg.PLT_DT_BASE : Nat := 0x50
abbrev Reg.PLT_DT_SIZE : Nat := 0x54
abbrev Reg.PLT_DT_HEAD : Nat := 0x58
abbrev Reg.PLT_DT_TAIL : Nat := 0x5C
abbrev Reg.PLT_CQ_BASE : Nat := 0x60
abbrev Reg.PLT_CQ_SIZE : Nat := 0x64
abbrev Reg.PLT_CQ_HEAD : Nat := 0x68
abbrev Reg.PLT_CQ_TAIL : Nat := 0x6C
abbrev Reg.PLT_SB_DONE : Nat := 0x70
abbrev Reg.PLT_SB_SKIP : Nat := 0x74
abbrev Reg.PLT_DT_DONE : Nat := 0x78
abbrev Reg.PLT_JOB_ERR : Nat := 0x7C
abbrev Reg.PLT_CQ_LOST : Nat := 0x80
abbrev Reg.PLT_PREEMPT : Nat := 0x84
abbrev Reg.PLT_SB_LAST_NS : Nat := 0x88
abbrev Reg.PLT_SB_MAX_NS : Nat := 0x8C
abbrev Reg.PLT_BUSY_CYC : Nat := 0x90
abbrev Reg.PLT_EMIT_EVT : Nat := 0x94
abbrev Reg.PLT_FREQ_MHZ : Nat := 0x98
abbrev Reg.PLT_LAST_STATUS : Nat := 0x9C
abbrev Reg.ING_SYSREF_CTRL : Nat := 0x40
abbrev Reg.ING_SYSREF_NS : Nat := 0x48
abbrev Reg.ING_SYSREF_CNT : Nat := 0x50
abbrev Reg.ING_SYSREF_MIS : Nat := 0x54
abbrev Reg.ING_LCFGk : Nat := 0x80
abbrev Reg.ING_LRATEk : Nat := 0x84
abbrev Reg.ING_LSTATk : Nat := 0x88
abbrev Reg.ING_LAT_NSk : Nat := 0x8C
abbrev Reg.ING_RBDk : Nat := 0x90
abbrev Reg.ING_CRC_ERRk : Nat := 0x94
abbrev Reg.ING_LOSSk : Nat := 0x98
abbrev Reg.ENC_CFG : Nat := 0x40
abbrev Reg.ENC_SRC : Nat := 0x44
abbrev Reg.ENC_NCO_FTW : Nat := 0x48
abbrev Reg.ENC_NCO_PHASE : Nat := 0x4C
abbrev Reg.ENC_DEC_GAIN : Nat := 0x50
abbrev Reg.ENC_PARAM : Nat := 0x54
abbrev Reg.ENC_TOFF_NS : Nat := 0x58
abbrev Reg.ENC_GDLY_NS : Nat := 0x5C
abbrev Reg.ENC_UP : Nat := 0x60
abbrev Reg.ENC_DOWN : Nat := 0x68
abbrev Reg.ENC_THR0 : Nat := 0x70
abbrev Reg.ENC_STAT : Nat := 0x90
abbrev Reg.ENC_EVENTS : Nat := 0x94
abbrev Reg.ENC_DROP : Nat := 0x98
abbrev Reg.ENC_INVALID : Nat := 0x9C
abbrev Reg.ENC_BLK_CFG : Nat := 0xA0
abbrev Reg.ENC_BLK_BASE : Nat := 0xA4
abbrev Reg.ENC_BLK_TMPL : Nat := 0xA8
abbrev Reg.ENC_BLK_SEQ : Nat := 0xAC
abbrev Reg.ENC_BLK_DROP : Nat := 0xB0
abbrev Reg.ENC_RATE_KSPS : Nat := 0xB4
abbrev Reg.EVC_CTRL : Nat := 0x40
abbrev Reg.EVC_LRATE : Nat := 0x44
abbrev Reg.EVC_STAT : Nat := 0x48
abbrev Reg.EVC_TOFF_NS : Nat := 0x4C
abbrev Reg.EVC_EVENTS : Nat := 0x50
abbrev Reg.EVC_DROP_FULL : Nat := 0x54
abbrev Reg.EVC_DROP_RANGE : Nat := 0x58
abbrev Reg.EVC_ECC_ERR : Nat := 0x5C
abbrev Reg.EVC_CRC_ERR : Nat := 0x60
abbrev Reg.EVC_DT_OTHER : Nat := 0x64
abbrev Reg.EVC_MAP_FLUSH : Nat := 0x40
abbrev Reg.EVC_HITS : Nat := 0x44
abbrev Reg.EVC_MISSES : Nat := 0x48
abbrev Reg.EVC_MAP_NONE : Nat := 0x4C
abbrev Reg.AER_CTRL : Nat := 0x40
abbrev Reg.AER_FMT : Nat := 0x44
abbrev Reg.AER_TOFF_NS : Nat := 0x48
abbrev Reg.AER_EVENTS : Nat := 0x4C
abbrev Reg.AER_DROP : Nat := 0x50
abbrev Reg.AER_DROP_RANGE : Nat := 0x54
abbrev Reg.AER_FIFO : Nat := 0x58
abbrev Reg.TRV_CFG : Nat := 0x40
abbrev Reg.TRV_STAT : Nat := 0x44
abbrev Reg.TRV_PARTNER : Nat := 0x48
abbrev Reg.TRV_PARTNER_CAPS : Nat := 0x4C
abbrev Reg.TRV_PARTNER_GRP : Nat := 0x50
abbrev Reg.TRV_LAT_NS : Nat := 0x54
abbrev Reg.TRV_LTEST_US : Nat := 0x58
abbrev Reg.TRV_DEG_THR : Nat := 0x5C
abbrev Reg.TRV_FEC_CORR : Nat := 0x60
abbrev Reg.TRV_FEC_UNCORR : Nat := 0x64
abbrev Reg.TRV_REPLAYS : Nat := 0x68
abbrev Reg.TRV_RPL_STALL : Nat := 0x6C
abbrev Reg.TRV_RETRAINS : Nat := 0x70
abbrev Reg.TRV_LANE_FAIL : Nat := 0x74
abbrev Reg.TRV_DROP : Nat := 0x78
abbrev Reg.TRV_ASSIGN : Nat := 0x7C
abbrev Reg.TRV_SWAP : Nat := 0x80
abbrev Reg.TRV_LANE_SYM0 : Nat := 0x84
abbrev Reg.TRV_PARTNER_ID0 : Nat := 0xC0
abbrev Reg.TRV_CHIP_ID : Nat := 0x40
abbrev Reg.TRV_DEGRADE : Nat := 0x44
abbrev Reg.TRV_JOIN : Nat := 0x48
abbrev Reg.TRV_JOIN_STAT : Nat := 0x4C
abbrev Reg.TRV_GCFG : Nat := 0x50
abbrev Reg.TRV_RMT_TIMEOUT_NS : Nat := 0x54
abbrev Reg.TRV_RMT_ERR : Nat := 0x58
abbrev Reg.TRV_RMT_OUT : Nat := 0x5C
abbrev Reg.TRV_ROOT_ID : Nat := 0x60
abbrev Reg.TRV_MASTER_ID : Nat := 0x64
abbrev Reg.TRV_JOIN_TMO_MS : Nat := 0x68
abbrev Reg.ETH_CFG : Nat := 0x40
abbrev Reg.ETH_STAT : Nat := 0x44
abbrev Reg.ETH_MAC : Nat := 0x48
abbrev Reg.ETH_VLAN : Nat := 0x50
abbrev Reg.ETH_MTU : Nat := 0x54
abbrev Reg.ETH_IPV4 : Nat := 0x58
abbrev Reg.ETH_UDP_PORT : Nat := 0x5C
abbrev Reg.ETH_IPV6 : Nat := 0x60
abbrev Reg.ETH_RX_FRAMES : Nat := 0x70
abbrev Reg.ETH_TX_FRAMES : Nat := 0x74
abbrev Reg.ETH_RX_DROP : Nat := 0x78
abbrev Reg.ETH_FCS_ERR : Nat := 0x7C
abbrev Reg.ETH_MACSEC_DROP : Nat := 0x80
abbrev Reg.ETH_PTP_OFS : Nat := 0x88
abbrev Reg.ETH_TS_TX : Nat := 0x90
abbrev Reg.ETH_TS_TX_ID : Nat := 0x98
abbrev Reg.ETH_TS_LOST : Nat := 0x9C
abbrev Reg.ETH_MACSEC_CTRL : Nat := 0xA0
abbrev Reg.ETH_MACSEC_WIN : Nat := 0xA4
abbrev Reg.ETH_RAW_CFG : Nat := 0xC0
abbrev Reg.ETH_RAW_RX_BASE : Nat := 0xC8
abbrev Reg.ETH_RAW_TX_BASE : Nat := 0xD0
abbrev Reg.ETH_RAW_RX_PTR : Nat := 0xD8
abbrev Reg.ETH_RAW_TX_PTR : Nat := 0xDC
abbrev Reg.ETH_SE_CFG : Nat := 0x200
abbrev Reg.ETH_SE_BASE : Nat := 0x208
abbrev Reg.ETH_SE_LEN : Nat := 0x210
abbrev Reg.ETH_SE_FLOW : Nat := 0x214
abbrev Reg.ETH_SE_TAIL : Nat := 0x218
abbrev Reg.ETH_SE_HEAD : Nat := 0x21C
abbrev Reg.ETH_SE_SENT : Nat := 0x220
abbrev Reg.ETH_SE_SKIP : Nat := 0x224
abbrev Reg.ETH_SE_STAT : Nat := 0x228
abbrev Reg.ETH_UMH_CTRL : Nat := 0x40
abbrev Reg.ETH_UMH_OWNER : Nat := 0x44
abbrev Reg.ETH_UMH_OWNER_MAC : Nat := 0x48
abbrev Reg.ETH_UMH_IDLE_MS : Nat := 0x50
abbrev Reg.ETH_UMH_NOTIFY_MS : Nat := 0x54
abbrev Reg.ETH_UMH_REQS : Nat := 0x58
abbrev Reg.ETH_UMH_REFUSED : Nat := 0x5C
abbrev Reg.ETH_UMH_DUP : Nat := 0x60
abbrev Reg.CRS_CTRL : Nat := 0x40
abbrev Reg.CRS_STAT : Nat := 0x44
abbrev Reg.CRS_BOOT_ADDR : Nat := 0x48
abbrev Reg.CRS_MTIMECMP : Nat := 0x50
abbrev Reg.CRS_MSIP : Nat := 0x58
abbrev Reg.CRS_FREQ_MHZ : Nat := 0x5C
abbrev Reg.CRS_WDOG_US : Nat := 0x60
abbrev Reg.CRS_WDOG_CTRL : Nat := 0x64
abbrev Reg.CRS_WDOG_KICK : Nat := 0x68
abbrev Reg.CRS_WDOG_EXP : Nat := 0x6C
abbrev Reg.CRS_SEC : Nat := 0x70
abbrev Reg.RFG_RESTART : Nat := 0x40
abbrev Reg.RFG_FW_VERSION : Nat := 0x44
abbrev Reg.RFG_FW_SIZE : Nat := 0x48
abbrev Reg.RFG_FW_DIGEST0 : Nat := 0x80
abbrev Reg.RFG_STAT : Nat := 0x40
abbrev Reg.RFG_HB_MS : Nat := 0x44
abbrev Reg.RFG_HB_KICK : Nat := 0x48
abbrev Reg.RFG_HB_MISS : Nat := 0x4C
abbrev Reg.RFG_LAST_PC : Nat := 0x50
abbrev Reg.RFG_AUTO : Nat := 0x54
abbrev Reg.RFG_WIN : Nat := 0x58
abbrev Reg.COL_W0 : Nat := 0x100
abbrev Reg.COL_LEN : Nat := 0x140
abbrev Reg.COL_SEND : Nat := 0x144
abbrev Reg.COL_STAT : Nat := 0x148
abbrev Reg.COL_CFG : Nat := 0x14C
abbrev Reg.TMR_CTRL : Nat := 0x100
abbrev Reg.TMR_ACT : Nat := 0x104
abbrev Reg.TMR_FLAG : Nat := 0x108
abbrev Reg.TMR_FLAG_EN : Nat := 0x10C
abbrev Reg.TMR_COUNT : Nat := 0x110
abbrev Reg.TMR_PERIOD : Nat := 0x118
abbrev Reg.TMR_PERIOD_ACT : Nat := 0x120
abbrev Reg.TMR_CAPSTAT : Nat := 0x128
abbrev Reg.TMR_CAP_LOST : Nat := 0x12C
abbrev Reg.TMR_CCFGk : Nat := 0x140
abbrev Reg.TMR_CMPk : Nat := 0x148
abbrev Reg.TMR_ADDk : Nat := 0x150
abbrev Reg.TMR_CAPk : Nat := 0x158
abbrev Reg.TMR_GSTART : Nat := 0x40
abbrev Reg.TMR_IN_LEVEL : Nat := 0x44
abbrev Reg.TMR_OUT_SELp : Nat := 0x80
abbrev Reg.CRC_CFG : Nat := 0x100
abbrev Reg.CRC_CTRL : Nat := 0x104
abbrev Reg.CRC_POLY : Nat := 0x108
abbrev Reg.CRC_INIT : Nat := 0x110
abbrev Reg.CRC_XOROUT : Nat := 0x118
abbrev Reg.CRC_STATE : Nat := 0x120
abbrev Reg.CRC_RESULT : Nat := 0x128
abbrev Reg.CRC_DATA8 : Nat := 0x130
abbrev Reg.CRC_DATA16 : Nat := 0x134
abbrev Reg.CRC_DATA32 : Nat := 0x138
abbrev Reg.CRC_BYTES : Nat := 0x13C
abbrev Reg.PG_ID : Nat := 0x0
abbrev Reg.PG_REV : Nat := 0x4
abbrev Reg.PG_CAPS : Nat := 0x8
abbrev Reg.PG_CTRL : Nat := 0xC
abbrev Reg.PG_STAT : Nat := 0x10
abbrev Reg.PG_ERR : Nat := 0x14
abbrev Reg.PG_ERR_EN : Nat := 0x18
abbrev Reg.PG_ERR_SET : Nat := 0x1C
abbrev Reg.PG_INT : Nat := 0x20
abbrev Reg.PG_INT_EN : Nat := 0x24
abbrev Reg.PG_INT_SET : Nat := 0x28
abbrev Reg.PG_ERRCNT : Nat := 0x2C
abbrev Reg.PG_SEC : Nat := 0x30
abbrev Reg.PG_LOCK : Nat := 0x34
abbrev Reg.PG_SNAP : Nat := 0x38
abbrev Reg.PG_SCRATCH : Nat := 0x3C
abbrev Reg.CHP_CAPS : Nat := 0x40
abbrev Reg.CHP_ABSENT_ACC : Nat := 0x44
abbrev Reg.CHP_LOAD_ERR : Nat := 0x48
abbrev Reg.CHP_UNMAPPED : Nat := 0x4C
abbrev Reg.CHP_SEC_REFUSED : Nat := 0x50
abbrev Reg.CHP_LOCK_REFUSED : Nat := 0x54
abbrev Reg.CHP_FENCE : Nat := 0xC0
abbrev Reg.CHP_BOOT_STAT : Nat := 0x60
abbrev Reg.CHP_RESET_CAUSE : Nat := 0x64
abbrev Reg.CHP_BOOT_NS : Nat := 0x68
abbrev Reg.CHP_RESET : Nat := 0x6C
abbrev Reg.CHP_BOOT_IMG : Nat := 0x70
abbrev Reg.CHP_DEF_SUM : Nat := 0x74
abbrev Reg.CHP_DEF_SRAM : Nat := 0x78
abbrev Reg.CHP_DEF_PLT : Nat := 0x7C
abbrev Reg.CHP_DEF_SEL : Nat := 0x80
abbrev Reg.CHP_DEF_DATA : Nat := 0x84
abbrev Reg.CHP_LANE_BAD0 : Nat := 0x90
abbrev Reg.CHP_ERR_SEQ : Nat := 0xA0
abbrev Reg.CHP_ERR_LOST : Nat := 0xA4
abbrev Reg.CHP_ERR_CTRL : Nat := 0xA8
abbrev Reg.FRZ_CTRL : Nat := 0x40
abbrev Reg.FRZ_RESUME : Nat := 0x44
abbrev Reg.FRZ_STAT : Nat := 0x48
abbrev Reg.FRZ_ENTRY_NS : Nat := 0x50
abbrev Reg.FRZ_LAST_NS : Nat := 0x58
abbrev Reg.FRZ_COUNT : Nat := 0x60
abbrev Reg.FRZ_IGNORED : Nat := 0x64
abbrev Reg.FRZ_FPW_US : Nat := 0x68
abbrev Reg.FRZ_REC_CNT : Nat := 0x6C
abbrev Reg.FRZ_REC_CAUSE : Nat := 0x70
abbrev Reg.FRZ_REC_MS : Nat := 0x74
abbrev Reg.FRZ_DUMP_BASE : Nat := 0x78
abbrev Reg.FRZ_DUMP_STAT : Nat := 0x80
abbrev Reg.BLK_CTRL : Nat := 0x40
abbrev Reg.BLK_STAT : Nat := 0x44
abbrev Reg.BLK_REMAP0 : Nat := 0x48
abbrev Reg.BLK_MIGRATE : Nat := 0x58
abbrev Reg.BLK_MIG_CNT : Nat := 0x5C
abbrev Reg.BLK_MIG_DROP : Nat := 0x60
abbrev Reg.BLK_DROP_OFFLINE : Nat := 0x64
abbrev Reg.BLK_MIG_NS : Nat := 0x68
abbrev Reg.BLK_CELL_INT : Nat := 0x6C
abbrev Reg.BLK_SNAP_INJ : Nat := 0x40
abbrev Reg.BLK_SNAP_CONS : Nat := 0x44
abbrev Reg.BLK_SNAP_SPIKES : Nat := 0x48
abbrev Reg.BLK_SNAP_ACTIVE : Nat := 0x4C
abbrev Reg.BLK_INJ_CUR : Nat := 0x50
abbrev Reg.BLK_CONS_CUR : Nat := 0x54
abbrev Reg.PWR_REQ : Nat := 0x40
abbrev Reg.PWR_STAT : Nat := 0x44
abbrev Reg.PWR_WAKE_EN : Nat := 0x48
abbrev Reg.PWR_WAKE_CFG : Nat := 0x4C
abbrev Reg.PWR_WAKE_CAUSE : Nat := 0x50
abbrev Reg.PWR_WAKE_AT_NS : Nat := 0x58
abbrev Reg.PWR_TJ : Nat := 0x60
abbrev Reg.PWR_TJ_MAX : Nat := 0x64
abbrev Reg.PWR_THROT_US : Nat := 0x68
abbrev Reg.PWR_AON_LOAD : Nat := 0x6C
abbrev Reg.PWR_LAST_ENTRY_NS : Nat := 0x70
abbrev Reg.PWR_ENTRIES : Nat := 0x74
abbrev Reg.CLK_PLLn_CTRL : Nat := 0x40
abbrev Reg.CLK_PLLn_STAT : Nat := 0x44
abbrev Reg.CLK_DSEL : Nat := 0x80
abbrev Reg.CLK_DSRC : Nat := 0x84
abbrev Reg.SCR_STAT : Nat := 0x40
abbrev Reg.SCR_EOL_HOURS : Nat := 0x44
abbrev Reg.SCR_EOL_CONF : Nat := 0x48
abbrev Reg.SCR_EOL_SRC : Nat := 0x4C
abbrev Reg.SCR_POWERED_S : Nat := 0x50
abbrev Reg.SCR_FLOOR_H : Nat := 0x58
abbrev Reg.SCR_FUSES : Nat := 0x5C
abbrev Reg.SCR_HIST_H : Nat := 0x60
abbrev Reg.SCR_EOL_WARN_H : Nat := 0x64
abbrev Reg.SCR_LEDGER_ADDR : Nat := 0x68
abbrev Reg.SCR_LEDGER_CTRL : Nat := 0x70
abbrev Reg.SCR_LEDGER_STAT : Nat := 0x74
abbrev Reg.SCR_SAMPLE_S : Nat := 0x78
abbrev Reg.SCR_THCYC : Nat := 0x7C
abbrev Reg.BDR_CFG : Nat := 0x40
abbrev Reg.BDR_TRNG_STAT : Nat := 0x44
abbrev Reg.BDR_TRNG_DATA : Nat := 0x48
abbrev Reg.BDR_TRNG_FAILS : Nat := 0x4C
abbrev Reg.BDR_VER_ADDR : Nat := 0x50
abbrev Reg.BDR_VER_SIZE : Nat := 0x58
abbrev Reg.BDR_VER_CTRL : Nat := 0x60
abbrev Reg.BDR_VER_STAT : Nat := 0x64
abbrev Reg.BDR_DRANGE_STAT : Nat := 0x68
abbrev Reg.BDR_REFUSED : Nat := 0x6C
abbrev Reg.BDR_DRANGEi_BASE : Nat := 0x80
abbrev Reg.BDR_DRANGEi_LIMIT : Nat := 0x88
abbrev Reg.BDR_YUN_DIGEST0 : Nat := 0x100
abbrev Reg.OTP_CMD : Nat := 0x40
abbrev Reg.OTP_STAT : Nat := 0x44
abbrev Reg.OTP_SLOTS : Nat := 0x48
abbrev Reg.OTP_ARB : Nat := 0x4C
abbrev Reg.OTP_CONFIG : Nat := 0x50
abbrev Reg.OTP_EPOCH : Nat := 0x54
abbrev Reg.OTP_STAGE0 : Nat := 0x80
abbrev Reg.OTP_SLOTk_HASH : Nat := 0x100
abbrev Reg.DBG_CTRL : Nat := 0x40
abbrev Reg.DBG_STAT : Nat := 0x44
abbrev Reg.DBG_TOKEN : Nat := 0x48
abbrev Reg.DBG_TOKEN_LEN : Nat := 0x4C
abbrev Reg.DBG_CHALLENGE0 : Nat := 0x60
abbrev Reg.FAB_SHADOW : Nat := 0x400
abbrev Reg.FAB_TABLE : Nat := 0xA00
abbrev Reg.FAB_LOCAL_SHADOW : Nat := 0x200
abbrev Reg.FAB_LOCAL : Nat := 0x240
abbrev Reg.EVC_TPL : Nat := 0x100
abbrev Reg.EVC_MAPk_BASE : Nat := 0x80
abbrev Reg.EVC_MAPk_GEOM : Nat := 0x88
abbrev Reg.TRV_SHADOW : Nat := 0x400
abbrev Reg.TRV_PLAN : Nat := 0xA00
abbrev Reg.ETH_SA : Nat := 0x800
abbrev Reg.PWR_VID : Nat := 0x78
abbrev Reg.RTE_CHIP_NOROUTE : Nat := 0x40
abbrev Reg.RTE_CHIP_ALT : Nat := 0x44
abbrev Reg.RTE_CHIP_TRANSIT : Nat := 0x48
abbrev Reg.RTE_CHIP_POST_HELD : Nat := 0x4C
abbrev Reg.GAT_WRITES : Nat := 0x40
abbrev Reg.GAT_CHANGES : Nat := 0x44
abbrev Reg.GAT_DROP : Nat := 0x48
abbrev Reg.CHN_USED : Nat := 0x40
abbrev Reg.CHN_MSG_TAKEN : Nat := 0x44
abbrev Reg.CHN_NACK_SENT : Nat := 0x48
abbrev Reg.CHN_BADCHAN : Nat := 0x4C
abbrev Reg.CRS_CL_CAPS : Nat := 0x40
abbrev Reg.CRS_L3_FLUSH : Nat := 0x44
abbrev Reg.CRS_SNOOP_HITS : Nat := 0x48
abbrev Reg.CRS_L3_MISS : Nat := 0x4C
abbrev Reg.CRN_SEQ : Nat := 0x40
abbrev Reg.CRN_MASK0 : Nat := 0x80
abbrev Reg.CRN_ARGk_0 : Nat := 0x100
abbrev Reg.CRN_ARGk_1 : Nat := 0x104
abbrev Reg.CRN_ARGk_2 : Nat := 0x108
abbrev Reg.CRN_ARGk_3 : Nat := 0x10C
abbrev Reg.CRN_PUSHk : Nat := 0x110
abbrev Reg.PIC_SRC : Nat := 0x800
abbrev Reg.PIC_THRESHx : Nat := 0x100
abbrev Reg.PIC_CLAIMx : Nat := 0x104
abbrev Reg.PIC_COMPLETEx : Nat := 0x108
abbrev Reg.PIC_LEVELx : Nat := 0x10C
abbrev Reg.PIC_WAKE_SELn : Nat := 0x400
abbrev Reg.PIC_PEND : Nat := 0x100
abbrev Reg.PIC_PEND_SET : Nat := 0x400
abbrev Reg.PIC_PEND_CLR : Nat := 0x600

/-- Registers of the page kind `stp` (R77). -/
def regRowsStp : List RegRow :=
  [ { base := 0x40, count := 1, stride := 4, access := .plain, mask := 0xFFFFFFFF, reset := 0xF4240 },
    { base := 0x44, count := 1, stride := 4, access := .plain, mask := 0x0, reset := 0xF4240 },
    { base := 0x48, count := 1, stride := 4, access := .plain, mask := 0x3, reset := 0x0 },
    { base := 0x4C, count := 1, stride := 4, access := .plain, mask := 0x3, reset := 0x1 },
    { base := 0x50, count := 1, stride := 4, access := .plain, mask := 0x103, reset := 0x0 },
    { base := 0x54, count := 1, stride := 4, access := .plain, mask := 0xFFFFFFFF, reset := 0x7D0 },
    { base := 0x58, count := 1, stride := 4, access := .plain, mask := 0x0, reset := 0x0 },
    { base := 0x60, count := 1, stride := 4, access := .plain, mask := 0x0, reset := 0x0, half := .low },
    { base := 0x64, count := 1, stride := 4, access := .plain, mask := 0x0, reset := 0x0, half := .high },
    { base := 0x68, count := 1, stride := 4, access := .plain, mask := 0x0, reset := 0x0, half := .low },
    { base := 0x6C, count := 1, stride := 4, access := .plain, mask := 0x0, reset := 0x0, half := .high },
    { base := 0x70, count := 1, stride := 4, access := .plain, mask := 0x0, reset := 0x0, half := .low },
    { base := 0x74, count := 1, stride := 4, access := .plain, mask := 0x0, reset := 0x0, half := .high },
    { base := 0x78, count := 1, stride := 4, access := .plain, mask := 0x0, reset := 0x0, half := .low },
    { base := 0x7C, count := 1, stride := 4, access := .plain, mask := 0x0, reset := 0x0, half := .high },
    { base := 0x80, count := 1, stride := 4, access := .plain, mask := 0x0, reset := 0x0 },
    { base := 0x84, count := 1, stride := 4, access := .plain, mask := 0xFFFFFFFF, reset := 0xFFFFFFFF },
    { base := 0x88, count := 1, stride := 4, access := .plain, mask := 0x0, reset := 0x0 },
    { base := 0x8C, count := 1, stride := 4, access := .rc, mask := 0x0, reset := 0x0 },
    { base := 0x90, count := 1, stride := 4, access := .plain, mask := 0xFFFFFFFF, reset := 0x0, half := .low },
    { base := 0x94, count := 1, stride := 4, access := .plain, mask := 0xFFFFFFFF, reset := 0x0, half := .high },
    { base := 0x98, count := 1, stride := 4, access := .rc, mask := 0x0, reset := 0x0 },
    { base := 0x9C, count := 1, stride := 4, access := .rc, mask := 0x0, reset := 0x0 },
    { base := 0xA0, count := 1, stride := 4, access := .rc, mask := 0x0, reset := 0x0 } ] ++
  [ { base := 0xA4, count := 1, stride := 4, access := .rc, mask := 0x0, reset := 0x0 },
    { base := 0xA8, count := 1, stride := 4, access := .plain, mask := 0x0, reset := 0x0 },
    { base := 0xAC, count := 1, stride := 4, access := .w1c, mask := 0x1, reset := 0x0 } ]

/-- Registers of the page kind `sum` (R79). -/
def regRowsSum : List RegRow :=
  [ { base := 0x40, count := 1, stride := 4, access := .plain, mask := 0xFFFF, reset := 0x0 },
    { base := 0x44, count := 1, stride := 4, access := .plain, mask := 0xFF, reset := 0x4 },
    { base := 0x48, count := 1, stride := 4, access := .plain, mask := 0xFFFF, reset := 0x3E8 },
    { base := 0x4C, count := 1, stride := 4, access := .plain, mask := 0x0, reset := 0x10001 },
    { base := 0x50, count := 1, stride := 4, access := .plain, mask := 0x0, reset := 0x1F },
    { base := 0x54, count := 1, stride := 4, access := .plain, mask := 0x0, reset := 0x0 },
    { base := 0x58, count := 1, stride := 4, access := .plain, mask := 0x0, reset := 0x0, half := .low },
    { base := 0x5C, count := 1, stride := 4, access := .plain, mask := 0x0, reset := 0x0, half := .high },
    { base := 0x60, count := 1, stride := 4, access := .rc, mask := 0x0, reset := 0x0 },
    { base := 0x64, count := 1, stride := 4, access := .rc, mask := 0x0, reset := 0x0 },
    { base := 0x68, count := 1, stride := 4, access := .plain, mask := 0x0, reset := 0x0 },
    { base := 0x6C, count := 1, stride := 4, access := .plain, mask := 0x0, reset := 0x0 } ]

/-- Registers of the page kind `cel` (R102, R141, R291). -/
def regRowsCel : List RegRow :=
  [ { base := 0xFC0, count := 1, stride := 4, access := .plain, mask := 0x1FFFF, reset := 0x307F },
    { base := 0xFC4, count := 1, stride := 4, access := .plain, mask := 0xFFFF, reset := 0x3E8 },
    { base := 0xFC8, count := 1, stride := 4, access := .plain, mask := 0xFFFFFFFF, reset := 0x1000 },
    { base := 0xFCC, count := 1, stride := 4, access := .w1c, mask := 0xFF, reset := 0x0 },
    { base := 0xFD0, count := 8, stride := 4, access := .plain, mask := 0x0, reset := 0x0 },
    { base := 0xFF0, count := 1, stride := 4, access := .rc, mask := 0x0, reset := 0x0 },
    { base := 0xFF4, count := 1, stride := 4, access := .rc, mask := 0x0, reset := 0x0 },
    { base := 0xFF8, count := 1, stride := 4, access := .wo, mask := 0x0, reset := 0x0, half := .low },
    { base := 0xFFC, count := 1, stride := 4, access := .wo, mask := 0x0, reset := 0x0, half := .high },
    { base := 0x40, count := 1, stride := 4, access := .plain, mask := 0x0, reset := 0x0 },
    { base := 0x44, count := 1, stride := 4, access := .plain, mask := 0x0, reset := 0x0 },
    { base := 0x48, count := 1, stride := 4, access := .plain, mask := 0x0, reset := 0x0 },
    { base := 0x4C, count := 1, stride := 4, access := .plain, mask := 0xFFFF, reset := 0x1388 },
    { base := 0x50, count := 1, stride := 4, access := .rc, mask := 0x0, reset := 0x0 },
    { base := 0x54, count := 1, stride := 4, access := .rc, mask := 0x0, reset := 0x0 },
    { base := 0x58, count := 1, stride := 4, access := .rc, mask := 0x0, reset := 0x0 },
    { base := 0x5C, count := 1, stride := 4, access := .rc, mask := 0x0, reset := 0x0 },
    { base := 0x60, count := 1, stride := 4, access := .rc, mask := 0x0, reset := 0x0 },
    { base := 0x64, count := 1, stride := 4, access := .rc, mask := 0x0, reset := 0x0 },
    { base := 0x68, count := 1, stride := 4, access := .rc, mask := 0x0, reset := 0x0 },
    { base := 0x6C, count := 1, stride := 4, access := .rc, mask := 0x0, reset := 0x0 },
    { base := 0x70, count := 1, stride := 4, access := .plain, mask := 0x0, reset := 0x0 },
    { base := 0x74, count := 1, stride := 4, access := .plain, mask := 0x0, reset := 0x0 },
    { base := 0x78, count := 1, stride := 4, access := .plain, mask := 0x0, reset := 0x0 } ] ++
  [ { base := 0x80, count := 1, stride := 4, access := .plain, mask := 0x1FF, reset := 0x0 },
    { base := 0x84, count := 4, stride := 4, access := .plain, mask := 0xFFFFFFFF, reset := 0x0 },
    { base := 0x94, count := 1, stride := 4, access := .plain, mask := 0x0, reset := 0x0 },
    { base := 0xA0, count := 1, stride := 4, access := .plain, mask := 0x1FFF, reset := 0x0 },
    { base := 0xA4, count := 1, stride := 4, access := .plain, mask := 0xFFFFFFFF, reset := 0x0 },
    { base := 0xA8, count := 1, stride := 4, access := .plain, mask := 0xFFFFFFFF, reset := 0x0 },
    { base := 0xAC, count := 1, stride := 4, access := .plain, mask := 0x0, reset := 0x0 },
    { base := 0xB0, count := 1, stride := 4, access := .plain, mask := 0x1FFF, reset := 0x0 },
    { base := 0xB4, count := 1, stride := 4, access := .plain, mask := 0xFFFFFFFF, reset := 0x0 },
    { base := 0x100, count := 512, stride := 4, access := .plain, mask := 0xFFFFFFFF, reset := 0x0 },
    { base := 0x900, count := 256, stride := 4, access := .plain, mask := 0x0, reset := 0x0 },
    { base := 0xC0, count := 1, stride := 4, access := .plain, mask := 0xFFFF, reset := 0x0 },
    { base := 0xC4, count := 1, stride := 4, access := .plain, mask := 0xFFFF, reset := 0x0 },
    { base := 0xC8, count := 1, stride := 4, access := .plain, mask := 0x1, reset := 0x0 },
    { base := 0xCC, count := 4, stride := 4, access := .plain, mask := 0x0, reset := 0x0 },
    { base := 0xDC, count := 1, stride := 4, access := .rc, mask := 0x0, reset := 0x0 },
    { base := 0xE0, count := 1, stride := 4, access := .rc, mask := 0x0, reset := 0x0 },
    { base := 0xE4, count := 1, stride := 4, access := .rc, mask := 0x0, reset := 0x0 },
    { base := 0xE8, count := 1, stride := 4, access := .rc, mask := 0x0, reset := 0x0 } ]

/-- Registers of the page kind `rgn` (R102, R295). -/
def regRowsRgn : List RegRow :=
  [ { base := 0xFC0, count := 1, stride := 4, access := .plain, mask := 0x1FFFF, reset := 0x607 },
    { base := 0xFC4, count := 1, stride := 4, access := .plain, mask := 0xFFFF, reset := 0x3E8 },
    { base := 0xFC8, count := 1, stride := 4, access := .plain, mask := 0xFFFFFFFF, reset := 0x1000 },
    { base := 0xFCC, count := 1, stride := 4, access := .w1c, mask := 0xFF, reset := 0x0 },
    { base := 0xFD0, count := 8, stride := 4, access := .plain, mask := 0x0, reset := 0x0 },
    { base := 0xFF0, count := 1, stride := 4, access := .rc, mask := 0x0, reset := 0x0 },
    { base := 0xFF4, count := 1, stride := 4, access := .rc, mask := 0x0, reset := 0x0 },
    { base := 0xFF8, count := 1, stride := 4, access := .wo, mask := 0x0, reset := 0x0, half := .low },
    { base := 0xFFC, count := 1, stride := 4, access := .wo, mask := 0x0, reset := 0x0, half := .high },
    { base := 0x40, count := 1, stride := 4, access := .plain, mask := 0x0, reset := 0x0 },
    { base := 0x44, count := 1, stride := 4, access := .plain, mask := 0x0, reset := 0x0 },
    { base := 0x48, count := 1, stride := 4, access := .plain, mask := 0x0, reset := 0x0 },
    { base := 0x4C, count := 1, stride := 4, access := .plain, mask := 0x0, reset := 0x0 },
    { base := 0x50, count := 1, stride := 4, access := .plain, mask := 0x0, reset := 0x0 },
    { base := 0x54, count := 1, stride := 4, access := .plain, mask := 0x0, reset := 0x0 } ]

/-- Registers of the page kind `plt` (R102, R321). -/
def regRowsPlt : List RegRow :=
  [ { base := 0xFC0, count := 1, stride := 4, access := .plain, mask := 0x1FFFF, reset := 0x1F },
    { base := 0xFC4, count := 1, stride := 4, access := .plain, mask := 0xFFFF, reset := 0x3E8 },
    { base := 0xFC8, count := 1, stride := 4, access := .plain, mask := 0xFFFFFFFF, reset := 0x1000 },
    { base := 0xFCC, count := 1, stride := 4, access := .w1c, mask := 0xFF, reset := 0x0 },
    { base := 0xFD0, count := 8, stride := 4, access := .plain, mask := 0x0, reset := 0x0 },
    { base := 0xFF0, count := 1, stride := 4, access := .rc, mask := 0x0, reset := 0x0 },
    { base := 0xFF4, count := 1, stride := 4, access := .rc, mask := 0x0, reset := 0x0 },
    { base := 0xFF8, count := 1, stride := 4, access := .wo, mask := 0x0, reset := 0x0, half := .low },
    { base := 0xFFC, count := 1, stride := 4, access := .wo, mask := 0x0, reset := 0x0, half := .high },
    { base := 0x40, count := 1, stride := 4, access := .plain, mask := 0xF, reset := 0x0 },
    { base := 0x44, count := 1, stride := 4, access := .plain, mask := 0x0, reset := 0x0 },
    { base := 0x48, count := 1, stride := 4, access := .plain, mask := 0x3FFFFC0, reset := 0x0 },
    { base := 0x4C, count := 1, stride := 4, access := .plain, mask := 0x1FF, reset := 0x0 },
    { base := 0x50, count := 1, stride := 4, access := .plain, mask := 0x3FFFFC0, reset := 0x0 },
    { base := 0x54, count := 1, stride := 4, access := .plain, mask := 0xF, reset := 0x4 },
    { base := 0x58, count := 1, stride := 4, access := .plain, mask := 0x0, reset := 0x0 },
    { base := 0x5C, count := 1, stride := 4, access := .plain, mask := 0xFFF, reset := 0x0 },
    { base := 0x60, count := 1, stride := 4, access := .plain, mask := 0x3FFFFF0, reset := 0x0 },
    { base := 0x64, count := 1, stride := 4, access := .plain, mask := 0xF, reset := 0x4 },
    { base := 0x68, count := 1, stride := 4, access := .plain, mask := 0xFFF, reset := 0x0 },
    { base := 0x6C, count := 1, stride := 4, access := .plain, mask := 0x0, reset := 0x0 },
    { base := 0x70, count := 1, stride := 4, access := .rc, mask := 0x0, reset := 0x0 },
    { base := 0x74, count := 1, stride := 4, access := .rc, mask := 0x0, reset := 0x0 },
    { base := 0x78, count := 1, stride := 4, access := .rc, mask := 0x0, reset := 0x0 } ] ++
  [ { base := 0x7C, count := 1, stride := 4, access := .rc, mask := 0x0, reset := 0x0 },
    { base := 0x80, count := 1, stride := 4, access := .rc, mask := 0x0, reset := 0x0 },
    { base := 0x84, count := 1, stride := 4, access := .rc, mask := 0x0, reset := 0x0 },
    { base := 0x88, count := 1, stride := 4, access := .plain, mask := 0x0, reset := 0x0 },
    { base := 0x8C, count := 1, stride := 4, access := .plain, mask := 0xFFFFFFFF, reset := 0x0 },
    { base := 0x90, count := 1, stride := 4, access := .rc, mask := 0x0, reset := 0x0 },
    { base := 0x94, count := 1, stride := 4, access := .rc, mask := 0x0, reset := 0x0 },
    { base := 0x98, count := 1, stride := 4, access := .plain, mask := 0x0, reset := 0x640 },
    { base := 0x9C, count := 1, stride := 4, access := .plain, mask := 0x0, reset := 0x0 } ]

/-- Registers of the page kind `enc` (R102, R356). -/
def regRowsEnc : List RegRow :=
  [ { base := 0xFC0, count := 1, stride := 4, access := .plain, mask := 0x1FFFF, reset := 0x7 },
    { base := 0xFC4, count := 1, stride := 4, access := .plain, mask := 0xFFFF, reset := 0x3E8 },
    { base := 0xFC8, count := 1, stride := 4, access := .plain, mask := 0xFFFFFFFF, reset := 0x1000 },
    { base := 0xFCC, count := 1, stride := 4, access := .w1c, mask := 0xFF, reset := 0x0 },
    { base := 0xFD0, count := 8, stride := 4, access := .plain, mask := 0x0, reset := 0x0 },
    { base := 0xFF0, count := 1, stride := 4, access := .rc, mask := 0x0, reset := 0x0 },
    { base := 0xFF4, count := 1, stride := 4, access := .rc, mask := 0x0, reset := 0x0 },
    { base := 0xFF8, count := 1, stride := 4, access := .wo, mask := 0x0, reset := 0x0, half := .low },
    { base := 0xFFC, count := 1, stride := 4, access := .wo, mask := 0x0, reset := 0x0, half := .high },
    { base := 0x40, count := 1, stride := 4, access := .plain, mask := 0xEFFFC000, reset := 0x0 },
    { base := 0x44, count := 1, stride := 4, access := .plain, mask := 0x8000003F, reset := 0x0 },
    { base := 0x48, count := 1, stride := 4, access := .plain, mask := 0xFFFFFFFF, reset := 0x0 },
    { base := 0x4C, count := 1, stride := 4, access := .plain, mask := 0xFFFFFFFF, reset := 0x0 },
    { base := 0x50, count := 1, stride := 4, access := .plain, mask := 0xFFFF003F, reset := 0x10000 },
    { base := 0x54, count := 1, stride := 4, access := .plain, mask := 0xFFFFFFFF, reset := 0x0 },
    { base := 0x58, count := 1, stride := 4, access := .plain, mask := 0xFFFF, reset := 0x0 },
    { base := 0x5C, count := 1, stride := 4, access := .plain, mask := 0x0, reset := 0x0 },
    { base := 0x60, count := 1, stride := 4, access := .plain, mask := 0xFFFFFFFF, reset := 0x0, half := .low },
    { base := 0x64, count := 1, stride := 4, access := .plain, mask := 0xFFFFFFFF, reset := 0x0, half := .high },
    { base := 0x68, count := 1, stride := 4, access := .plain, mask := 0xFFFFFFFF, reset := 0x0, half := .low },
    { base := 0x6C, count := 1, stride := 4, access := .plain, mask := 0xFFFFFFFF, reset := 0x0, half := .high },
    { base := 0x70, count := 8, stride := 4, access := .plain, mask := 0xFFFFFFFF, reset := 0x0 },
    { base := 0x90, count := 1, stride := 4, access := .plain, mask := 0x0, reset := 0x0 },
    { base := 0x94, count := 1, stride := 4, access := .rc, mask := 0x0, reset := 0x0 } ] ++
  [ { base := 0x98, count := 1, stride := 4, access := .rc, mask := 0x0, reset := 0x0 },
    { base := 0x9C, count := 1, stride := 4, access := .rc, mask := 0x0, reset := 0x0 },
    { base := 0xA0, count := 1, stride := 4, access := .plain, mask := 0x1FFF, reset := 0x0 },
    { base := 0xA4, count := 1, stride := 4, access := .plain, mask := 0x3FFFFC0, reset := 0x0 },
    { base := 0xA8, count := 1, stride := 4, access := .plain, mask := 0x3FFFFC0, reset := 0x0 },
    { base := 0xAC, count := 1, stride := 4, access := .plain, mask := 0x0, reset := 0x0 },
    { base := 0xB0, count := 1, stride := 4, access := .rc, mask := 0x0, reset := 0x0 },
    { base := 0xB4, count := 1, stride := 4, access := .plain, mask := 0x0, reset := 0x0 } ]

/-- Registers of the page kind `drmDie` (R172). -/
def regRowsDrmDie : List RegRow :=
  [ { base := 0x40, count := 1, stride := 4, access := .plain, mask := 0xFFFF, reset := 0x2800 },
    { base := 0x44, count := 1, stride := 4, access := .plain, mask := 0x0, reset := 0x0 },
    { base := 0x48, count := 1, stride := 4, access := .plain, mask := 0xFF, reset := 0x4 },
    { base := 0x4C, count := 1, stride := 4, access := .plain, mask := 0xFFFFFFFF, reset := 0x15180 },
    { base := 0x50, count := 1, stride := 4, access := .plain, mask := 0xFFF, reset := 0x0 },
    { base := 0x54, count := 1, stride := 4, access := .plain, mask := 0x0, reset := 0x0 },
    { base := 0x58, count := 1, stride := 4, access := .wo, mask := 0x0, reset := 0x0 },
    { base := 0x5C, count := 1, stride := 4, access := .rc, mask := 0x0, reset := 0x0 },
    { base := 0x60, count := 1, stride := 4, access := .plain, mask := 0x0, reset := 0x0, half := .low },
    { base := 0x64, count := 1, stride := 4, access := .plain, mask := 0x0, reset := 0x0, half := .high },
    { base := 0x68, count := 1, stride := 4, access := .plain, mask := 0xFFFFFFFF, reset := 0x0, half := .low, secure := true },
    { base := 0x6C, count := 1, stride := 4, access := .plain, mask := 0xF, reset := 0x0, half := .high, secure := true },
    { base := 0x70, count := 1, stride := 4, access := .plain, mask := 0xFFFFFFFF, reset := 0x0, half := .low, secure := true },
    { base := 0x74, count := 1, stride := 4, access := .plain, mask := 0xF, reset := 0x0, half := .high, secure := true } ]

/-- Registers of the page kind `drmSlice` (R173). -/
def regRowsDrmSlice : List RegRow :=
  [ { base := 0x40, count := 1, stride := 4, access := .plain, mask := 0x0, reset := 0x0 },
    { base := 0x44, count := 1, stride := 4, access := .plain, mask := 0x0, reset := 0x0 },
    { base := 0x48, count := 1, stride := 4, access := .plain, mask := 0x0, reset := 0xFA00 },
    { base := 0x4C, count := 1, stride := 4, access := .rc, mask := 0x0, reset := 0x0 },
    { base := 0x50, count := 1, stride := 4, access := .rc, mask := 0x0, reset := 0x0 },
    { base := 0x58, count := 1, stride := 4, access := .plain, mask := 0x0, reset := 0x0, half := .low },
    { base := 0x5C, count := 1, stride := 4, access := .plain, mask := 0x0, reset := 0x0, half := .high },
    { base := 0x60, count := 1, stride := 4, access := .plain, mask := 0xFFF, reset := 0x0 },
    { base := 0x64, count := 1, stride := 4, access := .plain, mask := 0x0, reset := 0x0 },
    { base := 0x68, count := 1, stride := 4, access := .rc, mask := 0x0, reset := 0x0 },
    { base := 0x6C, count := 1, stride := 4, access := .rc, mask := 0x0, reset := 0x0 },
    { base := 0x70, count := 1, stride := 4, access := .rc, mask := 0x0, reset := 0x0 },
    { base := 0x74, count := 1, stride := 4, access := .plain, mask := 0xFFFF, reset := 0xC8 },
    { base := 0x78, count := 1, stride := 4, access := .plain, mask := 0x0, reset := 0x0 } ]

/-- Registers of the page kind `tar` (R195). -/
def regRowsTar : List RegRow :=
  [ { base := 0x40, count := 1, stride := 4, access := .plain, mask := 0xC000000F, reset := 0x0 },
    { base := 0x44, count := 1, stride := 4, access := .plain, mask := 0x0, reset := 0x0 },
    { base := 0x48, count := 1, stride := 4, access := .plain, mask := 0x3, reset := 0x0 },
    { base := 0x4C, count := 1, stride := 4, access := .plain, mask := 0x0, reset := 0x0 },
    { base := 0x50, count := 1, stride := 4, access := .rc, mask := 0x0, reset := 0x0 },
    { base := 0x54, count := 1, stride := 4, access := .rc, mask := 0x0, reset := 0x0 },
    { base := 0x58, count := 1, stride := 4, access := .plain, mask := 0x3, reset := 0x0 },
    { base := 0x5C, count := 1, stride := 4, access := .rc, mask := 0x0, reset := 0x0 },
    { base := 0x60, count := 1, stride := 4, access := .plain, mask := 0x0, reset := 0x0 } ]

/-- Registers of the page kind `fabNode` (R235). -/
def regRowsFabNode : List RegRow :=
  [ { base := 0x40, count := 1, stride := 4, access := .plain, mask := 0x3F, reset := 0x0 },
    { base := 0x44, count := 1, stride := 4, access := .w1s, mask := 0x1, reset := 0x0 },
    { base := 0x48, count := 1, stride := 4, access := .rc, mask := 0x0, reset := 0x0 },
    { base := 0x4C, count := 1, stride := 4, access := .rc, mask := 0x0, reset := 0x0 },
    { base := 0x50, count := 1, stride := 4, access := .rc, mask := 0x0, reset := 0x0 },
    { base := 0x54, count := 1, stride := 4, access := .rc, mask := 0x0, reset := 0x0 },
    { base := 0x58, count := 1, stride := 4, access := .rc, mask := 0x0, reset := 0x0 },
    { base := 0x5C, count := 1, stride := 4, access := .rc, mask := 0x0, reset := 0x0 },
    { base := 0x60, count := 1, stride := 4, access := .rc, mask := 0x0, reset := 0x0 },
    { base := 0x64, count := 1, stride := 4, access := .plain, mask := 0xFFFF, reset := 0x400 },
    { base := 0x68, count := 1, stride := 4, access := .plain, mask := 0x0, reset := 0x0 },
    { base := 0x400, count := 384, stride := 4, access := .plain, mask := 0xFE00FE00, reset := 0x0 },
    { base := 0xA00, count := 384, stride := 4, access := .plain, mask := 0x0, reset := 0x0 },
    { base := 0x200, count := 16, stride := 4, access := .plain, mask := 0x87878787, reset := 0x0 },
    { base := 0x240, count := 16, stride := 4, access := .plain, mask := 0x0, reset := 0x0 } ]

/-- Registers of the page kind `fabBlock` (R235). -/
def regRowsFabBlock : List RegRow :=
  [ { base := 0x40, count := 1, stride := 4, access := .plain, mask := 0x3F, reset := 0x0 },
    { base := 0x44, count := 1, stride := 4, access := .w1s, mask := 0x1, reset := 0x0 },
    { base := 0x48, count := 1, stride := 4, access := .rc, mask := 0x0, reset := 0x0 },
    { base := 0x4C, count := 1, stride := 4, access := .rc, mask := 0x0, reset := 0x0 },
    { base := 0x50, count := 1, stride := 4, access := .rc, mask := 0x0, reset := 0x0 },
    { base := 0x54, count := 1, stride := 4, access := .rc, mask := 0x0, reset := 0x0 },
    { base := 0x58, count := 1, stride := 4, access := .rc, mask := 0x0, reset := 0x0 },
    { base := 0x5C, count := 1, stride := 4, access := .rc, mask := 0x0, reset := 0x0 },
    { base := 0x60, count := 1, stride := 4, access := .rc, mask := 0x0, reset := 0x0 },
    { base := 0x64, count := 1, stride := 4, access := .plain, mask := 0xFFFF, reset := 0x400 },
    { base := 0x68, count := 1, stride := 4, access := .plain, mask := 0x0, reset := 0x0 },
    { base := 0x400, count := 384, stride := 4, access := .plain, mask := 0xFE00FE00, reset := 0x0 },
    { base := 0xA00, count := 384, stride := 4, access := .plain, mask := 0x0, reset := 0x0 } ]

/-- Registers of the page kind `rteRegion` (R236). -/
def regRowsRteRegion : List RegRow :=
  [ { base := 0x40, count := 1, stride := 4, access := .plain, mask := 0x0, reset := 0x0 },
    { base := 0x44, count := 1, stride := 4, access := .plain, mask := 0x0, reset := 0x0 },
    { base := 0x48, count := 1, stride := 4, access := .rc, mask := 0x0, reset := 0x0 },
    { base := 0x4C, count := 1, stride := 4, access := .wo, mask := 0x0, reset := 0x0 },
    { base := 0x50, count := 1, stride := 4, access := .rc, mask := 0x0, reset := 0x0 },
    { base := 0x54, count := 1, stride := 4, access := .rc, mask := 0x0, reset := 0x0 },
    { base := 0x58, count := 1, stride := 4, access := .rc, mask := 0x0, reset := 0x0 },
    { base := 0x5C, count := 1, stride := 4, access := .rc, mask := 0x0, reset := 0x0 },
    { base := 0x60, count := 1, stride := 4, access := .plain, mask := 0x0, reset := 0x0 } ]

/-- Registers of the page kind `chnEngine` (R257). -/
def regRowsChnEngine : List RegRow :=
  [ { base := 0x40, count := 1, stride := 4, access := .plain, mask := 0xFFF07FFF, reset := 0x0 },
    { base := 0x44, count := 5, stride := 4, access := .plain, mask := 0xFFFFFFFF, reset := 0x0 },
    { base := 0x58, count := 1, stride := 4, access := .wo, mask := 0x0, reset := 0x0 },
    { base := 0x5C, count := 1, stride := 4, access := .plain, mask := 0x0, reset := 0x400000 },
    { base := 0x60, count := 1, stride := 4, access := .plain, mask := 0xFFF, reset := 0xA10 },
    { base := 0x64, count := 1, stride := 4, access := .plain, mask := 0xFFFFFFFF, reset := 0x186A0 },
    { base := 0x68, count := 1, stride := 4, access := .plain, mask := 0x0, reset := 0x0, half := .low },
    { base := 0x6C, count := 1, stride := 4, access := .plain, mask := 0x0, reset := 0x0, half := .high },
    { base := 0x70, count := 5, stride := 4, access := .plain, mask := 0x0, reset := 0x0 },
    { base := 0x84, count := 1, stride := 4, access := .plain, mask := 0x0, reset := 0x0 },
    { base := 0x88, count := 1, stride := 4, access := .rc, mask := 0x0, reset := 0x0 },
    { base := 0x8C, count := 1, stride := 4, access := .rc, mask := 0x0, reset := 0x0 },
    { base := 0x90, count := 1, stride := 4, access := .rc, mask := 0x0, reset := 0x0 },
    { base := 0x94, count := 1, stride := 4, access := .rc, mask := 0x0, reset := 0x0 },
    { base := 0x98, count := 1, stride := 4, access := .rc, mask := 0x0, reset := 0x0 },
    { base := 0xA0, count := 1, stride := 4, access := .plain, mask := 0x0, reset := 0x0 },
    { base := 0xA4, count := 6, stride := 4, access := .plain, mask := 0xFFFFFFFF, reset := 0x0 },
    { base := 0xBC, count := 1, stride := 4, access := .rc, mask := 0x0, reset := 0x0 },
    { base := 0xC0, count := 8, stride := 4, access := .plain, mask := 0x0, reset := 0x0 },
    { base := 0xE0, count := 1, stride := 4, access := .wo, mask := 0x0, reset := 0x0 } ]

/-- Registers of the page kind `lrnChip` (R292). -/
def regRowsLrnChip : List RegRow :=
  [ { base := 0x40, count := 1, stride := 4, access := .plain, mask := 0x7, reset := 0x0 },
    { base := 0x44, count := 1, stride := 4, access := .plain, mask := 0xFFFF, reset := 0x3E8 },
    { base := 0x48, count := 1, stride := 4, access := .plain, mask := 0x0, reset := 0x0 },
    { base := 0x4C, count := 1, stride := 4, access := .plain, mask := 0x7F, reset := 0x20 },
    { base := 0x50, count := 1, stride := 4, access := .plain, mask := 0x0, reset := 0x0, half := .low },
    { base := 0x54, count := 1, stride := 4, access := .plain, mask := 0x0, reset := 0x0, half := .high },
    { base := 0x58, count := 1, stride := 4, access := .plain, mask := 0x0, reset := 0x0 },
    { base := 0x5C, count := 1, stride := 4, access := .plain, mask := 0x0, reset := 0x800000FF },
    { base := 0x60, count := 1, stride := 4, access := .rc, mask := 0x0, reset := 0x0 },
    { base := 0x64, count := 1, stride := 4, access := .plain, mask := 0xFF, reset := 0x1 },
    { base := 0x68, count := 1, stride := 4, access := .plain, mask := 0xFFF00000, reset := 0x0, half := .low, secure := true },
    { base := 0x6C, count := 1, stride := 4, access := .plain, mask := 0xF, reset := 0x0, half := .high, secure := true },
    { base := 0x70, count := 1, stride := 4, access := .plain, mask := 0x0, reset := 0x0, half := .low },
    { base := 0x74, count := 1, stride := 4, access := .plain, mask := 0x0, reset := 0x0, half := .high },
    { base := 0x78, count := 1, stride := 4, access := .rc, mask := 0x0, reset := 0x0 },
    { base := 0x100, count := 64, stride := 4, access := .plain, mask := 0xFFFFFFFF, reset := 0x0 } ]

/-- Registers of the page kind `lrnRegion` (R293). -/
def regRowsLrnRegion : List RegRow :=
  [ { base := 0x40, count := 1, stride := 4, access := .plain, mask := 0xFFFFFFFC, reset := 0x0, half := .low, secure := true },
    { base := 0x44, count := 1, stride := 4, access := .plain, mask := 0xF, reset := 0x0, half := .high, secure := true },
    { base := 0x48, count := 1, stride := 4, access := .plain, mask := 0x3FFFF, reset := 0x0 },
    { base := 0x4C, count := 1, stride := 4, access := .plain, mask := 0x0, reset := 0x0 },
    { base := 0x50, count := 1, stride := 4, access := .plain, mask := 0x0, reset := 0x0 },
    { base := 0x54, count := 1, stride := 4, access := .rc, mask := 0x0, reset := 0x0 },
    { base := 0x58, count := 1, stride := 4, access := .rc, mask := 0x0, reset := 0x0 },
    { base := 0x5C, count := 1, stride := 4, access := .rc, mask := 0x0, reset := 0x0 },
    { base := 0x60, count := 1, stride := 4, access := .rc, mask := 0x0, reset := 0x0 } ]

/-- Registers of the page kind `ing` (R355). -/
def regRowsIng : List RegRow :=
  [ { base := 0x40, count := 1, stride := 4, access := .plain, mask := 0x3, reset := 0x0 },
    { base := 0x48, count := 1, stride := 4, access := .plain, mask := 0x0, reset := 0x0, half := .low },
    { base := 0x4C, count := 1, stride := 4, access := .plain, mask := 0x0, reset := 0x0, half := .high },
    { base := 0x50, count := 1, stride := 4, access := .rc, mask := 0x0, reset := 0x0 },
    { base := 0x54, count := 1, stride := 4, access := .rc, mask := 0x0, reset := 0x0 },
    { base := 0x80, count := 4, stride := 32, access := .plain, mask := 0xFFFFFFC3, reset := 0x0 },
    { base := 0x84, count := 4, stride := 32, access := .plain, mask := 0xFFFF, reset := 0x0 },
    { base := 0x88, count := 4, stride := 32, access := .plain, mask := 0x0, reset := 0x0 },
    { base := 0x8C, count := 4, stride := 32, access := .plain, mask := 0x0, reset := 0x0 },
    { base := 0x90, count := 4, stride := 32, access := .plain, mask := 0x3FF, reset := 0x0 },
    { base := 0x94, count := 4, stride := 32, access := .rc, mask := 0x0, reset := 0x0 },
    { base := 0x98, count := 4, stride := 32, access := .rc, mask := 0x0, reset := 0x0 } ]

/-- Registers of the page kind `evcRx` (R357). -/
def regRowsEvcRx : List RegRow :=
  [ { base := 0x40, count := 1, stride := 4, access := .plain, mask := 0x7, reset := 0x0 },
    { base := 0x44, count := 1, stride := 4, access := .plain, mask := 0x1FFF, reset := 0x0 },
    { base := 0x48, count := 1, stride := 4, access := .plain, mask := 0x0, reset := 0x0 },
    { base := 0x4C, count := 1, stride := 4, access := .plain, mask := 0xFFFF, reset := 0x0 },
    { base := 0x50, count := 1, stride := 4, access := .rc, mask := 0x0, reset := 0x0 },
    { base := 0x54, count := 1, stride := 4, access := .rc, mask := 0x0, reset := 0x0 },
    { base := 0x58, count := 1, stride := 4, access := .rc, mask := 0x0, reset := 0x0 },
    { base := 0x5C, count := 1, stride := 4, access := .rc, mask := 0x0, reset := 0x0 },
    { base := 0x60, count := 1, stride := 4, access := .rc, mask := 0x0, reset := 0x0 },
    { base := 0x64, count := 1, stride := 4, access := .rc, mask := 0x0, reset := 0x0 },
    { base := 0x100, count := 32, stride := 4, access := .plain, mask := 0xFFFFFFFF, reset := 0x0 } ]

/-- Registers of the page kind `evcMap` (R358). -/
def regRowsEvcMap : List RegRow :=
  [ { base := 0x40, count := 1, stride := 4, access := .w1s, mask := 0x1, reset := 0x0 },
    { base := 0x44, count := 1, stride := 4, access := .rc, mask := 0x0, reset := 0x0 },
    { base := 0x48, count := 1, stride := 4, access := .rc, mask := 0x0, reset := 0x0 },
    { base := 0x4C, count := 1, stride := 4, access := .rc, mask := 0x0, reset := 0x0 },
    { base := 0x80, count := 8, stride := 16, access := .plain, mask := 0xFFFFFFC0, reset := 0x0, half := .low },
    { base := 0x84, count := 8, stride := 16, access := .plain, mask := 0xF, reset := 0x0, half := .high },
    { base := 0x88, count := 8, stride := 16, access := .plain, mask := 0x3FF, reset := 0x0 } ]

/-- Registers of the page kind `aer` (R359). -/
def regRowsAer : List RegRow :=
  [ { base := 0x40, count := 1, stride := 4, access := .plain, mask := 0x3, reset := 0x0 },
    { base := 0x44, count := 1, stride := 4, access := .plain, mask := 0xFFFFFF07, reset := 0x0 },
    { base := 0x48, count := 1, stride := 4, access := .plain, mask := 0xFFFF, reset := 0x0 },
    { base := 0x4C, count := 1, stride := 4, access := .rc, mask := 0x0, reset := 0x0 },
    { base := 0x50, count := 1, stride := 4, access := .rc, mask := 0x0, reset := 0x0 },
    { base := 0x54, count := 1, stride := 4, access := .rc, mask := 0x0, reset := 0x0 },
    { base := 0x58, count := 1, stride := 4, access := .plain, mask := 0x0, reset := 0x0 } ]

/-- Registers of the page kind `trvPort` (R410). -/
def regRowsTrvPort : List RegRow :=
  [ { base := 0x40, count := 1, stride := 4, access := .plain, mask := 0xFE000000, reset := 0xAE000000 },
    { base := 0x44, count := 1, stride := 4, access := .plain, mask := 0x0, reset := 0x0 },
    { base := 0x48, count := 1, stride := 4, access := .plain, mask := 0x0, reset := 0x0 },
    { base := 0x4C, count := 1, stride := 4, access := .plain, mask := 0x0, reset := 0x0 },
    { base := 0x50, count := 1, stride := 4, access := .plain, mask := 0x0, reset := 0x0 },
    { base := 0x54, count := 1, stride := 4, access := .plain, mask := 0x0, reset := 0x0 },
    { base := 0x58, count := 1, stride := 4, access := .plain, mask := 0xFFFF, reset := 0x64 },
    { base := 0x5C, count := 1, stride := 4, access := .plain, mask := 0xFFFF, reset := 0x40 },
    { base := 0x60, count := 1, stride := 4, access := .rc, mask := 0x0, reset := 0x0 },
    { base := 0x64, count := 1, stride := 4, access := .rc, mask := 0x0, reset := 0x0 },
    { base := 0x68, count := 1, stride := 4, access := .rc, mask := 0x0, reset := 0x0 },
    { base := 0x6C, count := 1, stride := 4, access := .rc, mask := 0x0, reset := 0x0 },
    { base := 0x70, count := 1, stride := 4, access := .rc, mask := 0x0, reset := 0x0 },
    { base := 0x74, count := 1, stride := 4, access := .rc, mask := 0x0, reset := 0x0 },
    { base := 0x78, count := 1, stride := 4, access := .rc, mask := 0x0, reset := 0x0 },
    { base := 0x7C, count := 1, stride := 4, access := .wo, mask := 0x0, reset := 0x0 },
    { base := 0x80, count := 1, stride := 4, access := .w1s, mask := 0x1, reset := 0x0 },
    { base := 0x84, count := 5, stride := 4, access := .rc, mask := 0x0, reset := 0x0 },
    { base := 0xC0, count := 8, stride := 4, access := .plain, mask := 0x0, reset := 0x0 },
    { base := 0x400, count := 32, stride := 4, access := .plain, mask := 0xF000F000, reset := 0x0 },
    { base := 0xA00, count := 32, stride := 4, access := .plain, mask := 0x0, reset := 0x0 } ]

/-- Registers of the page kind `trvCommon` (R411). -/
def regRowsTrvCommon : List RegRow :=
  [ { base := 0x40, count := 1, stride := 4, access := .plain, mask := 0xFFF, reset := 0xFFF },
    { base := 0x44, count := 1, stride := 4, access := .plain, mask := 0x0, reset := 0x0 },
    { base := 0x48, count := 1, stride := 4, access := .plain, mask := 0xF, reset := 0x0 },
    { base := 0x4C, count := 1, stride := 4, access := .plain, mask := 0x0, reset := 0x0 },
    { base := 0x50, count := 1, stride := 4, access := .plain, mask := 0x1, reset := 0x0 },
    { base := 0x54, count := 1, stride := 4, access := .plain, mask := 0xFFFFFFFF, reset := 0x2710 },
    { base := 0x58, count := 1, stride := 4, access := .rc, mask := 0x0, reset := 0x0 },
    { base := 0x5C, count := 1, stride := 4, access := .plain, mask := 0x0, reset := 0x0 },
    { base := 0x60, count := 1, stride := 4, access := .plain, mask := 0x0, reset := 0xFFF },
    { base := 0x64, count := 1, stride := 4, access := .plain, mask := 0x0, reset := 0xFFF },
    { base := 0x68, count := 1, stride := 4, access := .plain, mask := 0xFFFFFFFF, reset := 0x0 } ]

/-- Registers of the page kind `ethPort` (R437, R438). -/
def regRowsEthPort : List RegRow :=
  [ { base := 0x40, count := 1, stride := 4, access := .plain, mask := 0xF8000000, reset := 0x80000000 },
    { base := 0x44, count := 1, stride := 4, access := .plain, mask := 0x0, reset := 0x0 },
    { base := 0x48, count := 1, stride := 4, access := .plain, mask := 0xFFFFFFFF, reset := 0x0, half := .low },
    { base := 0x4C, count := 1, stride := 4, access := .plain, mask := 0xFFFF, reset := 0x0, half := .high },
    { base := 0x50, count := 1, stride := 4, access := .plain, mask := 0x8000EFFF, reset := 0x0 },
    { base := 0x54, count := 1, stride := 4, access := .plain, mask := 0x3FFF, reset := 0x5EE },
    { base := 0x58, count := 1, stride := 4, access := .plain, mask := 0xFFFFFFFF, reset := 0x0 },
    { base := 0x5C, count := 1, stride := 4, access := .plain, mask := 0xFFFF, reset := 0x6B12 },
    { base := 0x60, count := 4, stride := 4, access := .plain, mask := 0xFFFFFFFF, reset := 0x0 },
    { base := 0x70, count := 1, stride := 4, access := .rc, mask := 0x0, reset := 0x0 },
    { base := 0x74, count := 1, stride := 4, access := .rc, mask := 0x0, reset := 0x0 },
    { base := 0x78, count := 1, stride := 4, access := .rc, mask := 0x0, reset := 0x0 },
    { base := 0x7C, count := 1, stride := 4, access := .rc, mask := 0x0, reset := 0x0 },
    { base := 0x80, count := 1, stride := 4, access := .rc, mask := 0x0, reset := 0x0 },
    { base := 0x88, count := 1, stride := 4, access := .plain, mask := 0xFFFFFFFF, reset := 0x0, half := .low },
    { base := 0x8C, count := 1, stride := 4, access := .plain, mask := 0xFFFFFFFF, reset := 0x0, half := .high },
    { base := 0x90, count := 1, stride := 4, access := .plain, mask := 0x0, reset := 0x0, half := .low },
    { base := 0x94, count := 1, stride := 4, access := .plain, mask := 0x0, reset := 0x0, half := .high },
    { base := 0x98, count := 1, stride := 4, access := .rc, mask := 0x0, reset := 0x0 },
    { base := 0x9C, count := 1, stride := 4, access := .rc, mask := 0x0, reset := 0x0 },
    { base := 0xA0, count := 1, stride := 4, access := .plain, mask := 0xF8000000, reset := 0x0, secure := true },
    { base := 0xA4, count := 1, stride := 4, access := .plain, mask := 0xFFFFFFFF, reset := 0x0, secure := true },
    { base := 0xC0, count := 1, stride := 4, access := .plain, mask := 0x800000FF, reset := 0x0 },
    { base := 0xC8, count := 1, stride := 4, access := .plain, mask := 0xFFFFFFC0, reset := 0x0, half := .low } ] ++
  [ { base := 0xCC, count := 1, stride := 4, access := .plain, mask := 0xFFFFF, reset := 0x0, half := .high },
    { base := 0xD0, count := 1, stride := 4, access := .plain, mask := 0xFFFFFFC0, reset := 0x0, half := .low },
    { base := 0xD4, count := 1, stride := 4, access := .plain, mask := 0xFFFFF, reset := 0x0, half := .high },
    { base := 0xD8, count := 1, stride := 4, access := .plain, mask := 0xFFF, reset := 0x0 },
    { base := 0xDC, count := 1, stride := 4, access := .plain, mask := 0xFFF, reset := 0x0 },
    { base := 0x200, count := 8, stride := 64, access := .plain, mask := 0xC00F03FF, reset := 0x0 },
    { base := 0x208, count := 8, stride := 64, access := .plain, mask := 0xFFFFFFC0, reset := 0x0, half := .low },
    { base := 0x20C, count := 8, stride := 64, access := .plain, mask := 0xFFFFF, reset := 0x0, half := .high },
    { base := 0x210, count := 8, stride := 64, access := .plain, mask := 0x1FFFFF, reset := 0x0 },
    { base := 0x214, count := 8, stride := 64, access := .plain, mask := 0xFFFFFFFF, reset := 0x0 },
    { base := 0x218, count := 8, stride := 64, access := .plain, mask := 0xFFF, reset := 0x0 },
    { base := 0x21C, count := 8, stride := 64, access := .plain, mask := 0x0, reset := 0x0 },
    { base := 0x220, count := 8, stride := 64, access := .rc, mask := 0x0, reset := 0x0 },
    { base := 0x224, count := 8, stride := 64, access := .rc, mask := 0x0, reset := 0x0 },
    { base := 0x228, count := 8, stride := 64, access := .plain, mask := 0x0, reset := 0x0 },
    { base := 0x800, count := 320, stride := 4, access := .wo, mask := 0x0, reset := 0x0, secure := true } ]

/-- Registers of the page kind `ethUmh` (R439). -/
def regRowsEthUmh : List RegRow :=
  [ { base := 0x40, count := 1, stride := 4, access := .plain, mask := 0xD, reset := 0xD },
    { base := 0x44, count := 1, stride := 4, access := .plain, mask := 0x0, reset := 0x0 },
    { base := 0x48, count := 1, stride := 4, access := .plain, mask := 0x0, reset := 0x0, half := .low },
    { base := 0x4C, count := 1, stride := 4, access := .plain, mask := 0x0, reset := 0x0, half := .high },
    { base := 0x50, count := 1, stride := 4, access := .plain, mask := 0xFFFFFFFF, reset := 0x2710 },
    { base := 0x54, count := 1, stride := 4, access := .plain, mask := 0xFFFFFFFF, reset := 0x64 },
    { base := 0x58, count := 1, stride := 4, access := .rc, mask := 0x0, reset := 0x0 },
    { base := 0x5C, count := 1, stride := 4, access := .rc, mask := 0x0, reset := 0x0 },
    { base := 0x60, count := 1, stride := 4, access := .rc, mask := 0x0, reset := 0x0 } ]

/-- Registers of the page kind `crsCore` (R467). -/
def regRowsCrsCore : List RegRow :=
  [ { base := 0x40, count := 1, stride := 4, access := .wo, mask := 0x0, reset := 0x0 },
    { base := 0x44, count := 1, stride := 4, access := .plain, mask := 0x0, reset := 0x0 },
    { base := 0x48, count := 1, stride := 4, access := .plain, mask := 0xFFFFFFFC, reset := 0x0, half := .low },
    { base := 0x4C, count := 1, stride := 4, access := .plain, mask := 0xFFFFF, reset := 0x0, half := .high },
    { base := 0x50, count := 1, stride := 4, access := .plain, mask := 0xFFFFFFFF, reset := 0xFFFFFFFF, half := .low },
    { base := 0x54, count := 1, stride := 4, access := .plain, mask := 0xFFFFFFFF, reset := 0xFFFFFFFF, half := .high },
    { base := 0x58, count := 1, stride := 4, access := .plain, mask := 0x1, reset := 0x0 },
    { base := 0x5C, count := 1, stride := 4, access := .plain, mask := 0x0, reset := 0xC80 },
    { base := 0x60, count := 1, stride := 4, access := .plain, mask := 0xFFFFFF, reset := 0x0 },
    { base := 0x64, count := 1, stride := 4, access := .plain, mask := 0x3, reset := 0x0 },
    { base := 0x68, count := 1, stride := 4, access := .wo, mask := 0x0, reset := 0x0 },
    { base := 0x6C, count := 1, stride := 4, access := .rc, mask := 0x0, reset := 0x0 },
    { base := 0x70, count := 1, stride := 4, access := .plain, mask := 0x1, reset := 0x0, secure := true } ]

/-- Registers of the page kind `rfgCommon` (R469). -/
def regRowsRfgCommon : List RegRow :=
  [ { base := 0x40, count := 1, stride := 4, access := .w1s, mask := 0xF, reset := 0x0 },
    { base := 0x44, count := 1, stride := 4, access := .plain, mask := 0x0, reset := 0x0 },
    { base := 0x48, count := 1, stride := 4, access := .plain, mask := 0x0, reset := 0x0 },
    { base := 0x80, count := 16, stride := 4, access := .plain, mask := 0x0, reset := 0x0 } ]

/-- Registers of the page kind `rfgCore` (R470). -/
def regRowsRfgCore : List RegRow :=
  [ { base := 0x40, count := 1, stride := 4, access := .plain, mask := 0x0, reset := 0x0 },
    { base := 0x44, count := 1, stride := 4, access := .plain, mask := 0xFFFF, reset := 0xA },
    { base := 0x48, count := 1, stride := 4, access := .wo, mask := 0x0, reset := 0x0 },
    { base := 0x4C, count := 1, stride := 4, access := .rc, mask := 0x0, reset := 0x0 },
    { base := 0x50, count := 1, stride := 4, access := .plain, mask := 0x0, reset := 0x0 },
    { base := 0x54, count := 1, stride := 4, access := .plain, mask := 0x1, reset := 0x1, secure := true },
    { base := 0x58, count := 1, stride := 4, access := .plain, mask := 0x80000000, reset := 0x0, half := .low },
    { base := 0x5C, count := 1, stride := 4, access := .plain, mask := 0xFFFFF, reset := 0x0, half := .high } ]

/-- Registers of the page kind `col` (R492). -/
def regRowsCol : List RegRow :=
  [ { base := 0x100, count := 16, stride := 128, access := .plain, mask := 0xFFFFFFFF, reset := 0x0 },
    { base := 0x104, count := 16, stride := 128, access := .plain, mask := 0xFFFFFFFF, reset := 0x0 },
    { base := 0x108, count := 16, stride := 128, access := .plain, mask := 0xFFFFFFFF, reset := 0x0 },
    { base := 0x10C, count := 16, stride := 128, access := .plain, mask := 0xFFFFFFFF, reset := 0x0 },
    { base := 0x110, count := 16, stride := 128, access := .plain, mask := 0xFFFFFFFF, reset := 0x0 },
    { base := 0x114, count := 16, stride := 128, access := .plain, mask := 0xFFFFFFFF, reset := 0x0 },
    { base := 0x118, count := 16, stride := 128, access := .plain, mask := 0xFFFFFFFF, reset := 0x0 },
    { base := 0x11C, count := 16, stride := 128, access := .plain, mask := 0xFFFFFFFF, reset := 0x0 },
    { base := 0x120, count := 16, stride := 128, access := .plain, mask := 0xFFFFFFFF, reset := 0x0 },
    { base := 0x124, count := 16, stride := 128, access := .plain, mask := 0xFFFFFFFF, reset := 0x0 },
    { base := 0x128, count := 16, stride := 128, access := .plain, mask := 0xFFFFFFFF, reset := 0x0 },
    { base := 0x12C, count := 16, stride := 128, access := .plain, mask := 0xFFFFFFFF, reset := 0x0 },
    { base := 0x130, count := 16, stride := 128, access := .plain, mask := 0xFFFFFFFF, reset := 0x0 },
    { base := 0x134, count := 16, stride := 128, access := .plain, mask := 0xFFFFFFFF, reset := 0x0 },
    { base := 0x138, count := 16, stride := 128, access := .plain, mask := 0xFFFFFFFF, reset := 0x0 },
    { base := 0x13C, count := 16, stride := 128, access := .plain, mask := 0xFFFFFFFF, reset := 0x0 },
    { base := 0x140, count := 16, stride := 128, access := .plain, mask := 0x1F, reset := 0x0 },
    { base := 0x144, count := 16, stride := 128, access := .wo, mask := 0x0, reset := 0x0 },
    { base := 0x148, count := 16, stride := 128, access := .plain, mask := 0x0, reset := 0x0 },
    { base := 0x14C, count := 16, stride := 128, access := .plain, mask := 0x8000001F, reset := 0x1F } ]

/-- Registers of the page kind `tmr` (R521). -/
def regRowsTmr : List RegRow :=
  [ { base := 0x100, count := 8, stride := 256, access := .plain, mask := 0xC0FF0000, reset := 0x0 },
    { base := 0x104, count := 8, stride := 256, access := .plain, mask := 0xF80EEEEE, reset := 0x0 },
    { base := 0x108, count := 8, stride := 256, access := .w1c, mask := 0x1F, reset := 0x0 },
    { base := 0x10C, count := 8, stride := 256, access := .plain, mask := 0x1F, reset := 0x0 },
    { base := 0x110, count := 8, stride := 256, access := .plain, mask := 0x0, reset := 0x1, half := .low },
    { base := 0x114, count := 8, stride := 256, access := .plain, mask := 0x0, reset := 0x0, half := .high },
    { base := 0x118, count := 8, stride := 256, access := .plain, mask := 0xFFFFFFFF, reset := 0x1, half := .low },
    { base := 0x11C, count := 8, stride := 256, access := .plain, mask := 0xFFFF, reset := 0x0, half := .high },
    { base := 0x120, count := 8, stride := 256, access := .plain, mask := 0x0, reset := 0x1, half := .low },
    { base := 0x124, count := 8, stride := 256, access := .plain, mask := 0x0, reset := 0x0, half := .high },
    { base := 0x128, count := 8, stride := 256, access := .plain, mask := 0x0, reset := 0x0 },
    { base := 0x12C, count := 8, stride := 256, access := .rc, mask := 0x0, reset := 0x0 },
    { base := 0x140, count := 8, stride := 256, access := .plain, mask := 0xFFFFFE3F, reset := 0x0 },
    { base := 0x160, count := 8, stride := 256, access := .plain, mask := 0xFFFFFE3F, reset := 0x0 },
    { base := 0x180, count := 8, stride := 256, access := .plain, mask := 0xFFFFFE3F, reset := 0x0 },
    { base := 0x1A0, count := 8, stride := 256, access := .plain, mask := 0xFFFFFE3F, reset := 0x0 },
    { base := 0x148, count := 8, stride := 256, access := .plain, mask := 0xFFFFFFFF, reset := 0x0, half := .low },
    { base := 0x14C, count := 8, stride := 256, access := .plain, mask := 0xFFFF, reset := 0x0, half := .high },
    { base := 0x168, count := 8, stride := 256, access := .plain, mask := 0xFFFFFFFF, reset := 0x0, half := .low },
    { base := 0x16C, count := 8, stride := 256, access := .plain, mask := 0xFFFF, reset := 0x0, half := .high },
    { base := 0x188, count := 8, stride := 256, access := .plain, mask := 0xFFFFFFFF, reset := 0x0, half := .low },
    { base := 0x18C, count := 8, stride := 256, access := .plain, mask := 0xFFFF, reset := 0x0, half := .high },
    { base := 0x1A8, count := 8, stride := 256, access := .plain, mask := 0xFFFFFFFF, reset := 0x0, half := .low },
    { base := 0x1AC, count := 8, stride := 256, access := .plain, mask := 0xFFFF, reset := 0x0, half := .high } ] ++
  [ { base := 0x150, count := 8, stride := 256, access := .plain, mask := 0xFFFFFFFF, reset := 0x0, half := .low },
    { base := 0x154, count := 8, stride := 256, access := .plain, mask := 0xFFFF, reset := 0x0, half := .high },
    { base := 0x170, count := 8, stride := 256, access := .plain, mask := 0xFFFFFFFF, reset := 0x0, half := .low },
    { base := 0x174, count := 8, stride := 256, access := .plain, mask := 0xFFFF, reset := 0x0, half := .high },
    { base := 0x190, count := 8, stride := 256, access := .plain, mask := 0xFFFFFFFF, reset := 0x0, half := .low },
    { base := 0x194, count := 8, stride := 256, access := .plain, mask := 0xFFFF, reset := 0x0, half := .high },
    { base := 0x1B0, count := 8, stride := 256, access := .plain, mask := 0xFFFFFFFF, reset := 0x0, half := .low },
    { base := 0x1B4, count := 8, stride := 256, access := .plain, mask := 0xFFFF, reset := 0x0, half := .high },
    { base := 0x158, count := 8, stride := 256, access := .plain, mask := 0x0, reset := 0x0, half := .low },
    { base := 0x15C, count := 8, stride := 256, access := .plain, mask := 0x0, reset := 0x0, half := .high },
    { base := 0x178, count := 8, stride := 256, access := .plain, mask := 0x0, reset := 0x0, half := .low },
    { base := 0x17C, count := 8, stride := 256, access := .plain, mask := 0x0, reset := 0x0, half := .high },
    { base := 0x198, count := 8, stride := 256, access := .plain, mask := 0x0, reset := 0x0, half := .low },
    { base := 0x19C, count := 8, stride := 256, access := .plain, mask := 0x0, reset := 0x0, half := .high },
    { base := 0x1B8, count := 8, stride := 256, access := .plain, mask := 0x0, reset := 0x0, half := .low },
    { base := 0x1BC, count := 8, stride := 256, access := .plain, mask := 0x0, reset := 0x0, half := .high } ]

/-- Registers of the page kind `tmrCommon` (R522). -/
def regRowsTmrCommon : List RegRow :=
  [ { base := 0x40, count := 1, stride := 4, access := .wo, mask := 0x0, reset := 0x0 },
    { base := 0x44, count := 1, stride := 4, access := .plain, mask := 0x0, reset := 0x0 },
    { base := 0x80, count := 16, stride := 4, access := .plain, mask := 0xC000007F, reset := 0x0 } ]

/-- Registers of the page kind `crc` (R523). -/
def regRowsCrc : List RegRow :=
  [ { base := 0x100, count := 8, stride := 128, access := .plain, mask := 0x37F, reset := 0x20 },
    { base := 0x104, count := 8, stride := 128, access := .wo, mask := 0x0, reset := 0x0 },
    { base := 0x108, count := 8, stride := 128, access := .plain, mask := 0xFFFFFFFF, reset := 0x0, half := .low },
    { base := 0x10C, count := 8, stride := 128, access := .plain, mask := 0xFFFFFFFF, reset := 0x0, half := .high },
    { base := 0x110, count := 8, stride := 128, access := .plain, mask := 0xFFFFFFFF, reset := 0x0, half := .low },
    { base := 0x114, count := 8, stride := 128, access := .plain, mask := 0xFFFFFFFF, reset := 0x0, half := .high },
    { base := 0x118, count := 8, stride := 128, access := .plain, mask := 0xFFFFFFFF, reset := 0x0, half := .low },
    { base := 0x11C, count := 8, stride := 128, access := .plain, mask := 0xFFFFFFFF, reset := 0x0, half := .high },
    { base := 0x120, count := 8, stride := 128, access := .plain, mask := 0xFFFFFFFF, reset := 0x0, half := .low },
    { base := 0x124, count := 8, stride := 128, access := .plain, mask := 0xFFFFFFFF, reset := 0x0, half := .high },
    { base := 0x128, count := 8, stride := 128, access := .plain, mask := 0x0, reset := 0x0, half := .low },
    { base := 0x12C, count := 8, stride := 128, access := .plain, mask := 0x0, reset := 0x0, half := .high },
    { base := 0x130, count := 8, stride := 128, access := .wo, mask := 0x0, reset := 0x0 },
    { base := 0x134, count := 8, stride := 128, access := .wo, mask := 0x0, reset := 0x0 },
    { base := 0x138, count := 8, stride := 128, access := .wo, mask := 0x0, reset := 0x0 },
    { base := 0x13C, count := 8, stride := 128, access := .rc, mask := 0x0, reset := 0x0 } ]

/-- Registers of the page kind `chp` (R541, R566, R598). -/
def regRowsChp : List RegRow :=
  [ { base := 0x40, count := 1, stride := 4, access := .plain, mask := 0x0, reset := 0x90860001 },
    { base := 0x44, count := 1, stride := 4, access := .rc, mask := 0x0, reset := 0x0 },
    { base := 0x48, count := 1, stride := 4, access := .plain, mask := 0x0, reset := 0x0 },
    { base := 0x4C, count := 1, stride := 4, access := .rc, mask := 0x0, reset := 0x0 },
    { base := 0x50, count := 1, stride := 4, access := .rc, mask := 0x0, reset := 0x0 },
    { base := 0x54, count := 1, stride := 4, access := .rc, mask := 0x0, reset := 0x0 },
    { base := 0xC0, count := 1, stride := 4, access := .wo, mask := 0x0, reset := 0x0 },
    { base := 0x60, count := 1, stride := 4, access := .plain, mask := 0x0, reset := 0x0 },
    { base := 0x64, count := 1, stride := 4, access := .plain, mask := 0x0, reset := 0x0 },
    { base := 0x68, count := 1, stride := 4, access := .plain, mask := 0x0, reset := 0x0 },
    { base := 0x6C, count := 1, stride := 4, access := .wo, mask := 0x0, reset := 0x0 },
    { base := 0x70, count := 1, stride := 4, access := .wo, mask := 0x0, reset := 0x0 },
    { base := 0x74, count := 1, stride := 4, access := .plain, mask := 0x0, reset := 0x0 },
    { base := 0x78, count := 1, stride := 4, access := .plain, mask := 0x0, reset := 0x0 },
    { base := 0x7C, count := 1, stride := 4, access := .plain, mask := 0x0, reset := 0x0 },
    { base := 0x80, count := 1, stride := 4, access := .plain, mask := 0xFF, reset := 0x0 },
    { base := 0x84, count := 1, stride := 4, access := .plain, mask := 0x0, reset := 0x0 },
    { base := 0x90, count := 4, stride := 4, access := .plain, mask := 0x0, reset := 0x0 },
    { base := 0xA0, count := 1, stride := 4, access := .plain, mask := 0x0, reset := 0x0 },
    { base := 0xA4, count := 1, stride := 4, access := .rc, mask := 0x0, reset := 0x0 },
    { base := 0xA8, count := 1, stride := 4, access := .plain, mask := 0x1, reset := 0x0 } ]

/-- Registers of the page kind `frz` (R599). -/
def regRowsFrz : List RegRow :=
  [ { base := 0x40, count := 1, stride := 4, access := .plain, mask := 0x1D, reset := 0x14 },
    { base := 0x44, count := 1, stride := 4, access := .wo, mask := 0x0, reset := 0x0 },
    { base := 0x48, count := 1, stride := 4, access := .plain, mask := 0x0, reset := 0x0 },
    { base := 0x50, count := 1, stride := 4, access := .plain, mask := 0x0, reset := 0x0, half := .low },
    { base := 0x54, count := 1, stride := 4, access := .plain, mask := 0x0, reset := 0x0, half := .high },
    { base := 0x58, count := 1, stride := 4, access := .plain, mask := 0x0, reset := 0x0, half := .low },
    { base := 0x5C, count := 1, stride := 4, access := .plain, mask := 0x0, reset := 0x0, half := .high },
    { base := 0x60, count := 1, stride := 4, access := .rc, mask := 0x0, reset := 0x0 },
    { base := 0x64, count := 1, stride := 4, access := .rc, mask := 0x0, reset := 0x0 },
    { base := 0x68, count := 1, stride := 4, access := .plain, mask := 0xFFFFFFFF, reset := 0x186A0 },
    { base := 0x6C, count := 1, stride := 4, access := .plain, mask := 0x0, reset := 0x0 },
    { base := 0x70, count := 1, stride := 4, access := .plain, mask := 0x0, reset := 0x0 },
    { base := 0x74, count := 1, stride := 4, access := .plain, mask := 0x0, reset := 0x0 },
    { base := 0x78, count := 1, stride := 4, access := .plain, mask := 0xFFF00000, reset := 0x0, half := .low },
    { base := 0x7C, count := 1, stride := 4, access := .plain, mask := 0x8000000F, reset := 0x0, half := .high },
    { base := 0x80, count := 1, stride := 4, access := .plain, mask := 0x0, reset := 0x0 } ]

/-- Registers of the page kind `blk` (R600). -/
def regRowsBlk : List RegRow :=
  [ { base := 0x40, count := 1, stride := 4, access := .plain, mask := 0x1, reset := 0x1 },
    { base := 0x44, count := 1, stride := 4, access := .plain, mask := 0x0, reset := 0x80000000 },
    { base := 0x48, count := 1, stride := 4, access := .plain, mask := 0x0, reset := 0x3020100 },
    { base := 0x4C, count := 1, stride := 4, access := .plain, mask := 0x0, reset := 0x7060504 },
    { base := 0x50, count := 1, stride := 4, access := .plain, mask := 0x0, reset := 0xB0A0908 },
    { base := 0x54, count := 1, stride := 4, access := .plain, mask := 0x0, reset := 0xF0E0D0C },
    { base := 0x58, count := 1, stride := 4, access := .wo, mask := 0x0, reset := 0x0 },
    { base := 0x5C, count := 1, stride := 4, access := .rc, mask := 0x0, reset := 0x0 },
    { base := 0x60, count := 1, stride := 4, access := .rc, mask := 0x0, reset := 0x0 },
    { base := 0x64, count := 1, stride := 4, access := .rc, mask := 0x0, reset := 0x0 },
    { base := 0x68, count := 1, stride := 4, access := .plain, mask := 0x0, reset := 0x0 },
    { base := 0x6C, count := 1, stride := 4, access := .plain, mask := 0x0, reset := 0x0 } ]

/-- Registers of the page kind `blkSnap` (R601). -/
def regRowsBlkSnap : List RegRow :=
  [ { base := 0x40, count := 1, stride := 4, access := .plain, mask := 0x0, reset := 0x0 },
    { base := 0x44, count := 1, stride := 4, access := .plain, mask := 0x0, reset := 0x0 },
    { base := 0x48, count := 1, stride := 4, access := .plain, mask := 0x0, reset := 0x0 },
    { base := 0x4C, count := 1, stride := 4, access := .plain, mask := 0x0, reset := 0x0 },
    { base := 0x50, count := 1, stride := 4, access := .plain, mask := 0x0, reset := 0x0 },
    { base := 0x54, count := 1, stride := 4, access := .plain, mask := 0x0, reset := 0x0 } ]

/-- Registers of the page kind `pwr` (R626, R674). -/
def regRowsPwr : List RegRow :=
  [ { base := 0x40, count := 1, stride := 4, access := .plain, mask := 0x3, reset := 0x0 },
    { base := 0x44, count := 1, stride := 4, access := .plain, mask := 0x0, reset := 0x0 },
    { base := 0x48, count := 1, stride := 4, access := .plain, mask := 0x3FF, reset := 0xF },
    { base := 0x4C, count := 1, stride := 4, access := .plain, mask := 0xF, reset := 0x0 },
    { base := 0x50, count := 1, stride := 4, access := .plain, mask := 0x0, reset := 0x0 },
    { base := 0x58, count := 1, stride := 4, access := .plain, mask := 0xFFFFFFFF, reset := 0xFFFFFFFF, half := .low },
    { base := 0x5C, count := 1, stride := 4, access := .plain, mask := 0xFFFFFFFF, reset := 0xFFFFFFFF, half := .high },
    { base := 0x60, count := 1, stride := 4, access := .plain, mask := 0x0, reset := 0x0 },
    { base := 0x64, count := 1, stride := 4, access := .plain, mask := 0x7FF, reset := 0x0 },
    { base := 0x68, count := 1, stride := 4, access := .rc, mask := 0x0, reset := 0x0 },
    { base := 0x6C, count := 1, stride := 4, access := .plain, mask := 0x0, reset := 0x53 },
    { base := 0x70, count := 1, stride := 4, access := .plain, mask := 0x0, reset := 0x0 },
    { base := 0x74, count := 1, stride := 4, access := .rc, mask := 0x0, reset := 0x0 },
    { base := 0x78, count := 1, stride := 4, access := .plain, mask := 0x3F0000, reset := 0x140014 } ]

/-- Registers of the page kind `clk` (R627). -/
def regRowsClk : List RegRow :=
  [ { base := 0x40, count := 6, stride := 8, access := .plain, mask := 0x80000FFF, reset := 0x0 },
    { base := 0x44, count := 6, stride := 8, access := .plain, mask := 0x0, reset := 0x0 },
    { base := 0x80, count := 1, stride := 4, access := .plain, mask := 0xFF, reset := 0x0 },
    { base := 0x84, count := 1, stride := 4, access := .plain, mask := 0xFF07, reset := 0x0 } ]

/-- Registers of the page kind `scr` (R628). -/
def regRowsScr : List RegRow :=
  [ { base := 0x40, count := 1, stride := 4, access := .plain, mask := 0x0, reset := 0x0 },
    { base := 0x44, count := 1, stride := 4, access := .plain, mask := 0x0, reset := 0xFFFFFFFF },
    { base := 0x48, count := 1, stride := 4, access := .plain, mask := 0x0, reset := 0x0 },
    { base := 0x4C, count := 1, stride := 4, access := .plain, mask := 0x0, reset := 0x0 },
    { base := 0x50, count := 1, stride := 4, access := .plain, mask := 0x0, reset := 0x0, half := .low },
    { base := 0x54, count := 1, stride := 4, access := .plain, mask := 0x0, reset := 0x0, half := .high },
    { base := 0x58, count := 1, stride := 4, access := .plain, mask := 0x0, reset := 0x0 },
    { base := 0x5C, count := 1, stride := 4, access := .plain, mask := 0x0, reset := 0x0 },
    { base := 0x60, count := 1, stride := 4, access := .plain, mask := 0x0, reset := 0x0 },
    { base := 0x64, count := 1, stride := 4, access := .plain, mask := 0xFFFFFFFF, reset := 0x2710 },
    { base := 0x68, count := 1, stride := 4, access := .plain, mask := 0xFFFFFFC0, reset := 0x0, half := .low },
    { base := 0x6C, count := 1, stride := 4, access := .plain, mask := 0xF, reset := 0x0, half := .high },
    { base := 0x70, count := 1, stride := 4, access := .w1s, mask := 0x3, reset := 0x0 },
    { base := 0x74, count := 1, stride := 4, access := .plain, mask := 0x0, reset := 0x0 },
    { base := 0x78, count := 1, stride := 4, access := .plain, mask := 0xFFFF, reset := 0xE10 },
    { base := 0x7C, count := 1, stride := 4, access := .plain, mask := 0x0, reset := 0x0 } ]

/-- Registers of the page kind `bdr` (R654). -/
def regRowsBdr : List RegRow :=
  [ { base := 0x40, count := 1, stride := 4, access := .plain, mask := 0x1, reset := 0x0 },
    { base := 0x44, count := 1, stride := 4, access := .plain, mask := 0x0, reset := 0x0 },
    { base := 0x48, count := 1, stride := 4, access := .plain, mask := 0x0, reset := 0x0 },
    { base := 0x4C, count := 1, stride := 4, access := .rc, mask := 0x0, reset := 0x0 },
    { base := 0x50, count := 1, stride := 4, access := .plain, mask := 0xFFFFFFFF, reset := 0x0, half := .low },
    { base := 0x54, count := 1, stride := 4, access := .plain, mask := 0xFFFFF, reset := 0x0, half := .high },
    { base := 0x58, count := 1, stride := 4, access := .plain, mask := 0xFFFFFFFF, reset := 0x0, half := .low },
    { base := 0x5C, count := 1, stride := 4, access := .plain, mask := 0xFF, reset := 0x0, half := .high },
    { base := 0x60, count := 1, stride := 4, access := .wo, mask := 0x0, reset := 0x0 },
    { base := 0x64, count := 1, stride := 4, access := .plain, mask := 0x0, reset := 0x0 },
    { base := 0x68, count := 1, stride := 4, access := .plain, mask := 0x0, reset := 0x0 },
    { base := 0x6C, count := 1, stride := 4, access := .rc, mask := 0x0, reset := 0x0 },
    { base := 0x80, count := 8, stride := 16, access := .plain, mask := 0xFFF00000, reset := 0x0, half := .low },
    { base := 0x84, count := 8, stride := 16, access := .plain, mask := 0xF, reset := 0x0, half := .high },
    { base := 0x88, count := 8, stride := 16, access := .plain, mask := 0xFFF00000, reset := 0x0, half := .low },
    { base := 0x8C, count := 8, stride := 16, access := .plain, mask := 0x8000000F, reset := 0x0, half := .high },
    { base := 0x100, count := 16, stride := 4, access := .plain, mask := 0x0, reset := 0x0 } ]

/-- Registers of the page kind `otp` (R655). -/
def regRowsOtp : List RegRow :=
  [ { base := 0x40, count := 1, stride := 4, access := .wo, mask := 0x0, reset := 0x0 },
    { base := 0x44, count := 1, stride := 4, access := .plain, mask := 0x0, reset := 0x0 },
    { base := 0x48, count := 1, stride := 4, access := .plain, mask := 0x0, reset := 0x0 },
    { base := 0x4C, count := 1, stride := 4, access := .plain, mask := 0x0, reset := 0x0 },
    { base := 0x50, count := 1, stride := 4, access := .plain, mask := 0x0, reset := 0x0 },
    { base := 0x54, count := 1, stride := 4, access := .plain, mask := 0x0, reset := 0x0 },
    { base := 0x80, count := 16, stride := 4, access := .plain, mask := 0xFFFFFFFF, reset := 0x0 },
    { base := 0x100, count := 64, stride := 4, access := .plain, mask := 0x0, reset := 0x0 } ]

/-- Registers of the page kind `dbg` (R656). -/
def regRowsDbg : List RegRow :=
  [ { base := 0x40, count := 1, stride := 4, access := .wo, mask := 0x0, reset := 0x0 },
    { base := 0x44, count := 1, stride := 4, access := .plain, mask := 0x0, reset := 0x0 },
    { base := 0x48, count := 1, stride := 4, access := .wo, mask := 0x0, reset := 0x0 },
    { base := 0x4C, count := 1, stride := 4, access := .plain, mask := 0x1FFF, reset := 0x0 },
    { base := 0x60, count := 8, stride := 4, access := .plain, mask := 0x0, reset := 0x0 } ]

/-- Registers of the page kind `rteChip` (R237). -/
def regRowsRteChip : List RegRow :=
  [ { base := 0x40, count := 1, stride := 4, access := .rc, mask := 0x0, reset := 0x0 },
    { base := 0x44, count := 1, stride := 4, access := .rc, mask := 0x0, reset := 0x0 },
    { base := 0x48, count := 1, stride := 4, access := .rc, mask := 0x0, reset := 0x0 },
    { base := 0x4C, count := 1, stride := 4, access := .plain, mask := 0x0, reset := 0x0 } ]

/-- Registers of the page kind `gat` (R238). -/
def regRowsGat : List RegRow :=
  [ { base := 0x40, count := 1, stride := 4, access := .rc, mask := 0x0, reset := 0x0 },
    { base := 0x44, count := 1, stride := 4, access := .rc, mask := 0x0, reset := 0x0 },
    { base := 0x48, count := 1, stride := 4, access := .rc, mask := 0x0, reset := 0x0 } ]

/-- Registers of the page kind `chnRegion` (R259). -/
def regRowsChnRegion : List RegRow :=
  [ { base := 0x40, count := 1, stride := 4, access := .plain, mask := 0x0, reset := 0x0 },
    { base := 0x44, count := 1, stride := 4, access := .rc, mask := 0x0, reset := 0x0 },
    { base := 0x48, count := 1, stride := 4, access := .rc, mask := 0x0, reset := 0x0 },
    { base := 0x4C, count := 1, stride := 4, access := .rc, mask := 0x0, reset := 0x0 } ]

/-- Registers of the page kind `crsCluster` (R468). -/
def regRowsCrsCluster : List RegRow :=
  [ { base := 0x40, count := 1, stride := 4, access := .plain, mask := 0x0, reset := 0x100020 },
    { base := 0x44, count := 1, stride := 4, access := .w1s, mask := 0x1, reset := 0x0 },
    { base := 0x48, count := 1, stride := 4, access := .rc, mask := 0x0, reset := 0x0 },
    { base := 0x4C, count := 1, stride := 4, access := .rc, mask := 0x0, reset := 0x0 } ]

/-- Registers of the page kind `crn` (R471). -/
def regRowsCrn : List RegRow :=
  [ { base := 0x40, count := 1, stride := 4, access := .plain, mask := 0x0, reset := 0x0 },
    { base := 0x80, count := 32, stride := 4, access := .plain, mask := 0xFFFFFFFF, reset := 0xFFFFFFFF },
    { base := 0x100, count := 4, stride := 32, access := .plain, mask := 0xFFFFFFFF, reset := 0x0 },
    { base := 0x104, count := 4, stride := 32, access := .plain, mask := 0xFFFFFFFF, reset := 0x0 },
    { base := 0x108, count := 4, stride := 32, access := .plain, mask := 0xFFFFFFFF, reset := 0x0 },
    { base := 0x10C, count := 4, stride := 32, access := .plain, mask := 0xFFFFFFFF, reset := 0x0 },
    { base := 0x110, count := 4, stride := 32, access := .wo, mask := 0x0, reset := 0x0 } ]

/-- Registers of the page kind `picSrc` (R478). -/
def regRowsPicSrc : List RegRow :=
  [ { base := 0x800, count := 512, stride := 4, access := .plain, mask := 0x1FF0FFFF, reset := 0x0 } ]

/-- Registers of the page kind `picCtl` (R489, R499). -/
def regRowsPicCtl : List RegRow :=
  [ { base := 0x100, count := 21, stride := 16, access := .plain, mask := 0xF, reset := 0x0 },
    { base := 0x104, count := 21, stride := 16, access := .plain, mask := 0x0, reset := 0x0 },
    { base := 0x108, count := 21, stride := 16, access := .wo, mask := 0x0, reset := 0x0 },
    { base := 0x10C, count := 21, stride := 16, access := .plain, mask := 0x0, reset := 0x0 },
    { base := 0x400, count := 1, stride := 4, access := .plain, mask := 0xC0000FFF, reset := 0xC0000001 },
    { base := 0x404, count := 1, stride := 4, access := .plain, mask := 0xC0000FFF, reset := 0xC0000002 },
    { base := 0x408, count := 1, stride := 4, access := .plain, mask := 0xC0000FFF, reset := 0xC0000003 },
    { base := 0x40C, count := 1, stride := 4, access := .plain, mask := 0xC0000FFF, reset := 0xC0000004 },
    { base := 0x410, count := 1, stride := 4, access := .plain, mask := 0xC0000FFF, reset := 0xC0000005 },
    { base := 0x414, count := 1, stride := 4, access := .plain, mask := 0xC0000FFF, reset := 0xC0000006 },
    { base := 0x418, count := 1, stride := 4, access := .plain, mask := 0xC0000FFF, reset := 0xC0000007 },
    { base := 0x41C, count := 1, stride := 4, access := .plain, mask := 0xC0000FFF, reset := 0xC0000008 },
    { base := 0x420, count := 1, stride := 4, access := .plain, mask := 0xC0000FFF, reset := 0xC0000009 },
    { base := 0x424, count := 55, stride := 4, access := .plain, mask := 0xC0000FFF, reset := 0x0 } ]

/-- Registers of the page kind `picPend` (R499). -/
def regRowsPicPend : List RegRow :=
  [ { base := 0x100, count := 128, stride := 4, access := .plain, mask := 0x0, reset := 0x0 },
    { base := 0x400, count := 128, stride := 4, access := .w1s, mask := 0xFFFFFFFF, reset := 0x0 },
    { base := 0x600, count := 128, stride := 4, access := .w1c, mask := 0xFFFFFFFF, reset := 0x0 } ]

end Sys2Proof.Machine
end

