-- ==== Sys2Proof/Machine/State.lean ====
section
/-! DEFINITION. The state of the chip: every register, table, memory and queue that the spec names, as plain data.
Registers lie in one sparse store, numbered as the register pages of R525 number them; what the registers do not hold
stands in one structure for each chapter. -/
namespace Sys2Proof.Machine
open Sys2Proof

/-! ## Steps, summits and time (chapter 02) -/

/-- The value of `STP_STAT.PHASE` (R676). -/
inductive Phase where
  | wait
  | update
  | deliver
  | cut
  | summitWait
  | stopped
deriving DecidableEq, Repr

/-- The step timer, the tick sources and the summit logic of one chip, beside their registers. -/
structure StepState where
  /-- ns left on the step timer (R37, R41) -/
  remaining : Nat := 0
  /-- the last accepted write of `STP_PERIOD`: its elapsed time, and the value before the writes of that cycle (R39) -/
  written : Option (Nat × W32) := none
  /-- STRETCH: the timer has expired and its tick is held (R64) -/
  heldTick : Bool := false
  /-- STRETCH in PIN mode: a `TICK_IN` edge is held (R65) -/
  heldEdge : Bool := false
  /-- elapsed time of the last accepted `TICK_IN` edge (R46) -/
  lastEdge : Option Nat := none
  /-- elapsed time at which the tick of a received TICK packet falls due (R42) -/
  leadDue : Option Nat := none
  /-- MASTER or PIN: elapsed time at which the flywheel timer reached zero without a tick (R45) -/
  flywheel : Option Nat := none
  /-- the tick master has sent the TICK packet of the coming tick (R42) -/
  leadSent : Bool := false
  /-- `STP_STAT.PHASE` while the timer runs (R676) -/
  phase : Phase := .wait
  /-- the current step has had its true summit on this chip (R53) -/
  summited : Bool := false
  /-- this step's overrun has been counted (R58) -/
  overrun : Bool := false
  /-- blocks that have sent UPDATE_DONE for the current step (R49) -/
  blkUpd : List Nat := []
  /-- blocks whose QUIESCENT report stands (R52) -/
  blkQui : List Nat := []
  /-- regions that have reported UPDATE_DONE (R28) -/
  rgnUpd : List Nat := []
  /-- regions whose QUIESCENT report stands (R52) -/
  rgnQui : List Nat := []
  /-- ns from the tick to the UPDATE_DONE of region r at r, and to its last QUIESCENT report at 8 + r, in the open step (R295) -/
  rgnTimes : Store Nat := []
  /-- packets injected, by unit × 4 + parity: units 0–127 the blocks, 128–135 the route engines, 136 the chip (R52) -/
  inj : Store Nat := []
  /-- packets consumed, in the same layout (R52) -/
  cons : Store Nat := []
  /-- totals of the last complete collection wave (R53) -/
  wave : Option (Nat × Nat) := none
  /-- the last two waves were equal with injected = consumed (R53) -/
  agreed : Bool := false
  /-- the summit of the step has been reached and these units have not yet had its release: 0–127 blocks, 128–135 regions, 136 the chip (R54) -/
  release : List Nat := []
  /-- step number of the last summit, which is being released while units are listed -/
  relStep : Nat := 0
  /-- late integrations, shed events and events dropped as absent, carried to the next true summit (R54, R675) -/
  late : Nat := 0
  shed : Nat := 0
  absent : Nat := 0
  /-- requesters with a fence outstanding (R71) -/
  fences : List Requester := []
  /-- requesters with a posted write that waits for the next summit (R68, R71) -/
  posters : List Requester := []
  /-- elapsed time of local quiescence of the step (SUM_LAT_NS) -/
  quietAt : Nat := 0
deriving DecidableEq, Repr

/-! ## Cells and neurons (chapters 04, 09) -/

/-- One neuron: R117, its post-trace (R112, R270) and its activity bitmap bit (R123). -/
structure Neuron where
  v : W16 := 0
  u : W16 := 0
  a : W16 := 0
  f : W16 := 0
  acc : W32 := 0
  post : Byte := 0
  active : Bool := false
deriving DecidableEq, Repr

/-- One entry of a cell's queue pool (R128). -/
structure PoolEntry where
  cell : Nat
  queue : Nat
  row : Nat
  /-- the step in which it falls due (R61, R128) -/
  due : Nat
  late : Bool
  /-- value of a graded event -/
  graded : Option W16
  off : W16
  /-- it is integrated in the coming step under every policy (R578) -/
  forced : Bool := false
deriving DecidableEq, Repr

/-- A posted write of a cell (R137, R139, R269). -/
inductive CellPost where
  /-- `vals` from word `w` of profile `k` (`CEL_PROF`, SET_PROFILE) -/
  | profile (k w : Nat) (vals : List W32)
  | axon (i : Nat) (v : W32)
  /-- `CEL_NDATA0` of neuron i -/
  | neuron0 (i : Nat) (v : W32)
  /-- `CEL_NDATA1` of neuron i -/
  | neuron1 (i : Nat) (v : W32)
  /-- U and V, F and A of neuron i (WRITE_STATE) -/
  | neuron (i : Nat) (w0 w1 : W32)
  | preCtrl (v : W32)
  | modulator (v : W32)
deriving DecidableEq, Repr

/-- Where an item stands in stages 1 and 2 (R129, R146, R155). -/
inductive ItemStage where
  /-- the row table entry is being read from DRAM -/
  | table
  /-- the row is being fetched from DRAM -/
  | row
  /-- the row waits: a write-back of it is outstanding or the sweeper holds it (R160, R281) -/
  | held
deriving DecidableEq, Repr

/-- A due entry taken by stage 1 and not yet accumulated. -/
structure Item where
  id : Nat
  cell : Nat
  entry : PoolEntry
  stage : ItemStage
  /-- DRAM offset of its row table entry -/
  tbl : Nat
  /-- row table entry, once read -/
  word : Nat
  /-- an item resumed by a migration makes no eligibility update and no write-back (R577 step 5) -/
  resumed : Bool := false
deriving DecidableEq, Repr

/-- A write-back of a plastic row under way (R160). -/
structure WriteBack where
  id : Nat
  cell : Nat
  /-- DRAM offset of the row header -/
  row : Nat
  bytes : List Host.Cell
deriving DecidableEq, Repr

/-- Where a logical cell runs (R13, R577, R579). -/
structure CellMap where
  site : Nat
  offline : Bool
deriving DecidableEq, Repr

structure CellsState where
  /-- neuron `i` of logical cell `c` at key `8192 c + i` -/
  neurons : Store Neuron := []
  /-- descriptor word `w` of queue `q` of cell `c` at key `4 (512 c + q) + w` (R127) -/
  qdesc : Store W32 := []
  /-- axon entry of neuron `i` of cell `c` at key `8192 c + i` (R124) -/
  axon : Store W32 := []
  /-- the pools of all cells, in arrival order (R128) -/
  pool : List PoolEntry := []
  /-- queue (512 c + q) whose STATE changes at the next summit, to 0 OPEN or 1 CLOSED (R130) -/
  qreq : Store Nat := []
  /-- posted writes in issue order, with their cell (R137) -/
  posts : List (Nat × CellPost) := []
  /-- cells that have completed the update of the current step (R49) -/
  updated : List Nat := []
  /-- next neuron index that the update engine of a cell looks at -/
  updPos : Store Nat := []
  /-- cells that have become quiescent in the current step (R51) -/
  quiet : List Nat := []
  /-- spikes and emissions of each cell in the current step -/
  spikes : Store Nat := []
  items : List Item := []
  writeBacks : List WriteBack := []
  /-- cached row table entries (site, DRAM offset), most recently used first (R163) -/
  tblCache : List (Nat × Nat) := []
  /-- cached non-plastic rows (site, DRAM offset of the header), most recently used first -/
  rowCache : List (Nat × Nat) := []
  /-- logical cells whose site is not their own, or that are offline -/
  map : Store CellMap := []
  /-- the remap tables have been built since the last reset (R558) -/
  mapped : Bool := false
  /-- 64-bit generators at page × 8 + site; one that is not listed holds its TRNG seed (R96, R97) -/
  lfsr : List (Nat × W64) := []
  /-- summits completed in the current saturation window of a numeric page (R104) -/
  satWin : Store Nat := []
  /-- value of a completed `SR_SEED` write waiting for the summit, by page (R98) -/
  seeds : List (Nat × W64) := []
  /-- the model's own: numbers the reset whose random seeds the unlisted stochastic-rounding registers hold (R97) -/
  seedBase : Nat := 0
deriving DecidableEq, Repr

/-! ## DRAM (chapter 05) -/

/-- A request waiting at a slice (R158). -/
structure DramReq where
  slice : Nat
  /-- requester index of R161 -/
  who : Nat
  bytes : Nat
  /-- the cell item it belongs to, 0 for none -/
  item : Nat
  /-- DRAM offset of the granule part -/
  addr : Nat
deriving DecidableEq, Repr

/-- A posted write into the synapse store (R162). -/
structure SynPost where
  slice : Nat
  /-- none for a unit whose writes no fence waits for -/
  req : Option Requester
  addr : Nat
  bytes : List Byte
deriving DecidableEq, Repr

/-- A row that a slice is copying to a spare (R169). -/
structure RemapReq where
  slice : Nat
  bank : Nat
  row : Nat
  /-- SRC of the remap list entry -/
  src : Nat
deriving DecidableEq, Repr

structure DramState where
  /-- windows begun since the tick, by slice (R158) -/
  wins : Store Nat := []
  /-- bytes charged against the credit of the window, at slice × 4096 + requester -/
  used : Store Nat := []
  /-- `DRM_RES_WAITS` and `DRM_RES_BYTES` of each requester, at slice × 4096 + requester -/
  waits : Store Nat := []
  bytes : Store Nat := []
  /-- reservations of the loaded image by requester index; none: the default division (R174) -/
  rates : Option (Store Nat) := none
  reqs : List DramReq := []
  /-- next requester index to take its turn among those of item 6 of R161, by slice -/
  turn : Store Nat := []
  posts : List SynPost := []
  held : List SynPost := []
  /-- slices whose multiplier has changed and whose bandwidth follows at the next window (R165) -/
  refresh : List Nat := []
  /-- elapsed time of the last access of a slice (R171) -/
  lastAccess : Store Nat := []
  copies : List RemapReq := []
  /-- remap lists, with their die, in the order of entry (R169) -/
  remap : List (Nat × W32) := []
  /-- corrected beats since the last scrub, at (slice × 16 + bank) × 2¹⁴ + row (R167) -/
  ceCount : Store Nat := []
  /-- next beat that the patrol scrubber reads, by slice (R168) -/
  scrubPos : Store Nat := []
  /-- banks in which a row has failed with no spare, as slice × 16 + bank (R175) -/
  failedBanks : List Nat := []
deriving DecidableEq, Repr

/-! ## Tarn banks (chapter 06) -/

/-- An access held at a bank (R186, R192). -/
structure TarnAccess where
  bank : Nat
  req : Requester
  /-- owner code that makes it -/
  owner : Nat
  op : TarnOp
deriving DecidableEq, Repr

/-- Beside the registers of a bank page: the handover and the power change in progress. -/
structure BankState where
  /-- owner code whose new accesses are refused while its old ones drain (R186) -/
  draining : Bool := false
  /-- the bank is writing zero to its lines (R186 step 3) -/
  clearing : Bool := false
  /-- the handover waits for the next summit (R186) -/
  atSummit : Bool := false
  /-- power state in force: 0 OFF, 1 RETENTION, 2 ON (R192) -/
  power : Nat := 0
  /-- a power change has been requested and is not complete (R193) -/
  powerReq : Option Nat := none
  /-- the contents have been lost and the bank is cleared on its way to ON (R192) -/
  lost : Bool := true
deriving DecidableEq, Repr

structure TarnState where
  banks : Store BankState := []
  held : List TarnAccess := []
  /-- the value and the poison mark that each port's last access returned, in the order of R181: the model's own -/
  results : List (Nat × Bool) := []
deriving DecidableEq, Repr

/-! ## Fabric (chapter 07) -/

/-- A packet on a link or in an input buffer: the router (0–135 request network, 136–271 reply network; the blocks
first, then the eight nodes) and its input port. -/
structure Flit where
  router : Nat
  port : Nat
  pkt : Packet
  /-- failed checks so far (R208) -/
  tries : Nat := 0
  /-- Traverse port chosen by the chip route lookup (R229) -/
  trv : Option Nat := none
  /-- whole frames waited at this router (R217, R218) -/
  wait : Nat := 0
  /-- router and input port that it left, for the copy that the sender keeps (R208) -/
  fromRouter : Nat := 0
  fromPort : Nat := 0
deriving DecidableEq, Repr

/-- A spike record on the spike link of its cell's block (R221). -/
structure Spike where
  cell : Nat
  first : Nat
  count : Nat
  graded : Option W16
  off : W16
  step : Nat
deriving DecidableEq, Repr

/-- A chain that a region's route engine follows (R222). -/
structure Chain where
  region : Nat
  next : Nat
  left : Nat
  graded : Option W16
  off : W16
  step : Nat
  /-- packet under assembly: chip, block and words so far (R224) -/
  chip : Nat := 0
  block : Nat := 0
  binary : Bool := true
  words : List W32 := []
deriving DecidableEq, Repr

/-- A posted write of a route, gate, channel or chip route window (R226, R241). -/
inductive RoutePost where
  | word (key : Nat) (v : W32)
  | release (region idx : Nat)
  | gate (key : Nat) (v : W32)
  /-- the three words of a route entry that ROUTE_INSERT writes, as one posted write -/
  | entry (key : Nat) (w0 w1 w2 : W32)
deriving DecidableEq, Repr

structure FabricState where
  links : List Flit := []
  bufs : List Flit := []
  /-- next input port of the rotating MNT order, at router × 16 + output (R213) -/
  mnt : Store Nat := []
  /-- packets handed to a block, and to the units at a node -/
  blockIn : List (Nat × Packet) := []
  unitIn : List (Nat × Packet) := []
  spikes : List Spike := []
  chains : List Chain := []
  /-- posted writes with their region, 8 for the chip route table -/
  posts : List (Nat × RoutePost) := []
  /-- route entries taken off the free list and not in use, region × 2¹⁸ + index (R227) -/
  taken : List Nat := []
  /-- packets whose events a block hands over one by one, with the words that are left -/
  opened : List (Nat × Packet) := []
  /-- packets handed to a Traverse port, oldest first -/
  trvTx : List (Nat × Packet) := []
deriving DecidableEq, Repr

/-! ## Messages (chapter 08) -/

/-- A message outstanding at a send engine (R245, R246, R248). -/
structure Outstanding where
  packet : Packet
  tag : Nat
  handler : Nat
  chip : Nat
  dest : Nat
  notify : Bool
  tries : Nat := 0
  sentAt : Nat
  /-- the engine waits until this time to send its copy again -/
  backoff : Option Nat := none
deriving DecidableEq, Repr

/-- A completion entry (R258). -/
structure Completion where
  lo : W32
  hi : W32
  data : List W32
deriving DecidableEq, Repr

structure Engine where
  out : List Outstanding := []
  cq : List Completion := []
  rx : List Packet := []
deriving DecidableEq, Repr

/-! ## Learning (chapter 09) -/

/-- A region's sweeper (R279–R281). -/
structure Sweeper where
  busy : Bool := false
  /-- a pass fell due while another ran (R280) -/
  due : Bool := false
  /-- list entry and row in progress -/
  entry : Nat := 0
  row : Nat := 0
  /-- step in which the pass began -/
  began : Nat := 0
  /-- epoch in which the pass began -/
  epoch : Nat := 0
  /-- one more than the epoch in which the last completed pass began; 0 for none (R282) -/
  done : Nat := 0
deriving DecidableEq, Repr

/-- A checkpoint being written (R286): the state at the closing summit. -/
structure Checkpoint where
  buf : Nat
  epoch : Nat
  step : Nat
  neurons : Store Neuron
  /-- learning registers of each cell at that summit, key cell × 8 + index in the slot's layout (R287) -/
  learn : Store W32
deriving DecidableEq, Repr

structure LearnState where
  /-- `LRN_EPOCH_LEN` in force: a write takes effect at the next close (R266) -/
  len : Nat := 1000
  sweepers : Store Sweeper := []
  ckpt : Option Checkpoint := none
  /-- posted writes of rule parameter sets: word offset and value (R269) -/
  posts : List (Nat × W32) := []
  /-- the closing summit is withheld for a sweeper (R282) -/
  waited : Bool := false
deriving DecidableEq, Repr

/-! ## Interrupts and mailboxes (chapter 15) -/

structure PicState where
  /-- sources whose PEND bit has been set by an edge or by software (R475, R488) -/
  pend : List Nat := []
  /-- LEVEL sources whose PEND software has set (R488) -/
  soft : List Nat := []
  /-- open claims, the latest first: context, source, and the running level that the claim gave (R480–R482) -/
  claims : List (Nat × Nat × Nat) := []
  /-- one more than the elapsed time of the last claim of a source; 0 for none (R486) -/
  lastClaim : Store Nat := []
  /-- sources whose moderation a wait-for-interrupt state has bypassed (R487) -/
  bypass : List Nat := []
  /-- contexts 0–19 whose core waits for an interrupt (R487) -/
  wfi : List Nat := []
  /-- wake latches that are set (R490) -/
  latches : List Nat := []
deriving DecidableEq, Repr

/-! ## Faults, freeze and recovery (chapter 19) -/

/-- An error record waiting for the ring writer (R570, R571). -/
structure ErrRecord where
  level : Nat
  cls : Nat
  esc : Bool
  inj : Bool
  code : Nat
  unit : W32
  addr : Nat
deriving DecidableEq, Repr

/-- An entry of a block's migration buffer (R576). -/
structure MigEntry where
  pkt : Packet
deriving DecidableEq, Repr

/-- A fenced cell waiting for its migration (R576, R577). -/
structure Migration where
  cell : Nat
  fenced : Nat
  buffer : List MigEntry := []
  /-- the summit has come and the block copies the cell -/
  copying : Bool := false
deriving DecidableEq, Repr

structure FaultState where
  records : List ErrRecord := []
  /-- fenced cells by block -/
  migrations : List (Nat × Migration) := []
  /-- sites known bad: site and SRC of R566, in the order of entry (R558) -/
  siteList : List (Nat × Nat) := []
  /-- sites that have failed since the last reset and found the list full -/
  unlisted : List Nat := []
  /-- elapsed time at which recovery began -/
  recoverAt : Nat := 0
  /-- FATAL record's UNIT that began the recovery (R589) -/
  recoverUnit : W32 := 0
  /-- the chip has read READY since power-on (R591) -/
  readySeen : Bool := false
deriving DecidableEq, Repr

/-! ## Plateau arrays (chapter 10) -/

/-- A job of the step program or of the detached ring. -/
structure PltJob where
  /-- true for the detached ring -/
  ring : Bool
  /-- position of its descriptor in its program or ring (R305) -/
  index : Nat
  /-- the 16 words of its descriptor (R306) -/
  words : List W32
  /-- the step that a step-program job is bound to, and the elapsed time of that step's tick -/
  step : Nat
  tick : Nat
  /-- names its DRAM requests -/
  id : Nat
  /-- regions whose UPDATE_DONE of its step came before a later tick (R311, R313) -/
  seen : List Nat := []
  /-- status with which it will end, once known (R305) -/
  status : Option Nat := none
deriving DecidableEq, Repr

structure PltState where
  /-- step-program jobs that have not started, in order (R300, R313) -/
  program : List PltJob := []
  /-- the job in progress -/
  job : Option PltJob := none
  /-- the detached job that the step program has preempted (R303) -/
  held : Option PltJob := none
  /-- `ABORT_DT` waits for the next preemption point (R303) -/
  abort : Bool := false
  /-- detached jobs that have ended: the model's own -/
  ended : Nat := 0
deriving DecidableEq, Repr


/-! ## Signal ingress, encoders and event sensors (chapter 11) -/

/-- A decimated sample that waits for its encoder: I, Q and the invalid input samples that it holds (R333). -/
structure DecSample where
  i : Int
  q : Int
  bad : Nat
deriving DecidableEq, Repr

/-- An event of an encoder channel that awaits injection (R341). -/
structure EncEvent where
  /-- sample time, and the number of the sample whose events are packed together -/
  t : Int
  group : Nat
  chip : Nat
  binary : Bool
  word : W32
  value : W16
deriving DecidableEq, Repr

/-- An encoder channel beside its registers. -/
structure EncState where
  /-- the next decimated sample sets the mode state (R340) -/
  first : Bool := true
  /-- NCO phase (R335) -/
  phase : Nat := 0
  /-- integrators and combs of the CIC for I and for Q (R336) -/
  intI : List Int := [0, 0, 0, 0, 0]
  intQ : List Int := [0, 0, 0, 0, 0]
  combI : List Int := [0, 0, 0, 0, 0]
  combQ : List Int := [0, 0, 0, 0, 0]
  /-- input samples since the last output of the CIC, and outputs of the CIC since the last decimated sample -/
  cnt : Nat := 0
  half : Nat := 0
  /-- invalid input samples since the last decimated sample -/
  bad : Nat := 0
  /-- last valid input sample (R333) -/
  last : Int × Int := (0, 0)
  samples : List DecSample := []
  /-- mode state of R339 -/
  lvl : Nat := 0
  ref : Int := 0
  pos : Bool := false
  x1 : Int := 0
  x2 : Int := 0
  t1 : Int := 0
  hold : Nat := 0
  armed : Bool := false
  /-- number of the current sample -/
  group : Nat := 0
  events : List EncEvent := []
  /-- posted writes: offset and word (R342) -/
  posts : List (Nat × W32) := []
  /-- the block in progress: points written, sequence number, time and step of its first sample, invalid samples (R344) -/
  blkPos : Nat := 0
  blkSeq : Nat := 0
  blkTime : Int := 0
  blkStep : Nat := 0
  blkBad : Nat := 0
  /-- sequence numbers of written blocks whose completion is outstanding (R346) -/
  done : List Nat := []
  /-- by slot: detached jobs that must have ended before the slot's block has been read (R346) -/
  slots : Store Nat := []
deriving DecidableEq, Repr

/-- Anchors of a virtual channel of a CSI-2 receiver (R349). -/
structure CsiAnchor where
  start : Option Nat := none
  ts0 : Option Nat := none
  timeHi : Nat := 0
deriving DecidableEq, Repr

/-- A sensor event that waits at a receiver, or for its map line (R351). -/
structure SensorEvent where
  /-- 0–3 the CSI-2 receivers, 4 and 5 the AER ports -/
  src : Nat
  map : Nat
  x : Nat
  y : Nat
  p : Nat
  /-- sample time; none where no anchor gives one -/
  t : Option Int
deriving DecidableEq, Repr

/-- A word of an AER port with the time of its edge (R350). -/
structure AerWord where
  port : Nat
  word : W32
  t : Nat
deriving DecidableEq, Repr

/-- A lookup that waits for its line from DRAM (R353). -/
structure MapMiss where
  id : Nat
  /-- DRAM offset of the entry -/
  addr : Nat
  ev : SensorEvent
deriving DecidableEq, Repr

structure IngressState where
  /-- links whose LEMC an accepted SYSREF edge has aligned (R330, R331) -/
  lemc : List Nat := []
  enc : Store EncState := []
  /-- anchors at receiver × 16 + virtual channel -/
  anchors : Store CsiAnchor := []
  events : List SensorEvent := []
  aer : List AerWord := []
  /-- words whose acknowledge is withheld (R350) -/
  aerHeld : List AerWord := []
  /-- ports whose AER_ACK is high -/
  aerAck : List Nat := []
  misses : List MapMiss := []
  /-- cached map lines: DRAM offset and the 64 bytes as a number (R353) -/
  cache : List (Nat × Nat) := []
deriving DecidableEq, Repr


/-! ## Traverse links and the summit tree (chapter 12) -/

/-- A sequenced frame that its sender keeps until it is acknowledged (R377): 64 words without the control word. -/
structure TrvFrame where
  ctrl : Bool
  seq : Nat
  words : List W32
deriving DecidableEq, Repr

/-- A Traverse port beside its registers. -/
structure TrvPort where
  /-- stage of training: 0 none, 1 DETECT, 2 EQ, 3 LANE_TEST, 4 WIDTH (R365) -/
  stage : Nat := 0
  /-- the training under way uses stored coefficients, and the port has stored ones (R367) -/
  stored : Bool := false
  coefs : Bool := false
  /-- elapsed time at which the port fell to DOWN (R365) -/
  downAt : Nat := 0
  /-- sequence number of the next new frame, and of the next frame expected (R373) -/
  txSeq : Nat := 0
  rxSeq : Nat := 0
  /-- unacknowledged frames, oldest first, and those of them that are to be sent again (R377) -/
  replay : List TrvFrame := []
  resend : List TrvFrame := []
  /-- time of the last request for the expected frame, and how often it has been requested (R377, R378) -/
  want : Option (Nat × Nat) := none
  /-- the next frame carries RPL -/
  rplDue : Bool := false
  /-- frames sent again in the window of R370 -/
  replays : Nat := 0
  /-- next slot of the plan (R379), and the network whose turn an MNT packet of a passed slot is -/
  slot : Nat := 0
  mntReply : Bool := false
  /-- time towards the next frame, in ps (R362) -/
  acc : Nat := 0
  /-- credits in use, packets received, and of these the ones whose credit has been returned, at network × 4 + VC (R376) -/
  used : Store Nat := []
  got : Store Nat := []
  gave : Store Nat := []
  /-- control messages that wait: CTRL, and CTRL_U with its kind (R374) -/
  ctrlQ : List (List W32) := []
  ctrluQ : List (Nat × List W32) := []
  /-- received SUMMIT, TICK and FREEZE packets with the time of arrival, and remote requests for this chip -/
  summitIn : List (Nat × Packet) := []
  remoteIn : List Packet := []
  /-- the last frame on the lanes -/
  out : List W32 := []
deriving DecidableEq, Repr

/-- A remote access that is outstanding (R406, R408). -/
structure Remote where
  tag : Nat
  req : Requester
  write : Bool
  /-- first byte within its 64-byte line, and bytes -/
  first : Nat
  bytes : Nat
  /-- granules still to come, and those that have: index and number -/
  left : Nat
  data : List (Nat × Nat) := []
  sentAt : Nat
deriving DecidableEq, Repr

/-- The summit tree and the group (R383–R400). -/
structure TreeState where
  /-- number of the wave in progress modulo 16, and its step: the PROBE to answer, or the root's own wave -/
  wave : Nat := 0
  probe : Option (Nat × Nat) := none
  /-- tokens of the wave: child port, injected, consumed, members -/
  tokens : List (Nat × Nat × Nat × Nat) := []
  /-- ticks at which a child has had a PROBE outstanding, by port (R394) -/
  missed : Store Nat := []
  /-- the parent has been heard since the last tick; ticks without it, and with its port out of every UP state (R397) -/
  heard : Bool := false
  silent : Nat := 0
  fallen : Nat := 0
  /-- joins to record at the next release: joiner and partner (R390) -/
  grants : List (Nat × Nat) := []
  /-- chips to mark ABSENT at the next release (R394) -/
  notices : List Nat := []
  /-- at the root: requests that wait for a join boundary (R389) -/
  waiting : List (Nat × Nat) := []
  /-- at a partner: port and chip ID of the joiners whose request is under way (R389) -/
  asked : List (Nat × Nat) := []
  /-- a declaration has been made for the open step (R395) -/
  relaxed : Bool := false
  /-- the chip has joined and has not had its first tick (R391) -/
  joining : Bool := false
  /-- at a joiner: time of the JOIN_REQ, the words of the JOIN_ACK, and the MTABLE frames that have arrived -/
  reqAt : Nat := 0
  ack : Option (List W32) := none
  mtable : List Nat := []
  /-- time of the last grant: under STRETCH the tick master holds the tick until 5,000 ns after it (R389) -/
  grantAt : Option Nat := none
deriving DecidableEq, Repr

structure TrvState where
  ports : Store TrvPort := []
  tree : TreeState := {}
  remote : List Remote := []
  /-- tag of the next remote access -/
  tag : Nat := 0
deriving DecidableEq, Repr


/-! ## Host Ethernet and the Umhoma protocol (chapter 13) -/

/-- The identity of a requester (R425): form 0 raw, 4 IPv4, 6 IPv6. -/
structure UmhPeer where
  form : Nat
  mac : Nat
  vid : Nat
  addr : Nat
  udp : Nat
deriving DecidableEq, Repr

/-- A Umhoma request (R422), with how many items of a register request RFG1 has applied and what they read (R428). -/
structure UmhReq where
  peer : UmhPeer
  words : List W32
  payload : List Byte
  done : Nat := 0
  data : List Byte := []
deriving DecidableEq, Repr

/-- An event that awaits injection at a port (R431); no step: the oldest without a summit when it is built in. -/
structure InjEvent where
  step : Option Nat
  chip : Nat
  binary : Bool
  words : List W32
deriving DecidableEq, Repr

/-- What a port sends: a Umhoma frame from its header on, a raw frame, or an answer of the hardware to ARP (0), neighbour
solicitation (1) or echo (2) with the frame that it answers (R421). -/
inductive EthOut where
  | umhoma (port : Nat) (peer : UmhPeer) (bytes : List Byte)
  | raw (port : Nat) (frame : List Byte)
  | answer (port kind : Nat) (request : List Byte)
deriving DecidableEq, Repr

structure EthPort where
  /-- requests that wait for their service, oldest first -/
  reqs : List UmhReq := []
  /-- REQ_ID and frames of the last 64 answers of the session (R430) -/
  kept : List (Nat × List (List Byte)) := []
  inject : List InjEvent := []
  /-- two-step captures: sequenceId and time (R420) -/
  captures : List (Nat × Nat) := []
deriving DecidableEq, Repr

/-- A stream engine beside its registers. -/
structure SeState where
  /-- step and FORCED flag of the buffer to send (R432) -/
  due : Option (Nat × Bool) := none
  /-- number of its next frame -/
  num : Nat := 0
deriving DecidableEq, Repr

/-- A NOTIFY frame that has not been echoed (R435). -/
structure Notify where
  id : Nat
  sources : List Nat
  sentAt : Nat
deriving DecidableEq, Repr

structure EthState where
  ports : Store EthPort := []
  /-- stream engine e of port p at 8 p + e -/
  engines : Store SeState := []
  owner : Option UmhPeer := none
  /-- elapsed time of the owner's last request (R426) -/
  lastReq : Nat := 0
  notifies : List Notify := []
  notifyNum : Nat := 0
  /-- sources claimed for the host and not yet sent (R435) -/
  unsent : List Nat := []
  /-- the frames that the last command sent: the model's own -/
  out : List EthOut := []
deriving DecidableEq, Repr

/-! ## Crest and Refuge cores (chapter 14) -/

/-- A Crest core beside its registers: its watchdog (R449). -/
structure CrestState where
  /-- elapsed time at which the running period began -/
  began : Nat := 0
  /-- expiries since the last kick: 0 the first period runs, 1 the second, 2 none -/
  expired : Nat := 0
  /-- the machine timer interrupt is raised (R446) -/
  mtip : Bool := false
deriving DecidableEq, Repr

/-- A Refuge core beside its registers (R457, R461). -/
structure RefugeState where
  lastKick : Nat := 0
  /-- stage of its restart: 0 none, 2 copying, 3 digest, 4 kernel start-up -/
  stage : Nat := 0
  began : Nat := 0
  /-- times of its automatic restarts (R461) -/
  autos : List Nat := []
deriving DecidableEq, Repr

structure ProcState where
  crests : Store CrestState := []
  refuges : Store RefugeState := []
  /-- pushes that their ring has not written: core and ID (R463, R464) -/
  pushes : List (Nat × Nat) := []
  /-- pushes lost since the last entry 1,023, by core (R464) -/
  lost : Store Nat := []
deriving DecidableEq, Repr


/-! ## Timers (chapter 16) -/

/-- The general timers and trigger pins beside their registers. -/
structure TmrState where
  /-- prescaler cycles of each timer -/
  presc : Store Nat := []
  /-- events that have come due: timer × 8 + event, 0–3 a match of the channel and 4 WRAP (R502, R507) -/
  due : List Nat := []
  /-- link actions for the next cycle: target and action (R512) -/
  acts : List (Nat × Nat) := []
  /-- second capture buffers, at timer × 4 + channel (R516) -/
  second : Store Nat := []
  /-- edges counted since the last capture or write of the configuration (R515) -/
  edges : Store Nat := []
  /-- channels whose output state is 1 (R510) -/
  outs : List Nat := []
  /-- timers that have run or been loaded since reset (R506) -/
  used : List Nat := []
deriving DecidableEq, Repr



/-! ## Reset and bring-up (chapter 18) -/

/-- The path to READY that is under way (R545). -/
inductive BootPath where
  | none
  | cold
  | wake
  | warm
deriving DecidableEq, Repr

/-- What the boot ROM, Bedrock and the always-on domain hold about a start. -/
structure BootState where
  path : BootPath := .none
  /-- the known-answer run of this start has ended, or the path has none (R549, R564, R565) -/
  proven : Bool := false
  /-- elapsed time of the reset release (R680) -/
  released : Nat := 0
  /-- next entry of the boot directory, and the size of the image in staging, 0 for none (R551, R553) -/
  entry : Nat := 0
  size : Nat := 0
  /-- the image to be verified came from the host (R553) -/
  host : Bool := false
  /-- SHA-512 of the image store, kept for the warm path (R555) -/
  digest : Option (BitVec 512) := none
  /-- KEY_SLOT and SEC_VERSION of the running image (R554, R639) -/
  running : Option (Nat × Nat) := none
deriving DecidableEq, Repr

/-! ## Power, clocks and wear (chapters 20, 22) -/

/-- The power controller, the clock controller and the supply pins, beside their registers. -/
structure PowerState where
  /-- a request that waits for RFG0's restart: TARGET of `PWR_REQ` (R603) -/
  held : Option Nat := none
  /-- target and time of the request of the entry under way (R604) -/
  entry : Option (Nat × Nat) := none
  /-- levels of `WAKE0`–`WAKE3` -/
  pins : Nat := 0
  /-- a wake from SLEEP waits for `PG_MAIN` (R661) -/
  waitMain : Bool := false
  /-- `CLK_DSRC` by domain (R615) -/
  domains : Store W32 := []
  /-- PLLs that an entry has stopped and software has not asked to lock since (R604, R607) -/
  pllOff : List Nat := []
  /-- elapsed time of the last rise of the throttle level, and since when it has been below 102.0 °C (R617) -/
  raised : Nat := 0
  coolSince : Option Nat := none
  /-- elapsed time of the last step of `PWR_VID.CODE` (R674) -/
  vidAt : Nat := 0
  /-- regions, blocks and Plateau arrays are gated: from the end of an entry until `PWR_REQ` RUN takes effect (R604, R607) -/
  gated : Bool := false
  /-- the always-on timer has reached its compare value (R606) -/
  timerHigh : Bool := false
  /-- ns at a throttle level above 0 that do not yet make a µs (R617) -/
  throtNs : Nat := 0
deriving DecidableEq, Repr

/-- A sample of a monitor: powered ns and degradation index (R620). -/
structure ScreeSample where
  time : Nat
  d : Nat
deriving DecidableEq, Repr

/-- The Scree state in the always-on domain (R619–R625). -/
structure ScreeState where
  /-- powered time in ns less `STP_ELAPSED_NS` (R622) -/
  base : Nat := 0
  /-- history of each of the 297 instances, newest first -/
  history : Store (List ScreeSample) := []
  /-- ns at a throttle level above 0: the throttle hours of every instance (R623) -/
  throttle : Nat := 0
  /-- powered ns at which the history begins -/
  since : Nat := 0
  /-- elapsed time of the last sample -/
  sampled : Nat := 0
  /-- lowest and highest `PWR_TJ` since the last counted swing -/
  low : Nat := 0
  high : Nat := 0
  exports : Nat := 0
deriving DecidableEq, Repr

/-! ## Bedrock security (chapter 21) -/

/-- A verification under way (R633): the object as it stood when it began, its place and its use. -/
structure Verification where
  addr : Nat
  size : Nat
  use : Nat
  bytes : List Byte
deriving DecidableEq, Repr

structure SecState where
  /-- OTP bits burned since manufacture, by word (R635) -/
  burned : Store W32 := []
  /-- OTP bits that the command under way burns, in order (R636, R640) -/
  otp : Option (List Nat) := none
  verify : Option Verification := none
  /-- a range change that waits for its clearing: range, BASE and LIMIT (R646) -/
  drange : Option (Nat × Nat × Nat) := none
  /-- consecutive failures of the health tests (R652) -/
  strikes : Nat := 0
  /-- token words written (R648) -/
  token : List W32 := []
  /-- the challenge has not served an attempt (R648) -/
  challenge : Bool := false
  /-- an image has been loaded since the digest of the last was cleared (R634, R642) -/
  yunasil : Bool := false
deriving DecidableEq, Repr


/-- Why the machine would stop with a fault. Every rule of the spec that reports an error gives the state that follows
it, so no command ends in a fault: the type has no constructor. -/
inductive Fault where
deriving DecidableEq, Repr

/-- Why a command is refused. -/
inductive Refusal where
  /-- Raised by the dispatcher alone, for a command that has no meaning yet; safe, since nothing follows from it. -/
  | notModelled (mnemonic : String)
deriving DecidableEq, Repr

/-- The state of the chip. (DESIGN CHOICE, log 6) -/
structure State where
  grade : Grade := .xa
  /-- commands that wait, first in first out -/
  pending : List Instr := []
  /-- `STP_ELAPSED_NS` (R73) -/
  elapsed : Nat := 0
  /-- the model's own: number of the next free value -/
  fresh : Nat := 0
  /-- registers that differ from their reset value, at page × 4096 + offset -/
  regs : Store W32 := []
  /-- bytes that differ from zero, by physical address (R525) -/
  mem : List Host.Cell := []
  /-- poisoned units, by their first address: 64-byte beats of DRAM, 64-bit words of SRAM (R168, R178, R297) -/
  poison : List Nat := []
  /-- the value and the poison mark that the last read returned, and to whom: the model's own -/
  rdata : Nat := 0
  rpoison : Bool := false
  /-- held low words of 64-bit registers: requester, register, value (R527) -/
  heldLow : List (Requester × Nat × W32) := []
  /-- latched high words (R527) -/
  latchedHigh : List (Requester × Nat × W32) := []
  step : StepState := {}
  cells : CellsState := {}
  dram : DramState := {}
  tarn : TarnState := {}
  fabric : FabricState := {}
  engines : Store Engine := []
  learn : LearnState := {}
  pic : PicState := {}
  plts : Store PltState := []
  ingress : IngressState := {}
  trv : TrvState := {}
  eth : EthState := {}
  proc : ProcState := {}
  tmr : TmrState := {}
  fault : FaultState := {}
  boot : BootState := {}
  power : PowerState := {}
  scree : ScreeState := {}
  sec : SecState := {}
deriving DecidableEq, Repr

/-- The chip as it comes out of reset: every register at its reset value, every table empty. (DESIGN CHOICE, log 7) -/
def State.reset : State := {}

end Sys2Proof.Machine
end

