-- ==== Sys2Proof/Machine/Ops.lean ====
section
/-! DEFINITION. The named operations over stores, registers and memory, which every meaning is built from. -/
namespace Sys2Proof.Machine
open Sys2Proof

/-! ## Sparse stores -/

/-- The value at key `k`: `d k` where the store does not list it. -/
def Store.get (d : Nat → α) (m : Store α) (k : Nat) : α :=
  match m with
  | [] => d k
  | (a, v) :: m => if a = k then v else Store.get d m k

/-- The store without key `k`. -/
def Store.erase (m : Store α) (k : Nat) : Store α := m.filter (fun p => p.1 != k)

/-- The store with (k, v) put before the first key above `k`. -/
def Store.insert (m : Store α) (k : Nat) (v : α) : Store α :=
  match m with
  | [] => [(k, v)]
  | (a, w) :: m => if k < a then (k, v) :: (a, w) :: m else (a, w) :: Store.insert m k v

/-- Write `v` at `k`; what an unlisted key reads as is not listed. (DESIGN CHOICE, log 14) -/
def Store.set [DecidableEq α] (d : Nat → α) (m : Store α) (k : Nat) (v : α) : Store α :=
  if v = d k then Store.erase m k else Store.insert (Store.erase m k) k v

/-- Change the value at `k`. -/
def Store.upd [DecidableEq α] (d : Nat → α) (m : Store α) (k : Nat) (f : α → α) : Store α :=
  Store.set d m k (f (Store.get d m k))

/-- The listed value at `k`, if any. -/
def Store.find (m : Store α) (k : Nat) : Option α := (m.find? (fun p => p.1 == k)).map (·.2)

/-- Write `v` at `k` of a store whose unlisted keys hold nothing. -/
def Store.put (m : Store α) (k : Nat) (v : α) : Store α := Store.insert (Store.erase m k) k v

/-- Keys strictly rising. -/
def Store.sorted (m : Store α) : Bool :=
  match m with
  | [] => true
  | (a, _) :: m => m.all (fun p => decide (a < p.1)) && Store.sorted m

/-- The canonical form of a store: rising keys, no entry equal to what an unlisted key reads as. -/
def Store.wf [DecidableEq α] (d : Nat → α) (m : Store α) : Bool :=
  Store.sorted m && m.all (fun p => decide (p.2 ≠ d p.1))

/-- A store of numbers that read zero where nothing is listed. -/
def numAt (m : Store Nat) (k : Nat) : Nat := Store.get (fun _ => 0) m k
def setNum (m : Store Nat) (k v : Nat) : Store Nat := Store.set (fun _ => 0) m k v
def addNum (m : Store Nat) (k n : Nat) : Store Nat := setNum m k (numAt m k + n)

/-! ## Sets of numbers, as rising lists -/

/-- `x` put into a rising list. -/
def setIns (l : List Nat) (x : Nat) : List Nat :=
  match l with
  | [] => [x]
  | a :: l => if x < a then x :: a :: l else if x = a then a :: l else a :: setIns l x

def setDel (l : List Nat) (x : Nat) : List Nat := l.filter (· != x)

/-! ## Register pages -/

/-- The kinds of register page (R544). -/
inductive PageKind where
  | chp | pwr | clk | scr | frz | dbg | bdr | otp | stp | sum | lrnChip | drmDie | rteChip | fabNode
  | crsCore | plt | crsCluster | rfgCommon | crn | rfgCore | ing | evcRx | evcMap | aer | chnEngine
  | tmr | tmrCommon | crc | col | enc | trvPort | trvCommon | memberWindow | ethPort | ethUmh
  | picSrc | picCtl | picPend | rgn | rteRegion | gat | chnRegion | lrnRegion | drmSlice | tar
  | blk | blkSnap | fabBlock | cel | routeWindow | chipRouteWindow | gateWindow | channelWindow
  | reserved
deriving DecidableEq, Repr

/-- Page numbers (R528, R544). -/
def Page.region (r : Nat) : Nat := 0x100 + 0x100 * r
def Page.block (b : Nat) : Nat := 0x1000 + 16 * b
def Page.site (s : Nat) : Nat := 0x10000 + s
def Page.slice (g : Nat) : Nat := Page.region (g / 16) + 0x20 + g % 16
def Page.bank (b : Nat) : Nat := Page.region (b / 16) + 0x40 + b % 16
def Page.die (d : Nat) : Nat := 0x18 + d
def Page.engine (s : Nat) : Nat := 0x60 + s
def Page.plt (k : Nat) : Nat := 0x40 + k
abbrev Page.chp : Nat := 0x0
abbrev Page.pwr : Nat := 0x1
abbrev Page.clk : Nat := 0x2
abbrev Page.scr : Nat := 0x3
abbrev Page.frz : Nat := 0x4
abbrev Page.dbg : Nat := 0x5
abbrev Page.bdr : Nat := 0x6
abbrev Page.otp : Nat := 0x7
abbrev Page.stp : Nat := 0x10
abbrev Page.sum : Nat := 0x11
abbrev Page.lrn : Nat := 0x14
abbrev Page.rteChip : Nat := 0x1A
abbrev Page.picCtl : Nat := 0xF0
abbrev Page.picPend : Nat := 0xF1

/-- The model's own: the page on which the registers, profiles and numeric block of a logical cell lie, which the
page of the site that the cell is mapped to shows (R13, R110, R112, R113, R263). -/
def Page.cell (c : Nat) : Nat := 0x100000 + c

/-- The kind of the pages of a region (R544). -/
def regionPageKind (o : Nat) : PageKind :=
  if o = 0 then .rgn
  else if o = 0x08 then .rteRegion
  else if o = 0x09 then .gat
  else if o = 0x0A then .chnRegion
  else if o = 0x0B then .lrnRegion
  else if 0x20 ≤ o ∧ o < 0x30 then .drmSlice
  else if 0x40 ≤ o ∧ o < 0x50 then .tar
  else .reserved

/-- The kind of the pages of a chip unit (R544). -/
def chipPageKind (p : Nat) : PageKind :=
  if p = 0x00 then .chp else if p = 0x01 then .pwr else if p = 0x02 then .clk else if p = 0x03 then .scr
  else if p = 0x04 then .frz else if p = 0x05 then .dbg else if p = 0x06 then .bdr else if p = 0x07 then .otp
  else if p = 0x10 then .stp else if p = 0x11 then .sum else if p = 0x14 then .lrnChip
  else if p = 0x18 ∨ p = 0x19 then .drmDie else if p = 0x1A then .rteChip
  else if 0x20 ≤ p ∧ p < 0x30 then .fabNode else if 0x30 ≤ p ∧ p < 0x40 then .crsCore
  else if 0x40 ≤ p ∧ p < 0x44 then .plt else if p = 0x44 then .crsCluster else if p = 0x45 then .rfgCommon
  else if p = 0x46 then .crn else if 0x48 ≤ p ∧ p < 0x4C then .rfgCore else if p = 0x50 then .ing
  else if 0x54 ≤ p ∧ p < 0x58 then .evcRx else if p = 0x58 then .evcMap else if p = 0x5A ∨ p = 0x5B then .aer
  else if 0x60 ≤ p ∧ p < 0x74 then .chnEngine else if 0x74 ≤ p ∧ p < 0x78 then .tmr
  else if p = 0x78 then .tmrCommon else if p = 0x79 then .crc else if 0x7C ≤ p ∧ p < 0x80 then .col
  else if 0x80 ≤ p ∧ p < 0xC0 then .enc else if 0xC0 ≤ p ∧ p < 0xD0 then .trvPort else if p = 0xD0 then .trvCommon
  else if p = 0xD1 ∨ p = 0xD2 then .memberWindow else if 0xE0 ≤ p ∧ p < 0xE4 then .ethPort
  else if p = 0xE4 then .ethUmh else if 0xE8 ≤ p ∧ p < 0xF0 then .picSrc else if p = 0xF0 then .picCtl
  else if p = 0xF1 then .picPend else .reserved

/-- The kind of a page by its number (R528, R530, R544); what no row names is reserved (R529). -/
def pageKind (p : Nat) : PageKind :=
  if p < 0x100 then chipPageKind p
  else if p < 0x900 then regionPageKind ((p - 0x100) % 0x100)
  else if p < 0x1000 then .reserved
  else if p < 0x1800 then
    (if p % 16 = 0 then .blk else if p % 16 = 1 then .blkSnap else if p % 16 = 2 then .fabBlock else .reserved)
  else if p < 0x10000 then .reserved
  else if p < 0x10880 then .cel
  else if p < 0x20000 then .reserved
  else if p < 0x22000 then .routeWindow
  else if p < 0x22008 then .chipRouteWindow
  else if p < 0x22100 then .reserved
  else if p < 0x22120 then .gateWindow
  else if p < 0x22200 then .reserved
  else if p < 0x22240 then .channelWindow
  else if 0x100000 ≤ p ∧ p < 0x100800 then .cel
  else .reserved

/-- Window pages carry no common header (R530). -/
def PageKind.window : PageKind → Bool
  | .memberWindow | .routeWindow | .chipRouteWindow | .gateWindow | .channelWindow => true
  | _ => false

/-- Type code, major and minor of `PG_ID` (R544). -/
def unitType : PageKind → Nat
  | .chp => 0x01 | .pwr => 0x02 | .clk => 0x03 | .scr => 0x04 | .frz => 0x05 | .dbg => 0x06 | .bdr => 0x07
  | .otp => 0x08 | .stp => 0x10 | .sum => 0x11 | .lrnChip => 0x12 | .lrnRegion => 0x13 | .drmDie => 0x14
  | .drmSlice => 0x15 | .fabNode => 0x16 | .fabBlock => 0x17 | .rteChip => 0x18 | .rteRegion => 0x19
  | .crsCore => 0x1A | .crsCluster => 0x1B | .plt => 0x1C | .rfgCommon => 0x1D | .rfgCore => 0x1E | .crn => 0x1F
  | .ing => 0x20 | .evcRx => 0x21 | .evcMap => 0x22 | .aer => 0x23 | .chnEngine => 0x24 | .chnRegion => 0x25
  | .tmr => 0x26 | .tmrCommon => 0x27 | .crc => 0x28 | .col => 0x29 | .enc => 0x2A | .trvPort => 0x2B
  | .trvCommon => 0x2C | .ethPort => 0x2E | .ethUmh => 0x2F | .picSrc => 0x30 | .picCtl => 0x31 | .picPend => 0x32
  | .rgn => 0x33 | .gat => 0x34 | .tar => 0x35 | .blk => 0x36 | .blkSnap => 0x36 | .cel => 0x37
  | .memberWindow | .routeWindow | .chipRouteWindow | .gateWindow | .channelWindow | .reserved => 0

/-- Instance major and minor of a page (R544). -/
def unitInstance (p : Nat) : Nat × Nat :=
  match pageKind p with
  | .drmDie => (0, p - 0x18)
  | .fabNode => ((p - 0x20) / 2, (p - 0x20) % 2)
  | .crsCore => (0, p - 0x30)
  | .plt => (0, p - 0x40)
  | .rfgCore => (0, p - 0x48)
  | .evcRx => (0, p - 0x54)
  | .aer => (0, p - 0x5A)
  | .chnEngine => (0, p - 0x60)
  | .tmr => (0, p - 0x74)
  | .col => (0, p - 0x7C)
  | .enc => (0, p - 0x80)
  | .trvPort => (0, p - 0xC0)
  | .ethPort => (0, p - 0xE0)
  | .picSrc => (0, p - 0xE8)
  | .rgn | .rteRegion | .gat | .chnRegion | .lrnRegion => ((p - 0x100) / 0x100, 0)
  | .drmSlice => ((p - 0x100) / 0x100, (p - 0x100) % 0x100 - 0x20)
  | .tar => ((p - 0x100) / 0x100, (p - 0x100) % 0x100 - 0x40)
  | .blk | .fabBlock => ((p - 0x1000) / 256, (p - 0x1000) / 16 % 16)
  | .blkSnap => ((p - 0x1000) / 256, (p - 0x1000) / 16 % 16 + 128)
  | .cel => ((p - 0x10000) / 17, (p - 0x10000) % 17)
  | _ => (0, 0)

/-- `PG_ID` of a page of a unit that is present (R531, R544). -/
def pageId (p : Nat) : W32 :=
  BitVec.ofNat 32 (unitType (pageKind p) * 65536 + (unitInstance p).1 * 256 + (unitInstance p).2)

/-- Whether the unit of a page is present in a grade (R3, R6, R7, R156, R261, R529, R544). -/
def presentIn (g : Grade) (p : Nat) : Bool :=
  match pageKind p with
  | .reserved => false
  | .drmDie => decide (p - 0x18 < g.dies)
  | .crsCore => decide (p - 0x30 < g.crests)
  | .plt => decide (p - 0x40 < g.plts)
  | .crsCluster => decide (0 < g.crests)
  | .ing | .enc => g.ingress
  | .chnEngine => decide (p - 0x60 < g.crests ∨ 16 ≤ p - 0x60)
  | .trvPort => decide (p - 0xC0 < g.trvs)
  | .drmSlice => decide ((p - 0x100) % 0x100 - 0x20 < 8 * g.dies)
  | _ => true

/-- The register rows of a page kind. -/
def regRows : PageKind → List RegRow
  | .chp => regRowsChp | .pwr => regRowsPwr | .clk => regRowsClk | .scr => regRowsScr | .frz => regRowsFrz
  | .dbg => regRowsDbg | .bdr => regRowsBdr | .otp => regRowsOtp | .stp => regRowsStp | .sum => regRowsSum
  | .lrnChip => regRowsLrnChip | .drmDie => regRowsDrmDie | .rteChip => regRowsRteChip | .fabNode => regRowsFabNode
  | .crsCore => regRowsCrsCore | .plt => regRowsPlt | .crsCluster => regRowsCrsCluster | .rfgCommon => regRowsRfgCommon
  | .crn => regRowsCrn | .rfgCore => regRowsRfgCore | .ing => regRowsIng | .evcRx => regRowsEvcRx
  | .evcMap => regRowsEvcMap | .aer => regRowsAer | .chnEngine => regRowsChnEngine | .tmr => regRowsTmr
  | .tmrCommon => regRowsTmrCommon | .crc => regRowsCrc | .col => regRowsCol | .enc => regRowsEnc
  | .trvPort => regRowsTrvPort | .trvCommon => regRowsTrvCommon | .ethPort => regRowsEthPort | .ethUmh => regRowsEthUmh
  | .picSrc => regRowsPicSrc | .picCtl => regRowsPicCtl | .picPend => regRowsPicPend | .rgn => regRowsRgn
  | .rteRegion => regRowsRteRegion | .gat => regRowsGat | .chnRegion => regRowsChnRegion | .lrnRegion => regRowsLrnRegion
  | .drmSlice => regRowsDrmSlice | .tar => regRowsTar | .blk => regRowsBlk | .blkSnap => regRowsBlkSnap
  | .fabBlock => regRowsFabBlock | .cel => regRowsCel
  | .memberWindow | .routeWindow | .chipRouteWindow | .gateWindow | .channelWindow | .reserved => []

/-- The row of the register at an offset of a page. -/
def regRow (p off : Nat) : Option RegRow := (regRows (pageKind p)).find? (fun r => r.covers off)

/-- Bits that the chapters define in `PG_ERR` of a page kind (R78, R80, R144, R172, R175, R196, R239, R294, R323, R360,
R413, R440, R472, R498, R524, R599, R600, R626, R627, R657). -/
def errBits : PageKind → W32
  | .stp => 0x7 | .sum => 0x1 | .cel => 0x3F | .drmDie => 0x1 | .drmSlice => 0x3 | .tar => 0x1F
  | .fabNode => 0x7 | .fabBlock => 0x7 | .rteRegion => 0x1 | .rteChip => 0x1 | .lrnChip => 0x3 | .lrnRegion => 0x1
  | .plt => 0x7 | .ing => 0x1 | .enc => 0x1 | .evcRx => 0x1 | .evcMap => 0x1 | .trvPort => 0x3 | .trvCommon => 0x3
  | .ethPort => 0x1 | .crsCore => 0x3 | .crsCluster => 0x1 | .rfgCore => 0x1 | .rfgCommon => 0x3
  | .col => 0x7 | .picSrc => 0x7 | .picCtl => 0x7 | .picPend => 0x7 | .tmr => 0x1 | .tmrCommon => 0x1 | .crc => 0x1
  | .frz => 0x3 | .blk => 0x3 | .pwr => 0x3 | .clk => 0x1 | .bdr => 0x1
  | _ => 0

/-- Bits that the chapters define in `PG_INT` of a page kind (the rules above, with R143, R260, R543, R573, R628). -/
def intBits : PageKind → W32
  | .chp => 0xF | .pwr => 0x7 | .clk => 0x1 | .scr => 0xF | .frz => 0x3 | .dbg => 0x1 | .bdr => 0x3 | .otp => 0x1
  | .stp => 0x3F | .sum => 0x7 | .lrnChip => 0x1F | .drmDie => 0x3 | .rteChip => 0x3 | .fabNode => 0x3
  | .crsCore => 0x1 | .plt => 0x8000000F | .crn => 0x1 | .rfgCore => 0x3 | .ing => 0x7 | .evcRx => 0x3
  | .evcMap => 0x1 | .aer => 0x1 | .chnEngine => 0x7 | .tmr => 0xFF | .enc => 0x80000007 | .trvPort => 0x3
  | .trvCommon => 0x7 | .ethPort => 0xF | .ethUmh => 0x3 | .rgn => 0x80000001 | .rteRegion => 0x3 | .gat => 0x1
  | .chnRegion => 0x1 | .lrnRegion => 0x1 | .drmSlice => 0xF | .tar => 0x7 | .blk => 0x7 | .fabBlock => 0x3
  | .cel => 0x80000001
  | _ => 0

/-- SECURE resets to 1 on the pages of R538, and is fixed 1 on the first two COL pages (R491). -/
def secureAtReset (p : Nat) : Bool :=
  match pageKind p with
  | .bdr | .otp | .dbg | .frz | .pwr | .clk => true
  | .col => decide (p < 0x7E)
  | _ => false

/-- Reset value of a header register (R531, R532, R538). -/
def headerReset (p off : Nat) : W32 :=
  if off = Reg.PG_STAT then 1
  else if off = Reg.PG_ERR_EN then errBits (pageKind p)
  else if off = Reg.PG_SEC then (if secureAtReset p then 0x80000000 else 0)
  else 0

/-- Reset value of the register at an offset of a page: the tables of the chapters; 0 where no register stands, and in
every window entry (R223, R228, R233, R237, R238, R240), but the parent field of a member entry (R412). -/
def pageReset (p off : Nat) : W32 :=
  if (pageKind p).window then (if pageKind p = .memberWindow then 0x0FFF0FFF else 0)
  else if off < 0x40 then headerReset p off
  else match regRow p off with
    | some r => BitVec.ofNat 32 r.reset
    | none => 0

/-- What an unlisted register holds, by page × 4096 + offset. -/
def regDefault (key : Nat) : W32 := pageReset (key / 4096) (key % 4096)

/-! ## Registers -/

/-- The value held at an offset of a page. -/
def State.reg (s : State) (p off : Nat) : W32 := Store.get regDefault s.regs (p * 4096 + off)

/-- Hold `v` at an offset of a page. -/
def State.setReg (s : State) (p off : Nat) (v : W32) : State :=
  { s with regs := Store.set regDefault s.regs (p * 4096 + off) v }

/-- Field [hi:lo] of a register. -/
def State.regFld (s : State) (p off hi lo : Nat) : Nat := fld (s.reg p off) hi lo

def State.setFld (s : State) (p off hi lo x : Nat) : State := s.setReg p off (withFld (s.reg p off) hi lo x)

/-- A 64-bit register (R8). -/
def State.reg64 (s : State) (p off : Nat) : Nat := join64 (s.reg p off) (s.reg p (off + 4))

def State.setReg64 (s : State) (p off n : Nat) : State :=
  (s.setReg p off (BitVec.ofNat 32 n)).setReg p (off + 4) (BitVec.ofNat 32 (n / 2 ^ 32))

/-- Set bits of a register. -/
def State.orReg (s : State) (p off : Nat) (m : W32) : State := s.setReg p off (s.reg p off ||| m)

/-- Clear bits of a register. -/
def State.clrReg (s : State) (p off : Nat) (m : W32) : State := s.setReg p off (s.reg p off &&& ~~~ m)

/-- Add to a counter, which stops at 0xFFFF_FFFF (R103, R143, R531). -/
def State.count (s : State) (p off n : Nat) : State :=
  s.setReg p off (BitVec.ofNat 32 (min 0xFFFFFFFF ((s.reg p off).toNat + n)))

/-- Return a register to its reset value. -/
def State.resetReg (s : State) (p off : Nat) : State := s.setReg p off (pageReset p off)

/-- `PG_CTRL.EN` of a page (R532). -/
def State.enabled (s : State) (p : Nat) : Bool := bit (s.reg p Reg.PG_CTRL) 0

/-! ## Memory -/

/-- Bytes of the physical address space that nothing has written read zero. (DESIGN CHOICE, log 9) -/
def memDefault (_ : Nat) : Byte := 0

def State.byte (s : State) (a : Nat) : Byte := Store.get memDefault s.mem a

def State.setByte (s : State) (a : Nat) (b : Byte) : State := { s with mem := Store.set memDefault s.mem a b }

/-- The bytes from `a` upward. -/
def State.bytes (s : State) (a n : Nat) : List Byte := (List.range n).map (fun i => s.byte (a + i))

/-- Store bytes from `a` upward. -/
def State.setBytes (s : State) (a : Nat) (l : List Byte) : State :=
  match l with
  | [] => s
  | b :: l => (s.setByte a b).setBytes (a + 1) l

/-- The little-endian number of a list of bytes (R8). -/
def leNat : List Byte → Nat
  | [] => 0
  | b :: l => b.toNat + 256 * leNat l

/-- `n` bytes of a number, lowest first (R8). -/
def leBytes : Nat → Nat → List Byte
  | 0, _ => []
  | n + 1, x => BitVec.ofNat 8 x :: leBytes n (x / 256)

/-- The number held in `n` bytes from `a`. -/
def State.num (s : State) (a n : Nat) : Nat := leNat (s.bytes a n)

def State.word (s : State) (a : Nat) : W32 := BitVec.ofNat 32 (s.num a 4)

def State.setNumAt (s : State) (a n x : Nat) : State := s.setBytes a (leBytes n x)

/-- Bases of the memory ranges of R525. -/
abbrev Base.rfg : Nat := 0x0000010000000
abbrev Base.dump : Nat := 0x0000020000000
abbrev Base.pages : Nat := 0x0000100000000
abbrev Base.tarn : Nat := 0x0000200000000
abbrev Base.plt : Nat := 0x0000400000000
abbrev Base.dram : Nat := 0x0001000000000
abbrev Base.remote : Nat := 0x8000000000000

/-- Poison and clean the unit that begins at an address. -/
def State.poisonAt (s : State) (a : Nat) : State := { s with poison := setIns s.poison a }
def State.cleanAt (s : State) (a : Nat) : State := { s with poison := setDel s.poison a }
def State.isPoison (s : State) (a : Nat) : Bool := s.poison.contains a

/-! ## Free values -/

/-- The number of the next free value, and the state that has used it up. (DESIGN CHOICE, log 5) -/
def State.useFresh (s : State) : State := { s with fresh := s.fresh + 1 }

/-- The step that is open: `STP_COUNT` (R40). -/
def State.stepNo (s : State) : Nat := s.reg64 Page.stp Reg.STP_COUNT

/-- The step timer runs (R41). -/
def State.running (s : State) : Bool := s.enabled Page.stp

/-- `STP_POLICY` with 3 treated as DEFER (R77): 0 DEFER, 1 SHED, 2 STRETCH. -/
def State.policy (s : State) : Nat :=
  let p := s.regFld Page.stp Reg.STP_POLICY 1 0
  if p = 3 then 0 else p

end Sys2Proof.Machine
end

