-- ==== Sys2Proof/Machine/Operands.lean ====
section
/-! DEFINITION. How operands name things: logical cells and sites, DRAM offsets and slices, addresses and register
pages, packet fields and steps. -/
namespace Sys2Proof.Machine
open Sys2Proof

/-! ## Cells and sites (R12, R13) -/

/-- The own site of a logical cell. -/
def homeSite (c : Nat) : Nat := c / 16 * 17 + c % 16

/-- The spare site of a block. -/
def spareSite (b : Nat) : Nat := b * 17 + 16

def State.cellMap (s : State) (c : Nat) : CellMap :=
  (Store.find s.cells.map c).getD { site := homeSite c, offline := false }

/-- The site that a logical cell is mapped to (R13). -/
def State.siteOf (s : State) (c : Nat) : Nat := (s.cellMap c).site

/-- The logical cell has been taken offline (R579). -/
def State.offline (s : State) (c : Nat) : Bool := (s.cellMap c).offline

/-- The cell waits fenced for its migration (R576). -/
def State.fenced (s : State) (c : Nat) : Bool := s.fault.migrations.any (fun m => m.2.cell == c)

/-- The block is copying a cell to its spare site (R578). -/
def State.blockCopies (s : State) (b : Nat) : Bool := s.fault.migrations.any (fun m => m.1 == b && m.2.copying)

/-- The cell is mapped, in service and not fenced. -/
def State.live (s : State) (c : Nat) : Bool := s.cells.mapped && !(s.offline c) && !(s.fenced c)

/-- The 16 logical cells of a block. -/
def blockCells (b : Nat) : List Nat := (List.range 16).map (fun i => 16 * b + i)

/-- The logical cell that a site holds, if any (`CEL_MAP`, R141). -/
def State.cellAt (s : State) (site : Nat) : Option Nat :=
  if s.cells.mapped then (blockCells (site / 17)).find? (fun c => s.siteOf c == site && !(s.offline c)) else none

/-- The numeric block and the registers of a site page follow its logical cell (R110, R263); the header does not. -/
def State.viewPage (s : State) (p off : Nat) : Option Nat :=
  if pageKind p = .cel ∧ p < 0x20000 ∧ 0x44 ≤ off then (s.cellAt (p - 0x10000)).map Page.cell else some p

/-! ## DRAM offsets (R154) -/

/-- Bytes of one die. -/
abbrev dieBytes : Nat := 0x600000000

def dramBytes (g : Grade) : Nat := g.dies * dieBytes

/-- Place of a DRAM offset: slice, bank, DRAM row and column (R154). -/
structure DramPlace where
  slice : Nat
  bank : Nat
  row : Nat
  column : Nat
deriving DecidableEq, Repr

def dramPlace (d : Nat) : DramPlace :=
  let die := if d < dieBytes then 0 else 1
  let e := d - die * dieBytes
  let g := e >>> 8
  let i := (bitsOf g 5 0) ^^^ (bitsOf g 11 6)
  let region := bitsOf i 2 0
  let k := 8 * die + bitsOf i 5 3
  let o := ((g >>> 6) <<< 8) ||| bitsOf e 7 0
  { slice := 16 * region + k, bank := bitsOf o 14 11, row := o >>> 15, column := bitsOf o 10 0 }

/-- The DRAM offset at a place: the inverse of `dramPlace` (R154). -/
def dramOffset (p : DramPlace) : Nat :=
  let die := p.slice % 16 / 8
  let i := p.slice / 16 + 8 * (p.slice % 8)
  let o := (p.row <<< 15) ||| (p.bank <<< 11) ||| p.column
  let hi := o >>> 8
  let g := (hi <<< 6) ||| (i ^^^ bitsOf hi 5 0)
  die * dieBytes + ((g <<< 8) ||| bitsOf o 7 0)

/-- The die that holds an offset. -/
def dramDie (d : Nat) : Nat := if d < dieBytes then 0 else 1

/-- The global slice has a page whose number the die index of R169 gives: region and slice in region within the die. -/
def sliceInDie (slice : Nat) : Nat := slice / 16 * 8 + slice % 8

/-- The parts of [d, d + n) by 256-byte granule: offset and bytes (R154, R155). -/
def granules (d n : Nat) : List (Nat × Nat) :=
  match n with
  | 0 => []
  | _ =>
    let first := min n (256 - d % 256)
    let rest := n - first
    (d, first) :: (List.range ((rest + 255) / 256)).map
      (fun i => (d + first + 256 * i, min 256 (rest - 256 * i)))

/-- The synapse store: [DRM_SYN_BASE, DRM_SYN_LIMIT) of die 0's page (R162). -/
def State.inSynapseStore (s : State) (d : Nat) : Bool :=
  decide (s.reg64 (Page.die 0) Reg.DRM_SYN_BASE ≤ d ∧ d < s.reg64 (Page.die 0) Reg.DRM_SYN_LIMIT)

/-! ## Addresses (R525, R526) -/

/-- The range of R525 that an address lies in. -/
inductive Region where
  | rom
  | rfgSram
  | dump
  | pages
  | tarn
  | pltSram
  | dram
  | remote
  | unmapped
deriving DecidableEq, Repr

def addrRegion (a : Nat) : Region :=
  if a < 0x20000 then .rom
  else if Base.rfg ≤ a ∧ a < Base.rfg + 0x200000 then .rfgSram
  else if Base.dump ≤ a ∧ a < Base.dump + 0x200000 then .dump
  else if Base.pages ≤ a ∧ a < Base.pages + 0x100000000 then .pages
  else if Base.tarn ≤ a ∧ a < Base.tarn + 0x4000000 then .tarn
  else if Base.plt ≤ a ∧ a < Base.plt + 0x4000000 then .pltSram
  else if Base.dram ≤ a ∧ a < Base.dram + 2 * dieBytes then .dram
  else if Base.remote ≤ a ∧ a < Base.remote + 0x1000000000000 then .remote
  else .unmapped

/-- The address of a register (R525). -/
def regAddr (p off : Nat) : Nat := Base.pages + p * 4096 + off

/-! ## Packets (R203, R205, R207) -/

/-- CRC-8 step of R204: polynomial 0x07, most significant bit first. -/
def crc8Byte (c x : Nat) : Nat :=
  (List.range 8).foldl (fun c _ => if c ≥ 128 then ((c * 2) % 256) ^^^ 0x07 else c * 2) (c ^^^ x)

/-- HCHK of header bits [31:8] (R204). -/
def hchk (h : W32) : Nat := crc8Byte (crc8Byte (crc8Byte 0 (fld h 31 24)) (fld h 23 16)) (fld h 15 8)

/-- A header word from its fields, with its check (R203). -/
def header (ty chip vc count par : Nat) (late : Bool) : W32 :=
  let h : W32 := BitVec.ofNat 32 (ty % 16 * 2 ^ 28 + chip % 4096 * 2 ^ 16 + vc % 4 * 2 ^ 14 + count % 8 * 2 ^ 11
    + par % 4 * 2 ^ 9 + (if late then 256 else 0))
  h ||| BitVec.ofNat 32 (hchk h)

end Sys2Proof.Machine

namespace Sys2Proof
open Sys2Proof.Machine

def Packet.word (p : Packet) (i : Nat) : W32 := p.words.getD i 0
def Packet.ty (p : Packet) : Nat := fld (p.word 0) 31 28
def Packet.chip (p : Packet) : Nat := fld (p.word 0) 27 16
def Packet.vc (p : Packet) : Nat := fld (p.word 0) 15 14
def Packet.count (p : Packet) : Nat := fld (p.word 0) 13 11
def Packet.par (p : Packet) : Nat := fld (p.word 0) 10 9
def Packet.late (p : Packet) : Bool := bit (p.word 0) 8
/-- EVENT or GRADED (R205). -/
def Packet.isEvent (p : Packet) : Bool := p.ty == 1 || p.ty == 2
/-- Events in a packet (R205). -/
def Packet.events (p : Packet) : Nat := if p.ty = 1 then p.count else if p.ty = 2 then p.count / 2 else 0
/-- The header's check holds (R204). -/
def Packet.headerOk (p : Packet) : Bool := fld (p.word 0) 7 0 == hchk (p.word 0)

/-- Mark a packet's events late (R61). -/
def Packet.markLate (p : Packet) : Packet :=
  { words := header p.ty p.chip p.vc p.count p.par true :: p.words.drop 1 }

end Sys2Proof

namespace Sys2Proof.Machine
open Sys2Proof

/-- A packet with its header. -/
def mkPacket (ty chip vc par : Nat) (late : Bool) (payload : List W32) : Packet :=
  { words := header ty chip vc payload.length par late :: payload }

/-- The virtual channel of a type; none for a reserved one (R205). -/
def typeVc (ty : Nat) : Option Nat :=
  if ty = 1 ∨ ty = 2 then some 1
  else if ty = 3 ∨ ty = 4 then some 2
  else if ty = 5 ∨ ty = 6 ∨ ty = 7 ∨ ty = 9 ∨ ty = 0xC then some 3
  else if ty = 8 ∨ ty = 0xA ∨ ty = 0xB then some 0
  else none

/-- The network of a type: 0 request, 1 reply (R205). -/
def typeNet (ty : Nat) : Nat := if ty = 4 ∨ ty = 6 ∨ ty = 0xC then 1 else 0

/-- The step that STEP_PAR names: the open step, the one before the tick that external sources already stamp (R50), or
one of the deferral window before it (R61, R128). -/
def State.stepOfPar (s : State) (par : Nat) (late : Bool) : Nat :=
  let k := (par + 4 - s.stepNo % 4) % 4
  if k = 0 then s.stepNo else if k = 1 ∧ late = false then s.stepNo + 1 else s.stepNo + k - 4

/-- The step that external sources stamp: the oldest one whose summit the chip has not reached, and from the cut on the
step after it (R50, R675). -/
def State.stamp (s : State) : Nat :=
  if s.stepNo = 0 ∨ s.step.summited ∨ s.step.phase = .cut ∨ s.step.phase = .summitWait then s.stepNo + 1 else s.stepNo

/-- The chip's ID; 0xFFF while it has none (R382). -/
def State.chipId (s : State) : Nat := s.regFld 0xD0 Reg.TRV_CHIP_ID 11 0

/-! ## Secure DRAM ranges (R645, R646) -/

/-- A range register pair covers a byte of DRAM. -/
def rangeCovers (base limit d : Nat) : Bool :=
  Nat.testBit limit 63 && decide (bitsOf base 35 20 ≤ d / 2 ^ 20 ∧ d / 2 ^ 20 < bitsOf limit 35 20)

/-- BASE and LIMIT of range i. -/
def State.drange (s : State) (i : Nat) : Nat × Nat :=
  (s.reg64 Page.bdr (Reg.BDR_DRANGEi_BASE + 16 * i), s.reg64 Page.bdr (Reg.BDR_DRANGEi_LIMIT + 16 * i))

/-- Some range other than `skip` covers the byte. -/
def State.coveredBut (s : State) (skip : Option Nat) (d : Nat) : Bool :=
  (List.range 8).any (fun i => skip != some i && rangeCovers (s.drange i).1 (s.drange i).2 d)

/-- The byte leaves secure coverage when range i takes new values. -/
def State.uncovers (s : State) (i base limit d : Nat) : Bool :=
  rangeCovers (s.drange i).1 (s.drange i).2 d && !(rangeCovers base limit d) && !(s.coveredBut (some i) d)

/-- The byte is being cleared: accesses to it are held. (DESIGN CHOICE, log 21) -/
def State.clearing (s : State) (d : Nat) : Bool :=
  match s.sec.drange with
  | none => false
  | some x => s.uncovers x.1 x.2.1 x.2.2 d

/-- Some byte of [d, d + n) is being cleared. -/
def State.clearingAny (s : State) (d n : Nat) : Bool :=
  s.sec.drange.isSome &&
  (List.range ((d % 2 ^ 20 + n + 2 ^ 20 - 1) / 2 ^ 20)).any (fun i => s.clearing (d / 2 ^ 20 * 2 ^ 20 + i * 2 ^ 20))

end Sys2Proof.Machine
end

