-- ==== Sys2Proof/Machine/Flags.lean ====
section
/-! DEFINITION. Error bits, interrupt bits, counters, error records, the classes of errors and the interrupt sources:
what every unit does when something happens that the chip reports. -/
namespace Sys2Proof.Machine
open Sys2Proof

/-! ## Page bits -/

/-- Set bit `b` of `PG_ERR` of a page (R535). -/
def State.setErr (s : State) (p b : Nat) : State := s.orReg p Reg.PG_ERR (bitWord b)

/-- Set bit `b` of `PG_INT` of a page (R536). -/
def State.setInt (s : State) (p b : Nat) : State := s.orReg p Reg.PG_INT (bitWord b)

/-- Count `n` at a counter and set the interrupt bit that goes with it (R143, R239, R360). -/
def State.countInt (s : State) (p off b n : Nat) : State :=
  if n = 0 then s else (s.count p off n).setInt p b

/-- `PG_ERR_EN` of a bit (R535). -/
def State.errOn (s : State) (p b : Nat) : Bool := bit (s.reg p Reg.PG_ERR_EN) b

/-- State code of `PG_STAT` (R534). -/
def State.setStat (s : State) (p code : Nat) : State := s.setFld p Reg.PG_STAT 3 0 code

/-- The unit of a page is FAULTED (R534, R561). -/
def State.faulted (s : State) (p : Nat) : Bool := s.regFld p Reg.PG_STAT 3 0 == 7

/-! ## Error records (R570–R573) -/

/-- Hand a record to the ring writer: at most 64 wait, a further one is lost and counted (R571). -/
def State.record (s : State) (r : ErrRecord) : State :=
  if s.fault.records.length < 64 then
    { s with fault := { s.fault with records := s.fault.records ++ [r] } }
  else s.count Page.chp Reg.CHP_ERR_LOST 1

/-- The eight words of a record as the ring holds it (R570). -/
def ErrRecord.bytes (r : ErrRecord) (step ns seq : Nat) : List Byte :=
  leBytes 4 (r.level % 4 * 2 ^ 30 + (if r.esc then 0 else r.cls % 4) * 2 ^ 28 + (if r.esc then 2 ^ 27 else 0)
    + (if r.inj then 2 ^ 26 else 0) + r.code % 2 ^ 16)
  ++ leBytes 4 r.unit.toNat ++ leBytes 8 step ++ leBytes 8 ns ++ leBytes 4 r.addr
  ++ leBytes 4 (seq % 2 ^ 16 * 2 ^ 16 + r.addr / 2 ^ 32 % 2 ^ 16)

/-- A detected error: its `PG_ERR` bit is always set; a record is written while its enable bit is 1 (R535). -/
def State.detect (s : State) (p b : Nat) (r : ErrRecord) : State :=
  let s := s.setErr p b
  if s.errOn p b then s.record r else s

/-- A CORRECTED error: counted on its page, recorded only while `LOG_CE` is 1 (R572). -/
def State.corrected (s : State) (p : Nat) (r : ErrRecord) : State :=
  let s := s.count p Reg.PG_ERRCNT 1
  if bit (s.reg Page.chp Reg.CHP_ERR_CTRL) 0 then s.record r else s

/-! ## Freeze, recovery and power states -/

/-- `FRZ_STAT.STATE` (R599). -/
def State.frzState (s : State) : Nat := s.regFld Page.frz Reg.FRZ_STAT 31 28
abbrev Frz.run : Nat := 0
abbrev Frz.stopping : Nat := 1
abbrev Frz.frozen : Nat := 2
abbrev Frz.resuming : Nat := 3
abbrev Frz.collect : Nat := 4
abbrev Frz.kill : Nat := 5
abbrev Frz.retrain : Nat := 6
abbrev Frz.reload : Nat := 7

def State.setFrz (s : State) (x : Nat) : State := s.setFld Page.frz Reg.FRZ_STAT 31 28 x

/-- `PWR_STAT.STATE` (R626). -/
def State.pwrState (s : State) : Nat := s.regFld Page.pwr Reg.PWR_STAT 31 28
abbrev Pwr.run : Nat := 0
abbrev Pwr.stepIdle : Nat := 1
abbrev Pwr.entering : Nat := 2
abbrev Pwr.nap : Nat := 3
abbrev Pwr.waking : Nat := 4
abbrev Pwr.sleep : Nat := 5

/-- The clocks of the compute domains run: no freeze, no recovery, and no gating by NAP or SLEEP (R592, R604, R607). -/
def State.clocked (s : State) : Bool := (s.frzState == Frz.run) && !s.power.gated

/-- The feed of a domain that the OTP stage sets (R613, R614): divider in [15:8], source in [2:0]. -/
def domainFeed (d : Nat) : W32 :=
  if d = 0 then 0x100
  else if d = 1 then 0x201
  else if d ≤ 10 then 0x101
  else if d ≤ 138 then 0x201
  else if d ≤ 142 then 0x102
  else if d ≤ 158 then 0x103
  else if d = 159 then 0x203
  else if d = 160 then 0x206
  else if d ≤ 180 then 0x104
  else if d ≤ 185 then 0x107
  else if d ≤ 187 then 0x406
  else if d ≤ 191 then 0x205
  else 0

/-- Source and divider of a domain before the OTP stage: the oscillator, but a clock of its own where it has one. -/
def domainReset (d : Nat) : W32 := if 181 ≤ d ∧ d ≤ 185 then 0x107 else if d < 192 then 0x100 else 0

/-- `CLK_DSRC` of a domain without GATED (R615). -/
def State.domain (s : State) (d : Nat) : W32 := Store.get domainReset s.power.domains d

/-- The PLL that feeds a domain has lost lock: the domain is gated (R616). -/
def State.domainLost (s : State) (d : Nat) : Bool :=
  let x := fld (s.domain d) 2 0
  decide (1 ≤ x ∧ x ≤ 6) && bit (s.reg Page.clk (Reg.CLK_PLLn_STAT + 8 * (x - 1))) 30

/-- A domain of a unit that the compute clocks drive runs (R592, R604, R616). -/
def State.runs (s : State) (d : Nat) : Bool := s.clocked && !s.domainLost d

/-- The 1 GHz timebase runs; without PLL0 it does not (R73, R616). -/
def State.timebase (s : State) : Bool := s.runs 1 || decide (Frz.collect ≤ s.frzState)

/-- The clock domain of a router of the fabric: a block's lies in its region's, a node's in the chip fabric's (R614). -/
def routerDomain (r : Nat) : Nat := if r % 136 < 128 then 3 + r % 136 / 16 else 2

/-- The clock domain of a DRAM slice: two for each die (R614). (PRESUMED, log 86) -/
def sliceDomain (slice : Nat) : Nat := 188 + 2 * (slice % 16 / 8) + slice / 64

/-- The interrupt controller's clock runs: from a wake on, it runs although the compute domains are still gated (R490,
R607). -/
def State.picClock (s : State) : Bool := s.clocked || (s.frzState == Frz.run && s.pwrState == Pwr.waking)

/-- A Refuge core runs: in NAP all but RFG0 do (R608). -/
def State.refugeRuns (s : State) (k : Nat) : Bool :=
  s.picClock || (s.frzState == Frz.run && s.pwrState == Pwr.nap && k != 0)

/-- A freeze trigger of a cause with the chip at which it began (R591, R592). -/
def State.freeze (s : State) (cause origin : Nat) : State :=
  if s.pwrState = Pwr.nap ∨ s.pwrState = Pwr.sleep ∨ Frz.collect ≤ s.frzState ∨ s.fault.readySeen = false then
    s.count Page.frz Reg.FRZ_IGNORED 1
  else if s.frzState = Frz.run then
    ((s.setReg Page.frz Reg.FRZ_STAT
        (BitVec.ofNat 32 (Frz.stopping * 2 ^ 28 + cause % 16 * 2 ^ 24 + 2 ^ (19 + cause) + origin % 4096))).setReg64
      Page.frz Reg.FRZ_ENTRY_NS s.elapsed).count Page.frz Reg.FRZ_COUNT 1
  else s.orReg Page.frz Reg.FRZ_STAT (bitWord (19 + cause))

/-- Recovery begins at COLLECT with the code that caused it (R583, R584, R585). (DEDUCED, log 82) -/
def State.beginRecovery (s : State) (code : Nat) (unit : W32) : State :=
  let s := s.setFrz Frz.collect
  let s := s.setReg Page.frz Reg.FRZ_REC_CAUSE (BitVec.ofNat 32 (code % 2 ^ 16))
  { s with fault := { s.fault with recoverAt := s.elapsed, recoverUnit := unit } }

/-- A FATAL error: it is recorded whatever its enable bit holds, and begins recovery, or a freeze under FOF (R535, R583). -/
def State.fatal (s : State) (code : Nat) (unit : W32) (addr : Nat) (inj : Bool) : State :=
  let s := s.record { level := 3, cls := 3, esc := false, inj := inj, code := code, unit := unit, addr := addr }
  if Frz.collect ≤ s.frzState then s
  else if bit (s.reg Page.frz Reg.FRZ_CTRL) 0 then s.freeze 3 s.chipId
  else s.beginRecovery code unit

/-! ## Interrupt sources (R473–R477) -/

/-- EDGE sources: 1–9 and the software-only sources (R476). -/
def edgeSource (n : Nat) : Bool := decide ((1 ≤ n ∧ n ≤ 9) ∨ 3584 ≤ n)

/-- The pages whose `PG_INT` bits drive a LEVEL source, with those bits (R78, R81, R143, R172, R175, R196, R239, R260,
R294, R295, R323, R360, R413, R440, R472, R524, R543, R573, R599, R600, R626, R627, R628, R657). -/
def sourcePages (n : Nat) : List (Nat × W32) :=
  if n = 10 then [(Page.chp, 0x7)]
  else if n = 11 then [(Page.chp, 0x8)]
  else if n = 12 then [(Page.frz, 0x3)]
  else if n = 13 then [(Page.pwr, 0x7)]
  else if n = 14 then [(Page.clk, 0x1)]
  else if n = 15 then [(Page.scr, 0xF)]
  else if 16 ≤ n ∧ n ≤ 21 then [(Page.stp, bitWord (n - 16))]
  else if n = 22 then [(Page.bdr, 0x3)]
  else if n = 23 then [(Page.dbg, 0x1)]
  else if 24 ≤ n ∧ n ≤ 26 then [(Page.sum, bitWord (n - 24))]
  else if n = 27 then [(Page.otp, 0x1)]
  else if n = 28 ∨ n = 29 then [(Page.die (n - 28), 0x3)]
  else if 32 ≤ n ∧ n ≤ 39 then [(0x20 + 2 * (n - 32), 0x3), (0x21 + 2 * (n - 32), 0x3)]
  else if n = 40 then [(Page.rteChip, 0x3)]
  else if n = 44 then [(Page.lrn, 0x1F)]
  else if 48 ≤ n ∧ n ≤ 51 then [(Page.plt (n - 48), 0x8000000F)]
  else if 64 ≤ n ∧ n ≤ 95 then [(0x74 + (n - 64) / 8, bitWord ((n - 64) % 8))]
  else if 256 ≤ n ∧ n < 512 then
    let r := (n - 256) / 32
    let k := (n - 256) % 32
    if k = 16 then [(Page.region r, 0x80000001)]
    else if k = 20 then (List.range 16).map (fun i => (Page.region r + 0x20 + i, (0x7 : W32)))
    else if k = 21 then (List.range 16).map (fun i => (Page.region r + 0x20 + i, (0x8 : W32)))
    else if k = 22 then (List.range 16).map (fun i => (Page.region r + 0x40 + i, (0x7 : W32)))
    else if k = 24 then [(Page.region r + 0x08, 0x3)]
    else if k = 25 then [(Page.region r + 0x09, 0x1)]
    else if k = 26 then [(Page.region r + 0x0A, 0x1)]
    else if k = 27 then [(Page.region r + 0x0B, 0x1)]
    else []
  else if 512 ≤ n ∧ n < 2560 then
    let b := (n - 512) / 16
    let k := (n - 512) % 16
    if k = 0 then [(Page.block b, 0x7)]
    else if k = 2 then [(Page.block b + 2, 0x3)]
    else if k = 3 then (List.range 17).map (fun i => (Page.site (b * 17 + i), (0x80000001 : W32)))
    else []
  else if 2560 ≤ n ∧ n < 2576 then [(0xC0 + (n - 2560), 0x3)]
  else if n = 2576 then [(0xD0, 0x7)]
  else if 2584 ≤ n ∧ n < 2588 then [(0xE0 + (n - 2584), 0xF)]
  else if n = 2588 then [(0xE4, 0x3)]
  else if n = 2816 then [(0x50, 0x7)]
  else if 2832 ≤ n ∧ n < 2896 then [(0x80 + (n - 2832), 0x80000007)]
  else if 2900 ≤ n ∧ n < 2904 then [(0x54 + (n - 2900), 0x3)]
  else if n = 2904 then [(0x58, 0x1)]
  else if n = 2906 ∨ n = 2907 then [(0x5A + (n - 2906), 0x1)]
  else if 3072 ≤ n ∧ n < 3088 then [(0x30 + (n - 3072), 0x1)]
  else if n = 3088 then [(0x44, 0x0)]
  else if 3104 ≤ n ∧ n < 3108 then [(0x48 + (n - 3104), 0x3)]
  else if n = 3108 then [(0x45, 0x0)]
  else if n = 3109 then [(0x46, 0x1)]
  else if 3200 ≤ n ∧ n < 3220 then [(Page.engine (n - 3200), 0x7)]
  else []

/-- A source is assigned when a unit present in the grade drives it, or software alone (R477). -/
def assigned (g : Grade) (n : Nat) : Bool :=
  edgeSource n || decide (3136 ≤ n ∧ n < 3200) || (sourcePages n).any (fun q => presentIn g q.1)

/-- A page has a bit set in both `PG_INT` and `PG_INT_EN` among those of a source (R475, R536). -/
def State.asserts (s : State) (p : Nat) (m : W32) : Bool :=
  (s.reg p Reg.PG_INT &&& s.reg p Reg.PG_INT_EN &&& m) != 0

/-- Page and base offset of Col channel c (R491). -/
def colPage (c : Nat) : Nat := 0x7C + c / 16
def colBase (c : Nat) : Nat := 0x100 + 0x80 * (c % 16)

/-- Registers of Col channel c, by their offset from its base (R492). -/
def State.col (s : State) (c o : Nat) : W32 := s.reg (colPage c) (colBase c + o)
def State.colFull (s : State) (c : Nat) : Bool := bit (s.col c 0x48) 31

/-- The level of a LEVEL source (R475, R493). -/
def State.level (s : State) (n : Nat) : Bool :=
  if 3136 ≤ n ∧ n < 3200 then s.colFull (n - 3136) && bit (s.col (n - 3136) 0x4C) 31
  else (sourcePages n).any (fun q => presentIn s.grade q.1 && s.asserts q.1 q.2)

/-- PEND of a source (R475, R488). (DEDUCED, log 55) -/
def State.pendOf (s : State) (n : Nat) : Bool :=
  if edgeSource n then s.pic.pend.contains n else s.level n || s.pic.soft.contains n

/-! ## Summit counts (R52) -/

/-- Count packets injected, or consumed, at a unit (0–127 blocks, 128–135 route engines, 136 the chip) for a parity. -/
def State.injected (s : State) (unit par : Nat) : State :=
  { s with step := { s.step with inj := addNum s.step.inj (unit * 4 + par % 4) 1 } }
def State.consumed (s : State) (unit par : Nat) : State :=
  { s with step := { s.step with cons := addNum s.step.cons (unit * 4 + par % 4) 1 } }

/-- A late integration (R61), shed events (R62, R63). -/
def State.countLate (s : State) : State := { s with step := { s.step with late := s.step.late + 1 } }
def State.countShed (s : State) (n : Nat) : State :=
  if n = 0 then s else ({ s with step := { s.step with shed := s.step.shed + n } }).setInt Page.stp 3

/-! ## Refusals that the chip page counts (R526, R529, R539, R540, R543) -/

def State.absentAcc (s : State) : State := s.countInt Page.chp Reg.CHP_ABSENT_ACC 0 1
def State.unmappedAcc (s : State) : State := s.countInt Page.chp Reg.CHP_UNMAPPED 1 1
def State.secRefused (s : State) : State := s.countInt Page.chp Reg.CHP_SEC_REFUSED 2 1
def State.lockRefused (s : State) : State := s.count Page.chp Reg.CHP_LOCK_REFUSED 1

/-! ## Cell sites (R143, R144, R576, R579) -/

/-- Count a dropped event of a logical cell and set `PG_INT.DROP` of its site's page (R143). -/
def State.cellDrop (s : State) (c off n : Nat) : State :=
  if n = 0 then s else (s.count (Page.cell c) off n).setInt (Page.site (s.siteOf c)) 0

/-- `PG_ERR` bit of the page of the site that a cell runs in (R144). -/
def State.cellErr (s : State) (c b : Nat) : State := s.setErr (Page.site (s.siteOf c)) b

/-- Mark a logical cell's place in its block (R579, R600). -/
def State.setCellMap (s : State) (c : Nat) (m : CellMap) : State :=
  { s with cells := { s.cells with map := Store.put s.cells.map c m } }

/-- Add a site to the site list with its SRC: beyond 256 entries a failed site is not recorded (R558, R566). -/
def State.listSite (s : State) (site src : Nat) : State :=
  if s.fault.siteList.any (fun p => p.1 == site) then s
  else if 256 ≤ s.fault.siteList.length then { s with fault := { s.fault with unlisted := setIns s.fault.unlisted site } }
  else { s with fault := { s.fault with siteList := s.fault.siteList ++ [(site, src)] } }

/-- Site 16 of a block is good and unused (R577). -/
def State.spareFree (s : State) (b : Nat) : Bool :=
  !(s.fault.siteList.any (fun p => p.1 == spareSite b)) &&
  (blockCells b).all (fun c => s.siteOf c != spareSite b) &&
  !(s.fault.migrations.any (fun m => m.1 == b))

end Sys2Proof.Machine
end

