-- ==== Sys2Proof/Machine/Numeric.lean ====
section
/-! DEFINITION. Number formats, conversions, rounding, scale and the numeric blocks (R82–R111). A value between decoding
and encoding is exact. -/
namespace Sys2Proof.Machine
open Sys2Proof

/-! ## Exact values -/

/-- An exact value: a NaN or an infinity with its sign, or a sign and a magnitude `n / d` with `d` above 0; a zero keeps
its sign. -/
inductive Num where
  | nan (neg : Bool)
  | inf (neg : Bool)
  | fin (neg : Bool) (n d : Nat)
deriving DecidableEq, Repr

def Num.ofInt (i : Int) : Num := .fin (decide (i < 0)) i.natAbs 1

/-- `n / d` times 2 to the power `k`. -/
def scale2 (n d : Nat) (k : Int) : Nat × Nat :=
  if 0 ≤ k then (n <<< k.toNat, d) else (n, d <<< (-k).toNat)

def Num.neg : Num → Num
  | .nan b => .nan (!b)
  | .inf b => .inf (!b)
  | .fin b n d => .fin (!b) n d

def Num.isNeg : Num → Bool
  | .nan b => b
  | .inf b => b
  | .fin b _ _ => b

/-- The value times 2 to the power `k`. -/
def Num.shift (x : Num) (k : Int) : Num :=
  match x with
  | .fin b n d => .fin b (scale2 n d k).1 (scale2 n d k).2
  | x => x

/-- Exact product; an infinity times zero is a NaN. -/
def Num.mul (x y : Num) : Num :=
  match x, y with
  | .nan a, y => .nan (a != y.isNeg)
  | x, .nan b => .nan (x.isNeg != b)
  | .inf a, .inf b => .inf (a != b)
  | .inf a, .fin b n _ => if n = 0 then .nan false else .inf (a != b)
  | .fin a n _, .inf b => if n = 0 then .nan false else .inf (a != b)
  | .fin a n d, .fin b m e => .fin (a != b) (n * m) (d * e)

/-- Exact sum; opposite infinities give a NaN, opposite equals give +0. -/
def Num.add (x y : Num) : Num :=
  match x, y with
  | .nan a, _ => .nan a
  | _, .nan b => .nan b
  | .inf a, .inf b => if a = b then .inf a else .nan false
  | .inf a, .fin _ _ _ => .inf a
  | .fin _ _ _, .inf b => .inf b
  | .fin a n d, .fin b m e =>
    if a = b then .fin a (n * e + m * d) (d * e)
    else if m * d < n * e then .fin a (n * e - m * d) (d * e)
    else if n * e < m * d then .fin b (m * d - n * e) (d * e)
    else .fin false 0 1

def Num.sub (x y : Num) : Num := x.add y.neg

/-- Exact quotient; x / 0 is an infinity and 0 / 0 a NaN. -/
def Num.div (x y : Num) : Num :=
  match x, y with
  | .nan a, _ => .nan a
  | _, .nan b => .nan b
  | .inf _, .inf _ => .nan false
  | .inf a, .fin b _ _ => .inf (a != b)
  | .fin a _ _, .inf b => .fin (a != b) 0 1
  | .fin a n d, .fin b m e =>
    if m = 0 then (if n = 0 then .nan false else .inf (a != b)) else .fin (a != b) (n * e) (d * m)

/-- Strictly below, false when either is a NaN. -/
def Num.lt (x y : Num) : Bool :=
  match x, y with
  | .nan _, _ => false
  | _, .nan _ => false
  | .inf a, .inf b => a && !b
  | .inf a, .fin _ _ _ => a
  | .fin _ _ _, .inf b => !b
  | .fin a n d, .fin b m e =>
    if n = 0 ∧ m = 0 then false
    else if a && !b then true
    else if !a && b then false
    else if a then decide (m * d < n * e) else decide (n * e < m * d)

def Num.isNan : Num → Bool
  | .nan _ => true
  | _ => false

/-! ## Formats (R83) -/

/-- Exponent width, significand width and bias of a float format. -/
structure FloatFmt where
  e : Nat
  m : Nat
  bias : Nat
  /-- subnormals are read and written as values (R87) -/
  sub : Bool
  /-- the all-ones exponent holds normal values (E4M3) -/
  top : Bool
deriving DecidableEq, Repr

def floatFmt (f : Nat) : Option FloatFmt :=
  if f = 5 then some ⟨4, 3, 7, true, true⟩
  else if f = 6 then some ⟨5, 2, 15, true, false⟩
  else if f = 7 then some ⟨8, 7, 127, false, false⟩
  else if f = 8 then some ⟨5, 10, 15, true, false⟩
  else if f = 9 then some ⟨8, 23, 127, false, false⟩
  else none

/-- Width in bits of a format code; 0 for a reserved code (R83). -/
def fmtWidth (f : Nat) : Nat :=
  if f = 0 then 1 else if f = 1 then 4 else if f = 2 then 8 else if f = 3 then 16 else if f = 4 then 32
  else if f = 5 then 8 else if f = 6 then 8 else if f = 7 then 16 else if f = 8 then 16 else if f = 9 then 32
  else if f = 10 then 8 else 0

/-- The two's-complement integer in the low `w` bits. -/
def toSigned (w x : Nat) : Int :=
  let x := x % 2 ^ w
  if 2 * x < 2 ^ w then (x : Int) else (x : Int) - (2 ^ w : Nat)

/-- The low `w` bits of an integer. -/
def ofSigned (w : Nat) (i : Int) : Nat := (i % (2 ^ w : Nat)).toNat

/-- The value of a float pattern (R83, R86, R87). -/
def floatValue (q : FloatFmt) (x : Nat) : Num :=
  let neg := decide (1 = x >>> (q.e + q.m) % 2)
  let ex := (x >>> q.m) % 2 ^ q.e
  let mt := x % 2 ^ q.m
  if ex = 2 ^ q.e - 1 ∧ q.top = false then (if mt = 0 then .inf neg else .nan neg)
  else if ex = 2 ^ q.e - 1 ∧ mt = 2 ^ q.m - 1 then .nan neg
  else if ex = 0 then
    (if q.sub then (Num.fin neg mt 1).shift (1 - (q.bias : Int) - q.m) else .fin neg 0 1)
  else (Num.fin neg (2 ^ q.m + mt) 1).shift ((ex : Int) - q.bias - q.m)

/-- The value of a pattern in a format (R83). -/
def decodeNum (f x : Nat) : Num :=
  if f = 0 then .fin false (x % 2) 1
  else if f = 10 then .fin false (x % 256) 256
  else match floatFmt f with
    | some q => floatValue q x
    | none => Num.ofInt (toSigned (fmtWidth f) x)

/-! ## Rounding (R93, R94) -/

/-- The magnitude n / d rounded to an integer: ties away from zero, or, with the 16 bits `u` of a generator, up towards
the larger value when u is below the fraction of R94. -/
def roundMag (neg : Bool) (n d : Nat) (u : Option Nat) : Nat :=
  match u with
  | none => (2 * n + d) / (2 * d)
  | some u =>
    let lo := n / d
    if n % d = 0 then lo
    else if neg then
      -- a = −(lo + 1), b = −lo
      (if u < ((lo + 1) * d - n) * 65536 / d then lo else lo + 1)
    else (if u < (n - lo * d) * 65536 / d then lo + 1 else lo)

/-- `round_shift` of R93. -/
def roundShift (x : Int) (s : Nat) : Int :=
  if s = 0 then x
  else if 0 ≤ x then (x + (1 <<< (s - 1) : Nat)) >>> s else -((-x + (1 <<< (s - 1) : Nat)) >>> s)

/-- The outcome of one conversion: the pattern, whether it saturated (R90) and whether its source was a NaN (R91). -/
structure Conv where
  code : Nat
  sat : Bool := false
  nan : Bool := false
deriving DecidableEq, Repr

/-- An integer saturated to `w` bits. -/
def satInt (w : Nat) (i : Int) : Conv :=
  let hi : Int := (2 ^ (w - 1) : Nat) - 1
  let lo : Int := -(2 ^ (w - 1) : Nat)
  if hi < i then ⟨ofSigned w hi, true, false⟩
  else if i < lo then ⟨ofSigned w lo, true, false⟩
  else ⟨ofSigned w i, false, false⟩

/-- Power of two of the leading bit of n / d. -/
def log2Frac (n d : Nat) : Int :=
  let k : Int := (Nat.log2 n : Int) - Nat.log2 d
  let p := scale2 d 1 k
  if n * p.2 < p.1 then k - 1 else k

/-- Largest finite pattern, without its sign. -/
def floatMax (q : FloatFmt) : Nat :=
  if q.top then 2 ^ (q.e + q.m) - 2 else 2 ^ (q.e + q.m) - 2 ^ q.m - 1

/-- Canonical NaN (R86). -/
def canonNan (f : Nat) : Nat :=
  if f = 5 then 0x7F else if f = 6 then 0x7E else if f = 7 then 0x7FC0 else if f = 8 then 0x7E00
  else if f = 9 then 0x7FC00000 else 0

/-- A finite value rounded to a float format: significand r with exponent of its last place, then the pattern, the flush of
R87 or the saturation of R90. -/
def roundFloat (f : Nat) (q : FloatFmt) (e5inf neg : Bool) (n d : Nat) (u : Option Nat) : Conv :=
  let sgn := if neg then 2 ^ (q.e + q.m) else 0
  if n = 0 then ⟨sgn, false, false⟩
  else
    let emin : Int := 1 - (q.bias : Int)
    let ex := log2Frac n d
    let lsb := (if q.sub then max ex emin else ex) - q.m
    let t := scale2 n d (-lsb)
    let r := roundMag neg t.1 t.2 u
    -- a carry out of the significand moves to the next binade
    let r' := if r = 2 ^ (q.m + 1) then 2 ^ q.m else r
    let lsb' := if r = 2 ^ (q.m + 1) then lsb + 1 else lsb
    let field : Int := lsb' + q.m + q.bias
    if r' < 2 ^ q.m then ⟨sgn + r', false, false⟩
    else if field < 1 then ⟨sgn, false, false⟩
    else
      let code := field.toNat * 2 ^ q.m + (r' - 2 ^ q.m)
      if floatMax q < code then
        ⟨sgn + (if f = 5 ∨ (f = 6 ∧ e5inf = false) then floatMax q else (2 ^ q.e - 1) * 2 ^ q.m), true, false⟩
      else ⟨sgn + code, false, false⟩

/-- A value converted to a format (R89–R94); `u` holds the generator's 16 bits under stochastic rounding. -/
def encodeNum (f : Nat) (e5inf : Bool) (x : Num) (u : Option Nat) : Conv :=
  if f = 0 then ⟨if Num.lt (.fin false 0 1) x then 1 else 0, false, false⟩
  else match floatFmt f with
    | some q =>
      match x with
      | .nan b => ⟨if f = 5 ∧ b then 0xFF else canonNan f, false, true⟩
      | .inf b =>
        let sgn := if b then 2 ^ (q.e + q.m) else 0
        if f = 5 ∨ (f = 6 ∧ e5inf = false) then ⟨sgn + floatMax q, true, false⟩
        else ⟨sgn + (2 ^ q.e - 1) * 2 ^ q.m, false, false⟩
      | .fin b n d => roundFloat f q e5inf b n d u
    | none =>
      if f = 10 then
        match x with
        | .nan _ => ⟨0, false, true⟩
        | .inf b => ⟨if b then 0 else 0xFF, true, false⟩
        | .fin b n d =>
          let r := roundMag b (n * 256) d u
          if b ∧ 0 < n ∧ 0 < r then ⟨0, true, false⟩
          else if b then ⟨0, false, false⟩
          else if 255 < r then ⟨0xFF, true, false⟩ else ⟨r, false, false⟩
      else
        let w := fmtWidth f
        match x with
        | .nan _ => ⟨0, false, true⟩
        | .inf b => ⟨if b then 2 ^ (w - 1) else 2 ^ (w - 1) - 1, true, false⟩
        | .fin b n d =>
          let r := roundMag b n d u
          satInt w (if b then -(r : Int) else r)

/-- A pattern of one format converted to another; no conversion takes place within one format (R89). -/
def convert (src dst : Nat) (e5inf : Bool) (x : Nat) (u : Option Nat) : Conv :=
  if src = dst then ⟨x, false, false⟩ else encodeNum dst e5inf (decodeNum src x) u

/-! ## Scale (R99, R100) -/

/-- The contribution of a weight (R100): its pattern in weight format `f`, the row's MULT and EXP; code is the S32
pattern. -/
def contribution (f w : Nat) (mult exp : Int) : Conv :=
  let shifted (k : Int) (frac : Nat) : Conv :=
    let p := k * mult
    let sh := exp - frac
    satInt 32 (if 0 ≤ sh then p * (2 ^ sh.toNat : Nat) else roundShift p (-sh).toNat)
  match decodeNum f w with
  | .nan _ => ⟨0, false, true⟩
  | .inf b =>
    if mult = 0 then ⟨0, false, false⟩
    else satInt 32 (if b != decide (mult < 0) then -(2 ^ 40 : Nat) else (2 ^ 40 : Nat))
  | .fin b n d =>
    let frac := if f = 5 then 9 else if f = 6 then 16 else 0
    let k : Nat := n * 2 ^ frac / d
    shifted (if b then -(k : Int) else k) frac

/-! ## Generators (R96, R97) -/

/-- One shift of the generator. -/
def lfsrShift (x : W64) : W64 :=
  if x.getLsbD 0 then (x >>> 1) ^^^ 0xD800000000000000#64 else x >>> 1

/-- `next16`: the generator after 16 shifts; its low 16 bits are the result. -/
def lfsrNext (x : W64) : W64 := (List.range 16).foldl (fun x _ => lfsrShift x) x

/-- A seed of zero is replaced by one (R97). -/
def seedOf (x : W64) : W64 := if x = 0 then 1 else x

/-- The generator of a site of a page: what no write has set holds the seed that the TRNG gave at the last reset (R97). -/
def State.lfsr (s : State) (page site : Nat) : W64 :=
  (Store.find s.cells.lfsr (page * 8 + site)).getD (seedOf (Config.trng (2 ^ 64 * (s.cells.seedBase + 1) + page * 8 + site)))

def State.setLfsr (s : State) (page site : Nat) (x : W64) : State :=
  { s with cells := { s.cells with lfsr := Store.put s.cells.lfsr (page * 8 + site) x } }

/-- Sites of a page that offer stochastic rounding (R95, R111). -/
def srSites (page : Nat) : List Nat :=
  match pageKind page with
  | .cel => [4, 5]
  | .rgn => [1, 2]
  | .plt => [3]
  | _ => []

/-- Reseed every generator of a page with one value (R98). -/
def State.reseed (s : State) (page : Nat) (v : W64) : State :=
  (srSites page).foldl (fun s n => s.setLfsr page n (seedOf (v ^^^ BitVec.ofNat 64 n))) s

/-- Seed the generators of a page from the TRNG as its unit leaves RESET (R97). -/
def State.seedPage (s : State) (page : Nat) : State :=
  (srSites page).foldl (fun s n => (s.setLfsr page n (seedOf (Config.trng s.fresh))).useFresh) s

/-! ## Saturation counting (R102–R107) -/

/-- The page that carries the header of a numeric block: the site's page for a logical cell (R110). -/
def State.headerPage (s : State) (page : Nat) : Nat :=
  if 0x100000 ≤ page then Page.site (s.siteOf (page - 0x100000)) else page

/-- Count one conversion at a site (R91, R103, R105). -/
def State.countConv (s : State) (page site : Nat) (c : Conv) : State :=
  let s := if c.nan then s.count page Reg.SAT_NAN 1 else s
  if c.sat && bit (s.reg page Reg.SAT_CTRL) site then
    let old := s.reg page (Reg.SAT_CNTn + 4 * site)
    let s := (s.count page (Reg.SAT_CNTn + 4 * site) 1).count page Reg.SAT_TOTAL 1
    if old = s.reg page Reg.SAT_LIMIT && old != 0xFFFFFFFF then
      (s.orReg page Reg.SAT_FLAG (bitWord site)).setInt (s.headerPage page) 31
    else s
  else s

/-- E5M2 targets of a page produce infinities (R90, R102). -/
def State.e5inf (s : State) (page : Nat) : Bool := bit (s.reg page Reg.SAT_CTRL) 16

/-- Convert a value at a site that rounds under R93. (DEDUCED, log 47) -/
def State.siteConv (s : State) (page site f : Nat) (x : Num) : Nat × State :=
  let c := encodeNum f (s.e5inf page) x none
  (c.code, s.countConv page site c)

/-- Convert a value at a site that rounds stochastically while `sr` holds (R94–R96). -/
def State.siteConvSr (s : State) (page site f : Nat) (x : Num) (sr : Bool) : Nat × State :=
  if sr then
    let g := lfsrNext (s.lfsr page site)
    let s := s.setLfsr page site g
    let c := encodeNum f (s.e5inf page) x (some (g.toNat % 65536))
    (c.code, s.countConv page site c)
  else s.siteConv page site f x

/-- `SAT_CTRL.SR` of a site (R95). -/
def State.srOn (s : State) (page site : Nat) : Bool := bit (s.reg page Reg.SAT_CTRL) (8 + site)

/-- An integer narrowed to `w` bits at a site. -/
def State.siteInt (s : State) (page site w : Nat) (i : Int) : Int × State :=
  let c := satInt w i
  (toSigned w c.code, s.countConv page site c)

/-- Begin a new saturation window of a page: every count returns to zero (R104). -/
def State.newWindow (s : State) (page : Nat) : State :=
  let s := (List.range 8).foldl (fun s n => s.setReg page (Reg.SAT_CNTn + 4 * n) 0) s
  { s with cells := { s.cells with satWin := setNum s.cells.satWin page 0 } }

/-- A summit, true or forced, in the window of a page (R104). -/
def State.windowSummit (s : State) (page : Nat) : State :=
  let n := numAt s.cells.satWin page + 1
  if max 1 (s.regFld page Reg.SAT_WIN 15 0) ≤ n then s.newWindow page
  else { s with cells := { s.cells with satWin := setNum s.cells.satWin page n } }

/-- The posted seed of a page takes effect (R98). -/
def State.applySeed (s : State) (page : Nat) : State :=
  match Store.find s.cells.seeds page with
  | none => s
  | some v =>
    let s := s.reseed page v
    { s with cells := { s.cells with seeds := Store.erase s.cells.seeds page } }

end Sys2Proof.Machine
end

