-- ==== Sys2Proof/Machine/Access.lean ====
section
/-! DEFINITION. Who may write a register: presence, security, owner and lock (R6, R526–R530, R538–R540, R643), and the
fence (R71). -/
namespace Sys2Proof.Machine
open Sys2Proof

/-- The debug level (R647, R656). -/
def State.debugLevel (s : State) : Nat := s.regFld 0x5 Reg.DBG_STAT 31 30

/-- The requester's accesses carry the secure attribute (R447, R643). -/
def State.isSecure (s : State) (r : Requester) : Bool :=
  match r.who with
  | .host => false
  | .rfg _ => r.mmode
  | .crs c => r.mmode && bit (s.reg (0x30 + c.val) Reg.CRS_SEC) 0
  | .jtag => s.debugLevel == 2

/-- The page whose `PG_SEC` and `PG_LOCK` hold for a page: a window's owning page (R530). -/
def owningPage (p : Nat) : Nat :=
  match pageKind p with
  | .routeWindow => Page.region ((p - 0x20000) / 0x400) + 0x08
  | .gateWindow => Page.region ((p - 0x22100) / 4) + 0x09
  | .channelWindow => Page.region ((p - 0x22200) / 8) + 0x0A
  | .chipRouteWindow => Page.rteChip
  | .memberWindow => 0xD0
  | _ => p

/-- `PG_SEC.OWNER` admits a writer (R538, R539). -/
def ownerAdmits (owner : Nat) (r : Requester) : Bool :=
  if owner = 0 ∨ 21 < owner then true
  else match r.who with
    | .crs c => owner == c.val + 1
    | .rfg k => owner == k.val + 17
    | .host => owner == 21
    | .jtag => false

/-- A header register that is RW (R531). -/
def headerRw (off : Nat) : Bool :=
  off == Reg.PG_CTRL || off == Reg.PG_ERR_EN || off == Reg.PG_INT_EN || off == Reg.PG_SEC

/-- The register at an offset has RW fields, which a lock covers (R540). (DESIGN CHOICE, log 17) -/
def lockable (p off : Nat) : Bool :=
  if (pageKind p).window then true
  else if off < 0x40 then headerRw off
  else match regRow p off with
    | some r => decide (r.access = .plain ∧ r.mask ≠ 0)
    | none => false

/-- The register's table marks it secure only (R539). -/
def secureOnly (p off : Nat) : Bool :=
  if (pageKind p).window then false
  else if off < 0x40 then off == Reg.PG_SEC
  else match regRow p off with
    | some r => r.secure
    | none => false

/-- Registers of the DBG page that JTAG reaches without authentication (R647). -/
def jtagOpen (p off : Nat) : Bool :=
  p == Page.dbg && (off == Reg.DBG_STAT || off == Reg.DBG_CTRL || off == Reg.DBG_TOKEN || off == Reg.DBG_TOKEN_LEN
    || decide (Reg.DBG_CHALLENGE0 ≤ off ∧ off < Reg.DBG_CHALLENGE0 + 32))

/-- Pages of units that NAP gates: regions, blocks, cells, Plateau arrays, DRAM and their windows (R602, R604). -/
def gatedUnit (p : Nat) : Bool :=
  match pageKind p with
  | .rgn | .rteRegion | .gat | .chnRegion | .lrnRegion | .drmSlice | .drmDie | .tar | .blk | .blkSnap | .fabBlock
  | .cel | .plt | .routeWindow | .gateWindow | .channelWindow => true
  | _ => false

/-- Pages that the Refuge cores reach in NAP; their own pages among them, since their heartbeats are kept (R608). -/
def napPage (p : Nat) : Bool := p == Page.pwr || p == Page.frz || decide (pageKind p = .col ∨ pageKind p = .rfgCore)

/-- Whether an access to a page is served now, held until it can be, or turned away from a gated unit. -/
inductive Reach where
  | served
  | held
  | gated
deriving DecidableEq, Repr

/-- The requester reaches the page: no fence of its own is outstanding (R71); the clocks run, or JTAG reaches the always-on
pages of a frozen chip (R594), or a Refuge core reaches what R607 and R608 leave it in NAP and on the way out of it. -/
def State.reach (s : State) (r : Requester) (p : Nat) : Reach :=
  if s.step.fences.contains r then .held
  else if s.clocked then .served
  else match r.who with
    | .jtag => if s.frzState ≠ Frz.run ∧ s.frzState < Frz.collect ∧ (p = Page.frz ∨ p = Page.dbg) then .served else .held
    | .rfg _ =>
      if s.frzState ≠ Frz.run then .held
      else if s.pwrState = Pwr.waking then (if gatedUnit p then .gated else .served)
      else if s.pwrState = Pwr.nap ∨ s.pwrState = Pwr.entering then (if napPage p then .served else .gated)
      else .held
    | _ => .held

/-- Memory accesses of the requester are served now (R71, R592). -/
def State.serves (s : State) (r : Requester) : Bool := s.clocked && !(s.step.fences.contains r)

/-- JTAG reaches a register: without authentication, or at a debug level (R647). -/
def State.jtagBars (s : State) (r : Requester) (p off : Nat) : Bool :=
  r.who == .jtag && !(jtagOpen p off) && s.debugLevel == 0

/-- The page and, where its table says so, the register refuse the requester for its attribute (R539). -/
def State.secBars (s : State) (r : Requester) (p off : Nat) : Bool :=
  s.jtagBars r p off ||
  (!(s.isSecure r) && !(r.who == .jtag && jtagOpen p off) && (bit (s.reg (owningPage p) Reg.PG_SEC) 31 || secureOnly p off))

/-- A non-secure access to a secure mailbox page is an error of its own (R491). -/
def State.colError (s : State) (r : Requester) (p off : Nat) : State :=
  if pageKind p = .col ∧ s.secBars r p off then s.setErr p 2 else s

/-- Judge a write to a register of a page: whether it is taken, and the chip with the refusal counted. `lock` says
whether the write is to RW fields, which a lock bars (R540). (DEDUCED, log 15) -/
def State.admitWith (s : State) (lock : Bool) (r : Requester) (p off : Nat) : Bool × State :=
  match s.reach r p with
  | .held => (false, s)
  | .gated => (false, s.setErr Page.pwr 1)
  | .served =>
    if presentIn s.grade p = false then (false, s.absentAcc)
    else if s.secBars r p off then (false, (s.colError r p off).secRefused)
    else if ownerAdmits (s.regFld (owningPage p) Reg.PG_SEC 4 0) r = false then (false, s.secRefused)
    else if lock && bit (s.reg (owningPage p) Reg.PG_LOCK) 0 && lockable p off then (false, s.lockRefused)
    else (true, s)

/-- A write of a whole register. (DESIGN CHOICE, log 16) -/
def State.judgeWrite (s : State) (r : Requester) (p off : Nat) : Bool × State := s.admitWith true r p off

/-- A header word that every requester may read (R539). -/
def openHeader (p off : Nat) : Bool :=
  !(pageKind p).window &&
  (off == Reg.PG_ID || off == Reg.PG_REV || off == Reg.PG_CAPS || off == Reg.PG_STAT || off == Reg.PG_SEC)

/-- The requester may read a register of a page. -/
def State.mayRead (s : State) (r : Requester) (p off : Nat) : Bool :=
  s.reach r p == .served && presentIn s.grade p && (!(s.secBars r p off) || openHeader p off)

/-- The value that a read returned. -/
def State.answer (s : State) (v : Nat) (poison : Bool) : State := { s with rdata := v, rpoison := poison }

/-- Latch the high word of a 64-bit register for a requester (R527). -/
def State.latchHigh (s : State) (r : Requester) (key : Nat) (v : W32) : State :=
  { s with latchedHigh := s.latchedHigh.filter (fun q => !(q.1 == r && q.2.1 == key)) ++ [(r, key, v)] }

/-- A read that is not served: it waits, or reads zero. -/
def State.denyRead (s : State) (r : Requester) (p off : Nat) : State :=
  match s.reach r p with
  | .held => s
  | .gated => (s.setErr Page.pwr 1).answer 0 false
  | .served => (s.colError r p off).answer 0 false

/-- Do `f` where the write is taken. -/
def State.ifAdmit (s : State) (r : Requester) (p off : Nat) (f : State → State) : State :=
  let a := s.judgeWrite r p off
  if a.1 then f a.2 else a.2

/-- Do `f` where a write to WO or W1S bits of the register is taken: a lock does not bar it (R540). -/
def State.ifAdmitWo (s : State) (r : Requester) (p off : Nat) (f : State → State) : State :=
  let a := s.admitWith false r p off
  if a.1 then f a.2 else a.2

/-- WO and W1S bits of registers that hold RW fields beside them (R321, R410, R411, R439, R521, R532, R599, R600). -/
def actBits (p off : Nat) : W32 :=
  if (pageKind p).window then 0
  else if off = Reg.PG_CTRL then 2
  else match pageKind p with
    | .plt => if off = Reg.PLT_CTRL then 0x10 else 0
    | .trvPort => if off = Reg.TRV_CFG then 0x1000000 else 0
    | .trvCommon => if off = Reg.TRV_JOIN then 0xC0000000 else 0
    | .ethUmh => if off = Reg.ETH_UMH_CTRL then 2 else 0
    | .tmr => if 0x100 ≤ off ∧ off < 0x900 ∧ off % 0x100 = 0 then 0x10000000 else 0
    | .frz => if off = Reg.FRZ_CTRL then 0x60 else 0
    | .blk => if off = Reg.BLK_CTRL then 2 else 0
    | _ => 0

/-- Do `f` with the word written to a register where the write is taken. A lock counts the write and keeps the RW fields;
WO and W1S bits beside them go on acting (R540). -/
def State.ifAdmitWord (s : State) (r : Requester) (p off : Nat) (v : W32) (f : State → W32 → State) : State :=
  let a := s.admitWith false r p off
  if a.1 = false then a.2
  else if bit (a.2.reg (owningPage p) Reg.PG_LOCK) 0 && lockable p off then
    let m := actBits p off
    if m = 0 then a.2.lockRefused else f a.2.lockRefused ((v &&& m) ||| (a.2.reg p off &&& ~~~ m))
  else f a.2 v

/-- A posted write of the requester waits for the next summit. -/
def State.posted (s : State) (r : Requester) : State :=
  if s.step.posters.contains r then s else { s with step := { s.step with posters := r :: s.step.posters } }

end Sys2Proof.Machine
end

