-- ==== Sys2Proof/Machine/Rows.lean ====
section
/-! DEFINITION. Synapse rows (R146–R153), rule parameter sets and profiles (R118, R119, R269), the epoch apply and the
traces of a row (R264–R277). -/
namespace Sys2Proof.Machine
open Sys2Proof

/-! ## Profiles (R118, R119) -/

structure Profile where
  model : Nat
  perEvent : Bool
  outMode : Nat
  resetMode : Nat
  refr : Nat
  inShift : Nat
  rule : Nat
  ruleset : Nat
  tdecay : Nat
  thr : Int
  vreset : Int
  vrest : Int
  eps : Int
  dv : Nat
  du : Nat
  da : Nat
  ajump : Int
  cos : Int
  sin : Int
deriving DecidableEq, Repr

abbrev Model.lif : Nat := 0
abbrev Model.cuba : Nat := 1
abbrev Model.alif : Nat := 2
abbrev Model.rf : Nat := 3
abbrev Model.int : Nat := 4
abbrev Model.sd : Nat := 5

/-- Signed 16-bit field of a word. -/
def sHi (v : W32) : Int := toSigned 16 (fld v 31 16)
def sLo (v : W32) : Int := toSigned 16 (fld v 15 0)

def profileOf (w : Nat → W32) : Profile :=
  { model := fld (w 0) 31 29, perEvent := bit (w 0) 28, outMode := fld (w 0) 27 26, resetMode := fld (w 0) 25 25
    refr := fld (w 0) 24 20, inShift := fld (w 0) 19 15, rule := fld (w 0) 14 12, ruleset := fld (w 0) 11 8
    tdecay := fld (w 0) 7 0, thr := sHi (w 1), vreset := sLo (w 1), vrest := sHi (w 2), eps := fld (w 2) 15 0
    dv := fld (w 3) 31 16, du := fld (w 3) 15 0, da := fld (w 4) 31 16, ajump := sLo (w 4)
    cos := sHi (w 5), sin := sLo (w 5) }

/-- Offset of profile k in a cell's page (R141). -/
def profOff (k : Nat) : Nat := Reg.CEL_PROF + 32 * k

/-- Profile k in force of a cell. -/
def State.profile (s : State) (c k : Nat) : Profile :=
  profileOf (fun i => s.reg (Page.cell c) (profOff k + 4 * i))

/-- The cell takes the profile (R119). -/
def Profile.ok (p : Profile) : Bool :=
  decide (p.model < 6) && decide (p.rule < 5) && decide (p.dv ≤ 0x8000) && decide (p.du ≤ 0x8000)
  && decide (p.da ≤ 0x8000) && !(p.model == Model.sd && (p.outMode == 0 || decide (p.thr < 0)))

/-! ## Neurons (R117) -/

def Neuron.zero : Neuron := {}

def State.neuron (s : State) (c i : Nat) : Neuron := Store.get (fun _ => Neuron.zero) s.cells.neurons (8192 * c + i)

def State.setNeuron (s : State) (c i : Nat) (n : Neuron) : State :=
  { s with cells := { s.cells with neurons := Store.set (fun _ => Neuron.zero) s.cells.neurons (8192 * c + i) n } }

/-- Profile index of a neuron's F. -/
def Neuron.prof (n : Neuron) : Nat := bitsOf n.f.toNat 15 10
def Neuron.refr (n : Neuron) : Nat := bitsOf n.f.toNat 9 5
def Neuron.spk (n : Neuron) : Bool := n.f.getLsbD 4
def Neuron.pend (n : Neuron) : Bool := n.f.getLsbD 3

/-- F from its fields. -/
def packF (prof refr : Nat) (spk pend : Bool) : W16 :=
  BitVec.ofNat 16 (prof % 64 * 1024 + refr % 32 * 32 + (if spk then 16 else 0) + (if pend then 8 else 0))

def s16 (v : W16) : Int := toSigned 16 v.toNat
def u16 (i : Int) : W16 := BitVec.ofNat 16 (ofSigned 16 i)

/-! ## Rule parameter sets (R269) -/

structure RuleSet where
  ap : Nat
  am : Nat
  trip : Nat
  tinc : Nat
  lr : Nat
  shift : Nat
  eclr : Nat
  edecay : Nat
  hup : Nat
  hdn : Nat
  amax : Int
deriving DecidableEq, Repr

def ruleSetOf (w : Nat → W32) : RuleSet :=
  { ap := fld (w 0) 31 24, am := fld (w 0) 23 16, trip := fld (w 0) 15 8, tinc := fld (w 0) 7 0
    lr := fld (w 1) 31 16, shift := fld (w 1) 15 11, eclr := fld (w 1) 10 9, edecay := fld (w 1) 7 0
    hup := fld (w 2) 31 24, hdn := fld (w 2) 23 16, amax := sLo (w 2) }

def State.ruleSet (s : State) (k : Nat) : RuleSet :=
  ruleSetOf (fun i => s.reg Page.lrn (Reg.LRN_RULESET + 16 * k + 4 * i))

/-- Learning runs (R265). -/
def State.learning (s : State) : Bool := bit (s.reg Page.lrn Reg.LRN_CTRL) 0

/-- The open epoch (R266). -/
def State.epoch (s : State) : Nat := s.reg64 Page.lrn Reg.LRN_EPOCH

/-! ## Rows (R146–R153) -/

/-- A row as it stands in DRAM: where its entry and header lie, both, and its synapse words with the mark of those in a
poisoned beat. -/
structure Row where
  cell : Nat
  entryOff : Nat
  addr : Nat
  entry : Nat
  h0 : W32
  h1 : W32
  words : List (W32 × Bool)
deriving DecidableEq, Repr

/-- The beat that holds a DRAM offset is poisoned (R168). -/
def State.beatPoison (s : State) (d : Nat) : Bool := s.isPoison (Base.dram + d / 64 * 64)

/-- A word of DRAM in force. -/
def State.dramWord (s : State) (d : Nat) : W32 := s.word (Base.dram + d)

/-- Fields of a row table entry (R146). -/
def Entry.len (e : Nat) : Nat := bitsOf e 63 48
def Entry.rfmt (e : Nat) : Nat := bitsOf e 47 44
def Entry.stamp (e : Nat) : Nat := bitsOf e 43 42
def Entry.plastic (e : Nat) : Bool := Nat.testBit e 41
def Entry.valid (e : Nat) : Bool := Nat.testBit e 40
def Entry.addr (e : Nat) : Nat := bitsOf e 35 4 * 16

/-- Bytes of a row: header and words (R153). -/
def Entry.bytes (e : Nat) : Nat := 8 + 4 * Entry.len e

/-- The row table entry at a DRAM offset. -/
def State.entryAt (s : State) (off : Nat) : Nat := s.num (Base.dram + off) 8

/-- The row of an entry. -/
def State.loadRow (s : State) (cell entryOff entry : Nat) : Row :=
  let a := Entry.addr entry
  { cell := cell, entryOff := entryOff, addr := a, entry := entry, h0 := s.dramWord a, h1 := s.dramWord (a + 4)
    words := (List.range (Entry.len entry)).map (fun j =>
      (s.dramWord (a + 8 + 4 * j), s.beatPoison (a + 8 + 4 * j))) }

/-- Row format and weight format that go together (R149). -/
def rowFormats (rfmt wfmt : Nat) : Bool :=
  (rfmt == 0 && (wfmt == 2 || wfmt == 5 || wfmt == 6)) || (rfmt == 1 && wfmt == 3) || (rfmt == 2 && wfmt == 1)
  || (rfmt == 3 && wfmt == 2) || (rfmt == 4 && wfmt == 5)

def Row.rfmt (r : Row) : Nat := fld r.h0 31 28
def Row.wfmt (r : Row) : Nat := fld r.h0 27 24
def Row.exp (r : Row) : Int := toSigned 6 (fld r.h0 23 18)
def Row.mult (r : Row) : Int := sHi r.h1
def Row.pre (r : Row) : Nat := fld r.h0 15 8
def Row.evalid (r : Row) : Bool := bit r.h0 7
def Row.age (r : Row) : Nat := fld r.h0 6 0
/-- The cell takes the stamp from the entry (R148). -/
def Row.stamp (r : Row) : Nat := Entry.stamp r.entry

/-- An event for the row is dropped (R147). (DEDUCED, log 45) -/
def State.rowRefused (s : State) (entryOff entry : Nat) : Bool :=
  s.beatPoison entryOff || !(Entry.valid entry) || s.beatPoison (Entry.addr entry)
  || fld (s.dramWord (Entry.addr entry)) 31 28 != Entry.rfmt entry
  || !(rowFormats (Entry.rfmt entry) (fld (s.dramWord (Entry.addr entry)) 27 24))

/-- Count an event dropped for its entry or row (R147). -/
def State.rowBad (s : State) (entryOff : Nat) : State :=
  let p := Page.die (dramDie entryOff)
  (s.countInt p Reg.DRM_ROW_BAD 1 1).setReg64 p Reg.DRM_ROW_BAD_ADDR entryOff

/-! ## Synapse words (R150, R151, R264) -/

def Syn.tgt (w : W32) : Nat := fld w 31 19
def Syn.kind (w : W32) : Nat := fld w 18 17
def Syn.plastic (w : W32) : Bool := bit w 16
def Syn.weight (w : W32) : Nat := fld w 15 8
def Syn.elig (w : W32) : Int := toSigned 8 (fld w 7 0)
def Syn.setElig (w : W32) (x : Nat) : W32 := withFld w 7 0 x
def Syn.setWeight (w : W32) (x : Nat) : W32 := withFld w 15 8 x

/-- The profile of a neuron of a cell. -/
def State.profileOfNeuron (s : State) (c i : Nat) : Profile := s.profile c (s.neuron c i).prof

/-- A synapse word is plastic: its bit in a SPARSE32 row; in a SPARSE32W row the bit is 0 (R151). -/
def Row.plasticWord (r : Row) (w : W32) : Bool := r.rfmt == 0 && Syn.plastic w

/-- R264. -/
def State.learned (s : State) (r : Row) (w : W32) : Bool :=
  r.plasticWord w && Syn.kind w == 0 && Entry.plastic r.entry &&
  (let k := (s.profileOfNeuron r.cell (Syn.tgt w)).rule; k == 1 || k == 2 || k == 3)

/-! ## Traces (R272) -/

/-- `pow16` of R272 over the seven bits of the age. -/
def pow16 (d n : Nat) : Nat :=
  ((List.range 7).foldl (fun (q : Nat × Nat) i =>
    (if Nat.testBit n i then (q.1 * q.2 + 32768) / 65536 else q.1, (q.2 * q.2 + 32768) / 65536)) (65536, d * 256)).1

/-- Where a bring-up-to-date counts: a page with its sites for weights, eligibilities and traces (R111, R275). -/
structure Sites where
  page : Nat
  weight : Nat
  elig : Nat
  trace : Nat
deriving DecidableEq, Repr

def cellSites (c : Nat) : Sites := { page := Page.cell c, weight := 6, elig := 5, trace := 4 }
def sweepSites (r : Nat) : Sites := { page := Page.region r, weight := 0, elig := 1, trace := 2 }

/-- The decayed pre-trace of a row (R272). -/
def State.decayedPre (s : State) (q : Sites) (r : Row) : Nat × State :=
  let age := (s.stepNo + 128 - r.age) % 128
  let pd := fld (s.reg (Page.cell r.cell) Reg.CEL_PRE_CTRL) 7 0
  s.siteConvSr q.page q.trace 10 (.fin false (r.pre * pow16 pd age) (65536 * 256)) (s.srOn q.page q.trace)

/-! ## The epoch apply (R275) -/

/-- Change every word of a row that lies in no poisoned beat, in order. -/
def mapWords (f : State → W32 → W32 × State) (s : State) : List (W32 × Bool) → List (W32 × Bool) × State
  | [] => ([], s)
  | (w, bad) :: l =>
    let a := if bad then (w, s) else f s w
    let b := mapWords f a.2 l
    ((a.1, bad) :: b.1, b.2)

/-- The new weight of a learned synapse, and its eligibility, at the apply of epoch k. -/
def State.applyWord (s : State) (q : Sites) (r : Row) (k : Nat) (w : W32) : W32 × State :=
  if s.learned r w = false then (w, s)
  else
    let p := s.profileOfNeuron r.cell (Syn.tgt w)
    let rs := s.ruleSet p.ruleset
    let m : Int := if p.rule = 3 then toSigned 16 (fld (s.reg (Page.cell r.cell) (Reg.CEL_MODL0 + 4 * (k % 4))) 15 0)
                   else 256
    let d := (Num.ofInt (rs.lr * m * Syn.elig w)).shift (-((rs.shift : Int) + 8))
    let x := s.siteConv q.page q.weight r.wfmt ((decodeNum r.wfmt (Syn.weight w)).add d)
    let w' := Syn.setWeight w x.1
    if rs.eclr = 0 then (Syn.setElig w' 0, x.2)
    else if rs.eclr = 2 then
      let e := x.2.siteConvSr q.page q.elig 2 ((Num.ofInt (Syn.elig w * rs.edecay)).shift (-8))
        (x.2.srOn q.page q.elig)
      (Syn.setElig w' e.1, e.2)
    else (w', x.2)

/-- `apply(row, k)`; the last part says that it was suppressed (WARM). -/
def State.applyRow (s : State) (q : Sites) (r : Row) (k : Nat) : Row × State × Bool :=
  if r.evalid then
    let a := mapWords (fun s w => s.applyWord q r k w) s r.words
    ({ r with words := a.1 }, a.2, false)
  else
    let a := mapWords (fun s w => (if s.learned r w then Syn.setElig w 0 else w, s)) s r.words
    ({ r with words := a.1, h0 := withFld r.h0 7 7 1 }, a.2, true)

/-- What a bring-up-to-date did: the lag of the row and how many of its applies were suppressed. -/
structure Applied where
  row : Row
  lag : Nat
  warm : Nat
deriving DecidableEq, Repr

/-- The stamp of an entry. -/
def Entry.setStamp (e t : Nat) : Nat := e - bitsOf e 43 42 * 2 ^ 42 + t % 4 * 2 ^ 42

/-- `bring_up_to_date` (R275). -/
def State.bringUp (s : State) (q : Sites) (r : Row) : Applied × State :=
  let c := s.epoch
  let lag := (c + 4 - r.stamp) % 4
  let stamped (r : Row) : Row := { r with entry := Entry.setStamp r.entry c, h0 := withFld r.h0 17 16 c }
  if lag = 3 then
    let a := mapWords (fun s w => (if r.plasticWord w then Syn.setElig w 0 else w, s)) s r.words
    ({ row := stamped { r with words := a.1, h0 := withFld r.h0 7 7 0 }, lag := 3, warm := 0 }, a.2)
  else
    let a := (List.range lag).foldl (fun (x : Row × State × Nat) i =>
      let y := x.2.1.applyRow q x.1 (c - lag + i)
      (y.1, y.2.1, x.2.2 + (if y.2.2 then 1 else 0))) (r, s, 0)
    ({ row := stamped a.1, lag := lag, warm := a.2.2 }, a.2.1)

/-- The bytes of an applied row as a write-back stores them: the header, the words outside poisoned beats, and the entry,
whose stamp every writer writes with the header's (R148, R168, R273). -/
def Row.store (r : Row) : List (Nat × List Byte) :=
  (Base.dram + r.addr, leBytes 4 r.h0.toNat) :: (Base.dram + r.addr + 4, leBytes 4 r.h1.toNat)
  :: (Base.dram + r.entryOff, leBytes 8 r.entry)
  :: ((List.range r.words.length).zip r.words).filterMap (fun x =>
      if x.2.2 then none else some (Base.dram + r.addr + 8 + 4 * x.1, leBytes 4 x.2.1.toNat))

/-- Store a list of byte strings, leaving poisoned beats as they are. -/
def State.storeAll (s : State) (l : List (Nat × List Byte)) : State :=
  l.foldl (fun s x => if s.isPoison (x.1 / 64 * 64) then s else s.setBytes x.1 x.2) s

/-- Write a row back. -/
def State.storeRow (s : State) (r : Row) : State := s.storeAll r.store

/-- Count what a pipeline's bring-up-to-date did (R275, R291). -/
def State.countApplied (s : State) (c : Nat) (a : Applied) : State :=
  let p := Page.cell c
  if a.lag = 3 then s.count p Reg.CEL_LRN_STALE 1
  else (s.count p Reg.CEL_LRN_WARM a.warm).count p Reg.CEL_LRN_APPLY (a.lag - a.warm)

end Sys2Proof.Machine
end

