-- ==== Sys2Proof/Machine/Cells.lean ====
section
/-! DEFINITION. Cells and neurons (R112–R145): the update, spikes, queues, the pipeline from a queue head to the
accumulators, and posted writes. -/
namespace Sys2Proof.Machine
open Sys2Proof

/-! ## Queues (R127–R132) -/

/-- Reset value of a descriptor word: STATE is CLOSED. -/
def qdescDefault (k : Nat) : W32 := if k % 4 = 0 then 0x40000000 else 0

/-- Descriptor word w of queue q of cell c. -/
def State.qword (s : State) (c q w : Nat) : W32 := Store.get qdescDefault s.cells.qdesc (4 * (512 * c + q) + w)

def State.setQword (s : State) (c q w : Nat) (v : W32) : State :=
  { s with cells := { s.cells with qdesc := Store.set qdescDefault s.cells.qdesc (4 * (512 * c + q) + w) v } }

def State.qstate (s : State) (c q : Nat) : Nat := fld (s.qword c q 0) 31 30
def State.setQstate (s : State) (c q x : Nat) : State := s.setQword c q 0 (withFld (s.qword c q 0) 31 30 x)
def State.qprio (s : State) (c q : Nat) : Nat := fld (s.qword c q 0) 29 28
def State.qdelay (s : State) (c q : Nat) : Nat := fld (s.qword c q 0) 27 23
def State.qcap (s : State) (c q : Nat) : Nat := fld (s.qword c q 0) 10 0
def State.qrowsM1 (s : State) (c q : Nat) : Nat := fld (s.qword c q 2) 31 20
/-- DRAM offset of a queue's row table. -/
def State.qrowt (s : State) (c q : Nat) : Nat := fld (s.qword c q 2) 3 0 * 2 ^ 32 + fld (s.qword c q 3) 31 3 * 8
/-- The handler that reads a queue, if any (R678). -/
def State.qreader (s : State) (c q : Nat) : Option Nat :=
  if bit (s.qword c q 0) 22 then some (fld (s.qword c q 0) 21 16) else none

/-- Entries that a queue holds. -/
def State.qheld (s : State) (c q : Nat) : Nat :=
  (s.cells.pool.filter (fun e => e.cell == c && e.queue == q)).length

def State.setPool (s : State) (l : List PoolEntry) : State := { s with cells := { s.cells with pool := l } }

/-- Take every entry of a queue out of the pool and count them. -/
def State.flushQueue (s : State) (c q off : Nat) : State :=
  (s.setPool (s.cells.pool.filter (fun e => !(e.cell == c && e.queue == q)))).cellDrop c off (s.qheld c q)

/-- A change to OPEN (0) or CLOSED (1) takes effect (R130). -/
def State.changeQueue (s : State) (c q x : Nat) : State :=
  if s.qstate c q = 2 then s
  else if x = 1 ∧ s.qstate c q = 0 then (s.flushQueue c q Reg.CEL_DROP_CLOSED).setQstate c q 1
  else s.setQstate c q x

/-- Request a change to OPEN or CLOSED: at the next summit, or at once while the step timer is stopped (R130). -/
def State.requestQueue (s : State) (c q x : Nat) : State :=
  if s.qstate c q = 2 then s
  else if s.running = false then s.changeQueue c q x
  else { s with cells := { s.cells with qreq := Store.put s.cells.qreq (512 * c + q) x } }

/-- The requested changes of a cell's queues take effect. -/
def State.applyQueues (s : State) (c : Nat) : State :=
  let mine := s.cells.qreq.filter (fun p => p.1 / 512 == c)
  let s := { s with cells := { s.cells with qreq := s.cells.qreq.filter (fun p => p.1 / 512 != c) } }
  mine.foldl (fun s p => s.changeQueue c (p.1 % 512) p.2) s

/-- RESET of a queue (R130): its entries are freed and a waiting change is cancelled. -/
def State.resetQueue (s : State) (c q : Nat) : State :=
  if s.qstate c q = 2 then s
  else
    let s := (s.flushQueue c q Reg.CEL_DROP_RESET).setQstate c q 2
    { s with cells := { s.cells with qreq := Store.erase s.cells.qreq (512 * c + q) } }

/-- What becomes of an event at its queue. -/
inductive Placed where
  | placed
  | closed
  | reset
  | full
  | row
deriving DecidableEq, Repr

/-- Judge an event at queue q of cell c (R128, R131). -/
def State.judge (s : State) (c q row : Nat) : Placed :=
  if s.qstate c q = 1 then .closed
  else if s.qstate c q = 2 then .reset
  else if s.qcap c q ≤ s.qheld c q then .full
  else if s.qrowsM1 c q < row then .row
  else .placed

/-- Put an event of step `step` into the pool (R128). It is late only while its due step has passed (R61), or when
`force` says that it is integrated in the coming step (R578). -/
def State.enpool (s : State) (c q row step : Nat) (force : Bool) (graded : Option W16) (off : W16) : State :=
  let due := step + s.qdelay c q
  s.setPool (s.cells.pool ++ [{ cell := c, queue := q, row := row, due := due, graded := graded, off := off
                                late := decide (due < s.stepNo) || (force && decide (due ≤ s.stepNo))
                                forced := force && decide (due ≤ s.stepNo) }])

/-- The counter of a drop. -/
def Placed.counter : Placed → Nat
  | .full => Reg.CEL_DROP_FULL
  | .row => Reg.CEL_DROP_ROW
  | .reset => Reg.CEL_DROP_RESET
  | _ => Reg.CEL_DROP_CLOSED

/-- An arriving event is placed, or dropped and counted (R128, R131). -/
def State.placeEvent (s : State) (c q row step : Nat) (force : Bool) (graded : Option W16) (off : W16) : State :=
  match s.judge c q row with
  | .placed => s.enpool c q row step force graded off
  | x => s.cellDrop c x.counter 1

/-- An event of this step is too old for the policy (R62, R63). -/
def State.tooOld (s : State) (step : Nat) : Bool :=
  if s.policy = 0 then decide (step + max 1 (s.regFld Page.stp Reg.STP_DEFER_MAX 1 0) < s.stepNo)
  else if s.policy = 1 then decide (step < s.stepNo)
  else false

/-! ## Spikes (R120–R126) -/

/-- Count a spike or emission of a cell and send its record unless the output is NONE (R120, R221). -/
def State.sendSpike (s : State) (c i : Nat) (p : Profile) (value : W16) (off : W16) : State :=
  let s := s.count (Page.cell c) Reg.CEL_SPIKES 1
  let s := { s with cells := { s.cells with spikes := addNum s.cells.spikes c 1 } }
  if p.outMode = 3 then s
  else
    let ax := Store.get (fun _ => (0 : W32)) s.cells.axon (8192 * c + i)
    { s with fabric := { s.fabric with spikes := s.fabric.spikes ++
        [{ cell := c, first := fld ax 31 14, count := fld ax 13 0, step := s.stepNo
           graded := if p.outMode = 0 then none else some value, off := off }] } }

/-- `sat16G` (R121, R126): S16, or BF16 for GRADED_BF16. (DEDUCED, log 41) -/
def State.sat16G (s : State) (c : Nat) (p : Profile) (g : Int) : W16 × State :=
  if p.outMode = 2 then
    let x := s.siteConv (Page.cell c) 3 7 (Num.ofInt g)
    (BitVec.ofNat 16 x.1, x.2)
  else
    let x := s.siteInt (Page.cell c) 3 16 g
    (u16 x.1, x.2)

def State.sat16V (s : State) (c : Nat) (v : Int) : Int × State := s.siteInt (Page.cell c) 0 16 v
def State.sat16UA (s : State) (c : Nat) (v : Int) : Int × State := s.siteInt (Page.cell c) 1 16 v

/-! ## The update (R121, R122, R134, R135) -/

/-- Absolute value. -/
def absI (x : Int) : Int := x.natAbs

def mulF (x : Int) (d : Nat) : Int := roundShift (x * d) 15
def Profile.leak (p : Profile) (x : Int) (d : Nat) : Int := p.vrest + mulF (x - p.vrest) d
def scaleIn (x : Int) (k : Nat) : Int := roundShift x k

/-- Working values of an update. -/
structure Upd where
  v : Int
  u : Int
  a : Int
  refr : Nat
  spk : Bool := false
deriving DecidableEq, Repr

/-- V, U and A before the threshold (R121). -/
def State.membrane (s : State) (c : Nat) (p : Profile) (n : Neuron) (inp : Int) : Upd × State :=
  let a := if p.model = Model.alif then mulF (s16 n.a) p.da else s16 n.a
  if p.model = Model.rf then
    let x := s16 n.v - p.vrest
    let u := s16 n.u
    ({ v := p.vrest + roundShift ((p.cos * x - p.sin * u) * p.dv) 30 + inp
       u := roundShift ((p.sin * x + p.cos * u) * p.dv) 30, a := a, refr := n.refr }, s)
  else if p.model = Model.cuba then
    let u := s.sat16UA c (mulF (s16 n.u) p.du + inp)
    ({ v := p.leak (s16 n.v) p.dv + u.1, u := u.1, a := a, refr := n.refr }, u.2)
  else ({ v := p.leak (s16 n.v) p.dv + inp, u := s16 n.u, a := a, refr := n.refr }, s)

/-- A spike of the per-step update: the value is v before the reset (R121, R126). -/
def State.fire (s : State) (c i : Nat) (p : Profile) (d : Upd) : Upd × State :=
  let g := if p.outMode = 0 ∨ p.outMode = 3 then ((0 : W16), s) else s.sat16G c p d.v
  let s := g.2.sendSpike c i p g.1 0
  ({ d with v := if p.resetMode = 0 then p.vreset else d.v - (p.thr + d.a), refr := p.refr, spk := true
            a := if p.model = Model.alif then d.a + p.ajump else d.a }, s)

/-- The threshold part of the update (R121, R135). -/
def State.threshold (s : State) (c i : Nat) (p : Profile) (n : Neuron) (d : Upd) : Upd × State :=
  let pend16 : W16 := BitVec.ofNat 16 (n.acc.toNat / 65536)
  let off16 : W16 := BitVec.ofNat 16 n.acc.toNat
  if p.model = Model.int then (d, s)
  else if p.perEvent ∧ p.model = Model.sd then
    (if n.pend then ({ d with spk := true }, s.sendSpike c i p pend16 off16) else (d, s))
  else if p.perEvent ∧ p.model ≠ Model.cuba then
    (if n.pend then
      ({ d with spk := true, refr := p.refr, a := if p.model = Model.alif then d.a + p.ajump else d.a },
        s.sendSpike c i p pend16 off16)
     else if 0 < d.refr then ({ d with refr := d.refr - 1, v := p.vreset }, s) else (d, s))
  else if p.model = Model.sd then
    (if p.thr < absI (d.v - s16 n.a) then
      let g := if p.outMode = 3 then ((0 : W16), s) else s.sat16G c p (d.v - s16 n.a)
      ({ d with spk := true, a := d.v }, g.2.sendSpike c i p g.1 0)
     else (d, s))
  else if 0 < d.refr then ({ d with refr := d.refr - 1, v := p.vreset }, s)
  else if p.thr + d.a ≤ d.v then s.fire c i p d
  else (d, s)

/-- Post-trace and homeostatic rule, at the point that R270 names. -/
def State.learnUpdate (s : State) (c : Nat) (p : Profile) (n : Neuron) (spk : Bool) : Neuron × State :=
  let rs := s.ruleSet p.ruleset
  let pg := Page.cell c
  if s.learning = false then (n, s)
  else if 1 ≤ p.rule ∧ p.rule ≤ 3 then
    let x := s.siteConvSr pg 4 10 (.fin false (n.post.toNat * p.tdecay) 65536) (s.srOn pg 4)
    let y := if spk then x.2.siteConv pg 4 10 (.fin false (x.1 + rs.tinc) 256) else x
    ({ n with post := BitVec.ofNat 8 y.1 }, y.2)
  else if p.rule = 4 ∧ (p.model = Model.lif ∨ p.model = Model.cuba ∨ p.model = Model.rf) then
    let a := s16 n.a
    ({ n with a := u16 (if spk then min (a + rs.hup) rs.amax else if 0 < a then a - min a rs.hdn else a) }, s)
  else (n, s)

/-- `snap` (R122, R271). -/
def snap (p : Profile) (n : Neuron) : Neuron :=
  let ra : Int := if p.model = Model.sd then p.vrest else 0
  if n.spk = false ∧ n.pend = false ∧ n.refr = 0 ∧ absI (s16 n.v - p.vrest) ≤ p.eps ∧ absI (s16 n.u) ≤ p.eps
      ∧ absI (s16 n.a - ra) ≤ p.eps then
    { n with v := u16 p.vrest, u := 0, a := u16 ra, active := false, post := 0 }
  else n

/-- The update of one neuron (R121, R135). -/
def State.updateNeuron (s : State) (c i : Nat) : State :=
  let n := s.neuron c i
  let p := s.profile c n.prof
  let inp : Int := if p.perEvent then 0 else scaleIn (toSigned 32 n.acc.toNat) p.inShift
  let d := s.membrane c p n inp
  let t := d.2.threshold c i p n d.1
  let v := t.2.sat16V c t.1.v
  let u := v.2.sat16UA c t.1.u
  let a := u.2.sat16UA c t.1.a
  let n := { n with v := u16 v.1, u := u16 u.1, a := u16 a.1, acc := 0, f := packF n.prof t.1.refr t.1.spk false }
  let l := a.2.learnUpdate c p n t.1.spk
  l.2.setNeuron c i (snap p l.1)

/-- The update of step n is under way on the chip (R676). -/
def State.updating (s : State) : Bool := s.timebase && s.clocked && s.step.phase == .update

/-- The lowest active neuron of a cell that the update engine has not yet visited. (DEDUCED, log 40) -/
def State.nextActive (s : State) (c : Nat) : Option Nat :=
  ((s.cells.neurons.find? (fun p =>
    decide (8192 * c + numAt s.cells.updPos c ≤ p.1 ∧ p.1 < 8192 * (c + 1)) && p.2.active)).map (·.1 - 8192 * c))

/-- The cell still has its update of the current step to complete. -/
def State.mustUpdate (s : State) (c : Nat) : Bool :=
  s.updating && s.live c && !(s.cells.updated.contains c) && !(s.blockCopies (c / 16))

/-- NEURON_UPDATE: the update engine visits the next active neuron (R121). The engine stalls at a neuron whose record
finds the block's spike link full (R221). -/
def execNeuronUpdate (cell : Fin 2048) (s : State) : Host.Outcome State Fault Refusal :=
  if s.mustUpdate cell then
    match s.nextActive cell with
    | none => .next s
    | some i =>
      let t := s.updateNeuron cell i
      if 256 < (t.fabric.spikes.filter (fun k => k.cell / 16 == cell.val / 16)).length then .next s
      else .next { t with cells := { t.cells with updPos := setNum t.cells.updPos cell (i + 1) } }
  else .next s

/-- CELL_UPDATE_DONE: no active neuron is left, so the cell's update is complete and it may take queue heads (R49). -/
def execCellUpdateDone (cell : Fin 2048) (s : State) : Host.Outcome State Fault Refusal :=
  if s.mustUpdate cell && (s.nextActive cell).isNone then
    .next { s with cells := { s.cells with updated := setIns s.cells.updated cell } }
  else .next s

/-! ## Accumulation (R100, R133, R134) -/

/-- Value of a contribution after the event's graded value (R133). -/
def gradedConv (c : Int) (graded : Option W16) (gfmt : Bool) (gshift : Nat) : Conv :=
  match graded with
  | none => ⟨ofSigned 32 c, false, false⟩
  | some g =>
    if gfmt = false then satInt 32 (roundShift (c * s16 g) gshift)
    else match decodeNum 7 g.toNat with
      | .nan _ => ⟨0, false, true⟩
      | .inf b => if c = 0 then ⟨0, false, false⟩ else encodeNum 4 false (.inf (b != decide (c < 0))) none
      | x => encodeNum 4 false ((Num.ofInt c).mul x) none

/-- The contribution of a weight pattern for an event, counted at the ACC site (R100, R133). -/
def State.contribute (s : State) (r : Row) (w : Nat) (e : PoolEntry) : Int × State :=
  let pg := Page.cell r.cell
  let a := contribution r.wfmt w r.mult r.exp
  let s := s.countConv pg 2 a
  let q0 := s.qword e.cell e.queue 0
  let b := gradedConv (toSigned 32 a.code) e.graded (bit q0 11) (fld q0 15 12)
  (toSigned 32 b.code, s.countConv pg 2 b)

/-- `on_event` of a PER_EVENT neuron (R134). (DESIGN CHOICE, log 39) -/
def State.onEvent (s : State) (c i : Nat) (x0 : Int) (off : W16) : State :=
  let n := s.neuron c i
  let p := s.profile c n.prof
  let x := scaleIn x0 p.inShift
  if p.model = Model.cuba then
    let u := s.sat16UA c (s16 n.u + x)
    u.2.setNeuron c i { n with u := u16 u.1, active := true }
  else if p.model ≠ Model.int ∧ p.model ≠ Model.sd ∧ 0 < n.refr then s.setNeuron c i { n with active := true }
  else
    let v := s.sat16V c (s16 n.v + x)
    let n := { n with v := u16 v.1, active := true }
    if p.model = Model.int ∨ n.pend then v.2.setNeuron c i n
    else if p.model = Model.sd then
      (if p.thr < absI (v.1 - s16 n.a) then
        let g := v.2.sat16G c p (v.1 - s16 n.a)
        g.2.setNeuron c i { n with f := packF n.prof n.refr n.spk true, acc := g.1 ++ off, a := n.v }
       else v.2.setNeuron c i n)
    else if p.thr + s16 n.a ≤ v.1 then
      let g := v.2.sat16G c p v.1
      let r := if p.resetMode = 0 then (p.vreset, g.2) else g.2.sat16V c (v.1 - (p.thr + s16 n.a))
      r.2.setNeuron c i { n with f := packF n.prof n.refr n.spk true, acc := g.1 ++ off, v := u16 r.1 }
    else v.2.setNeuron c i n

/-- A CURRENT contribution reaches neuron i of cell c (R101, R123, R134). -/
def State.accumulate (s : State) (c i : Nat) (x : Int) (off : W16) : State :=
  let n := s.neuron c i
  if (s.profile c n.prof).perEvent then s.onEvent c i x off
  else
    let a := satInt 32 (toSigned 32 n.acc.toNat + x)
    (s.countConv (Page.cell c) 2 a).setNeuron c i { n with acc := BitVec.ofNat 32 a.code, active := true }

/-- A CURRENT synapse of an event for a target: outside the queue's neurons it is counted and contributes nothing (R129,
R153). -/
def State.current (s : State) (r : Row) (e : PoolEntry) (tgt w : Nat) : State :=
  let q1 := s.qword e.cell e.queue 1
  if tgt < 8192 ∧ fld q1 31 19 ≤ tgt ∧ tgt < fld q1 31 19 + fld q1 18 5 then
    let x := s.contribute r w e
    x.2.accumulate r.cell tgt x.1 e.off
  else s.cellDrop r.cell Reg.CEL_DROP_TGT 1

/-- A GATE synapse (R231). -/
def State.gateSynapse (s : State) (r : Row) (w : W32) : State :=
  let rg := r.cell / 256
  let gat := Page.region rg + 0x09
  if Nat.testBit (Syn.tgt w) 12 then s.countInt gat Reg.GAT_DROP 0 1
  else
    let g := Syn.tgt w % 4096
    let p := 0x22100 + 4 * rg + g / 1024
    let o := 4 * (g % 1024)
    (s.setFld p o 15 8 (max (s.regFld p o 15 8) (Syn.weight w))).count gat Reg.GAT_WRITES 1

/-- A MODULATORY synapse (R274). -/
def State.modSynapse (s : State) (r : Row) (w : Nat) (e : PoolEntry) : State :=
  if s.learning then
    let pg := Page.cell r.cell
    let x := s.contribute r w e
    let m := x.2.siteInt pg 2 16 (toSigned 16 (x.2.regFld pg Reg.CEL_MOD 15 0) + x.1)
    m.2.setReg pg Reg.CEL_MOD (BitVec.ofNat 32 (ofSigned 16 m.1))
  else s

/-- One synapse word of a sparse row (R150–R152). -/
def State.sparseWord (s : State) (r : Row) (e : PoolEntry) (w : W32) : State :=
  let s := s.count (Page.cell r.cell) Reg.CEL_SYN 1
  let x := if r.rfmt = 1 then fld w 15 0 else Syn.weight w
  if Syn.kind w = 0 then s.current r e (Syn.tgt w) x
  else if Syn.kind w = 1 then s.modSynapse r x e
  else if Syn.kind w = 2 then s.gateSynapse r w
  else s

/-- One word of a dense row (R85, R153). -/
def State.denseWord (s : State) (r : Row) (e : PoolEntry) (j : Nat) (w : W32) : State :=
  let width := fmtWidth r.wfmt
  let n := 32 / width
  (List.range n).foldl (fun s i =>
    let x := bitsOf w.toNat (width * (i + 1) - 1) (width * i)
    if x = 0 ∨ (r.wfmt = 5 ∧ x = 0x80) then s
    else (s.count (Page.cell r.cell) Reg.CEL_SYN 1).current r e (fld r.h1 12 0 + n * j + i) x) s

/-- The eligibility of a learned synapse at an event (R273). -/
def State.eligUpdate (s : State) (r : Row) (pre : Nat) (w : W32) : W32 × State :=
  if s.learned r w = false then (w, s)
  else
    let p := s.profileOfNeuron r.cell (Syn.tgt w)
    let rs := s.ruleSet p.ruleset
    let x : Nat := (s.neuron r.cell (Syn.tgt w)).post.toNat
    let t := if p.rule = 2 then rs.trip else 0
    let d : Int := (rs.ap * pre * x * (65536 + t * x) : Nat) - ((rs.am * x * 2 ^ 24 : Nat) : Int)
    let q := cellSites r.cell
    let y := s.siteConvSr q.page q.elig 2 ((Num.ofInt (Syn.elig w * (2 ^ 32 : Nat) + d)).shift (-32))
      (s.srOn q.page q.elig)
    (Syn.setElig w y.1, y.2)

/-- Expand the words of a row in order; `pre` holds the decayed pre-trace where eligibilities change (R273). Words in
poisoned beats are skipped (R168). -/
def expandWords (r : Row) (e : PoolEntry) (pre : Option Nat) (s : State) (j : Nat) :
    List (W32 × Bool) → List (W32 × Bool) × State
  | [] => ([], s)
  | (w, bad) :: l =>
    let a : W32 × State :=
      if bad then (w, s)
      else if r.rfmt < 2 then
        let s := s.sparseWord r e w
        match pre with
        | some x => s.eligUpdate r x w
        | none => (w, s)
      else (w, s.denseWord r e j w)
    let b := expandWords r e pre a.2 (j + 1) l
    ((a.1, bad) :: b.1, b.2)

/-! ## The pipeline (R129, R146, R155, R159–R164) -/

/-- The set of the row cache that an offset falls into, among `n`: the spec gives the ways and not the index. (DESIGN CHOICE, log 43) -/
def cacheSet (n off : Nat) : Nat := if n = 0 then 0 else Config.num (2 ^ 80 + off) % n

/-- Put a key first in a cache of `n` sets and `ways` ways: the least recently used key of a full set leaves. -/
def cacheTouch (n ways : Nat) (l : List (Nat × Nat)) (k : Nat × Nat) : List (Nat × Nat) :=
  let same (p : Nat × Nat) : Bool := p.1 == k.1 && cacheSet n p.2 == cacheSet n k.2
  let l := l.filter (· != k)
  let keep := (l.filter same).take (ways - 1)
  k :: l.filter (fun p => !(same p) || keep.contains p)

/-- Lines of a cached row. -/
def rowLines (e : Nat) : List Nat := (List.range ((Entry.bytes e + 63) / 64)).map (fun i => Entry.addr e + 64 * i)

/-- The row may be cached (R163). -/
def cacheable (e : Nat) : Bool := !(Entry.plastic e) && decide (Entry.len e ≤ 126)

/-- Hand requests for [d, d + n) to the slices (R154, R155). -/
def State.pushReqs (s : State) (who item d n : Nat) : State :=
  { s with dram := { s.dram with reqs := s.dram.reqs ++ (granules d n).map (fun g =>
      { slice := (dramPlace g.1).slice, who := who, bytes := g.2, item := item, addr := g.1 }) } }

/-- No request of an item waits at a slice. -/
def State.reqsDone (s : State) (item : Nat) : Bool := s.dram.reqs.all (fun q => q.item != item)

def State.setRowCache (s : State) (l : List (Nat × Nat)) : State := { s with cells := { s.cells with rowCache := l } }

def State.setItems (s : State) (l : List Item) : State := { s with cells := { s.cells with items := l } }
def State.dropItem (s : State) (id : Nat) : State := s.setItems (s.cells.items.filter (fun i => i.id != id))
def State.putItem (s : State) (it : Item) : State :=
  s.setItems (s.cells.items.map (fun i => if i.id = it.id then it else i))

/-- A write-back of the row is outstanding, or the region's sweeper holds it (R160, R281). (DEDUCED, log 44) -/
def State.rowHeld (s : State) (c addr : Nat) : Bool :=
  s.cells.writeBacks.any (fun w => w.cell == c && w.row == addr)

/-- An earlier item of the cell is fetching the row: a later event for a plastic row sees what it writes (R160). -/
def State.rowFetched (s : State) (it : Item) (addr : Nat) : Bool :=
  s.cells.items.any (fun i => i.id != it.id && i.cell == it.cell && i.stage == .row && Entry.addr i.word == addr)

/-- An item whose row table entry is known goes on: dropped for a bad row, held, a cache hit, or a fetch. -/
def State.itemRow (s : State) (it : Item) : State :=
  let e := s.entryAt it.tbl
  let it := { it with word := e, stage := .row }
  let site := s.siteOf it.cell
  if s.beatPoison it.tbl || !(Entry.valid e) then (s.rowBad it.tbl).dropItem it.id
  else if s.rowHeld it.cell (Entry.addr e) || (Entry.plastic e && s.rowFetched it (Entry.addr e)) then
    s.putItem { it with stage := .held }
  else if cacheable e && (rowLines e).all (fun l => s.cells.rowCache.contains (site, l)) then
    let s := s.putItem it
    s.setRowCache ((rowLines e).foldl (fun l d => cacheTouch 64 8 l (site, d)) s.cells.rowCache)
  else (s.putItem it).pushReqs it.cell it.id (Entry.addr e) (Entry.bytes e)

/-- The due entry that stage 1 takes before another (R129); entries later in the pool have arrived later. -/
def State.before (s : State) (a b : PoolEntry) : Bool :=
  if a.late != b.late then a.late
  else if a.late && a.due != b.due then decide (a.due < b.due)
  else if s.qprio a.cell a.queue ≠ s.qprio b.cell b.queue then
    decide (s.qprio b.cell b.queue < s.qprio a.cell a.queue)
  else decide (a.queue < b.queue)

/-- The next due entry of a cell (R129). -/
def State.headOf (s : State) (c : Nat) : Option PoolEntry :=
  (s.cells.pool.filter (fun e => e.cell == c && decide (e.due ≤ s.stepNo))).foldl (fun best e =>
    match best with
    | none => some e
    | some b => if s.before e b then some e else some b) none

/-- Drop the first occurrence of an entry. -/
def eraseFirst [DecidableEq α] (x : α) : List α → List α
  | [] => []
  | a :: l => if a = x then l else a :: eraseFirst x l

/-- `y` in the place of the first `x` of a list. -/
def replaceFirst [DecidableEq α] (x y : α) : List α → List α
  | [] => []
  | a :: l => if a = x then y :: l else a :: replaceFirst x y l

/-- The cell may take queue heads: its own update of the step is complete and the step is not closed (R49, R578). -/
def State.mayTake (s : State) (c : Nat) : Bool :=
  s.runs (11 + c / 16) && s.live c && !s.step.summited && (s.step.phase != .update || s.cells.updated.contains c)

/-- A row is busy in the cell's pipeline: an item holds or fetches it. -/
def State.rowBusy (s : State) (c addr : Nat) : Bool :=
  s.rowHeld c addr || s.cells.items.any (fun i => i.cell == c && i.stage != .table && Entry.addr i.word == addr)

/-- The outcome of bringing a row up to date for ROW_APPLY and READ_ROW (R284): `busy` where R281 makes the handler wait,
`bad` where R147 or a poisoned beat refuses the row. -/
inductive Brought where
  | busy
  | bad
  | done (row : Row)
deriving DecidableEq, Repr

/-- Bring row r of a queue up to date and write it back (R284). -/
def State.bringRow (s : State) (c q r : Nat) : Brought × State :=
  let tbl := s.qrowt c q + 8 * r
  let e := s.entryAt tbl
  if s.rowRefused tbl e then (.bad, s)
  else if s.rowBusy c (Entry.addr e) then (.busy, s)
  else
    let row := s.loadRow c tbl e
    if Entry.plastic e = false ∨ s.epoch % 4 = Entry.stamp e then (.done row, s)
    else
      let a := s.bringUp (cellSites c) row
      (.done a.1.row, ((a.2.countApplied c a.1).storeRow a.1.row).count (Page.cell c) Reg.CEL_LRN_WB 1)

/-- A due entry of a queue that a hardware handler reads (R678). -/
def State.readerAct (s : State) (e : PoolEntry) (hnd : Nat) : State :=
  if hnd = 0x05 then s.requestQueue e.cell (e.row % 512) 0
  else if hnd = 0x06 then s.requestQueue e.cell (e.row % 512) 1
  else
    let b := s.bringRow e.cell e.queue e.row
    match b.1 with
    | .bad => b.2.rowBad (s.qrowt e.cell e.queue + 8 * e.row)
    | _ => b.2

/-- A ROW_APPLY head waits while the row is busy (R281). -/
def State.readerBlocked (s : State) (e : PoolEntry) : Bool :=
  match s.qreader e.cell e.queue with
  | some h => decide (h ≠ 0x05 ∧ h ≠ 0x06) && s.rowBusy e.cell (Entry.addr (s.entryAt (s.qrowt e.cell e.queue + 8 * e.row)))
  | none => false

/-- Take an entry out of the pool and count it (R678). -/
def State.takeEntry (s : State) (e : PoolEntry) : State :=
  (s.setPool (eraseFirst e s.cells.pool)).count (Page.cell e.cell) Reg.CEL_EVENTS 1

/-- An event is integrated: counted where that is late, as it is for an item that a migration resumed (R61, R578). -/
def State.integrated (s : State) (e : PoolEntry) (resumed : Bool) : State := if e.late || resumed then s.countLate else s

/-- Begin an item for an entry: its row table entry comes from the row cache or from DRAM. -/
def State.beginItem (s : State) (e : PoolEntry) : State :=
  let tbl := s.qrowt e.cell e.queue + 8 * e.row
  let it : Item := { id := s.fresh + 1, cell := e.cell, entry := e, stage := .table, tbl := tbl, word := 0 }
  let s := (s.setItems (s.cells.items ++ [it])).useFresh
  let k := (s.siteOf e.cell, tbl)
  if s.cells.tblCache.contains k then
    ({ s with cells := { s.cells with tblCache := cacheTouch 256 4 s.cells.tblCache k } }).itemRow it
  else s.pushReqs e.cell it.id tbl 8

/-- QUEUE_HEAD_TAKE (R129, R678). At most 16 fetches are outstanding in a cell. -/
def execQueueHeadTake (cell : Fin 2048) (s : State) : Host.Outcome State Fault Refusal :=
  if s.mayTake cell && decide ((s.cells.items.filter (fun i => i.cell == cell.val)).length < 16) then
    match s.headOf cell with
    | none => .next s
    | some e =>
      match s.qreader e.cell e.queue with
      | some h => if s.readerBlocked e then .next s else .next (((s.takeEntry e).integrated e false).readerAct e h)
      | none => .next ((s.takeEntry e).beginItem e)
  else .next s

/-- ROW_TABLE_READ_COMPLETE: the entry has come from DRAM (R146). -/
def execRowTableReadComplete (item : Nat) (s : State) : Host.Outcome State Fault Refusal :=
  match s.cells.items.find? (fun i => i.id == item) with
  | none => .next s
  | some it =>
    if s.runs (11 + it.cell / 16) && it.stage == .table && s.reqsDone item then
      let s := { s with cells := { s.cells with
        tblCache := cacheTouch 256 4 s.cells.tblCache (s.siteOf it.cell, it.tbl) } }
      .next (s.itemRow it)
    else .next s

/-- Integrate a plastic row (R273): bring it up to date, expand it with its eligibilities, and hand its write-back to
DRAM. -/
def State.plasticRow (s : State) (it : Item) (r : Row) : State :=
  let q := cellSites it.cell
  let a := s.bringUp q r
  let s := a.2.countApplied it.cell a.1
  let pre := s.decayedPre q a.1.row
  let x := expandWords a.1.row it.entry (some pre.1) pre.2 0 a.1.row.words
  let pinc := fld (x.2.reg q.page Reg.CEL_PRE_CTRL) 15 8
  let p := x.2.siteConv q.page q.trace 10 (.fin false (pre.1 + pinc) 256)
  let row := { a.1.row with words := x.1, h0 := withFld (withFld a.1.row.h0 15 8 p.1) 6 0 p.2.stepNo }
  let s := p.2.count q.page Reg.CEL_LRN_WB 1
  let w : WriteBack := { id := s.fresh + 1, cell := it.cell, row := row.addr
                         bytes := (row.store.map (fun y => (List.range y.2.length).map (fun i =>
                           (y.1 + i, y.2.getD i 0)))).flatten }
  let s := { s with cells := { s.cells with writeBacks := s.cells.writeBacks ++ [w] } }
  s.useFresh.pushReqs it.cell w.id row.addr (Entry.bytes row.entry)

/-- Integrate a row that is read only: a row without PLASTIC, any row while learning is stopped, and the row of a resumed
item, with the weights in force (R265, R268, R577 step 5). -/
def State.readOnlyRow (s : State) (it : Item) (r : Row) : State :=
  if Entry.plastic r.entry then
    let a := s.bringUp (cellSites it.cell) r
    (expandWords a.1.row it.entry none a.2 0 a.1.row.words).2
  else
    let site := s.siteOf it.cell
    let s := if cacheable r.entry then s.setRowCache
      ((rowLines r.entry).foldl (fun l d => cacheTouch 64 8 l (site, d)) s.cells.rowCache) else s
    (expandWords r it.entry none s 0 r.words).2

/-- Items that waited for a row go on once nothing holds it. -/
def State.wakeHeld (s : State) (c : Nat) : State :=
  (s.cells.items.filter (fun i => i.cell == c && i.stage == .held)).foldl (fun s i => s.itemRow i) s

/-- ROW_FETCH_COMPLETE: the last granule has arrived (R155). -/
def execRowFetchComplete (item : Nat) (s : State) : Host.Outcome State Fault Refusal :=
  match s.cells.items.find? (fun i => i.id == item) with
  | none => .next s
  | some it =>
    if s.mayTake it.cell && it.stage == .row && s.reqsDone item then
      let s := s.dropItem item
      if s.rowRefused it.tbl it.word then .next ((s.rowBad it.tbl).wakeHeld it.cell)
      else
        let r := s.loadRow it.cell it.tbl it.word
        let s := s.integrated it.entry it.resumed
        if Entry.plastic it.word && s.learning && !it.resumed then .next (s.plasticRow it r)
        else .next ((s.readOnlyRow it r).wakeHeld it.cell)
    else .next s

/-- WRITE_BACK_COMPLETE: the bytes stand in DRAM, and fetches of the row go on (R160). -/
def execWriteBackComplete (cell : Fin 2048) (row : Nat) (s : State) : Host.Outcome State Fault Refusal :=
  match s.cells.writeBacks.find? (fun w => w.cell == cell.val && w.row == row) with
  | none => .next s
  | some w =>
    if s.runs (11 + cell.val / 16) && s.reqsDone w.id then
      let s := { s with cells := { s.cells with writeBacks := eraseFirst w s.cells.writeBacks } }
      let s := w.bytes.foldl (fun s b => if s.isPoison (b.1 / 64 * 64) then s else s.setByte b.1 b.2) s
      .next (s.wakeHeld cell)
    else .next s

/-! ## Posted writes (R137–R139, R142, R269) -/

/-- Posted writes of a cell. -/
def State.postsOf (s : State) (c : Nat) : List CellPost :=
  (s.cells.posts.filter (fun p => p.1 == c)).map (·.2)

/-- A posted write takes effect. -/
def State.applyCellPost (s : State) (c : Nat) (p : CellPost) : State :=
  let pg := Page.cell c
  match p with
  | .profile k w vals =>
    ((List.range vals.length).zip vals).foldl (fun s x => s.setReg pg (profOff k + 4 * (w + x.1)) x.2) s
  | .axon i v => { s with cells := { s.cells with axon := Store.set (fun _ => (0 : W32)) s.cells.axon (8192 * c + i) v } }
  | .neuron0 i v => s.setNeuron c i { s.neuron c i with u := BitVec.ofNat 16 (fld v 31 16), v := BitVec.ofNat 16 (fld v 15 0), active := true }
  | .neuron1 i v => s.setNeuron c i { s.neuron c i with f := BitVec.ofNat 16 (fld v 31 19 * 8), a := BitVec.ofNat 16 (fld v 15 0), active := true }
  | .neuron i w0 w1 => s.setNeuron c i { s.neuron c i with
      u := BitVec.ofNat 16 (fld w0 31 16), v := BitVec.ofNat 16 (fld w0 15 0)
      f := BitVec.ofNat 16 (fld w1 31 19 * 8), a := BitVec.ofNat 16 (fld w1 15 0), active := true }
  | .preCtrl v => s.setReg pg Reg.CEL_PRE_CTRL (v &&& 0xFFFF)
  | .modulator v => s.setReg pg Reg.CEL_MOD (v &&& 0xFFFF)

/-- Every posted write of a cell takes effect, in issue order. -/
def State.applyCellPosts (s : State) (c : Nat) : State :=
  let l := s.postsOf c
  let s := { s with cells := { s.cells with posts := s.cells.posts.filter (fun p => p.1 != c) } }
  l.foldl (fun s p => s.applyCellPost c p) s

/-- Post writes of a cell together, or apply them at once while the timer is stopped; false where the 64 places do not
suffice (R137, R139). -/
def State.postCell (s : State) (c : Nat) (l : List CellPost) : Bool × State :=
  if s.running = false then (true, l.foldl (fun s p => s.applyCellPost c p) s)
  else if 64 < (s.postsOf c).length + l.length then (false, s)
  else (true, { s with cells := { s.cells with posts := s.cells.posts ++ l.map (fun p => (c, p)) } })

/-- Word i of profile k of a cell as it would stand once its posted writes have taken effect. -/
def State.profWordPosted (s : State) (c k i : Nat) : W32 :=
  (s.postsOf c).foldl (fun v p =>
    match p with
    | .profile k' w vals => if k' = k ∧ w ≤ i then vals.getD (i - w) v else v
    | _ => v) (s.reg (Page.cell c) (profOff k + 4 * i))

/-- The profile with words from w on replaced is one that the cell takes (R119). -/
def State.profileOk (s : State) (c k w : Nat) (vals : List W32) : Bool :=
  (profileOf (fun i => if w ≤ i ∧ i < w + vals.length then vals.getD (i - w) 0 else s.profWordPosted c k i)).ok

/-- The posted write that an offset of the cell page names (R141, R291). -/
def State.cellPostAt (s : State) (c off : Nat) (v : W32) : Option CellPost :=
  let pg := Page.cell c
  if off = Reg.CEL_NDATA0 then some (.neuron0 (s.regFld pg Reg.CEL_NSEL 12 0) v)
  else if off = Reg.CEL_NDATA1 then some (.neuron1 (s.regFld pg Reg.CEL_NSEL 12 0) v)
  else if off = Reg.CEL_ADATA then some (.axon (s.regFld pg Reg.CEL_ASEL 12 0) v)
  else if off = Reg.CEL_PRE_CTRL then some (.preCtrl v)
  else if off = Reg.CEL_MOD then some (.modulator v)
  else if Reg.CEL_PROF ≤ off ∧ off < 0x900 ∧ off % 4 = 0 then
    some (.profile ((off - Reg.CEL_PROF) / 32) ((off - Reg.CEL_PROF) / 4 % 8)
      [if 6 ≤ (off - Reg.CEL_PROF) / 4 % 8 then 0 else v])
  else none

/-- The write of an admitted requester to a posted register of a cell page. -/
def State.cellPostWrite (s : State) (r : Requester) (site off : Nat) (v : W32) : State :=
  match s.cellAt site with
  | none => s
  | some c =>
    match s.cellPostAt c off v with
    | none => s
    | some p =>
      let bad := match p with
        | .profile k w vals => !(s.profileOk c k w vals)
        | _ => false
      if bad then s.setErr (Page.site site) 4
      else
        let x := s.postCell c [p]
        if x.1 then (if s.running then x.2.posted r else x.2) else s.setErr (Page.site site) 5

/-- POSTED_CELL_WRITE (R137). -/
def execPostedCellWrite (req : Requester) (site : Fin 2176) (off : Nat) (v : W32) (s : State) :
    Host.Outcome State Fault Refusal :=
  .next (s.ifAdmit req (Page.site site) off (fun s => s.cellPostWrite req site off v))

/-! ## Descriptor writes (R127, R130, R132, R678) -/

/-- Bits of a descriptor word that are not reserved. -/
def qdescMask (w : Nat) : W32 :=
  if w = 0 then 0xFFFFFFFF else if w = 1 then 0xFFFFFFE0 else if w = 2 then 0xFFF0000F else 0xFFFFFFF8

/-- Sum of the CAP values of a cell, with queue q counted as `cap`. -/
def State.capSum (s : State) (c q cap : Nat) : Nat :=
  ((List.range 512).map (fun k => if k = q then cap else s.qcap c k)).sum

/-- A write to word 0 asks for too much pool space (R127). -/
def State.qcapRefused (s : State) (c q : Nat) (v : W32) : Bool :=
  decide (s.qcap c q < fld v 10 0) && decide (2048 < s.capSum c q (fld v 10 0))

/-- A write to word 0 names a handler that may not read a queue (R678). -/
def qhndRefused (v : W32) : Bool :=
  bit v 22 && !(fld v 21 16 == 0x05 || fld v 21 16 == 0x06 || fld v 21 16 == 0x09)

/-- The STATE field of a write to `CEL_QDESC0` (R130): a change that waits for the summit is a posted write of the
requester (R71). -/
def State.qstateWrite (s : State) (r : Requester) (c q x : Nat) (page : Nat) : State :=
  if x = 3 then s.setErr page 3
  else if x = 2 then s.resetQueue c q
  else if s.running ∧ s.qstate c q ≠ 2 then (s.requestQueue c q x).posted r
  else s.requestQueue c q x

/-- The write of an admitted requester to a descriptor word (R127, R132, R678): a word that may not name its handler is
ignored whole, of one that asks for too much pool space STATE still acts. (DEDUCED, log 42) -/
def State.qdescApply (s : State) (r : Requester) (site w : Nat) (v0 : W32) : State :=
  match s.cellAt site with
  | none => s
  | some c =>
    let page := Page.site site
    let q := s.regFld (Page.cell c) Reg.CEL_QSEL 8 0
    let v := v0 &&& qdescMask w
    let old := s.qword c q w
    let fields (x : W32) : W32 := if w = 0 then withFld x 31 30 0 else x
    if w = 0 ∧ s.qstate c q = 1 ∧ qhndRefused v then s.setErr page 3
    else
      let s := if s.qstate c q = 1 then
                 (if w = 0 ∧ s.qcapRefused c q v then s.setErr page 3
                  else if w = 0 then s.setQword c q 0 (withFld v 31 30 1) else s.setQword c q w v)
               else if fields v = fields old then s else s.setErr page 3
      if w = 0 then s.qstateWrite r c q (fld v 31 30) page else s

/-- QDESC_WRITE (R132). -/
def execQdescWrite (req : Requester) (site : Fin 2176) (word : Fin 4) (v : W32) (s : State) :
    Host.Outcome State Fault Refusal :=
  .next (s.ifAdmit req (Page.site site) (Reg.CEL_QDESC0 + 4 * word.val) (fun s => s.qdescApply req site word v))

/-- QUEUE_RESET_DONE: the last entry is freed and the queue is CLOSED (R130). -/
def execQueueResetDone (cell : Fin 2048) (queue : Fin 512) (s : State) : Host.Outcome State Fault Refusal :=
  if s.qstate cell queue = 2 ∧ s.qheld cell queue = 0 then .next (s.setQstate cell queue 1) else .next s

/-! ## Quiescence and errors of a cell (R51, R114, R115, R144) -/

/-- The cell is quiescent for the current step (R51). A fenced cell reports itself quiescent (R576). -/
def State.cellQuiescent (s : State) (c : Nat) : Bool :=
  !(s.live c) ||
  (s.cells.pool.all (fun e => e.cell != c || decide (s.stepNo < e.due))
   && s.cells.items.all (fun i => i.cell != c)
   && s.fabric.spikes.all (fun k => k.cell != c)
   && (s.step.phase != .update || s.cells.updated.contains c))

/-- CELL_QUIESCENT (R51). -/
def execCellQuiescent (cell : Fin 2048) (s : State) : Host.Outcome State Fault Refusal :=
  if s.runs (11 + cell.val / 16) && s.cellQuiescent cell then
    .next { s with cells := { s.cells with quiet := setIns s.cells.quiet cell } }
  else .next s

/-- Drop cached entries and lines that a write to [d, d + n) touches (R164). -/
def State.invalidate (s : State) (d n : Nat) : State :=
  { s with cells := { s.cells with
      tblCache := s.cells.tblCache.filter (fun k => !(decide (k.2 < d + n ∧ d < k.2 + 8)))
      rowCache := s.cells.rowCache.filter (fun k => !(decide (k.2 < d + n ∧ d < k.2 + 64))) } }

end Sys2Proof.Machine
end

