-- ==== Sys2Proof/Machine/Dram.lean ====
section
/-! DEFINITION. The bonded DRAM (R154–R175): reservation windows, requests, posted writes to the synapse store, refresh,
ECC, row remapping, scrubbing and power states. -/
namespace Sys2Proof.Machine
open Sys2Proof

/-! ## Reservations (R157, R158, R161, R174) -/

/-- The default division of the grade (R174), in units of 15.625 kB/s. -/
def defaultRate (g : Grade) (who : Nat) : Nat :=
  if who < 2048 then (match g with | .xa => 1600 | .sa => 1800 | .la => 1950)
  else if who < 2052 then (if who - 2048 < g.plts then 148800 else 0)
  else if who < 2068 then (if who - 2052 < g.crests then 9400 else 0)
  else if who < 2084 then (if who - 2068 < g.trvs then (match g with | .la => 25600 | _ => 4600) else 0)
  else 0

/-- Per-slice reservation of a requester. -/
def State.rate (s : State) (who : Nat) : Nat :=
  match s.dram.rates with
  | none => defaultRate s.grade who
  | some m => numAt m who

/-- `DRM_WIN_NS` (R172). -/
def State.winNs (s : State) : Nat := max 1024 (s.regFld (Page.die 0) Reg.DRM_WIN_NS 15 0)

/-- Length of window k of a step of P ns: full, or the partial window that ends the step (R158). -/
def winLength (w p k : Nat) : Nat := if k * w < p ∧ p < (k + 1) * w then p - k * w else w

/-- Bytes that a requester's reservation gives in the present window of a slice (R158, R166). -/
def State.fullCredit (s : State) (slice who : Nat) : Nat :=
  let w := s.winNs
  let bw := s.regFld (Page.slice slice) Reg.DRM_BW_AVAIL 15 0
  let full := s.rate who * w * bw / (64000 * 64000)
  let len := winLength w (s.reg Page.stp Reg.STP_PERIOD_ACT).toNat (numAt s.dram.wins slice)
  if len < w then full * len / w else full

/-- The requester has credit left in the window. -/
def State.hasCredit (s : State) (slice who : Nat) : Bool :=
  decide (numAt s.dram.used (slice * 4096 + who) < s.fullCredit slice who)

/-- Rank among the requesters served in unreserved cycles (R161): the five listed ones, then every other. -/
def unreservedRank (who : Nat) : Nat :=
  if who = 2086 then 0 else if who = 2084 then 1 else if who = 2085 then 2 else if who = 2087 then 3 else 5

/-- Requests that a slice may serve: a request for bytes that are being cleared is held (R646). -/
def State.reqsAt (s : State) (slice : Nat) : List DramReq :=
  s.dram.reqs.filter (fun q => q.slice == slice && !(s.clearing q.addr))

/-- Some requester with credit has a request ready at the slice. -/
def State.reservedReady (s : State) (slice : Nat) : Bool :=
  (s.reqsAt slice).any (fun q => s.hasCredit slice q.who)

/-- Distance of a requester in the turn of item 6. -/
def State.turnOf (s : State) (slice who : Nat) : Nat := (who + 4096 - numAt s.dram.turn slice) % 4096

/-- The slice may serve this request now (R158, R161). (DESIGN CHOICE, log 50) -/
def State.mayServe (s : State) (slice : Nat) (q : DramReq) : Bool :=
  if s.hasCredit slice q.who then true
  else !(s.reservedReady slice) && s.rate q.who == 0 &&
    (s.reqsAt slice).all (fun x => s.rate x.who != 0 || decide (unreservedRank q.who < unreservedRank x.who)
      || (unreservedRank q.who == unreservedRank x.who
          && decide (s.turnOf slice q.who ≤ s.turnOf slice x.who)))

/-- Refresh multiplier code to bandwidth in MB/s (R166). -/
def bwOf (refx : Nat) : Nat := if refx = 0 then 64000 else if refx = 1 then 60000 else 52000

/-- `DRM_BW_AVAIL` follows the multiplier (R165). -/
def State.followRefresh (s : State) (slice : Nat) : State :=
  let p := Page.slice slice
  let s := s.setReg p Reg.DRM_BW_AVAIL (BitVec.ofNat 32 (bwOf (s.regFld p Reg.DRM_SLICE_STAT 25 24)))
  { s with dram := { s.dram with refresh := setDel s.dram.refresh slice } }

/-- Distinct requesters that wait at a slice. -/
def State.waiters (s : State) (slice : Nat) : List Nat := (s.reqsAt slice).foldl (fun l q => setIns l q.who) []

/-- A window ends and the next begins, with index k after the tick (R158): waits are counted, unused credit is not
carried, and an overdraft is. -/
def State.beginWindow (s : State) (slice k : Nat) : State :=
  let ws := s.waiters slice
  let waits := ws.foldl (fun m w => addNum m (slice * 4096 + w) 1) s.dram.waits
  let mine := s.dram.used.filter (fun p => p.1 / 4096 == slice)
  let used := mine.foldl (fun m p => setNum m p.1 (p.2 - s.fullCredit slice (p.1 % 4096))) s.dram.used
  let s := if ws.isEmpty then s else s.count (Page.slice slice) Reg.DRM_WAIT_ANY 1
  let s := { s with dram := { s.dram with waits := waits, used := used, wins := setNum s.dram.wins slice k } }
  if s.dram.refresh.contains slice then s.followRefresh slice else s

/-- Slices that hold a request or a charge, or wait for a change of bandwidth. -/
def State.busySlices (s : State) : List Nat :=
  let a := s.dram.reqs.foldl (fun l q => setIns l q.slice) []
  let b := s.dram.used.foldl (fun l p => setIns l (p.1 / 4096)) a
  s.dram.refresh.foldl setIns b

/-- The windows of every slice restart at the tick (R158). -/
def State.restartWindows (s : State) : State :=
  let s := s.busySlices.foldl (fun s g => s.beginWindow g 0) s
  { s with dram := { s.dram with wins := [] } }

/-- RESERVATION_WINDOW: the window's time is over (R158). -/
def execReservationWindow (slice : Fin 128) (s : State) : Host.Outcome State Fault Refusal :=
  let k := numAt s.dram.wins slice
  if s.runs (sliceDomain slice) && presentIn s.grade (Page.slice slice) &&
      decide (s.reg64 Page.stp Reg.STP_TICK_NS + k * s.winNs
        + winLength s.winNs (s.reg Page.stp Reg.STP_PERIOD_ACT).toNat k ≤ s.elapsed) then
    .next (s.beginWindow slice (k + 1))
  else .next s

/-! ## Power states (R171) -/

/-- `DRM_SLICE_STAT.PSTATE`. -/
def State.slicePower (s : State) (slice : Nat) : Nat := s.regFld (Page.slice slice) Reg.DRM_SLICE_STAT 31 30
def State.setSlicePower (s : State) (slice x : Nat) : State :=
  s.setFld (Page.slice slice) Reg.DRM_SLICE_STAT 31 30 x

/-- The slice takes accesses: ACTIVE, or POWER_DOWN, which an access leaves. -/
def State.sliceServes (s : State) (slice : Nat) : Bool :=
  s.runs (sliceDomain slice) && presentIn s.grade (Page.slice slice) && decide (s.slicePower slice < 2)

/-- An access keeps the slice ACTIVE. -/
def State.touchSlice (s : State) (slice : Nat) : State :=
  let s := if s.slicePower slice = 1 then s.setSlicePower slice 0 else s
  { s with dram := { s.dram with lastAccess := setNum s.dram.lastAccess slice s.elapsed } }

/-- SLICE_POWER_DOWN: `DRM_PD_NS` without an access (R171). -/
def execSlicePowerDown (slice : Fin 128) (s : State) : Host.Outcome State Fault Refusal :=
  let pd := s.regFld (Page.slice slice) Reg.DRM_PD_NS 15 0
  if s.runs (sliceDomain slice) && presentIn s.grade (Page.slice slice) && s.slicePower slice == 0 && pd != 0
      && (s.reqsAt slice).isEmpty && decide (numAt s.dram.lastAccess slice + pd ≤ s.elapsed) then
    .next (s.setSlicePower slice 1)
  else .next s

/-! ## ECC and row remapping (R167–R170) -/

/-- Key of a DRAM row. -/
def rowKey (p : DramPlace) : Nat := (p.slice * 16 + p.bank) * 2 ^ 14 + p.row

/-- The remap list entry of a row (R169). -/
def remapWord (src slice bank row spare : Nat) : W32 :=
  BitVec.ofNat 32 (2 ^ 31 + src % 4 * 2 ^ 29 + sliceInDie slice % 64 * 2 ^ 23 + bank % 16 * 2 ^ 19 + row % 2 ^ 14 * 2 ^ 5
    + spare % 4 * 2 ^ 3)

/-- Entries of the remap lists for a bank of a slice. -/
def State.bankRemaps (s : State) (slice bank : Nat) : List (Nat × W32) :=
  s.dram.remap.filter (fun e => e.1 == slice % 16 / 8 && fld e.2 28 23 == sliceInDie slice && fld e.2 22 19 == bank)

/-- The row is listed, or is being copied. -/
def State.rowListed (s : State) (slice bank row : Nat) : Bool :=
  (s.bankRemaps slice bank).any (fun e => fld e.2 18 5 == row)
  || s.dram.copies.any (fun c => c.slice == slice && c.bank == bank && c.row == row)

/-- Spares of a bank that are used or being filled. -/
def State.sparesUsed (s : State) (slice bank : Nat) : Nat :=
  (s.bankRemaps slice bank).length + (s.dram.copies.filter (fun c => c.slice == slice && c.bank == bank)).length

/-- A row fails in a bank with no spare: the slice is DEGRADED (R167, R175). -/
def State.degradeBank (s : State) (slice bank : Nat) : State :=
  let p := Page.slice slice
  let s := { s with dram := { s.dram with failedBanks := setIns s.dram.failedBanks (slice * 16 + bank) } }
  let s := (s.setErr p 1).setInt p 2
  if s.errOn p 1 then
    s.record { level := 2, cls := 2, esc := false, inj := false, code := 0x0304, unit := pageId p, addr := slice }
  else s

/-- Begin the copy of a failing row, unless the row is listed already or no spare is left. -/
def State.startRemap (s : State) (p : DramPlace) (src : Nat) : State :=
  if s.rowListed p.slice p.bank p.row then s
  else if 4 ≤ s.sparesUsed p.slice p.bank then s.degradeBank p.slice p.bank
  else { s with dram := { s.dram with copies := s.dram.copies ++ [⟨p.slice, p.bank, p.row, src⟩] } }

/-- Enter a mapping in the remap list and show it (R169, R172, R173). -/
def State.enterRemap (s : State) (c : RemapReq) : State :=
  let die := c.slice % 16 / 8
  let spare := ((List.range 4).find? (fun k => (s.bankRemaps c.slice c.bank).all (fun e => fld e.2 4 3 != k))).getD 0
  let s := { s with dram := { s.dram with
    remap := s.dram.remap ++ [(die, remapWord c.src c.slice c.bank c.row spare)] } }
  let p := Page.slice c.slice
  let used := ((List.range 16).map (fun b => (s.bankRemaps c.slice b).length)).sum
  let empty := ((List.range 16).filter (fun b => decide (4 ≤ (s.bankRemaps c.slice b).length))).length
  let s := (s.setFld p Reg.DRM_SLICE_STAT 22 16 used).setFld p Reg.DRM_SLICE_STAT 4 0 empty
  let n : Nat := (s.dram.remap.filter (fun e => e.1 == die)).length
  let s := (s.setFld (Page.die die) Reg.DRM_DIE_STAT 28 16 n).setInt p 0
  if 4096 ≤ n then s.setInt (Page.die die) 0 else s

/-- ROW_REMAP_COMPLETE (R169). -/
def execRowRemapComplete (slice : Fin 128) (s : State) : Host.Outcome State Fault Refusal :=
  match s.dram.copies.find? (fun c => c.slice == slice.val) with
  | none => .next s
  | some c =>
    if s.sliceServes slice then
      let s := { s with dram := { s.dram with copies := eraseFirst c s.dram.copies } }
      let s := s.enterRemap c
      .next (s.record { level := 2, cls := 1, esc := false, inj := false, code := 0x0302, unit := pageId (Page.slice slice),
                        addr := dramOffset ⟨c.slice, c.bank, c.row, 0⟩ })
    else .next s

/-- Poison the 32 beats of a DRAM row. -/
def State.poisonRow (s : State) (slice bank row : Nat) : State :=
  (List.range 32).foldl (fun s i => s.poisonAt (Base.dram + dramOffset ⟨slice, bank, row, 64 * i⟩)) s

/-- A beat at DRAM offset d is read and `symbols` of its symbols fail (R167). -/
def State.readBeat (s : State) (d symbols : Nat) : State :=
  let pl := dramPlace d
  let p := Page.slice pl.slice
  if symbols = 0 then s
  else if symbols = 1 then
    let s := (s.setReg64 p Reg.DRM_LAST_ERR_ADDR d).corrected p
      { level := 2, cls := 0, esc := false, inj := false, code := 0x0301, unit := pageId p, addr := d }
    let n := numAt s.dram.ceCount (rowKey pl) + 1
    let s := { s with dram := { s.dram with ceCount := setNum s.dram.ceCount (rowKey pl) n } }
    let thr := s.regFld (Page.die (dramDie d)) Reg.DRM_CE_THR 7 0
    if thr ≠ 0 ∧ thr ≤ n then s.startRemap pl 1 else s
  else
    let s := ((s.setReg64 p Reg.DRM_LAST_ERR_ADDR d).poisonAt (Base.dram + d / 64 * 64)).countInt p Reg.DRM_UE 1 1
    let s := s.detect p 0 { level := 2, cls := 2, esc := false, inj := false, code := 0x0303, unit := pageId p, addr := d }
    s.startRemap pl 2

/-- DRAM_REQUEST_SERVE: the slice serves the request that `pick` names among those waiting, charges its bytes, and meets
`symbols` failing symbols in its first beat (R158, R159, R161, R167, R168). -/
def execDramRequestServe (slice : Fin 128) (pick symbols : Nat) (s : State) : Host.Outcome State Fault Refusal :=
  match (s.reqsAt slice)[pick]? with
  | none => .next s
  | some q =>
    let pl := dramPlace q.addr
    if s.sliceServes slice && s.mayServe slice q
        && s.dram.copies.all (fun c => !(c.slice == slice.val && c.bank == pl.bank && c.row == pl.row)) then
      let k := slice.val * 4096 + q.who
      let s := s.touchSlice slice
      let turn := if s.rate q.who = 0 ∧ unreservedRank q.who = 5 then setNum s.dram.turn slice (q.who + 1) else s.dram.turn
      let s := { s with dram := { s.dram with
        reqs := eraseFirst q s.dram.reqs, turn := turn
        used := addNum s.dram.used k q.bytes, bytes := addNum s.dram.bytes k q.bytes } }
      let s := s.readBeat q.addr symbols
      let beats := (List.range ((q.addr % 64 + q.bytes + 63) / 64)).filter (fun i => s.beatPoison (q.addr + 64 * i))
      .next (s.count (Page.slice slice) Reg.DRM_POISON_RD beats.length)
    else .next s

/-- PATROL_SCRUB: the scrubber reads its next beat in an unreserved cycle (R161, R167, R168). -/
def execPatrolScrub (slice : Fin 128) (symbols : Nat) (s : State) : Host.Outcome State Fault Refusal :=
  let die := slice.val % 16 / 8
  let pos := numAt s.dram.scrubPos slice
  let o := 64 * pos
  let pl : DramPlace := ⟨slice, bitsOf o 14 11, o / 2 ^ 15, bitsOf o 10 0⟩
  if s.sliceServes slice && (s.reg (Page.die die) Reg.DRM_SCRUB_S) != 0 && !(s.reservedReady slice)
      && (s.reqsAt slice).all (fun q => decide (3 < unreservedRank q.who)) then
    let s := (s.touchSlice slice).readBeat (dramOffset pl) symbols
    let ce := if pl.column = 2048 - 64 then setNum s.dram.ceCount (rowKey pl) 0 else s.dram.ceCount
    .next { s with dram := { s.dram with ceCount := ce, scrubPos := setNum s.dram.scrubPos slice ((pos + 1) % 6291456) } }
  else .next s

/-- DRM_REMAP_ADD (R170). -/
def execDrmRemapAdd (req : Requester) (die : Fin 2) (v : W32) (s : State) : Host.Outcome State Fault Refusal :=
  let p := Page.die die
  .next (s.ifAdmit req p Reg.DRM_REMAP_ADD (fun s =>
    let slice := fld v 28 26 * 16 + 8 * die.val + fld v 25 23
    let bank := fld v 22 19
    let row := fld v 18 5
    if 12287 < row ∨ s.rowListed slice bank row then s.setErr p 0
    else if 4 ≤ s.sparesUsed slice bank then (s.poisonRow slice bank row).degradeBank slice bank
    else s.startRemap ⟨slice, bank, row, 0⟩ 3))

/-- REFRESH_CHANGE: the slice's temperature, in units of 0.125 °C, sets its multiplier (R165, R173). -/
def refreshCode (cur t : Nat) : Nat :=
  if cur = 0 then (if 760 < t then 2 else if 680 < t then 1 else 0)
  else if cur = 1 then (if 760 < t then 2 else if t < 656 then 0 else 1)
  else (if t < 656 then 0 else if t < 736 then 1 else 2)

def execRefreshChange (slice : Fin 128) (temp : Nat) (s : State) : Host.Outcome State Fault Refusal :=
  let p := Page.slice slice
  if presentIn s.grade p then
    let cur := s.regFld p Reg.DRM_SLICE_STAT 25 24
    let new := refreshCode cur (temp % 2048)
    let s := s.setFld p Reg.DRM_TEMP 10 0 temp
    if new = cur then .next s
    else
      let s := (s.setFld p Reg.DRM_SLICE_STAT 25 24 new).setInt p 3
      .next { s with dram := { s.dram with refresh := setIns s.dram.refresh slice } }
  else .next s

/-! ## Accesses to DRAM from outside the cells (R7, R162, R168, R645) -/

/-- The byte is secure: an enabled range covers it (R645). -/
def State.dramSecure (s : State) (d : Nat) : Bool := s.coveredBut none d

/-- Some byte of [d, d + n) is secure. -/
def State.rangeSecure (s : State) (d n : Nat) : Bool :=
  (List.range ((d % 2 ^ 20 + n + 2 ^ 20 - 1) / 2 ^ 20)).any (fun i => s.dramSecure (d / 2 ^ 20 * 2 ^ 20 + i * 2 ^ 20))

/-- The parts of a byte string by 64-byte beat. -/
def beatParts (d : Nat) (l : List Byte) : List (Nat × List Byte) :=
  match l with
  | [] => []
  | _ =>
    let first := 64 - d % 64
    (d, l.take first) :: (List.range ((l.length - first + 63) / 64)).map (fun i =>
      (d + first + 64 * i, (l.drop (first + 64 * i)).take 64))

/-- Write part of one beat: a whole beat clears its poison (R168). -/
def State.writeBeat (s : State) (d : Nat) (l : List Byte) : State :=
  let s := s.setBytes (Base.dram + d) l
  if l.length = 64 then s.cleanAt (Base.dram + d) else s

/-- An access to [d, d + n) keeps its slices ACTIVE (R171). -/
def State.touchRange (s : State) (d n : Nat) : State :=
  (granules d n).foldl (fun s g => s.touchSlice (dramPlace g.1).slice) s

/-- Bytes written to DRAM take effect now, and cached copies of them go (R164). -/
def State.dramStore (s : State) (d : Nat) (l : List Byte) : State :=
  ((beatParts d l).foldl (fun s x => s.writeBeat x.1 x.2) (s.touchRange d l.length)).invalidate d l.length

/-- Buffered writes of a slice. -/
def State.postedAt (s : State) (slice : Nat) : Nat := (s.dram.posts.filter (fun p => p.slice == slice)).length

/-- Post one part of a write: buffered, or held while the slice's buffer is full (R162). -/
def State.postSyn (s : State) (r : Option Requester) (d : Nat) (l : List Byte) : State :=
  let slice := (dramPlace d).slice
  let p : SynPost := { slice := slice, req := r, addr := d, bytes := l }
  if s.postedAt slice < 128 ∧ s.dram.held.all (fun h => h.slice != slice) then
    { s with dram := { s.dram with posts := s.dram.posts ++ [p] } }
  else { s with dram := { s.dram with held := s.dram.held ++ [p] } }

/-- A write of a requester to DRAM offset d: posted in the synapse store while the timer runs, at once elsewhere. -/
def State.dramWrite (s : State) (r : Option Requester) (secure : Bool) (d : Nat) (l : List Byte) : State :=
  if dramBytes s.grade < d + l.length then s.absentAcc
  else if secure = false ∧ s.rangeSecure d l.length then s.count 0x6 Reg.BDR_REFUSED 1
  else if s.running ∧ s.inSynapseStore d then
    let s := (beatParts d l).foldl (fun s x => s.postSyn r x.1 x.2) s
    match r with
    | some q => s.posted q
    | none => s
  else s.dramStore d l

/-- A read of DRAM: the number, least significant byte first, and whether it is poison; a secure range returns poison to a
non-secure reader and counts (R645), absent DRAM reads zero (R7). -/
def State.dramRead (s : State) (secure : Bool) (d n : Nat) : (Nat × Bool) × State :=
  if dramBytes s.grade < d + n then ((0, false), s)
  else if secure = false ∧ s.rangeSecure d n then ((0, true), s.count 0x6 Reg.BDR_REFUSED 1)
  else
    let bad := (List.range ((d % 64 + n + 63) / 64)).filter (fun i => s.beatPoison (d + 64 * i))
    ((s.num (Base.dram + d) n, !bad.isEmpty),
      (s.touchRange d n).count (Page.slice (dramPlace d).slice) Reg.DRM_POISON_RD bad.length)

/-- The requester index that the slices know a requester by (R161). -/
def whoIndex : Who → Option Nat
  | .crs c => some (2052 + c.val)
  | .rfg _ | .host => some 2087
  | .jtag => none

/-- An access that does not queue at the slices is charged to a requester index (R159). -/
def State.chargeBytes (s : State) (who d n : Nat) : State :=
  if dramBytes s.grade < d + n then s
  else { s with dram := { s.dram with
    bytes := (granules d n).foldl (fun m g => addNum m ((dramPlace g.1).slice * 4096 + who) g.2) s.dram.bytes } }

/-- An access of a requester is charged to its index. -/
def State.chargeReq (s : State) (r : Requester) (d n : Nat) : State :=
  match whoIndex r.who with
  | some k => s.chargeBytes k d n
  | none => s

/-- POSTED_SYNAPSE_WRITE (R162). -/
def execPostedSynapseWrite (req : Requester) (addr : Nat) (bytes : List Byte) (s : State) :
    Host.Outcome State Fault Refusal :=
  if s.serves req && decide (Base.dram ≤ addr ∧ addr + bytes.length ≤ Base.dram + 2 * dieBytes)
      && s.inSynapseStore (addr - Base.dram) && !(s.clearingAny (addr - Base.dram) bytes.length) then
    .next ((s.chargeReq req (addr - Base.dram) bytes.length).dramWrite (some req) (s.isSecure req) (addr - Base.dram) bytes)
  else .next s

/-- POSTED_WRITE_ADMIT: the oldest held write of the slice enters the emptied buffer and completes (R162). -/
def execPostedWriteAdmit (slice : Fin 128) (s : State) : Host.Outcome State Fault Refusal :=
  match s.dram.held.find? (fun h => h.slice == slice.val) with
  | none => .next s
  | some h =>
    if s.runs (sliceDomain slice) && decide (s.postedAt slice < 128) then
      .next { s with dram := { s.dram with held := eraseFirst h s.dram.held, posts := s.dram.posts ++ [h] } }
    else .next s

/-- The slices of a region apply their buffers at a summit (R162, R164). -/
def State.applySyn (s : State) (region : Nat) : State :=
  let mine := s.dram.posts.filter (fun p => p.slice / 16 == region)
  let s := { s with dram := { s.dram with posts := s.dram.posts.filter (fun p => p.slice / 16 != region) } }
  mine.foldl (fun s p => s.dramStore p.addr p.bytes) s

end Sys2Proof.Machine
end

