-- ==== Sys2Proof/Machine/Tarn.lean ====
section
/-! DEFINITION. Tarn banks (R176–R196): accesses of the owner's ports, atomics, the side port, handover and power. -/
namespace Sys2Proof.Machine
open Sys2Proof

/-- Address of a bank (R176). -/
def bankAddr (b : Nat) : Nat := Base.tarn + b * 0x80000
abbrev bankBytes : Nat := 0x80000

def State.bank (s : State) (b : Nat) : BankState := (Store.find s.tarn.banks b).getD {}
def State.setBank (s : State) (b : Nat) (x : BankState) : State :=
  { s with tarn := { s.tarn with banks := Store.put s.tarn.banks b x } }

/-- Owner in force and owner asked for (R186, R195). -/
def State.owner (s : State) (b : Nat) : Nat := s.regFld (Page.bank b) Reg.TAR_OWNER_ACK 3 0
def State.newOwner (s : State) (b : Nat) : Nat := s.regFld (Page.bank b) Reg.TAR_OWNER 3 0
def State.handover (s : State) (b : Nat) : Bool := bit (s.reg (Page.bank b) Reg.TAR_STAT) 16

/-- Owner codes whose owner is present (R179, R180). -/
def ownerPresent (g : Grade) (o : Nat) : Bool :=
  if o = 0 then true else if o ≤ 4 then decide (o - 1 < g.plts) else if o = 5 then g.ingress
  else if o = 6 ∨ o = 7 then true else if o = 8 then decide (0 < g.crests) else false

/-- A write that removes the bank's secure mark is being cleared, or the clear of R186 step 3 runs. -/
def State.bankSecure (s : State) (b : Nat) : Bool := bit (s.reg (Page.bank b) Reg.PG_SEC) 31

/-- An access refused under R183. -/
def State.tarnRefuse (s : State) (b : Nat) : (Nat × Bool) × State :=
  ((0, true), (s.countInt (Page.bank b) Reg.TAR_REFUSED 1 1).setErr (Page.bank b) 0)

/-- Poisoned 64-bit words of [a, a + n). -/
def State.poisonWords (s : State) (a n : Nat) : List Nat :=
  (List.range ((a % 8 + n + 7) / 8)).filter (fun i => s.isPoison (a / 8 * 8 + 8 * i))

/-- Store bytes in SRAM: a write of a whole 64-bit word clears its poison (R178, R297). -/
def State.sramStore (s : State) (a : Nat) (l : List Byte) : State :=
  let s := s.setBytes a l
  (List.range ((a % 8 + l.length + 7) / 8)).foldl (fun s i =>
    let w := a / 8 * 8 + 8 * i
    if a ≤ w ∧ w + 8 ≤ a + l.length then s.cleanAt w else s) s

/-- Result of an atomic and whether ADD_S32 saturated (R184). -/
def atomicResult (op : AtomicOp) (old operand : W32) : W32 × Bool :=
  match op with
  | .addS32 =>
    let c := satInt 32 (toSigned 32 old.toNat + toSigned 32 operand.toNat)
    (BitVec.ofNat 32 c.code, c.sat)
  | .addFP32 =>
    (BitVec.ofNat 32 (encodeNum 9 false ((decodeNum 9 old.toNat).add (decodeNum 9 operand.toNat)) none).code, false)
  | .swap => (operand, false)

/-- An atomic at the bank (R184, R185); a poisoned word is returned as poison and stays as it is (R178). -/
def State.tarnAtomic (s : State) (b : Nat) (op : AtomicOp) (o : Nat) (x : W32) : (Nat × Bool) × State :=
  let a := bankAddr b + o
  if o % 4 ≠ 0 ∨ bankBytes < o + 4 then ((0, true), s.setErr (Page.bank b) 3)
  else if (s.poisonWords a 4).isEmpty then
    let old := s.word a
    let r := atomicResult op old x
    let s := s.setNumAt a 4 r.1.toNat
    ((old.toNat, false), if r.2 then s.count (Page.bank b) Reg.TAR_ATOM_SAT 1 else s)
  else ((0, true), s)

/-- One access takes effect at the bank (R177, R178). -/
def State.tarnDo (s : State) (b : Nat) (op : TarnOp) : (Nat × Bool) × State :=
  match op with
  | .load o n =>
    if bankBytes < o + n ∨ 64 < n then s.tarnRefuse b
    else ((s.num (bankAddr b + o) n, !(s.poisonWords (bankAddr b + o) n).isEmpty), s)
  | .store o l =>
    if bankBytes < o + l.length ∨ 64 < l.length then s.tarnRefuse b
    else ((0, false), s.sramStore (bankAddr b + o) l)
  | .atomic op o x => s.tarnAtomic b op o x

/-- Naturally aligned load or store of up to 64 bytes (R189). -/
def sideAligned (o n : Nat) : Bool := [1, 2, 4, 8, 16, 32, 64].contains n && o % n == 0

/-- The side port admits the access (R188, R189). -/
def State.sideAdmits (s : State) (b : Nat) (r : Requester) (op : TarnOp) : Bool :=
  let side := s.reg (Page.bank b) Reg.TAR_SIDE
  (s.bank b).power == 2 && !(s.bank b).clearing && (s.isSecure r || !(s.bankSecure b)) && bit side 0 &&
  (match op with
   | .load o n => sideAligned o n
   | .store o l => bit side 1 && sideAligned o l.length
   | .atomic _ _ _ => false)

/-- An access of a requester that is not the owner (R183, R189). -/
def State.tarnSide (s : State) (b : Nat) (r : Requester) (op : TarnOp) : (Nat × Bool) × State :=
  if s.sideAdmits b r op then s.tarnDo b op else s.tarnRefuse b

/-- The access waits at the bank: for a wake, a clear, or the end of the handover to its requester (R186, R188, R192). (DEDUCED, log 51) -/
def State.tarnHolds (s : State) (b owner : Nat) : Bool :=
  (s.bank b).powerReq == some 2 || (s.bank b).clearing
  || (s.handover b && owner == s.newOwner b && owner != s.owner b)

/-- The owner's access is taken (R183, R186, R188, R192, R193). -/
def State.tarnTakes (s : State) (b owner : Nat) (r : Requester) : Bool :=
  owner == s.owner b && (s.bank b).power == 2 && (s.bank b).powerReq.isNone && !(s.bank b).draining
  && (s.isSecure r || !(s.bankSecure b))

/-- One port's access. -/
def State.tarnPort (s : State) (b owner : Nat) (r : Requester) (op : TarnOp) : State :=
  if owner ≠ 0 ∧ s.tarnHolds b owner then
    { s with tarn := { s.tarn with held := s.tarn.held ++ [{ bank := b, req := r, owner := owner, op := op }] } }
  else
    let a := if owner ≠ 0 ∧ s.tarnTakes b owner r then s.tarnDo b op else s.tarnSide b r op
    { a.2 with tarn := { a.2.tarn with results := a.2.tarn.results ++ [a.1] }, rdata := a.1.1, rpoison := a.1.2 }

/-- TARN_ACCESS: the ports of one owner reach a bank in one cycle, and proceed in the order atomic unit, DMA, load/store
(R181, R182). -/
def execTarnAccess (bank : Fin 128) (owner : Nat) (req : Requester) (atomic dma loadStore : Option TarnOp) (s : State) :
    Host.Outcome State Fault Refusal :=
  if s.runs (3 + bank / 16) then
    let ops := (atomic.toList ++ dma.toList) ++ loadStore.toList
    let k := ops.length
    let s := { s with tarn := { s.tarn with results := [] } }
    let s := if owner ≠ 0 ∧ s.tarnTakes bank owner req then s.count (Page.bank bank) Reg.TAR_CONFLICTS (k * (k - 1) / 2) else s
    .next (ops.foldl (fun s op => s.tarnPort bank owner req op) s)
  else .next s

/-- One atomic of an owner's atomic unit. -/
def State.tarnOne (s : State) (bank owner : Nat) (req : Requester) (op : TarnOp) : State :=
  if s.runs (3 + bank / 16) then ({ s with tarn := { s.tarn with results := [] } }).tarnPort bank owner req op else s

/-- ADD_S32 (R184). -/
def execAddS32 (bank : Fin 128) (owner : Nat) (req : Requester) (offset : Nat) (operand : W32) (s : State) :
    Host.Outcome State Fault Refusal := .next (s.tarnOne bank owner req (.atomic .addS32 offset operand))

/-- ADD_FP32 (R184). -/
def execAddFp32 (bank : Fin 128) (owner : Nat) (req : Requester) (offset : Nat) (operand : W32) (s : State) :
    Host.Outcome State Fault Refusal := .next (s.tarnOne bank owner req (.atomic .addFP32 offset operand))

/-- SWAP (R184). -/
def execSwap (bank : Fin 128) (owner : Nat) (req : Requester) (offset : Nat) (operand : W32) (s : State) :
    Host.Outcome State Fault Refusal := .next (s.tarnOne bank owner req (.atomic .swap offset operand))

/-- SIDE_PORT_ACCESS: served in a cycle in which no owner port reaches the bank, or after 64 cycles (R190). -/
def execSidePortAccess (bank : Fin 128) (req : Requester) (op : TarnOp) (waited : Nat) (busy : Bool) (s : State) :
    Host.Outcome State Fault Refusal :=
  if s.runs (3 + bank / 16) && (!busy || decide (64 ≤ waited)) then
    let a := s.tarnSide bank req op
    .next (a.2.answer a.1.1 a.1.2)
  else .next s

/-! ## Handover (R186–R188) -/

/-- Accesses held at a bank for an owner, served in their order of arrival. -/
def State.serveHeld (s : State) (b : Nat) : State :=
  let mine := s.tarn.held.filter (fun a => a.bank == b)
  let s := { s with tarn := { s.tarn with held := s.tarn.held.filter (fun a => a.bank != b) } }
  mine.foldl (fun s a => s.tarnPort b a.owner a.req a.op) s

/-- Zero a bank and clear its poison (R186 step 3). -/
def State.zeroBank (s : State) (b : Nat) : State :=
  let a := bankAddr b
  { s with mem := s.mem.filter (fun p => !(decide (a ≤ p.1 ∧ p.1 < a + bankBytes)))
           poison := s.poison.filter (fun p => !(decide (a ≤ p ∧ p < a + bankBytes))) }

/-- `TAR_STAT.PSTATE`: the state in force, or CLEARING (R195). -/
def State.showBank (s : State) (b : Nat) : State :=
  s.setFld (Page.bank b) Reg.TAR_STAT 31 30 (if (s.bank b).clearing then 3 else (s.bank b).power)

/-- Step 4 of R186. -/
def State.ackOwner (s : State) (b : Nat) : State :=
  let p := Page.bank b
  let s := (s.setReg p Reg.TAR_OWNER_ACK (BitVec.ofNat 32 (s.newOwner b))).setFld p Reg.TAR_STAT 16 16 0
  let s := s.setBank b { s.bank b with draining := false, atSummit := false }
  (s.setInt p 0).serveHeld b

/-- Begin the clear of step 3. -/
def State.beginClear (s : State) (b : Nat) : State :=
  (s.setBank b { s.bank b with clearing := true }).showBank b

/-- The drain of the old owner is over: clear or acknowledge (R186). -/
def State.drained (s : State) (b : Nat) : State :=
  if bit (s.reg (Page.bank b) Reg.TAR_OWNER) 31 then s.beginClear b else s.ackOwner b

/-- TAR_OWNER_WRITE (R186, R187). -/
def execTarOwnerWrite (req : Requester) (bank : Fin 128) (v : W32) (s : State) : Host.Outcome State Fault Refusal :=
  let p := Page.bank bank
  .next (s.ifAdmit req p Reg.TAR_OWNER (fun s =>
    if s.handover bank then s.setErr p 1
    else if ownerPresent s.grade (fld v 3 0) = false ∨ s.faulted p then s.setErr p 2
    else
      let same := fld v 3 0 == s.owner bank
      let s := s.setReg p Reg.TAR_OWNER (v &&& 0xC000000F)
      if same then
        (if bit v 31 then (s.setFld p Reg.TAR_STAT 16 16 1).beginClear bank else s.ackOwner bank)
      else
        (s.setFld p Reg.TAR_STAT 16 16 1).setBank bank
          { s.bank bank with draining := !(bit v 30), atSummit := bit v 30 }))

/-- HANDOVER_DRAIN_DONE: the old owner's accesses have completed (R186). -/
def execHandoverDrainDone (bank : Fin 128) (s : State) : Host.Outcome State Fault Refusal :=
  if s.runs (3 + bank / 16) && s.handover bank && (s.bank bank).draining && !(s.bank bank).clearing then .next (s.drained bank)
  else .next s

/-- BANK_CLEAR_DONE: the lines are zero; a handover is acknowledged, and a bank on its way to ON is ON (R186, R188,
R192). -/
def execBankClearDone (bank : Fin 128) (s : State) : Host.Outcome State Fault Refusal :=
  if s.runs (3 + bank / 16) && (s.bank bank).clearing then
    let s := s.zeroBank bank
    let waking := (s.bank bank).powerReq == some 2
    let s := s.setBank bank { s.bank bank with
      clearing := false, lost := false, powerReq := if waking then none else (s.bank bank).powerReq
      power := if waking then 2 else (s.bank bank).power }
    let s := s.showBank bank
    if s.handover bank && !(s.bank bank).atSummit && !waking then .next (s.ackOwner bank) else .next (s.serveHeld bank)
  else .next s

/-- Handovers of a region that wait for the summit begin their drain (R186). -/
def State.bankSummit (s : State) (region : Nat) : State :=
  (List.range 16).foldl (fun s i =>
    let b := 16 * region + i
    if (s.bank b).atSummit then s.setBank b { s.bank b with atSummit := false, draining := true } else s) s

/-! ## Power (R192, R193) -/

/-- Power state that a REQ code asks for (R195). -/
def powerCode (x : Nat) : Nat := min 2 (x % 4)

/-- TAR_PWR_WRITE (R193). -/
def execTarPwrWrite (req : Requester) (bank : Fin 128) (v : W32) (s : State) : Host.Outcome State Fault Refusal :=
  let p := Page.bank bank
  .next (s.ifAdmit req p Reg.TAR_PWR (fun s =>
    let s := s.setReg p Reg.TAR_PWR (v &&& 0x3)
    let x := powerCode (fld v 1 0)
    s.setBank bank { s.bank bank with powerReq := if x = (s.bank bank).power then none else some x }))

/-- BANK_POWER_CHANGE: the drain, the wake or the way to the clear is over (R192, R193). -/
def execBankPowerChange (bank : Fin 128) (s : State) : Host.Outcome State Fault Refusal :=
  match (s.bank bank).powerReq with
  | none => .next s
  | some x =>
    if s.runs (3 + bank / 16) = false ∨ (s.bank bank).clearing then .next s
    else if x = 2 ∧ (s.bank bank).lost then .next (s.beginClear bank)
    else
      let s := if x = 0 then s.zeroBank bank else s
      let s := (s.setBank bank { s.bank bank with
        power := x, powerReq := none, lost := (s.bank bank).lost || x == 0 }).showBank bank
      .next (if x = 2 then s.serveHeld bank else s)

end Sys2Proof.Machine
end

