-- ==== Sys2Proof/Machine/Fabric.lean ====
section
/-! DEFINITION. The event fabric (R197–R239): routers, slot frames, routing, the region route engines, route tables and
gates. Routers 0–127 are the block routers and 128–135 the chip fabric nodes of the request network; 136 more is the same
router of the reply network. -/
namespace Sys2Proof.Machine
open Sys2Proof

/-! ## Topology (R199–R201) -/

def routerNet (x : Nat) : Nat := x / 136
def routerPlace (x : Nat) : Nat := x % 136
def isNode (x : Nat) : Bool := decide (128 ≤ routerPlace x)

/-- The page of a router (R234). -/
def routerPage (x : Nat) : Nat :=
  if isNode x then 0x20 + 2 * (routerPlace x - 128) + routerNet x else Page.block (routerPlace x) + 2

/-- The count that a router's drops and deliveries belong to (R52). -/
def countUnit (x : Nat) : Nat := if isNode x then 136 else routerPlace x

/-- Node ports of the four central blocks. -/
def gwPort (b : Nat) : Nat := if b = 5 then 5 else if b = 6 then 6 else if b = 9 then 7 else 8
def gwBlock (p : Nat) : Nat := if p = 5 then 5 else if p = 6 then 6 else if p = 7 then 9 else 10

/-- Where an output port leads: the next router with its input port; none for a unit or a Traverse port. -/
def nextRouter (x out : Nat) : Option (Nat × Nat) :=
  let base := routerNet x * 136
  let y := routerPlace x
  if isNode x then
    let r := y - 128
    if out = 0 then (if r % 4 < 3 then some (base + 129 + r, 1) else none)
    else if out = 1 then (if 0 < r % 4 then some (base + 127 + r, 0) else none)
    else if out = 2 then some (base + 128 + (r + 4) % 8, 2)
    else if out = 3 then (if r % 4 < 2 then some (base + 130 + r, 4) else none)
    else if out = 4 then (if 2 ≤ r % 4 then some (base + 126 + r, 3) else none)
    else if out ≤ 8 then some (base + 16 * r + gwBlock out, 5)
    else none
  else
    let b := y % 16
    if out = 0 then (if b % 4 < 3 then some (x + 1, 1) else none)
    else if out = 1 then (if 0 < b % 4 then some (x - 1, 0) else none)
    else if out = 2 then (if b / 4 < 3 then some (x + 4, 3) else none)
    else if out = 3 then (if 0 < b / 4 then some (x - 4, 2) else none)
    else if out = 5 then
      (if b = 5 ∨ b = 6 ∨ b = 9 ∨ b = 10 then some (base + 128 + y / 16, gwPort b) else none)
    else none

/-- The chip unit whose presence node r's LOCAL port depends on: PLT arrays and the Crest cluster (R201). -/
def localPresent (g : Grade) (r : Nat) : Bool :=
  if r = 2 then decide (0 < g.plts) else if r = 3 then decide (1 < g.plts) else if r = 4 then decide (0 < g.crests)
  else if r = 5 then decide (2 < g.plts) else if r = 6 then decide (3 < g.plts) else true

/-- A port of a router exists and leads to no absent unit (R199, R200, R216). -/
def portExists (g : Grade) (x p : Nat) : Bool :=
  if isNode x then
    let r := routerPlace x - 128
    if p = 9 ∨ p = 10 then decide (2 * r + (p - 9) < g.trvs)
    else if p = 11 then localPresent g r
    else if p = 12 then true
    else (nextRouter x p).isSome
  else p == 4 || (nextRouter x p).isSome

/-! ## The chip route lookup (R228–R230) -/

/-- Width in lanes that a port's state gives it. -/
def State.trvWidth (s : State) (p : Nat) : Nat := s.regFld (0xC0 + p) Reg.TRV_STAT 27 25
def State.trvState (s : State) (p : Nat) : Nat := s.regFld (0xC0 + p) Reg.TRV_STAT 31 28
/-- The compiled width; codes other than 1, 2 and 4 act as 0 (R410). -/
def State.trvCwidth (s : State) (p : Nat) : Nat :=
  let c := s.regFld (0xC0 + p) Reg.TRV_CFG 30 28
  if c = 1 ∨ c = 2 ∨ c = 4 then c else 0

/-- In an UP state, or DEGRADED (R229, R368, R370). -/
def State.trvUsable (s : State) (p : Nat) : Bool :=
  decide (p < s.grade.trvs) && decide (2 ≤ s.trvState p ∧ s.trvState p ≤ 5)
def State.trvAtWidth (s : State) (p : Nat) : Bool :=
  s.trvUsable p && decide (s.trvState p < 5 ∧ s.trvCwidth p ≤ s.trvWidth p)

/-- Low and high word of the chip route entry of a chip. -/
def chipRouteKey (c : Nat) : Nat × Nat := (0x22000 + c / 512, 8 * (c % 512))
def State.chipRoute (s : State) (c : Nat) : W32 × W32 :=
  let k := chipRouteKey c
  (s.reg k.1 k.2, s.reg k.1 (k.2 + 4))

/-- The member table entry of a chip (R393, R412). -/
def State.member (s : State) (c : Nat) : Nat :=
  s.regFld (0xD1 + c / 2048) (c % 2048 / 2 * 4) (16 * (c % 2) + 15) (16 * (c % 2))
def State.setMember (s : State) (c v : Nat) : State :=
  s.setFld (0xD1 + c / 2048) (c % 2048 / 2 * 4) (16 * (c % 2) + 15) (16 * (c % 2)) v

/-- The chip is a member and has not been declared absent (R393). -/
def State.memberHere (s : State) (c : Nat) : Bool := bitsOf (s.member c) 15 14 == 2

/-- `TRV_JOIN_STAT.STATE`: 0 ALONE, 1 REQUESTED, 2 MEMBER, 3 ORPHANED (R411). -/
def State.joinState (s : State) : Nat := s.regFld 0xD0 Reg.TRV_JOIN_STAT 31 28

/-- The partner of a port as its last HELLO gave it (R382): 0xFFF where none has come. -/
def State.partner (s : State) (p : Nat) : Nat :=
  if bit (s.reg (0xC0 + p) Reg.TRV_PARTNER) 31 then s.regFld (0xC0 + p) Reg.TRV_PARTNER 11 0 else 0xFFF

def State.treePort (s : State) (p : Nat) : Bool := bit (s.reg (0xC0 + p) Reg.TRV_STAT) 12

/-- A port may carry a packet (R383). -/
def State.trvCarries (s : State) (p : Nat) (k : Packet) : Bool :=
  k.ty == 0xA ||
  (s.chipId != 0xFFF && s.partner p != 0xFFF &&
    (k.vc == 3 ||
      (decide (2 ≤ s.joinState) && s.regFld (0xC0 + p) Reg.TRV_PARTNER_GRP 31 28 != 15
        && s.regFld (0xC0 + p) Reg.TRV_PARTNER_GRP 15 0 == s.regFld Page.sum Reg.SUM_GROUP 15 0
        && (s.treePort p || s.memberHere (s.partner p)))))

inductive Lookup where
  | port (p : Nat) (alt : Bool)
  | noRoute
  | gone
deriving DecidableEq, Repr

/-- Members of a port set that a test admits, ascending, without the arrival port. -/
def portSet (set : Nat) (skip : Option Nat) (f : Nat → Bool) : List Nat :=
  (List.range 16).filter (fun p => Nat.testBit set p && f p && decide (some p ≠ skip))

/-- The lookup for chip c with hash h (R229). -/
def State.lookup (s : State) (c h : Nat) (skip : Option Nat) : Lookup :=
  let e := s.chipRoute c
  if bit e.2 31 = false ∨ c = 0xFFF then .noRoute
  else if bit e.2 30 then .gone
  else
    let pri := portSet (fld e.1 15 0) skip s.trvAtWidth
    let alt := portSet (fld e.1 31 16) skip s.trvAtWidth
    let any := portSet (fld e.1 15 0) skip s.trvUsable
    if !pri.isEmpty then .port (pri.getD (h % pri.length) 0) false
    else if !alt.isEmpty then .port (alt.getD (h % alt.length) 0) true
    else if !any.isEmpty then .port (any.getD (h % any.length) 0) false
    else .noRoute

/-- The hash of a packet: the queue index of an event, bits [19:0] of word 1 of any other packet (R229). -/
def routeHash (p : Packet) : Nat := if p.isEvent then fld (p.word 1) 31 12 else fld (p.word 1) 19 0

/-! ## Injection -/

/-- Put a packet on the link into an input port of a router and count it as injected by a unit (R52). -/
def State.inject (s : State) (unit router port : Nat) (p : Packet) : State :=
  let f : Flit := { router := router, port := port, pkt := p, fromRouter := router, fromPort := port }
  let s : State := { s with fabric := { s.fabric with links := s.fabric.links ++ [f] } }
  s.injected unit p.par

/-- A chip unit at node r sends a packet (R201). -/
def State.sendNode (s : State) (r : Nat) (p : Packet) : State := s.inject 136 (typeNet p.ty * 136 + 128 + r) 11 p

/-- A block sends a packet. -/
def State.sendBlock (s : State) (b : Nat) (p : Packet) : State := s.inject b (typeNet p.ty * 136 + b) 4 p

/-- The answer to a message (R243). -/
def State.answerPacket (s : State) (m : Packet) (code : Nat) (data : List W32) : Packet :=
  mkPacket 4 (fld (m.word 2) 31 20) 2 s.stamp false
    ([BitVec.ofNat 32 (fld (m.word 2) 19 0),
      BitVec.ofNat 32 (fld (m.word 1) 31 24 * 2 ^ 24 + code % 16 * 2 ^ 20 + fld (m.word 1) 19 0)] ++ data.take 5)

/-! ## Routing (R202) -/

/-- Where a packet goes on this chip, or the Traverse port it leaves by. -/
inductive Dest where
  | block (b : Nat)
  | unit (r : Nat)
  | trv (p : Nat)
  /-- a packet for another chip that no node has looked up yet -/
  | away
deriving DecidableEq, Repr

/-- The destination of a packet on its own chip (R201, R207, R243, R252, R255). A PING and a packet without a handler of
its own go to node 0. -/
def localDest (p : Packet) : Dest :=
  let w := p.word 1
  if p.isEvent then .block (fld w 31 25)
  else if p.ty = 3 then
    (let h := fld w 31 24
     if 1 ≤ h ∧ h ≤ 9 then .block (fld w 19 13)
     else if 0x0A ≤ h ∧ h ≤ 0x0C then .unit (fld w 2 0)
     else if 0x40 ≤ h then .unit 4 else .unit 0)
  else if p.ty = 4 then (if fld w 19 12 < 16 then .unit 4 else .unit 0)
  else .unit 0

def State.dest (s : State) (f : Flit) : Dest :=
  match f.trv with
  | some p => .trv p
  | none => if f.pkt.chip = s.chipId then localDest f.pkt else .away

/-- X first and then Y in a mesh; ports 0–3 are X+, X−, Y+, Y−. -/
def meshPort (x y tx ty : Nat) : Option Nat :=
  if x < tx then some 0 else if tx < x then some 1 else if y < ty then some 2 else if ty < y then some 3 else none

/-- The central block of the quadrant of block b of a region. -/
def centralOf (b : Nat) : Nat :=
  (if b % 4 < 2 then 1 else 2) + 4 * (if b / 4 < 2 then 1 else 2)

/-- Output of a chip fabric node towards node t: the express channel while |dx| is 2 or more, then X, then Y. -/
def nodePort (r t : Nat) : Option Nat :=
  let x := r % 4
  let tx := t % 4
  if x + 2 ≤ tx then some 3 else if tx + 2 ≤ x then some 4 else if x < tx then some 0 else if tx < x then some 1
  else if r ≠ t then some 2 else none

/-- Output port of a router for a flit (R202); none where it has nowhere to go. -/
def State.outPort (s : State) (f : Flit) : Option Nat :=
  let x := f.router
  let y := routerPlace x
  let d := s.dest f
  if isNode x then
    let r := y - 128
    match d with
    | .block b => match nodePort r (b / 16) with
      | some p => some p
      | none => some (gwPort (centralOf (b % 16)))
    | .unit t => match nodePort r t with
      | some p => some p
      | none => some 11
    | .trv p => match nodePort r (p / 2) with
      | some q => some q
      | none => some (9 + p % 2)
    | .away => none
  else
    let b := y % 16
    let goal := match d with
      | .block t => if t / 16 = y / 16 then t % 16 else centralOf b
      | _ => centralOf b
    let here := match d with
      | .block t => decide (t = y)
      | _ => false
    if here then some 4
    else match meshPort (b % 4) (b / 4) (goal % 4) (goal / 4) with
      | some p => some p
      | none => some 5

/-! ## Receiving (R206, R208, R209, R229) -/

def State.setLinks (s : State) (l : List Flit) : State := { s with fabric := { s.fabric with links := l } }
def State.setBufs (s : State) (l : List Flit) : State := { s with fabric := { s.fabric with bufs := l } }

/-- Buffer places of a virtual channel (R214). -/
def bufPlaces (vc : Nat) : Nat := if vc = 1 then 8 else 4

/-- Packets of a virtual channel in an input buffer. -/
def State.bufCount (s : State) (x port vc : Nat) : Nat :=
  (s.fabric.bufs.filter (fun f => f.router == x && f.port == port && f.pkt.vc == vc)).length

/-- Packets on their way into an input buffer, and in it. -/
def State.bufClaims (s : State) (x port vc : Nat) : Nat :=
  s.bufCount x port vc + (s.fabric.links.filter (fun f => f.router == x && f.port == port && f.pkt.vc == vc)).length

/-- Malformed packets (R206). -/
def malformed (p : Packet) : Bool :=
  (match typeVc p.ty with
   | none => true
   | some v => v != p.vc) || p.count == 0 || (p.ty == 2 && p.count % 2 == 1)

/-- A dropped packet is consumed where it is dropped (R209). -/
def State.dropAt (s : State) (x : Nat) (p : Packet) : State := s.consumed (countUnit x) p.par

/-- The reply without data to a remote request (R406, R407). -/
def State.remoteReply (s : State) (m : Packet) (status : Nat) : Packet :=
  mkPacket (if m.ty = 5 then 6 else 0xC) (fld (m.word 1) 31 20) 3 s.stamp false
    [withFld (m.word 1) 31 20 s.chipId, m.word 2 &&& 0xFFFDFFFF, BitVec.ofNat 32 (status * 2 ^ 28)]

/-- A node looks up a packet for another chip, once (R229, R230). A message that finds no way is answered NO_ROUTE or
PARTNER_ABSENT, a remote request gets a reply with that STATUS (R408). -/
def State.nodeLookup (s : State) (f : Flit) (arrival : Option Nat) : Option Flit × State :=
  let r := routerPlace f.router - 128
  let nack (s : State) (code : Nat) : State :=
    if f.pkt.ty = 3 then s.sendNode r (s.answerPacket f.pkt code [])
    else if f.pkt.ty = 5 ∨ f.pkt.ty = 9 then s.sendNode r (s.remoteReply f.pkt (11 - code))
    else s
  match s.lookup f.pkt.chip (routeHash f.pkt) arrival with
  | .port p alt =>
    (some { f with trv := some p }, if alt then s.countInt Page.rteChip Reg.RTE_CHIP_ALT 1 1 else s)
  | .noRoute =>
    let s := s.dropAt f.router f.pkt
    (none, if f.pkt.isEvent then s.countInt Page.rteChip Reg.RTE_CHIP_NOROUTE 0 f.pkt.events else nack s 5)
  | .gone =>
    let s := s.dropAt f.router f.pkt
    (none, if f.pkt.isEvent then { s with step := { s.step with absent := s.step.absent + f.pkt.events } } else nack s 6)

/-- A packet past its checks enters the input buffer, unless it is malformed, shed or dropped by the lookup. -/
def State.acceptFlit (s : State) (f : Flit) : State :=
  let pg := routerPage f.router
  let step := s.stepOfPar f.pkt.par f.pkt.late
  if malformed f.pkt then (s.countInt pg Reg.FAB_DROP_TYPE 1 1).dropAt f.router f.pkt
  else if f.pkt.isEvent ∧ s.tooOld step then (s.countShed f.pkt.events).dropAt f.router f.pkt
  else
    let f := if f.pkt.isEvent ∧ step < s.stepNo then { f with pkt := f.pkt.markLate } else f
    let arrival := if isNode f.router ∧ (f.port = 9 ∨ f.port = 10) then some (2 * (routerPlace f.router - 128) + (f.port - 9))
                   else none
    let a := if isNode f.router ∧ f.trv = none ∧ f.pkt.chip ≠ s.chipId then s.nodeLookup f arrival else (some f, s)
    match a.1 with
    | none => a.2
    | some g => a.2.setBufs (a.2.fabric.bufs ++ [{ g with tries := 0, wait := 0 }])

/-- PACKET_RECEIVE: the router has the whole packet; `ok` says whether its sideband checks (R206, R208). -/
def execPacketReceive (router : Fin 272) (port : Fin 13) (ok : Bool) (s : State) : Host.Outcome State Fault Refusal :=
  match s.fabric.links.find? (fun f => f.router == router.val && f.port == port.val) with
  | none => .next s
  | some f =>
    if s.runs (routerDomain router) = false ∨ bufPlaces f.pkt.vc ≤ s.bufCount router port f.pkt.vc then .next s
    else if ok && f.pkt.headerOk then .next ((s.setLinks (eraseFirst f s.fabric.links)).acceptFlit f)
    else if f.tries = 0 then
      .next ((s.setLinks (replaceFirst f { f with tries := 1 } s.fabric.links)).countInt
        (routerPage f.fromRouter) Reg.FAB_RETRY 0 1)
    else
      let pg := routerPage router
      let s := (s.setLinks (eraseFirst f s.fabric.links)).countInt pg Reg.FAB_DROP_HDR 1 1
      let s := s.detect pg 2 { level := 2, cls := 2, esc := false, inj := false, code := 0x0305, unit := pageId pg, addr := pg }
      .next (s.dropAt router f.pkt)

/-! ## Forwarding (R210–R214, R218) -/

/-- Slot table entry s of an output port (R211, R235). -/
def State.slotEntry (s : State) (x out slot : Nat) : Nat :=
  let base := Reg.FAB_TABLE + (if isNode x then 0 else 0x300 * routerNet x) + 0x80 * out
  let w := s.reg (routerPage x) (base + 4 * (slot / 2))
  if slot % 2 = 0 then fld w 15 0 else fld w 31 16

/-- The packet at the head of an input buffer. -/
def State.headFlit (s : State) (x port vc : Nat) : Option Flit :=
  s.fabric.bufs.find? (fun f => f.router == x && f.port == port && f.pkt.vc == vc)

/-- The head of an input buffer that is routed to an output whose next router has a credit. -/
def State.readyHead (s : State) (x out port vc : Nat) : Option Flit :=
  match s.headFlit x port vc with
  | none => none
  | some f =>
    if s.outPort f = some out then
      match nextRouter x out with
      | none => some f
      | some n => if s.bufClaims n.1 n.2 vc < bufPlaces vc then some f else none
    else none

/-- What the output sends in a slot, and whether the slot was passed to the MNT channel (R211–R213). -/
def State.slotChoice (s : State) (x out slot : Nat) : Option (Flit × Bool) :=
  let e := s.slotEntry x out slot
  let own := if slot = 0 then (List.range 13).findSome? (fun p => s.readyHead x out p 0)
             else if Nat.testBit e 15 then s.readyHead x out (bitsOf e 12 9) (bitsOf e 14 13) else none
  match own with
  | some f => some (f, false)
  | none =>
    let start := numAt s.fabric.mnt (x * 16 + out)
    ((List.range 13).findSome? (fun i => s.readyHead x out ((start + i) % 13) 3)).map (fun f => (f, true))

/-- A port drops a packet that it may not carry (R383): a message is answered PARTNER_ABSENT. -/
def State.trvRefuse (s : State) (p : Nat) (k : Packet) : State :=
  let s := s.count (0xC0 + p) Reg.TRV_DROP 1
  let s := if k.vc = 0 then s else s.consumed 136 k.par
  if k.ty = 3 then s.sendNode (p / 2) (s.answerPacket k 6 []) else s

/-- Hand a packet to a Traverse port (R363, R383). -/
def State.toPort (s : State) (p : Nat) (k : Packet) : State :=
  if s.trvCarries p k then { s with fabric := { s.fabric with trvTx := s.fabric.trvTx ++ [(p, k)] } } else s.trvRefuse p k

/-- A packet leaves a router by an output. -/
def State.sendOn (s : State) (x out : Nat) (f : Flit) : State :=
  match nextRouter x out with
  | some n => s.setLinks (s.fabric.links ++ [{ f with router := n.1, port := n.2, fromRouter := x, fromPort := f.port }])
  | none =>
    if isNode x = false then { s with fabric := { s.fabric with blockIn := s.fabric.blockIn ++ [(routerPlace x, f.pkt)] } }
    else
      let r := routerPlace x - 128
      if out = 11 then { s with fabric := { s.fabric with unitIn := s.fabric.unitIn ++ [(r, f.pkt)] } }
      else s.toPort (2 * r + (out - 9)) f.pkt

/-- PACKET_FORWARD: one slot of an output (R211–R213). (DESIGN CHOICE, log 4; DESIGN CHOICE, log 53) -/
def execPacketForward (router : Fin 272) (out : Fin 12) (slot : Fin 64) (s : State) : Host.Outcome State Fault Refusal :=
  if s.runs (routerDomain router) = false then .next s
  else match s.slotChoice router out slot with
    | none => .next s
    | some (f, passed) =>
      let pg := routerPage router
      let s := (s.setBufs (eraseFirst f s.fabric.bufs)).count pg Reg.FAB_PKTS 1
      let s := s.setFld pg Reg.FAB_WAIT_MAX 15 0 (min 65535 (max (s.regFld pg Reg.FAB_WAIT_MAX 15 0) f.wait))
      let s := if passed then
          { s.count pg Reg.FAB_MNT_SLOTS 1 with fabric := { s.fabric with
              mnt := setNum s.fabric.mnt (router.val * 16 + out.val) ((f.port + 1) % 13) } }
        else s
      .next (s.sendOn router out f)

/-- SLOT_FRAME_END: every packet at the router has waited one more frame (R218). -/
def execSlotFrameEnd (router : Fin 272) (s : State) : Host.Outcome State Fault Refusal :=
  if s.runs (routerDomain router) = false then .next s
  else
    let here (f : Flit) : Bool := f.router == router.val
    let waits := s.fabric.bufs.any (fun f => here f && (f.pkt.vc == 1 || f.pkt.vc == 2))
    let s := s.setBufs (s.fabric.bufs.map (fun f => if here f then { f with wait := f.wait + 1 } else f))
    .next (if waits then s.count (routerPage router) Reg.FAB_BACKLOG 1 else s)

/-- STARVATION: an EVT or MSG packet has waited `FAB_STARVE` frames (R217). -/
def execStarvation (router : Fin 272) (s : State) : Host.Outcome State Fault Refusal :=
  let pg := routerPage router
  let limit := max 1 (s.regFld pg Reg.FAB_STARVE 15 0)
  match s.fabric.bufs.find? (fun f => f.router == router.val && (f.pkt.vc == 1 || f.pkt.vc == 2) && decide (limit ≤ f.wait)) with
  | none => .next s
  | some f =>
    if s.runs (routerDomain router) = false then .next s
    else
      let out := (s.outPort f).getD 0
      let s := s.setFld pg Reg.FAB_STARVE_PORT 3 0 out
      .next (s.detect pg 1 { level := 2, cls := 2, esc := false, inj := false, code := 0x0306, unit := pageId pg,
                             addr := pg + out * 2 ^ 24 })

/-! ## Slot table swaps (R215, R216, R235) -/

/-- The routers whose tables a page holds. -/
def pageRouters (p : Nat) : List Nat :=
  match pageKind p with
  | .fabBlock => [(p - 0x1000) / 16, (p - 0x1000) / 16 + 136]
  | .fabNode => [128 + (p - 0x20) / 2 + 136 * ((p - 0x20) % 2)]
  | _ => []

/-- A shadow entry that R216 refuses for an output port. -/
def badSlot (g : Grade) (x out e : Nat) : Bool :=
  Nat.testBit e 15 && (!(portExists g x out) || bitsOf e 12 9 == out || !(portExists g x (bitsOf e 12 9)))

/-- The shadow tables of a page may be swapped in (R216). -/
def State.swapOk (s : State) (p : Nat) : Bool :=
  (pageRouters p).all (fun x =>
    (List.range (if isNode x then 12 else 6)).all (fun out =>
      (List.range 32).all (fun k =>
        let w := s.reg p (Reg.FAB_SHADOW + (if isNode x then 0 else 0x300 * routerNet x) + 0x80 * out + 4 * k)
        !(badSlot s.grade x out (fld w 15 0)) && !(badSlot s.grade x out (fld w 31 16)))))

/-- Copy words of a page. -/
def State.copyWords (s : State) (p src dst n : Nat) : State :=
  (List.range n).foldl (fun s k => s.setReg p (dst + 4 * k) (s.reg p (src + 4 * k))) s

/-- The shadow tables of a page become active (R215). -/
def State.doSwap (s : State) (p : Nat) : State :=
  let s := s.copyWords p Reg.FAB_SHADOW Reg.FAB_TABLE 384
  let s := if pageKind p = .fabNode then s.copyWords p Reg.FAB_LOCAL_SHADOW Reg.FAB_LOCAL 16 else s
  s.setReg p Reg.FAB_SWAP 0

/-- FAB_SWAP (R215, R216). -/
def execFabSwap (req : Requester) (page : Nat) (s : State) : Host.Outcome State Fault Refusal :=
  if pageKind page = .fabBlock ∨ pageKind page = .fabNode then
    .next (s.ifAdmit req page Reg.FAB_SWAP (fun s =>
      if s.swapOk page = false then s.setErr page 0
      else if s.running = false then s.doSwap page
      else s.setReg page Reg.FAB_SWAP 1))
  else .next s

/-- A swap that was requested takes effect at the summit. -/
def State.swapSummit (s : State) (p : Nat) : State := if bit (s.reg p Reg.FAB_SWAP) 0 then s.doSwap p else s

/-! ## Region route table (R221–R227) -/

/-- Page and offset of route entry i of region r (R234). -/
def routeKey (r i : Nat) : Nat × Nat := (0x20000 + 0x400 * r + i / 256, 16 * (i % 256))

/-- Word w of route entry i of region r. -/
def State.routeWord (s : State) (r i w : Nat) : W32 := s.reg (routeKey r i).1 ((routeKey r i).2 + 4 * w)
def State.routeValid (s : State) (r i : Nat) : Bool := bit (s.routeWord r i 2) 31

/-- A posted write that waits sets VALID in entry i of region r. -/
def RoutePost.sets (q : RoutePost) (r i : Nat) : Bool :=
  match q with
  | .word key v => key == (routeKey r i).1 * 4096 + (routeKey r i).2 + 8 && bit v 31
  | .entry key _ _ w2 => key == (routeKey r i).1 * 4096 + (routeKey r i).2 && bit w2 31
  | _ => false

/-- The entry is on the free list of its region (R227). -/
def State.routeFree (s : State) (r i : Nat) : Bool :=
  decide (i < 262144) && !(s.routeValid r i) && !(s.fabric.taken.contains (r * 2 ^ 18 + i))
  && s.fabric.posts.all (fun p => !(p.2.sets r i))

/-- The lowest free entry of a region: no more entries can be off the list than the chip holds words for. -/
def State.lowestFree (s : State) (r : Nat) : Option Nat :=
  (List.range (min 262144 (s.regs.length + s.fabric.taken.length + s.fabric.posts.length + 1))).find? (s.routeFree r)

/-- Take an entry off the free list: the one that the hardware picks, or the lowest (R227). -/
def State.takeRoute (s : State) (r pick : Nat) : Option Nat × State :=
  match (if s.routeFree r pick then some pick else s.lowestFree r) with
  | none => (none, s)
  | some i => (some i, { s with fabric := { s.fabric with taken := setIns s.fabric.taken (r * 2 ^ 18 + i) } })

/-- Posted writes of a region, or 8 for the chip route table. -/
def State.routePosts (s : State) (r : Nat) : Nat := (s.fabric.posts.filter (fun p => p.1 == r)).length

/-- Bits of a window word that a write stores: reserved bits, RO bits and bits of absent ports stay (R223, R228, R233,
R240). -/
def windowMask (g : Grade) (page off : Nat) : W32 :=
  match pageKind page with
  | .routeWindow => if off % 16 = 0 then 0xFFFE0000 else if off % 16 = 12 then 0 else 0xFFFFFFFF
  | .gateWindow => 0xF8000000
  | .channelWindow => if off % 8 = 0 then 0x000FFFFF else 0xFFFFFF80
  | .chipRouteWindow =>
    if off % 8 = 0 then BitVec.ofNat 32 ((2 ^ g.trvs - 1) * 0x10001) else 0x80000000
  | _ => 0

/-- A word of a window takes its new value in the bits that a write stores. -/
def State.setWindowWord (s : State) (key : Nat) (v : W32) : State :=
  let m := windowMask s.grade (key / 4096) (key % 4096)
  s.setReg (key / 4096) (key % 4096) ((s.reg (key / 4096) (key % 4096) &&& ~~~ m) ||| (v &&& m))

/-- A posted route, gate or channel write takes effect (R226, R227, R241). -/
def State.applyRoutePost (s : State) (p : RoutePost) : State :=
  match p with
  | .entry key w0 w1 w2 =>
    let s := ((s.setWindowWord key w0).setWindowWord (key + 4) w1).setWindowWord (key + 8) w2
    let r := (key / 4096 - 0x20000) / 0x400
    let i := (key / 4096 - 0x20000) % 0x400 * 256 + key % 4096 / 16
    { s with fabric := { s.fabric with taken := setDel s.fabric.taken (r * 2 ^ 18 + i) } }
  | .word key v =>
    let s := s.setWindowWord key v
    if pageKind (key / 4096) = .routeWindow ∧ key % 16 = 8 then
      let r := (key / 4096 - 0x20000) / 0x400
      let i := (key / 4096 - 0x20000) % 0x400 * 256 + key % 4096 / 16
      { s with fabric := { s.fabric with taken := setDel s.fabric.taken (r * 2 ^ 18 + i) } }
    else s
  | .release r i =>
    let k := routeKey r i
    let s := s.setReg k.1 (k.2 + 8) (s.reg k.1 (k.2 + 8) &&& 0x7FFFFFFF)
    { s with fabric := { s.fabric with taken := setDel s.fabric.taken (r * 2 ^ 18 + i) } }
  | .gate key v =>
    let m : W32 := 0xF8000000
    s.setReg (key / 4096) (key % 4096) ((s.reg (key / 4096) (key % 4096) &&& ~~~ m) ||| (v &&& m))

/-- Post writes of a region together; false where its 256 places do not suffice (R226). -/
def State.postRoute (s : State) (r : Nat) (l : List RoutePost) : Bool × State :=
  if s.running = false then (true, l.foldl State.applyRoutePost s)
  else if 256 < s.routePosts r + l.length then
    (false, s.setErr (if r = 8 then Page.rteChip else Page.region r + 0x08) 0)
  else (true, { s with fabric := { s.fabric with posts := s.fabric.posts ++ l.map (fun p => (r, p)) } })

/-- Posted writes of a region, or of the chip route table, take effect. -/
def State.applyRoutes (s : State) (r : Nat) : State :=
  let mine := s.fabric.posts.filter (fun p => p.1 == r)
  let s := { s with fabric := { s.fabric with posts := s.fabric.posts.filter (fun p => p.1 != r) } }
  mine.foldl (fun s p => s.applyRoutePost p.2) s

/-- The buffer that a window's posted writes belong to (R226, R241). -/
def windowRegion (page : Nat) : Nat :=
  match pageKind page with
  | .routeWindow => (page - 0x20000) / 0x400
  | .gateWindow => (page - 0x22100) / 4
  | .channelWindow => (page - 0x22200) / 8
  | _ => 8

/-- The page is a window that posted writes fill. -/
def postedWindow (page : Nat) : Bool :=
  match pageKind page with
  | .routeWindow | .gateWindow | .channelWindow | .chipRouteWindow => true
  | _ => false

/-- The write of an admitted requester to a window. -/
def State.windowWrite (s : State) (req : Requester) (page off : Nat) (v : W32) : State :=
  let x := s.postRoute (windowRegion page) [.word (page * 4096 + off % 4096) v]
  if x.1 && s.running then x.2.posted req else x.2

/-- ROUTE_TABLE_WRITE (R226, R228, R233, R241). -/
def execRouteTableWrite (req : Requester) (page off : Nat) (v : W32) (s : State) : Host.Outcome State Fault Refusal :=
  if postedWindow page && off % 4 == 0 && decide (off < 4096) then
    .next (s.ifAdmit req page off (fun s => s.windowWrite req page off v))
  else .next s

/-- RTE_ALLOC: a read takes one entry (R227). (DESIGN CHOICE, log 23) -/
def execRteAlloc (req : Requester) (region : Fin 8) (pick : Nat) (s : State) : Host.Outcome State Fault Refusal :=
  let p := Page.region region + 0x08
  if s.mayRead req p Reg.RTE_ALLOC = false then .next (s.denyRead req p Reg.RTE_ALLOC)
  else
    let x := s.takeRoute region pick
    match x.1 with
    | some i => .next (x.2.answer i false)
    | none => .next ((x.2.setInt p 1).answer 0x80000000 false)

/-- RTE_RELEASE (R227). -/
def execRteRelease (req : Requester) (region : Fin 8) (v : W32) (s : State) : Host.Outcome State Fault Refusal :=
  .next (s.ifAdmit req (Page.region region + 0x08) Reg.RTE_RELEASE (fun s =>
    let x := s.postRoute region [.release region (fld v 17 0)]
    if x.1 && s.running then x.2.posted req else x.2))

/-! ## The region route engine (R221–R225) -/

def State.setChains (s : State) (l : List Chain) : State := { s with fabric := { s.fabric with chains := l } }

/-- Chains that the engine of a region follows. -/
def State.chainsOf (s : State) (r : Nat) : List Chain := s.fabric.chains.filter (fun c => c.region == r)

/-- SPIKE_RECORD_TAKE: a record enters one of the four chains (R222). -/
def execSpikeRecordTake (region : Fin 8) (s : State) : Host.Outcome State Fault Refusal :=
  match s.fabric.spikes.find? (fun k => k.cell / 256 == region.val) with
  | none => .next s
  | some k =>
    if s.runs (3 + region) && decide ((s.chainsOf region).length < 4) then
      let s := { s with fabric := { s.fabric with spikes := eraseFirst k s.fabric.spikes } }
      let s := s.count (Page.region region + 0x08) Reg.RTE_SPIKES 1
      if k.count = 0 then .next s
      else .next (s.setChains (s.fabric.chains ++ [{ region := region, next := k.first, left := k.count, graded := k.graded
                                                     off := k.off, step := k.step }]))
    else .next s

/-- The packet under assembly of a chain enters the fabric at its region's node (R224, R225). -/
def State.flushChain (s : State) (c : Chain) : State :=
  if c.words.isEmpty then s
  else s.inject (128 + c.region) (128 + c.region) 12
    (mkPacket (if c.binary then 1 else 2) c.chip 1 c.step (decide (c.step < s.stepNo)) c.words)

/-- The event word of a route entry, with its value where it is graded (R224). -/
def entryWords (w0 w1 : W32) (graded : Option W16) (off : W16) : List W32 :=
  let queue := fld w1 17 0 * 4 + fld w0 31 30
  let word : W32 := BitVec.ofNat 32 (queue * 4096 + fld w0 29 18)
  match graded with
  | none => [word]
  | some g => if bit w0 17 then [word] else [word, g ++ off]

/-- An entry is followed: its event joins the packet under assembly, or begins the next one (R224). -/
def State.followEntry (s : State) (c : Chain) (w0 w1 : W32) : Chain × State :=
  let s := s.count (Page.region c.region + 0x08) Reg.RTE_EVENTS 1
  let ws := entryWords w0 w1 c.graded c.off
  let binary := decide (ws.length = 1)
  let chip := fld w1 29 18
  let block := fld (ws.getD 0 0) 31 25
  if s.tooOld c.step then (c, s.countShed 1)
  else if c.words.isEmpty = false ∧ c.chip = chip ∧ c.block = block ∧ c.binary = binary
      ∧ c.words.length + ws.length ≤ 7 then ({ c with words := c.words ++ ws }, s)
  else ({ c with chip := chip, block := block, binary := binary, words := ws }, s.flushChain c)

/-- Page and offset of gate g of region r (R234). -/
def gateKey (r g : Nat) : Nat × Nat := (0x22100 + 4 * r + g / 1024, 4 * (g % 1024))

/-- ROUTE_ENTRY_FOLLOW: the engine reads one entry of a chain (R222, R224). -/
def execRouteEntryFollow (region : Fin 8) (chain : Fin 4) (s : State) : Host.Outcome State Fault Refusal :=
  match (s.chainsOf region)[chain.val]? with
  | none => .next s
  | some c =>
    if s.runs (3 + region) = false then .next s
    else
      let pg := Page.region region + 0x08
      let w0 := s.routeWord region c.next 0
      let w1 := s.routeWord region c.next 1
      let w2 := s.routeWord region c.next 2
      if bit w2 31 = false then
        .next (((s.setChains (eraseFirst c s.fabric.chains)).flushChain c).countInt pg Reg.RTE_CHAIN_ERR 0 1)
      else
        let alt := fld w2 30 28
        let k := gateKey region (fld w2 27 16)
        let followed := alt == 0 || alt == s.regFld k.1 k.2 2 0
        let a := if followed then s.followEntry c w0 w1 else (c, s.count pg Reg.RTE_GATED 1)
        let next := fld w2 15 0 * 4 + fld w1 31 30
        let c' := { a.1 with next := next, left := c.left - 1 }
        if c.left ≤ 1 then .next ((a.2.setChains (eraseFirst c a.2.fabric.chains)).flushChain c')
        else .next (a.2.setChains (replaceFirst c c' a.2.fabric.chains))

/-! ## Gates at the summit (R232) -/

/-- The word of a gate after a summit. (DEDUCED, log 38) -/
def gateSummit (v : W32) : W32 :=
  let sel := if bit v 30 then fld v 29 27 else if fld v 15 8 ≠ 0 then fld v 10 8
             else if bit v 31 then fld v 2 0 else 0
  withFld (withFld v 15 8 0) 2 0 sel

/-- Every gate of a region latches its selection; gates that change are counted (R232, R238). -/
def State.gatesSummit (s : State) (r : Nat) : State :=
  let lo := (0x22100 + 4 * r) * 4096
  let keys := (s.regs.filter (fun e => decide (lo ≤ e.1 ∧ e.1 < lo + 4 * 4096))).map (·.1)
  keys.foldl (fun s k =>
    let v := s.reg (k / 4096) (k % 4096)
    let v' := gateSummit v
    let s := s.setReg (k / 4096) (k % 4096) v'
    if fld v' 2 0 = fld v 2 0 then s else s.count (Page.region r + 0x09) Reg.GAT_CHANGES 1) s

end Sys2Proof.Machine
end

