-- ==== Sys2Proof/Machine/Blocks.lean ====
section
/-! DEFINITION. What a block does with what arrives for its cells (R128, R207, R576, R579): events one by one, the
migration buffer of a fenced cell, a cell that goes offline, and the fence itself. -/
namespace Sys2Proof.Machine
open Sys2Proof

/-- Page of the CHN registers of a region (R259). -/
def Page.chn (r : Nat) : Nat := Page.region r + 0x0A

/-- Count an answer of a handler in a region: a message taken, or a NACK sent (R259). -/
def State.countAnswer (s : State) (r code : Nat) : State :=
  if code = 0 then s.count (Page.chn r) Reg.CHN_MSG_TAKEN 1 else s.count (Page.chn r) Reg.CHN_NACK_SENT 1

/-- A block answers a message (R243, R244). -/
def State.answerBlock (s : State) (b : Nat) (p : Packet) (code : Nat) (data : List W32) : State :=
  let s := s.countAnswer (b / 16) code
  s.sendBlock b (s.answerPacket p code data)

/-- Logical cell, queue and row selector of an event word (R207). -/
def eventCell (w : W32) : Nat := fld w 31 21
def eventQueue (w : W32) : Nat := fld w 20 12
def eventRow (w : W32) : Nat := fld w 11 0

/-- The value of a graded event and its offset, from its second word (R207). -/
def gradedOf (w : W32) : Option W16 := some (BitVec.ofNat 16 (fld w 31 16))
def offsetOf (w : W32) : W16 := BitVec.ofNat 16 (fld w 15 0)

/-- The first event of a packet alone, and the packet without it (R205). -/
def splitPacket (p : Packet) : Packet × Packet :=
  let k := if p.ty = 2 then 2 else 1
  (mkPacket p.ty p.chip p.vc p.par p.late ((p.words.drop 1).take k),
   { words := header p.ty p.chip p.vc (p.count - k) p.par p.late :: p.words.drop (1 + k) })

/-- Place the one event of a packet in its queue; `force` is that of R578. -/
def State.placePacket (s : State) (p : Packet) (force : Bool) : State :=
  let w := p.word 1
  s.placeEvent (eventCell w) (eventQueue w) (eventRow w) (s.stepOfPar p.par p.late) force
    (if p.ty = 2 then gradedOf (p.word 2) else none) (if p.ty = 2 then offsetOf (p.word 2) else 0)

def State.setMigrations (s : State) (l : List (Nat × Migration)) : State :=
  { s with fault := { s.fault with migrations := l } }

/-- Places taken in the migration buffer of the block of a cell. -/
def State.bufferLen (s : State) (c : Nat) : Nat :=
  ((s.fault.migrations.filter (fun m => m.2.cell == c)).map (fun m => m.2.buffer.length)).sum

/-- Put a packet into the migration buffer of a fenced cell (R576). -/
def State.buffer (s : State) (c : Nat) (p : Packet) : State :=
  s.setMigrations (s.fault.migrations.map (fun m =>
    if m.2.cell = c then (m.1, { m.2 with buffer := m.2.buffer ++ [{ pkt := p }] }) else m))

/-- One event reaches its cell: it is placed, buffered, dropped at an offline cell, or shed as too old (R62, R63, R128,
R576, R579). -/
def State.arriveEvent (s : State) (b : Nat) (p : Packet) : State :=
  let c := eventCell (p.word 1)
  if s.tooOld (s.stepOfPar p.par p.late) then s.countShed 1
  else if s.offline c then s.count (Page.block b) Reg.BLK_DROP_OFFLINE 1
  else if s.fenced c then
    (if s.bufferLen c < 256 then s.buffer c p else s.count (Page.block b) Reg.BLK_MIG_DROP 1)
  else s.placePacket p false

/-- The packet whose events the block is handing over, if any; else the oldest event packet is opened. -/
def State.openPacket (s : State) (b : Nat) : State :=
  let f (x : Nat × Packet) : Bool := x.1 == b && x.2.isEvent
  match s.fabric.opened.find? f, s.fabric.blockIn.find? f with
  | none, some x => { s with fabric := { s.fabric with
      opened := s.fabric.opened ++ [x], blockIn := eraseFirst x s.fabric.blockIn } }
  | _, _ => s

/-- EVENT_ENQUEUE: the next event that has reached a block goes to its cell (R128). The packet is consumed once its last
event has gone (R52). -/
def execEventEnqueue (block : Fin 128) (s : State) : Host.Outcome State Fault Refusal :=
  if s.runs (11 + block) then
    let s := s.openPacket block
    match s.fabric.opened.find? (fun x => x.1 == block.val) with
    | none => .next s
    | some x =>
      let y := splitPacket x.2
      let rest := eraseFirst x s.fabric.opened
      let last := decide (x.2.events ≤ 1)
      let s : State := { s with fabric := { s.fabric with opened := if last then rest else (x.1, y.2) :: rest } }
      let s := s.arriveEvent block y.1
      .next (if last then s.consumed block x.2.par else s)
  else .next s

/-! ## A cell that goes offline, and the fence (R576, R579) -/

/-- What the migration buffer of a cell holds is treated as arriving at an offline cell (R579). -/
def State.flushBuffer (s : State) (b : Nat) (l : List MigEntry) : State :=
  l.foldl (fun s e => if e.pkt.isEvent then s.count (Page.block b) Reg.BLK_DROP_OFFLINE 1
                      else s.answerBlock b e.pkt 2 []) s

/-- A logical cell goes offline (R579). (DEDUCED, log 46) -/
def State.goOffline (s : State) (c : Nat) : State :=
  let b := c / 16
  let site := s.siteOf c
  let held := ((s.fault.migrations.filter (fun m => m.2.cell == c)).map (fun m => m.2.buffer)).flatten
  let s := s.setMigrations (s.fault.migrations.filter (fun m => m.2.cell != c))
  let s := (s.setCellMap c { site := site, offline := true }).setItems (s.cells.items.filter (fun i => i.cell != c))
  let s := (s.setStat (Page.site site) 0).setInt (Page.block b) 1
  let s := s.record { level := 1, cls := 2, esc := false, inj := false, code := 0x0204
                      unit := pageId (Page.block b), addr := c * 2 ^ 32 + site }
  s.flushBuffer b held

/-- The block fences a cell that reports an error (R576, R577): the record of the cell's level, the site list, and the wait
for the summit or the way offline. -/
def State.fenceCell (s : State) (c code addr : Nat) (inj : Bool) : State :=
  if s.offline c || s.fenced c || !s.cells.mapped then s
  else
    let b := c / 16
    let site := s.siteOf c
    let s := s.record { level := 0, cls := 0, esc := true, inj := inj, code := code
                        unit := pageId (Page.site site), addr := addr }
    let s := ((s.listSite site 2).setStat (Page.site site) 7).setInt (Page.block b) 2
    if bit (s.reg (Page.block b) Reg.BLK_CTRL) 0 && s.spareFree b && !(s.fault.unlisted.contains site) then
      s.setMigrations (s.fault.migrations ++ [(b, { cell := c, fenced := s.elapsed })])
    else s.goOffline c

/-- HANDSHAKE_STALL: a stage boundary has stayed in one phase for longer than `CEL_STALL_NS`; the error escalates to the
block while its enable bit is set (R115, R535, R576). -/
def execHandshakeStall (site : Fin 2176) (boundary : Fin 8) (s : State) : Host.Outcome State Fault Refusal :=
  if s.runs (11 + site / 17) then
    let p := Page.site site
    let s := s.setErr p 2
    match s.cellAt site with
    | none => .next s
    | some c =>
      if s.errOn p 2 then .next (s.fenceCell c 0x0104 (boundary.val * 2 ^ 16 + site.val) false) else .next s
  else .next s

end Sys2Proof.Machine
end

