-- ==== Sys2Proof/Machine/Messages.lean ====
section
/-! DEFINITION. Channels and active messages (R240–R261): send engines, hardware handlers, software handlers, answers,
retries and completions. -/
namespace Sys2Proof.Machine
open Sys2Proof

/-! ## Answer codes (R247) -/

abbrev Code.done : Nat := 0x0
abbrev Code.queueFull : Nat := 0x1
abbrev Code.queueClosed : Nat := 0x2
abbrev Code.queueReset : Nat := 0x3
abbrev Code.noHandler : Nat := 0x4
abbrev Code.noRoute : Nat := 0x5
abbrev Code.security : Nat := 0x7
abbrev Code.late : Nat := 0x8
abbrev Code.poisoned : Nat := 0x9
abbrev Code.routeFull : Nat := 0xA
abbrev Code.refused : Nat := 0xB
abbrev Code.timeout : Nat := 0xC

/-- The codes that the hardware retries. -/
def retried (code : Nat) : Bool := code == 0x1 || code == 0x3

/-! ## Message fields (R242) -/

def msgHandler (p : Packet) : Nat := fld (p.word 1) 31 24
def msgSec (p : Packet) : Bool := bit (p.word 1) 23
def msgStepped (p : Packet) : Bool := bit (p.word 1) 22
def msgDest (p : Packet) : Nat := fld (p.word 1) 19 0
def msgSrcChip (p : Packet) : Nat := fld (p.word 2) 31 20
def msgSender (p : Packet) : Nat := fld (p.word 2) 19 12
def msgTag (p : Packet) : Nat := fld (p.word 2) 11 0
def msgArg (p : Packet) (i : Nat) : W32 := p.word (3 + i)
/-- Argument words. -/
def msgArgs (p : Packet) : Nat := p.count - 2
/-- Logical cell and queue of a cell handler's DEST (R252). -/
def msgCell (p : Packet) : Nat := fld (p.word 1) 19 9
def msgQueue (p : Packet) : Nat := fld (p.word 1) 8 0

/-- The oldest step without a summit. -/
def State.openStep (s : State) : Nat := if s.step.summited then s.stepNo + 1 else s.stepNo

/-- A STEPPED message that is taken after the summit of its step (R247, R250). -/
def State.msgLate (s : State) (p : Packet) : Bool :=
  msgStepped p && decide (s.stepOfPar p.par p.late < s.openStep)

/-- What a handler does with a message: it waits for the row (R281), or answers with a code and data. -/
inductive Handled where
  | wait
  | answer (code : Nat) (data : List W32)
deriving DecidableEq, Repr

/-! ## Cell handlers (R252–R254, R284) -/

/-- INJECT (R253). -/
def State.actInject (s : State) (c : Nat) (p : Packet) : Handled × State :=
  let q := msgQueue p
  let row := fld (msgArg p 0) 11 0
  match s.judge c q row with
  | .closed => (.answer Code.queueClosed [], s)
  | .reset => (.answer Code.queueReset [], s)
  | .full => (.answer Code.queueFull [], s)
  | .row => (.answer Code.refused [], s)
  | .placed =>
    let step := if msgStepped p then s.stepOfPar p.par p.late else s.stamp
    let graded := decide (2 ≤ msgArgs p)
    (.answer Code.done [], s.enpool c q row step false (if graded then gradedOf (msgArg p 1) else none)
      (if graded then offsetOf (msgArg p 1) else 0))

/-- The words of `CEL_NDATA0`–`CEL_NDATA2` of a neuron (R141). -/
def ndataWords (n : Neuron) : List W32 := [n.u ++ n.v, n.f ++ n.a, n.acc]

/-- READ_STATE. -/
def State.actReadState (s : State) (c : Nat) (p : Packet) : Handled × State :=
  (.answer Code.done (ndataWords (s.neuron c (fld (msgArg p 0) 12 0))), s)

/-- An answer of a handler that posts. -/
def postAnswer (x : Bool × State) : Handled × State :=
  (.answer (if x.1 then Code.done else Code.queueFull) [], x.2)

/-- WRITE_STATE (R137–R139). -/
def State.actWriteState (s : State) (c : Nat) (p : Packet) : Handled × State :=
  postAnswer (s.postCell c [.neuron (fld (msgArg p 0) 12 0) (msgArg p 1) (msgArg p 2)])

/-- SET_PROFILE (R119, R252). -/
def State.actSetProfile (s : State) (c : Nat) (p : Packet) : Handled × State :=
  let k := fld (msgArg p 0) 5 0
  let w := 3 * fld (msgArg p 0) 8 8
  let vals := [msgArg p 1, msgArg p 2, msgArg p 3]
  if s.profileOk c k w vals then postAnswer (s.postCell c [.profile k w vals])
  else (.answer Code.refused [], s.setErr (Page.site (s.siteOf c)) 4)

/-- A queue change asked for by message (R254). -/
def State.msgQueueChange (s : State) (c : Nat) (p : Packet) (x : Nat) : Handled × State :=
  if s.qstate c (msgQueue p) = 2 then (.answer Code.queueReset [], s)
  else (.answer Code.done [], s.requestQueue c (msgQueue p) x)

/-- OPEN_QUEUE. -/
def State.actOpenQueue (s : State) (c : Nat) (p : Packet) : Handled × State := s.msgQueueChange c p 0

/-- CLOSE_QUEUE. -/
def State.actCloseQueue (s : State) (c : Nat) (p : Packet) : Handled × State := s.msgQueueChange c p 1

/-- The code that refuses a row selector or its entry before anything is read (R247, R252). -/
def State.rowArgBad (s : State) (c : Nat) (p : Packet) : Option Nat :=
  let q := msgQueue p
  let r := fld (msgArg p 0) 11 0
  let tbl := s.qrowt c q + 8 * r
  if s.qrowsM1 c q < r then some Code.refused
  else if s.beatPoison tbl then some Code.poisoned
  else if Entry.valid (s.entryAt tbl) then none else some Code.refused

/-- Entry of the row that a message names. -/
def State.msgEntry (s : State) (c : Nat) (p : Packet) : Nat :=
  s.entryAt (s.qrowt c (msgQueue p) + 8 * fld (msgArg p 0) 11 0)

/-- Bring the named row up to date (R284): none once it is, or the answer that ends the handler. -/
def State.msgBring (s : State) (c : Nat) (p : Packet) : Option Handled × State :=
  let e := s.msgEntry c p
  if Entry.plastic e then
    let b := s.bringRow c (msgQueue p) (fld (msgArg p 0) 11 0)
    match b.1 with
    | .busy => (some .wait, s)
    | .bad => (some (.answer (if s.beatPoison (Entry.addr e) then Code.poisoned else Code.refused) []), b.2)
    | .done _ => (none, b.2)
  else (none, s)

/-- A non-secure message reaches a secure range: it is counted (R644, R645). -/
def State.drangeRefused (s : State) : State := s.count Page.bdr Reg.BDR_REFUSED 1

/-- READ_ROW (R252, R284). -/
def State.actReadRow (s : State) (c : Nat) (p : Packet) : Handled × State :=
  match s.rowArgBad c p with
  | some code => (.answer code [], s)
  | none =>
    let e := s.msgEntry c p
    let off := fld (msgArg p 0) 31 16
    if Entry.len e + 2 ≤ off then (.answer Code.refused [], s)
    else
      let n := min 5 (Entry.len e + 2 - off)
      let d := Entry.addr e + 4 * off
      if msgSec p = false ∧ s.rangeSecure d (4 * n) then (.answer Code.security [], s.drangeRefused)
      else
        let b := s.msgBring c p
        match b.1 with
        | some h => (h, b.2)
        | none =>
          let x := b.2.dramRead true d (4 * n)
          if x.1.2 then (.answer Code.poisoned [], x.2)
          else (.answer Code.done ((List.range n).map (fun i => b.2.dramWord (d + 4 * i))), x.2)

/-- The sender of a message as a requester of memory. -/
def msgRequester (p : Packet) : Requester :=
  let x := msgSender p
  if x < 16 then { who := .crs (Fin.ofNat 16 x), mmode := msgSec p } else { who := .rfg (Fin.ofNat 4 x), mmode := msgSec p }

/-- Every slice that the parts of a posted write fall to has a place for them (R162). -/
def State.synRoom (s : State) (l : List (Nat × List Byte)) : Bool :=
  l.all (fun x => s.dram.held.all (fun h => h.slice != (dramPlace x.1).slice) &&
    decide (s.postedAt (dramPlace x.1).slice
      + (l.filter (fun y => (dramPlace y.1).slice == (dramPlace x.1).slice)).length ≤ 128))

/-- WRITE_ROW (R152, R162, R252). -/
def State.actWriteRow (s : State) (c : Nat) (p : Packet) : Handled × State :=
  match s.rowArgBad c p with
  | some code => (.answer code [], s)
  | none =>
    let e := s.msgEntry c p
    let off := fld (msgArg p 0) 31 16
    let vals := (List.range (msgArgs p - 1)).map (fun i => msgArg p (1 + i))
    let d := Entry.addr e + 4 * off
    if Entry.len e + 2 < off + vals.length then (.answer Code.refused [], s)
    else if Entry.rfmt e < 2 ∧ ((List.range vals.length).zip vals).any (fun x =>
        decide (2 ≤ off + x.1) && Syn.kind x.2 == 3) then (.answer Code.refused [], s)
    else if msgSec p = false ∧ s.rangeSecure d (4 * vals.length) then (.answer Code.security [], s.drangeRefused)
    else
      let l := (vals.map (fun v => leBytes 4 v.toNat)).flatten
      if s.running ∧ s.inSynapseStore d ∧ s.synRoom (beatParts d l) = false then (.answer Code.queueFull [], s)
      else (.answer Code.done [], s.dramWrite (some (msgRequester p)) true d l)

/-- ROW_APPLY (R284). -/
def State.actRowApply (s : State) (c : Nat) (p : Packet) : Handled × State :=
  match s.rowArgBad c p with
  | some code => (.answer code [], s)
  | none =>
    let b := s.msgBring c p
    (b.1.getD (.answer Code.done []), b.2)

/-- A cell handler by its number. -/
def State.actCell (s : State) (h c : Nat) (p : Packet) : Handled × State :=
  if h = 0x01 then s.actInject c p
  else if h = 0x02 then s.actReadState c p
  else if h = 0x03 then s.actWriteState c p
  else if h = 0x04 then s.actSetProfile c p
  else if h = 0x05 then s.actOpenQueue c p
  else if h = 0x06 then s.actCloseQueue c p
  else if h = 0x07 then s.actReadRow c p
  else if h = 0x08 then s.actWriteRow c p
  else s.actRowApply c p

/-- What every cell handler checks first: the page's security and the message's step (R247, R644). (DEDUCED, log 54) -/
def State.takeCell (s : State) (c : Nat) (p : Packet) (act : State → Nat → Packet → Handled × State) : Handled × State :=
  if msgSec p = false ∧ bit (s.reg (Page.site (s.siteOf c)) Reg.PG_SEC) 31 then (.answer Code.security [], s)
  else if s.msgLate p then (.answer Code.late [], s)
  else act s c p

/-- The message that a block takes next. -/
def State.blockMsg (s : State) (b : Nat) : Option (Nat × Packet) :=
  s.fabric.blockIn.find? (fun x => x.1 == b && x.2.ty == 3)

/-- A block serves the message at its head where its handler is h: an offline cell answers QUEUE_CLOSED, a fenced one lets
the block buffer it (R576, R579). -/
def State.serveBlock (s : State) (b h : Nat) (act : State → Nat → Packet → Handled × State) : State :=
  match s.blockMsg b with
  | none => s
  | some x =>
    let p := x.2
    let c := msgCell p
    if s.runs (11 + b) = false ∨ msgHandler p ≠ h then s
    else
      let gone (s : State) : State :=
        ({ s with fabric := { s.fabric with blockIn := eraseFirst x s.fabric.blockIn } }).consumed b p.par
      if s.offline c then (gone s).answerBlock b p Code.queueClosed []
      else if s.fenced c then
        (if s.bufferLen c < 256 then (gone s).buffer c p else (gone s).answerBlock b p Code.queueFull [])
      else
        let r := s.takeCell c p act
        match r.1 with
        | .wait => r.2
        | .answer code data => (gone r.2).answerBlock b p code data

/-- INJECT. -/
def execInject (block : Fin 128) (s : State) : Host.Outcome State Fault Refusal :=
  .next (s.serveBlock block 0x01 State.actInject)

/-- READ_STATE. -/
def execReadState (block : Fin 128) (s : State) : Host.Outcome State Fault Refusal :=
  .next (s.serveBlock block 0x02 State.actReadState)

/-- WRITE_STATE. -/
def execWriteState (block : Fin 128) (s : State) : Host.Outcome State Fault Refusal :=
  .next (s.serveBlock block 0x03 State.actWriteState)

/-- SET_PROFILE. -/
def execSetProfile (block : Fin 128) (s : State) : Host.Outcome State Fault Refusal :=
  .next (s.serveBlock block 0x04 State.actSetProfile)

/-- OPEN_QUEUE. -/
def execOpenQueue (block : Fin 128) (s : State) : Host.Outcome State Fault Refusal :=
  .next (s.serveBlock block 0x05 State.actOpenQueue)

/-- CLOSE_QUEUE. -/
def execCloseQueue (block : Fin 128) (s : State) : Host.Outcome State Fault Refusal :=
  .next (s.serveBlock block 0x06 State.actCloseQueue)

/-- READ_ROW. -/
def execReadRow (block : Fin 128) (s : State) : Host.Outcome State Fault Refusal :=
  .next (s.serveBlock block 0x07 State.actReadRow)

/-- WRITE_ROW. -/
def execWriteRow (block : Fin 128) (s : State) : Host.Outcome State Fault Refusal :=
  .next (s.serveBlock block 0x08 State.actWriteRow)

/-- ROW_APPLY. -/
def execRowApply (block : Fin 128) (s : State) : Host.Outcome State Fault Refusal :=
  .next (s.serveBlock block 0x09 State.actRowApply)

/-! ## Region handlers and PING (R252) -/

/-- Take a packet out of a node's unit and count it consumed by a unit. -/
def State.takeUnit (s : State) (x : Nat × Packet) (unit : Nat) : State :=
  ({ s with fabric := { s.fabric with unitIn := eraseFirst x s.fabric.unitIn } }).consumed unit x.2.par

/-- The message that the handlers of a region take next. -/
def State.regionMsg (s : State) (r : Nat) : Option (Nat × Packet) :=
  s.fabric.unitIn.find? (fun x => x.1 == r && x.2.ty == 3 && decide (0x0A ≤ msgHandler x.2 ∧ msgHandler x.2 ≤ 0x0C))

/-- A region serves the message at its head where its handler is h; `page` is the page whose security holds. -/
def State.serveRegion (s : State) (r h page : Nat) (act : State → Packet → (Nat × List W32) × State) : State :=
  match s.regionMsg r with
  | none => s
  | some x =>
    let p := x.2
    if s.runs (3 + r) = false ∨ msgHandler p ≠ h then s
    else
      let s := s.takeUnit x (128 + r)
      let a := if msgSec p = false ∧ bit (s.reg page Reg.PG_SEC) 31 then ((Code.security, []), s)
               else if s.msgLate p then ((Code.late, []), s)
               else act s p
      let s := a.2.countAnswer r a.1.1
      s.inject (128 + r) (136 + 128 + r) 12 (s.answerPacket p a.1.1 a.1.2)

/-- ROUTE_INSERT (R226, R227): the hardware takes any free entry. -/
def execRouteInsert (region : Fin 8) (pick : Nat) (s : State) : Host.Outcome State Fault Refusal :=
  .next (s.serveRegion region 0x0A (Page.region region + 0x08) (fun s p =>
    match s.lowestFree region with
    | none => ((Code.routeFull, []), s)
    | some low =>
      let i := if s.routeFree region pick then pick else low
      let k := routeKey region i
      let x := s.postRoute region [.entry (k.1 * 4096 + k.2) (msgArg p 0) (msgArg p 1) (msgArg p 2)]
      if x.1 then
        let y : State := if s.running then
            { x.2 with fabric := { x.2.fabric with taken := setIns x.2.fabric.taken (region.val * 2 ^ 18 + i) } }
          else x.2
        ((Code.done, [BitVec.ofNat 32 i]), y)
      else ((Code.queueFull, []), x.2)))

/-- ROUTE_RELEASE (R227). -/
def execRouteRelease (region : Fin 8) (s : State) : Host.Outcome State Fault Refusal :=
  .next (s.serveRegion region 0x0B (Page.region region + 0x08) (fun s p =>
    let x := s.postRoute region [.release region (fld (msgArg p 0) 17 0)]
    ((if x.1 then Code.done else Code.queueFull, []), x.2)))

/-- GATE_SET (R226, R233). -/
def execGateSet (region : Fin 8) (s : State) : Host.Outcome State Fault Refusal :=
  .next (s.serveRegion region 0x0C (Page.region region + 0x09) (fun s p =>
    let k := gateKey region (fld (msgArg p 0) 11 0)
    let x := s.postRoute region [.gate (k.1 * 4096 + k.2) (msgArg p 1)]
    ((if x.1 then Code.done else Code.queueFull, []), x.2)))

/-- PING, and a reserved handler number, which is answered NO_HANDLER (R247, R252). -/
def execPing (node : Fin 8) (s : State) : Host.Outcome State Fault Refusal :=
  match s.fabric.unitIn.find? (fun x => x.1 == node.val && x.2.ty == 3 &&
      (msgHandler x.2 == 0 || decide (0x0D ≤ msgHandler x.2 ∧ msgHandler x.2 ≤ 0x3F))) with
  | none => .next s
  | some x =>
    if s.clocked = false then .next s
    else
      let s := s.takeUnit x 136
      let a := if msgHandler x.2 ≠ 0 then (Code.noHandler, [])
               else if s.msgLate x.2 then (Code.late, [])
               else (Code.done, [BitVec.ofNat 32 s.chipId, BitVec.ofNat 32 s.stepNo])
      .next (s.sendNode node (s.answerPacket x.2 a.1 a.2))

/-! ## Software handlers (R255, R256) -/

def State.engine (s : State) (e : Nat) : Engine := (Store.find s.engines e).getD {}
def State.setEngine (s : State) (e : Nat) (x : Engine) : State := { s with engines := Store.put s.engines e x }

/-- Core c enables handler h in its `CHN_HMASK`. -/
def State.handlerOn (s : State) (c h : Nat) : Bool :=
  bit (s.reg (Page.engine c) (Reg.CHN_HMASK0 + 4 * ((h - 64) / 32))) ((h - 64) % 32)

/-- The answer to a message for a software handler, and the chip with the message in its receive queue where it is
DONE. -/
def State.softMsg (s : State) (p : Packet) : Nat × State :=
  let c := msgDest p % 16
  let e := s.engine c
  if s.grade.crests ≤ c ∨ s.handlerOn c (msgHandler p) = false then (Code.noHandler, s)
  else if msgSec p = false ∧ bit (s.reg (0x30 + c) Reg.PG_SEC) 31 then (Code.security, s)
  else if s.msgLate p then (Code.late, s)
  else if 256 ≤ e.rx.length then (Code.queueFull, s.count (Page.engine c) Reg.CHN_RX_FULL 1)
  else
    let s := if e.rx.isEmpty then s.setInt (Page.engine c) 1 else s
    (Code.done, s.setEngine c { e with rx := e.rx ++ [p] })

/-- SOFTWARE_HANDLER (R255). -/
def execSoftwareHandler (s : State) : Host.Outcome State Fault Refusal :=
  match s.fabric.unitIn.find? (fun x => x.1 == 4 && x.2.ty == 3 && decide (0x40 ≤ msgHandler x.2)) with
  | none => .next s
  | some x =>
    if s.clocked = false then .next s
    else
      let a := (s.takeUnit x 136).softMsg x.2
      .next (a.2.sendNode 4 (a.2.answerPacket x.2 a.1 []))

/-- CHN_RX_NEXT (R256). The Refuge engines have no receive queue (R257). -/
def execChnRxNext (req : Requester) (engine : Fin 20) (v : W32) (s : State) : Host.Outcome State Fault Refusal :=
  .next (s.ifAdmit req (Page.engine engine) Reg.CHN_RX_NEXT (fun s =>
    if bit v 0 ∧ engine.val < 16 then
      let e := s.engine engine
      s.setEngine engine { e with rx := e.rx.drop 1 }
    else s))

/-! ## Send engines (R240, R241, R245–R250, R257, R258) -/

/-- Free credits: a message outstanding holds one, and so does a completion entry until it is popped (R245, R249). -/
def Engine.credits (e : Engine) : Nat := 64 - (e.out.length + e.cq.length)

/-- Node at which an engine's core sits. (PRESUMED, log 52) -/
def engineNode (e : Nat) : Nat := if e < 16 then 4 else 0

/-- Low and high word of a channel entry (R241). -/
def channelKey (id : Nat) : Nat × Nat := (0x22200 + 8 * (bitsOf id 14 12) + bitsOf id 11 9, 8 * bitsOf id 8 0)
def State.channel (s : State) (id : Nat) : W32 × W32 :=
  let k := channelKey id
  (s.reg k.1 k.2, s.reg k.1 (k.2 + 4))

/-- A completion entry (R258). -/
def completion (code handler tries tag chip dest : Nat) (data : List W32) : Completion :=
  { lo := BitVec.ofNat 32 (chip % 4096 * 2 ^ 20 + dest % 2 ^ 20)
    hi := BitVec.ofNat 32 (2 ^ 31 + code % 16 * 2 ^ 27 + handler % 256 * 2 ^ 19 + data.length % 8 * 2 ^ 16
      + min 15 tries * 2 ^ 12 + tag % 4096)
    data := data }

/-- Post a completion entry (R258, R260). -/
def State.postCompletion (s : State) (e : Nat) (code : Nat) (x : Completion) : State :=
  let g := s.engine e
  let s := (s.setEngine e { g with cq := g.cq ++ [x] }).setInt (Page.engine e) 0
  if code = 0 then s else (s.count (Page.engine e) Reg.CHN_NACKED 1).setInt (Page.engine e) 2

/-- SENDERS admits an engine (R240). -/
def senderAdmits (senders e : Nat) : Bool :=
  senders == 0 || (senders == 1 && decide (e < 16)) || (senders == 2 && decide (16 ≤ e))

/-- The message that the staging registers and a channel entry give (R242). -/
def State.buildMsg (s : State) (e : Nat) (lo hi : W32) (sec stepped : Bool) (n : Nat) : Packet :=
  let chip := if bit hi 27 then s.chipId else fld hi 18 7
  let tag := s.regFld (Page.engine e) Reg.CHN_TX_CHAN 31 20
  mkPacket 3 chip 2 s.stamp false
    ([BitVec.ofNat 32 (fld hi 26 19 * 2 ^ 24 + (if sec then 2 ^ 23 else 0) + (if stepped then 2 ^ 22 else 0) + fld lo 19 0),
      BitVec.ofNat 32 (s.chipId * 2 ^ 20 + e * 2 ^ 12 + tag)]
     ++ (List.range n).map (fun i => s.reg (Page.engine e) (Reg.CHN_TX_ARG0 + 4 * i)))

/-- A message on a channel that the requester may use, or the completion that refuses it (R245). -/
def State.sendMsg (s : State) (e : Nat) (sec : Bool) (v : W32) : State :=
  let pg := Page.engine e
  let id := s.regFld pg Reg.CHN_TX_CHAN 14 0
  let ch := s.channel id
  let hi := ch.2
  let tag := s.regFld pg Reg.CHN_TX_CHAN 31 20
  let p := s.buildMsg e ch.1 hi sec (bit v 9) (min 5 (fld v 2 0))
  let fail (s : State) (code : Nat) : State :=
    s.postCompletion e code (completion code (fld hi 26 19) 0 tag p.chip (fld ch.1 19 0) [])
  if bit hi 31 = false then fail (s.countInt (Page.chn (bitsOf id 14 12)) Reg.CHN_BADCHAN 0 1) Code.noRoute
  else if senderAdmits (fld hi 29 28) e = false ∨ (bit hi 30 ∧ sec = false) then fail s Code.security
  else
    let g := s.engine e
    let s := s.setEngine e { g with out := g.out ++
      [{ packet := p, tag := tag, handler := fld hi 26 19, chip := p.chip, dest := fld ch.1 19 0, notify := bit v 8
         sentAt := s.elapsed }] }
    (s.count pg Reg.CHN_SENT 1).sendNode (engineNode e) p

/-- CHN_TX_GO (R245). -/
def execChnTxGo (req : Requester) (engine : Fin 20) (v : W32) (s : State) : Host.Outcome State Fault Refusal :=
  let pg := Page.engine engine
  .next (s.ifAdmit req pg Reg.CHN_TX_GO (fun s =>
    if (s.engine engine).credits = 0 then (s.setFld pg Reg.CHN_TX_STAT 0 0 1).count pg Reg.CHN_TX_REFUSED 1
    else (s.setFld pg Reg.CHN_TX_STAT 0 0 0).sendMsg engine (s.isSecure req) v))

/-- Completion of an outstanding message (R258). -/
def Outstanding.completion (o : Outstanding) (code : Nat) (data : List W32) : Completion :=
  Machine.completion code o.handler o.tries o.tag o.chip o.dest data

/-- Change an outstanding message of an engine, or end it. -/
def State.setOut (s : State) (e : Nat) (l : List Outstanding) : State := s.setEngine e { s.engine e with out := l }

/-- The answer is one to an outstanding message that awaits it. -/
def Outstanding.awaits (o : Outstanding) (p : Packet) : Bool :=
  o.backoff.isNone && o.tag == fld (p.word 1) 11 0 && o.handler == fld (p.word 2) 31 24 && o.dest == fld (p.word 2) 19 0

/-- The wait before retry k + 1 (R248). -/
def State.backoffNs (s : State) (e k : Nat) : Nat := 64 * 2 ^ min k (min 10 (s.regFld (Page.engine e) Reg.CHN_BACKOFF 11 8))

/-- An answer reaches its send engine (R245, R246, R248, R258). -/
def State.takeAnswer (s : State) (e : Nat) (p : Packet) : State :=
  let code := fld (p.word 2) 23 20
  let data := (p.words.drop 3).take (p.count - 2)
  match (s.engine e).out.find? (fun o => o.awaits p) with
  | none => s.count (Page.engine e) Reg.CHN_LATE_ANS 1
  | some o =>
    let out := (s.engine e).out
    if retried code ∧ o.tries < s.regFld (Page.engine e) Reg.CHN_BACKOFF 7 0 then
      s.setOut e (replaceFirst o { o with backoff := some (s.elapsed + s.backoffNs e o.tries) } out)
    else
      let s := s.setOut e (eraseFirst o out)
      if code = 0 ∧ data.isEmpty ∧ o.notify = false then s
      else s.postCompletion e code (o.completion code data)

/-- ANSWER: the next answer at a node (R243). -/
def execAnswer (node : Fin 8) (s : State) : Host.Outcome State Fault Refusal :=
  match s.fabric.unitIn.find? (fun x => x.1 == node.val && x.2.ty == 4) with
  | none => .next s
  | some x =>
    let e := fld (x.2.word 1) 19 12
    if s.clocked = false then .next s
    else if 20 ≤ e then .next (s.takeUnit x 136)
    else .next ((s.takeUnit x 136).takeAnswer e x.2)

/-- RETRY (R248). -/
def execRetry (engine : Fin 20) (s : State) : Host.Outcome State Fault Refusal :=
  let out := (s.engine engine).out
  match out.find? (fun o => match o.backoff with
    | some t => decide (t ≤ s.elapsed)
    | none => false) with
  | none => .next s
  | some o =>
    if s.clocked = false then .next s
    else
      let s := s.setOut engine (out.map (fun x =>
        if x = o then { o with backoff := none, tries := o.tries + 1, sentAt := s.elapsed } else x))
      .next ((s.count (Page.engine engine) Reg.CHN_RETRIES 1).sendNode (engineNode engine) o.packet)

/-- Answer timeout of an engine (R257). -/
def State.msgTimeout (s : State) (e : Nat) : Nat := max 1000 (s.reg (Page.engine e) Reg.CHN_TIMEOUT_NS).toNat

/-- MESSAGE_TIMEOUT (R246). -/
def execMessageTimeout (engine : Fin 20) (s : State) : Host.Outcome State Fault Refusal :=
  let out := (s.engine engine).out
  match out.find? (fun o => o.backoff.isNone && decide (o.sentAt + s.msgTimeout engine ≤ s.elapsed)) with
  | none => .next s
  | some o =>
    if s.clocked = false then .next s
    else .next ((s.setOut engine (eraseFirst o out)).postCompletion engine Code.timeout (o.completion Code.timeout []))

/-- CHN_CQ_POP: a read of the low word (R258). -/
def execChnCqPop (req : Requester) (engine : Fin 20) (s : State) : Host.Outcome State Fault Refusal :=
  let pg := Page.engine engine
  let key := pg * 4096 + Reg.CHN_CQ_POP
  if s.mayRead req pg Reg.CHN_CQ_POP = false then .next (s.denyRead req pg Reg.CHN_CQ_POP)
  else match (s.engine engine).cq with
    | [] => .next ((s.latchHigh req key 0).answer 0 false)
    | x :: cq =>
      let g := s.engine engine
      let s := (s.setEngine engine { g with cq := cq }).latchHigh req key x.hi
      let s := (List.range 5).foldl (fun s i => s.setReg pg (Reg.CHN_CQ_DATA0 + 4 * i) (x.data.getD i 0)) s
      .next (s.answer x.lo.toNat false)

end Sys2Proof.Machine
end

