-- ==== Sys2Proof/Machine/Learning.lean ====
section
/-! DEFINITION. Epochs, region sweepers, checkpoints and rule parameter sets (R262–R294). -/
namespace Sys2Proof.Machine
open Sys2Proof

/-- Page of the LRN registers of a region (R293). -/
def Page.lrnRegion (r : Nat) : Nat := Page.region r + 0x0B

/-- Clear `PG_CTRL.EN` on the STP page: the step timer stops (R41). -/
def State.stopTimer (s : State) : State := s.clrReg Page.stp Reg.PG_CTRL 1

def State.sweeper (s : State) (r : Nat) : Sweeper := (Store.find s.learn.sweepers r).getD {}
def State.setSweeper (s : State) (r : Nat) (x : Sweeper) : State :=
  { s with learn := { s.learn with sweepers := Store.put s.learn.sweepers r x } }

/-! ## The region sweeper (R279–R283) -/

/-- A pass begins, or waits for the one that runs (R280); no pass runs while learning is stopped (R265). -/
def State.beginPass (s : State) (r : Nat) : State :=
  let x := s.sweeper r
  if s.learning = false then s
  else if x.busy then s.setSweeper r { x with due := true }
  else s.setSweeper r { x with busy := true, due := false, entry := 0, row := 0, began := s.stepNo, epoch := s.epoch }

/-- `LRN_AGE_STEPS` as it acts (R292). -/
def State.ageSteps (s : State) : Nat := min 64 (max 8 (s.regFld Page.lrn Reg.LRN_AGE_STEPS 6 0))

/-- The passes that fall due for age at a summit (R280). -/
def State.agePasses (s : State) : State :=
  (List.range 8).foldl (fun s r =>
    if (s.sweeper r).began + s.ageSteps ≤ s.stepNo then s.beginPass r else s) s

/-- Sweep list entries of a region. -/
def State.sweepCount (s : State) (r : Nat) : Nat := s.regFld (Page.lrnRegion r) Reg.LRN_RSW_COUNT 17 0

/-- The queue index that entry k of the sweep list of a region names (R279). -/
def State.sweepQueue (s : State) (r k : Nat) : Nat :=
  fld (s.dramWord (bitsOf (s.reg64 (Page.lrnRegion r) Reg.LRN_RSW_LIST) 35 2 * 4 + 4 * k)) 19 0

/-- Bring the row up to date and age its trace as R279 gives, and write back what changed. -/
def State.sweepRow (s : State) (r c tbl : Nat) : State :=
  let e := s.entryAt tbl
  let row := s.loadRow c tbl e
  let pg := Page.lrnRegion r
  let q := sweepSites r
  let lag := (s.epoch + 4 - row.stamp) % 4
  let age := (s.stepNo + 128 - row.age) % 128
  let s := s.pushReqs 2086 0 tbl 8 |>.pushReqs 2086 0 row.addr 8
  let aged := decide (64 ≤ age) && row.pre != 0
  let p := if aged then s.decayedPre q row else (row.pre, s)
  let s := if aged then p.2.count pg Reg.LRN_RSW_AGED 1 else s
  let row := if aged then { row with h0 := withFld (withFld row.h0 15 8 p.1) 6 0 s.stepNo } else row
  if 1 ≤ lag then
    let a := s.bringUp q row
    let s := a.2.count pg Reg.LRN_RSW_ROWS 1
    let s := if lag = 3 then s.count pg Reg.LRN_RSW_STALE 1 else s
    (s.pushReqs 2086 0 row.addr (2 * Entry.bytes e)).storeRow a.1.row
  else if aged then
    (s.pushReqs 2086 0 row.addr 8).storeAll [(Base.dram + row.addr, leBytes 4 row.h0.toNat)]
  else s

/-- SWEEPER_ROW: the sweeper of a region looks at the next entry of its list's row tables; it waits for a row that its cell
fetches or writes back (R279, R281). -/
def execSweeperRow (region : Fin 8) (s : State) : Host.Outcome State Fault Refusal :=
  let x := s.sweeper region
  if s.runs (3 + region) = false ∨ x.busy = false ∨ s.sweepCount region ≤ x.entry then .next s
  else
    let i := s.sweepQueue region x.entry
    let c := bitsOf i 19 9
    let q := bitsOf i 8 0
    let tbl := s.qrowt c q + 8 * x.row
    let e := s.entryAt tbl
    if s.offline c ∨ c / 256 ≠ region.val ∨ s.qrowsM1 c q < x.row then
      .next (s.setSweeper region { x with entry := x.entry + 1, row := 0 })
    else if s.rowRefused tbl e ∨ Entry.plastic e = false then .next (s.setSweeper region { x with row := x.row + 1 })
    else if s.rowBusy c (Entry.addr e) then .next s
    else .next ((s.sweepRow region c tbl).setSweeper region { x with row := x.row + 1 })

/-- A region has completed a pass that began at or after the last epoch close (R292). -/
def State.markSweep (s : State) (r : Nat) : State :=
  let s := s.orReg Page.lrn Reg.LRN_SWEEP_DONE (bitWord r)
  if s.regFld Page.lrn Reg.LRN_SWEEP_DONE 7 0 = 255 then s.orReg Page.lrn Reg.LRN_SWEEP_DONE (bitWord 31) else s

/-- SWEEPER_PASS_DONE: the pass ends, and one that fell due begins (R280, R283). -/
def execSweeperPassDone (region : Fin 8) (s : State) : Host.Outcome State Fault Refusal :=
  let x := s.sweeper region
  if s.runs (3 + region) = false ∨ x.busy = false ∨ x.entry < s.sweepCount region then .next s
  else
    let pg := Page.lrnRegion region
    let steps := s.stepNo - x.began
    let s := ((s.setReg pg Reg.LRN_RSW_PASS_STEPS (BitVec.ofNat 32 (min 65535 steps))).count pg Reg.LRN_RSW_PASSES 1).setInt
      pg 0
    let s := if 64 < steps + s.ageSteps then s.setErr pg 0 else s
    let s := if x.epoch = s.epoch then s.markSweep region else s
    let s := s.setSweeper region { x with busy := false, due := false, done := x.epoch + 1 }
    .next (if x.due then s.beginPass region else s)

/-- The summit of the open step would close an epoch (R266). -/
def State.wouldClose (s : State) : Bool :=
  s.learning && decide (s.learn.len ≤ s.regFld Page.lrn Reg.LRN_EPOCH_POS 15 0 + 1)

/-- The region withholds QUIESCENT for its sweeper (R282). -/
def State.sweepLate (s : State) (r : Nat) : Bool :=
  s.wouldClose && decide (2 ≤ s.epoch ∧ (s.sweeper r).done < s.epoch)

/-! ## Checkpoints (R286–R289) -/

/-- One byte into a CRC-32 of R287: reflected, polynomial 0x04C1_1DB7. -/
def crc32Byte (c : Nat) (b : Byte) : Nat :=
  (List.range 8).foldl (fun c _ => if c % 2 = 1 then (c / 2) ^^^ 0xEDB88320 else c / 2) (c ^^^ b.toNat)

/-- CRC-32 of R287. -/
def crc32 (l : List Byte) : Nat := l.foldl crc32Byte 0xFFFFFFFF ^^^ 0xFFFFFFFF

/-- The 12 bytes of a neuron (R117). -/
def Neuron.bytes (n : Neuron) : List Byte :=
  leBytes 2 n.v.toNat ++ leBytes 2 n.u.toNat ++ leBytes 2 n.a.toNat ++ leBytes 2 n.f.toNat ++ leBytes 4 n.acc.toNat

/-- The eight learning words of a slot, in its order (R287). -/
def learnRegs : List Nat :=
  [Reg.CEL_MOD, Reg.CEL_MODL0, Reg.CEL_MODL0 + 4, Reg.CEL_MODL0 + 8, Reg.CEL_MODL0 + 12, Reg.CEL_PRE_CTRL,
   Reg.CEL_MOD_CTRL]

/-- Bitmap byte k of a cell. -/
def Checkpoint.mapByte (k : Checkpoint) (c j : Nat) : Byte :=
  (List.range 8).foldl (fun b i =>
    if (Store.get (fun _ => Neuron.zero) k.neurons (8192 * c + 8 * j + i)).active then b ||| BitVec.ofNat 8 (2 ^ i) else b) 0

/-- The bytes of the slot of a cell, its CRC last (R287). -/
def Checkpoint.slot (k : Checkpoint) (c : Nat) : List Byte :=
  let n (i : Nat) := Store.get (fun _ => Neuron.zero) k.neurons (8192 * c + i)
  let body := ((List.range 8192).map (fun i => (n i).bytes)).flatten ++ (List.range 8192).map (fun i => (n i).post)
    ++ (List.range 1024).map (fun j => k.mapByte c j)
    ++ ((List.range 8).map (fun i => leBytes 4 (Store.get (fun _ => (0 : W32)) k.learn (8 * c + i)).toNat)).flatten
    ++ leBytes 8 k.epoch ++ leBytes 8 k.step ++ leBytes 4 (2 ^ 31 + c)
  body ++ leBytes 4 (crc32 body)

abbrev ckptBytes : Nat := 0xE000000
abbrev slotBytes : Nat := 0x1C000

/-- DRAM offset of the slot of a cell in buffer b (R287). -/
def State.slotAt (s : State) (b c : Nat) : Nat :=
  bitsOf (s.reg64 Page.lrn Reg.LRN_CKPT_BASE) 35 20 * 2 ^ 20 + b * ckptBytes + c * slotBytes

/-- Mapped logical cells (R286). -/
def State.mappedCells (s : State) : List Nat :=
  if s.cells.mapped then (List.range 2048).filter (fun c => !(s.offline c)) else []

/-- The checkpoint that falls due at the close of epoch e begins, or is skipped (R286, R288). -/
def State.beginCheckpoint (s : State) (e : Nat) : State :=
  let every := max 1 (s.regFld Page.lrn Reg.LRN_CKPT_EVERY 7 0)
  if bit (s.reg Page.lrn Reg.LRN_CTRL) 2 = false ∨ (e + 1) % every ≠ 0 then s
  else if s.learn.ckpt.isSome then s.countInt Page.lrn Reg.LRN_CKPT_SKIP 4 1
  else
    let last := s.reg Page.lrn (Reg.LRN_CKPT_LAST + 4)
    let learn := s.mappedCells.foldl (fun l c =>
      ((List.range 7).zip learnRegs).foldl (fun l x =>
        Store.set (fun _ => (0 : W32)) l (8 * c + x.1) (s.reg (Page.cell c) x.2)) l) []
    let k : Checkpoint := { buf := if bit last 31 then 1 - fld last 24 24 else 0, epoch := e, step := s.step.relStep
                            neurons := s.cells.neurons, learn := learn }
    { s with learn := { s.learn with ckpt := some k } }

/-- CHECKPOINT_COMPLETE: every mapped cell has written its slot (R288). -/
def execCheckpointComplete (s : State) : Host.Outcome State Fault Refusal :=
  match s.learn.ckpt with
  | none => .next s
  | some k =>
    if s.clocked = false then .next s
    else
      let s := s.mappedCells.foldl (fun s c =>
        (s.chargeBytes 2086 (s.slotAt k.buf c) 107576).dramStore (s.slotAt k.buf c) (k.slot c)) s
      let s := (s.setReg64 Page.lrn Reg.LRN_CKPT_LAST (2 ^ 63 + k.buf * 2 ^ 56 + k.epoch % 2 ^ 48)).setInt Page.lrn 3
      .next { s with learn := { s.learn with ckpt := none } }

/-- CKPT_BASE_WRITE (R289). -/
def execCkptBaseWrite (req : Requester) (v : W64) (s : State) : Host.Outcome State Fault Refusal :=
  .next (s.ifAdmit req Page.lrn Reg.LRN_CKPT_BASE (fun s =>
    let b := bitsOf v.toNat 35 20 * 2 ^ 20
    let lo := s.reg64 (Page.die 0) Reg.DRM_SYN_BASE
    let hi := s.reg64 (Page.die 0) Reg.DRM_SYN_LIMIT
    if dramBytes s.grade < b + 2 * ckptBytes ∨ (lo < hi ∧ lo < b + 2 * ckptBytes ∧ b < hi) then s.setErr Page.lrn 1
    else s.setReg64 Page.lrn Reg.LRN_CKPT_BASE b))

/-! ## Rule parameter sets (R269) -/

/-- Bits of a word of a rule parameter set that are not reserved. -/
def ruleMask (w : Nat) : W32 := if w = 1 then 0xFFFFFEFF else if w = 3 then 0 else 0xFFFFFFFF

/-- RULESET_WRITE. -/
def execRulesetWrite (req : Requester) (off : Nat) (v : W32) (s : State) : Host.Outcome State Fault Refusal :=
  if off < Reg.LRN_RULESET ∨ Reg.LRN_RULESET + 0x100 ≤ off ∨ off % 4 ≠ 0 then .next s
  else
    let w := off / 4 % 4
    .next (s.ifAdmit req Page.lrn off (fun s =>
      if (w = 1 ∧ fld v 10 9 = 3) ∨ (w = 2 ∧ bit v 15) then s.setErr Page.lrn 0
      else if s.running = false then s.setReg Page.lrn off (v &&& ruleMask w)
      else ({ s with learn := { s.learn with posts := s.learn.posts ++ [(off, v &&& ruleMask w)] } }).posted req))

/-- The posted writes of rule parameter sets take effect. -/
def State.applyRules (s : State) : State :=
  let l := s.learn.posts
  let s := { s with learn := { s.learn with posts := [] } }
  l.foldl (fun s p => s.setReg Page.lrn p.1 p.2) s

/-! ## Epoch close (R266) and the stop on a complete sweep (R290) -/

/-- Every cell latches its modulator as the epoch with stamp k closes. -/
def State.latchModulators (s : State) (k : Nat) : State :=
  (List.range 2048).foldl (fun s c =>
    let pg := Page.cell c
    let s := s.setReg pg (Reg.CEL_MODL0 + 4 * (k % 4)) (s.reg pg Reg.CEL_MOD)
    if bit (s.reg pg Reg.CEL_MOD_CTRL) 0 then s else s.setReg pg Reg.CEL_MOD 0) s

/-- Epoch e closes. (DEDUCED, log 49) -/
def State.closeEpoch (s : State) : State :=
  let e := s.epoch
  let s := s.latchModulators e
  let s := (s.setReg64 Page.lrn Reg.LRN_EPOCH ((e + 1) % 2 ^ 48)).setReg Page.lrn Reg.LRN_EPOCH_POS 0
  let s := (s.setReg Page.lrn Reg.LRN_SWEEP_DONE 0).setInt Page.lrn 0
  let s := { s with learn := { s.learn with len := max 1 (s.regFld Page.lrn Reg.LRN_EPOCH_LEN 15 0) } }
  let s := (List.range 8).foldl (fun s r => s.beginPass r) s
  s.beginCheckpoint e

/-- The step timer stops at the first true summit at which every region's sweep is complete, where software asked for it. -/
def State.stopOnDone (s : State) : State :=
  if bit (s.reg Page.lrn Reg.LRN_CTRL) 1 && bit (s.reg Page.lrn Reg.LRN_SWEEP_DONE) 31 then
    ((s.stopTimer.orReg Page.lrn Reg.LRN_STAT (bitWord 2)).setInt Page.lrn 2).clrReg Page.lrn Reg.LRN_CTRL (bitWord 1)
  else s

/-- A true summit in the learning logic of the chip. -/
def State.learnSummit (s : State) : State :=
  let s := if s.learning = false then s
           else if s.wouldClose then s.closeEpoch
           else s.setReg Page.lrn Reg.LRN_EPOCH_POS (s.reg Page.lrn Reg.LRN_EPOCH_POS + 1)
  s.agePasses.stopOnDone

end Sys2Proof.Machine
end

