-- ==== Sys2Proof/Machine/Interrupts.lean ====
section
/-! DEFINITION. The interrupt controller, its wake latches and the Col mailboxes (R473–R499). -/
namespace Sys2Proof.Machine
open Sys2Proof

/-! ## Source configuration (R478, R479) -/

def srcPage (n : Nat) : Nat := 0xE8 + n / 512
def srcOff (n : Nat) : Nat := Reg.PIC_SRC + 4 * (n % 512)
def State.src (s : State) (n : Nat) : W32 := s.reg (srcPage n) (srcOff n)
def State.srcCtx (s : State) (n : Nat) : Nat := fld (s.src n) 28 24
def State.srcPrio (s : State) (n : Nat) : Nat := fld (s.src n) 23 20
def State.srcMod (s : State) (n : Nat) : Nat := fld (s.src n) 15 0

/-- A context that a source may be sent to (R479). -/
def contextPresent (g : Grade) (x : Nat) : Bool := decide (x < g.crests ∨ (16 ≤ x ∧ x ≤ 20))

/-- The source is claimed and not completed. -/
def State.claimed (s : State) (n : Nat) : Bool := s.pic.claims.any (fun c => c.2.1 == n)

/-- `PIC_SRC` as it reads (R477, R478). -/
def State.srcView (s : State) (n : Nat) : W32 :=
  if assigned s.grade n then
    (s.src n &&& 0x1FF0FFFF) ||| (if s.pendOf n then bitWord 31 else 0) ||| (if s.claimed n then bitWord 30 else 0)
      ||| (if edgeSource n then bitWord 29 else 0)
  else 0

/-- A write to `PIC_SRC` (R477–R479). -/
def State.srcWrite (s : State) (n : Nat) (v : W32) : State :=
  if assigned s.grade n = false then s
  else if contextPresent s.grade (fld v 28 24) then s.setReg (srcPage n) (srcOff n) (v &&& 0x1FF0FFFF)
  else s.setErr (srcPage n) 0

/-! ## Eligibility, claim and completion (R480–R487) -/

/-- The core that serves a context: RFG1 serves the host's (R487). -/
def coreOf (x : Nat) : Nat := if x = 20 then 17 else x

def State.picThreshold (s : State) (x : Nat) : Nat := s.regFld Page.picCtl (Reg.PIC_THRESHx + 16 * x) 3 0

/-- The running level of a context. -/
def State.runLevel (s : State) (x : Nat) : Nat :=
  match s.pic.claims.find? (fun c => c.1 == x) with
  | some c => c.2.2
  | none => 0

/-- The moderation interval of a source has run out, or is bypassed. -/
def State.modOpen (s : State) (n : Nat) : Bool :=
  s.srcMod n == 0 || numAt s.pic.lastClaim n == 0 || s.pic.bypass.contains n
  || s.pic.wfi.contains (coreOf (s.srcCtx n)) || decide (numAt s.pic.lastClaim n - 1 + 64 * s.srcMod n ≤ s.elapsed)

/-- A source is eligible at a context (R480). -/
def State.eligible (s : State) (x n : Nat) : Bool :=
  assigned s.grade n && s.pendOf n && !(s.claimed n) && s.srcCtx n == x && decide (s.picThreshold x < s.srcPrio n)
  && decide (s.runLevel x < s.srcPrio n) && s.modOpen n

/-- Sources that have a priority, rising: no other is ever delivered. -/
def State.ranked (s : State) : List Nat :=
  (s.regs.filter (fun e => decide (0xE8800 ≤ e.1 ∧ e.1 < 0xF0000) && decide (Reg.PIC_SRC ≤ e.1 % 4096)
    && decide (0 < fld e.2 23 20))).map (fun e => (e.1 / 4096 - 0xE8) * 512 + (e.1 % 4096 - Reg.PIC_SRC) / 4)

/-- The eligible source of highest PRIO at a context, the lowest ID among equals (R481). -/
def State.bestSource (s : State) (x : Nat) : Option Nat :=
  (s.ranked.filter (s.eligible x)).foldl (fun best n =>
    match best with
    | none => some n
    | some b => if s.srcPrio b < s.srcPrio n ∨ (s.srcPrio b = s.srcPrio n ∧ n < b) then some n else some b) none

/-- A context's request line (R480). -/
def State.requestLine (s : State) (x : Nat) : Bool := (s.bestSource x).isSome

/-- `CRS_STAT.STATE` of a Crest core that goes from one code to another (R467). -/
def State.crsMove (s : State) (core src dst : Nat) : State :=
  if core < s.grade.crests ∧ s.regFld (0x30 + core) Reg.CRS_STAT 31 28 = src then
    s.setFld (0x30 + core) Reg.CRS_STAT 31 28 dst
  else s

/-- The core of a context is in wait-for-interrupt no longer: what was pending for it stays eligible (R487). -/
def State.wakeCore (s : State) (core : Nat) : State :=
  if s.pic.wfi.contains core then
    let s := s.crsMove core 2 1
    let keep := s.ranked.filter (fun n => coreOf (s.srcCtx n) == core && s.pendOf n)
    { s with pic := { s.pic with wfi := setDel s.pic.wfi core, bypass := keep.foldl setIns s.pic.bypass } }
  else s

/-- Cores in wait-for-interrupt whose request line is asserted wake. -/
def State.wakeCores (s : State) : State :=
  s.pic.wfi.foldl (fun s x =>
    if s.requestLine x || (x == 17 && s.requestLine 20) then s.wakeCore x else s) s

/-- The latches that an edge of a source sets, and the wake causes of those that wake (R490, R606). -/
def State.latchHits (s : State) (n : Nat) : List Nat :=
  (List.range 64).filter (fun l =>
    let w := s.reg Page.picCtl (Reg.PIC_WAKE_SELn + 4 * l)
    bit w 31 && fld w 11 0 == n)

/-- A wake event of the source that bit i of `PWR_WAKE_EN` enables: it is recorded during entry and in the low-power
states (R605, R609). -/
def State.wakeEvent (s : State) (i : Nat) : State :=
  let x := s.pwrState
  if bit (s.reg Page.pwr Reg.PWR_WAKE_EN) i && (x == Pwr.entering || x == Pwr.nap || x == Pwr.sleep) then
    s.orReg Page.pwr Reg.PWR_WAKE_CAUSE (bitWord i)
  else s

/-- A latch's edge is a wake event where its WAKE bit is set and its source is one of R606. -/
def State.latchWake (s : State) (l : Nat) : State :=
  let w := s.reg Page.picCtl (Reg.PIC_WAKE_SELn + 4 * l)
  if bit w 30 ∧ 1 ≤ fld w 11 0 ∧ fld w 11 0 ≤ 9 then s.wakeEvent (fld w 11 0 - 1) else s

/-- A rising edge of a source: the controller takes it while its clock runs, an armed latch while it is stopped (R475,
R490, R605). -/
def State.edgeAt (s : State) (n : Nat) : State :=
  let hits := s.latchHits n
  if s.picClock then
    let s : State := { s with pic := { s.pic with pend := setIns s.pic.pend n } }
    let s := if s.pwrState = Pwr.entering then hits.foldl State.latchWake s else s
    s.wakeCores
  else hits.foldl (fun s l => ({ s with pic := { s.pic with latches := setIns s.pic.latches l } }).latchWake l) s

/-- The controller's clock runs again: every set latch sets PEND of its source and clears (R490). -/
def State.releaseLatches (s : State) : State :=
  let l := s.pic.latches
  let pend := l.foldl (fun p x => setIns p (fld (s.reg Page.picCtl (Reg.PIC_WAKE_SELn + 4 * x)) 11 0)) s.pic.pend
  { s with pic := { s.pic with pend := pend, latches := [] } }

/-- SOURCE_ASSERT: an EDGE source rises and sets PEND; the PEND of a LEVEL source follows its level, so that its assertion
only wakes the core that waits for it (R475, R487). Sources that software alone sets have no edge of their own (R476). -/
def execSourceAssert (src : Fin 4096) (s : State) : Host.Outcome State Fault Refusal :=
  if assigned s.grade src = false ∨ 3584 ≤ src.val then .next s
  else if edgeSource src then .next (s.edgeAt src)
  else .next (if s.picClock then s.wakeCores else s)

/-- MODERATION_EXPIRY: from this moment the source is eligible; eligibility is judged on the time, so only a core that
waits for it changes (R486). -/
def execModerationExpiry (src : Fin 4096) (s : State) : Host.Outcome State Fault Refusal :=
  if s.picClock && s.eligible (s.srcCtx src) src then .next s.wakeCores else .next s

/-- WFI_ENTRY: the core of a context waits for an interrupt; what is pending for it becomes eligible at once (R487). -/
def execWfiEntry (ctx : Fin 21) (s : State) : Host.Outcome State Fault Refusal :=
  if s.picClock && contextPresent s.grade ctx then
    let s := s.crsMove (coreOf ctx) 1 2
    .next ({ s with pic := { s.pic with wfi := setIns s.pic.wfi (coreOf ctx) } }).wakeCores
  else .next s

/-- Claims and completions act only for the core of the context; for RFG1, only in M-mode (R485). -/
def actsFor (r : Requester) (x : Nat) : Bool :=
  match r.who with
  | .crs c => x == c.val
  | .rfg k => (x == 16 + k.val || (x == 20 && k.val == 1)) && (k.val != 1 || r.mmode)
  | _ => false

/-- Claim the best source of a context (R481, R486). -/
def State.claimBest (s : State) (x : Nat) : Option Nat × State :=
  match s.bestSource x with
  | none => (none, s)
  | some n =>
    (some n, { s with pic := { s.pic with
      claims := (x, n, s.srcPrio n) :: s.pic.claims
      pend := setDel s.pic.pend n, soft := setDel s.pic.soft n, bypass := setDel s.pic.bypass n
      lastClaim := setNum s.pic.lastClaim n (s.elapsed + 1) } })

/-- End the open claims of a context that a test names (R482). -/
def State.endClaims (s : State) (x : Nat) (f : Nat → Bool) : State :=
  ({ s with pic := { s.pic with claims := s.pic.claims.filter (fun c => !(c.1 == x && f c.2.1)) } }).wakeCores

/-- PIC_CLAIM: a read of `PIC_CLAIMx` (R481, R484, R485). -/
def execPicClaim (req : Requester) (ctx : Fin 21) (s : State) : Host.Outcome State Fault Refusal :=
  let off := Reg.PIC_CLAIMx + 16 * ctx.val
  if s.mayRead req Page.picCtl off = false then .next (s.denyRead req Page.picCtl off)
  else if actsFor req ctx = false then .next ((s.setErr Page.picCtl 2).answer 0 false)
  else
    let a := (s.wakeCore (coreOf ctx)).claimBest ctx
    .next (a.2.answer (a.1.getD 0) false)

/-- PIC_COMPLETE: a write to `PIC_COMPLETEx` (R482, R485). -/
def execPicComplete (req : Requester) (ctx : Fin 21) (v : W32) (s : State) : Host.Outcome State Fault Refusal :=
  .next (s.ifAdmit req Page.picCtl (Reg.PIC_COMPLETEx + 16 * ctx.val) (fun s =>
    if actsFor req ctx = false then s.setErr Page.picCtl 2
    else match s.pic.claims.find? (fun c => c.1 == ctx.val) with
      | none => s.setErr Page.picCtl 1
      | some c =>
        if c.2.1 = fld v 11 0 then
          ({ s with pic := { s.pic with claims := eraseFirst c s.pic.claims } }).wakeCores
        else s.setErr Page.picCtl 1))

/-- Assigned sources that the bits of a word of the pending page name. -/
def State.pendBits (s : State) (word : Nat) (v : W32) : List Nat :=
  ((List.range 32).filter (fun i => bit v i && assigned s.grade (32 * word + i))).map (fun i => 32 * word + i)

/-- PIC_PEND_SET (R488). -/
def execPicPendSet (req : Requester) (word : Fin 128) (v : W32) (s : State) : Host.Outcome State Fault Refusal :=
  .next (s.ifAdmit req Page.picPend (Reg.PIC_PEND_SET + 4 * word.val) (fun s =>
    ((s.pendBits word v).foldl (fun s n =>
      if edgeSource n then { s with pic := { s.pic with pend := setIns s.pic.pend n } }
      else { s with pic := { s.pic with soft := setIns s.pic.soft n } }) s).wakeCores))

/-- PIC_PEND_CLR (R488). -/
def execPicPendClr (req : Requester) (word : Fin 128) (v : W32) (s : State) : Host.Outcome State Fault Refusal :=
  .next (s.ifAdmit req Page.picPend (Reg.PIC_PEND_CLR + 4 * word.val) (fun s =>
    (s.pendBits word v).foldl (fun s n =>
      { s with pic := { s.pic with pend := setDel s.pic.pend n, soft := setDel s.pic.soft n } }) s))

/-! ## Wake latches (R489, R490) -/

/-- A write to `PIC_WAKE_SELn`. -/
def State.wakeSelWrite (s : State) (l : Nat) (v : W32) : State :=
  if bit v 31 ∧ (edgeSource (fld v 11 0) = false ∨ assigned s.grade (fld v 11 0) = false) then s.setErr Page.picCtl 0
  else s.setReg Page.picCtl (Reg.PIC_WAKE_SELn + 4 * l) (v &&& 0xC0000FFF)

/-- WAKE_LATCH_EDGE: a rising edge at the source of a latch. While the clock runs it bypasses the latch. -/
def execWakeLatchEdge (latch : Fin 64) (s : State) : Host.Outcome State Fault Refusal :=
  let w := s.reg Page.picCtl (Reg.PIC_WAKE_SELn + 4 * latch.val)
  if bit w 31 then .next (s.edgeAt (fld w 11 0)) else .next s

/-! ## Col mailboxes (R491–R497) -/

/-- Offset of a register of a channel. -/
def colOff (c o : Nat) : Nat := colBase c + o

/-- The receiver is a core whose power domain is down (R496). -/
def State.coreDown (s : State) (rcv : Nat) : Bool :=
  decide (rcv < s.grade.crests) && (s.power.gated || s.regFld (0x30 + rcv) Reg.CRS_STAT 31 28 == 5)

/-- COL_SEND (R493, R496). -/
def execColSend (req : Requester) (chan : Fin 64) (v : W32) (s : State) : Host.Outcome State Fault Refusal :=
  let p := colPage chan
  .next (s.ifAdmit req p (colOff chan 0x44) (fun s =>
    if s.colFull chan then s.setErr p 0
    else if bit v 0 = false then s
    else
      let len := fld (s.col chan 0x40) 4 0
      if len = 0 ∨ 16 < len then s.setErr p 1
      else
        let woke := s.coreDown (fld (s.col chan 0x4C) 4 0)
        let s := s.setReg p (colOff chan 0x48) (bitWord 31 ||| (if woke then bitWord 30 else 0))
        (if woke then s.wakeEvent 9 else s).wakeCores))

/-- COL_LAST_WORD_READ: a read of word `COL_LEN` − 1 (R494). -/
def execColLastWordRead (req : Requester) (chan : Fin 64) (s : State) : Host.Outcome State Fault Refusal :=
  let p := colPage chan
  let len := fld (s.col chan 0x40) 4 0
  let off := 4 * (len - 1)
  if len = 0 ∨ 16 < len then .next s
  else if s.mayRead req p (colOff chan off) = false then .next (s.denyRead req p (colOff chan off))
  else .next ((s.clrReg p (colOff chan 0x48) (bitWord 31)).answer (s.col chan off).toNat false)

end Sys2Proof.Machine
end

