-- ==== Sys2Proof/Machine/Timers.lean ====
section
/-! DEFINITION. The general timers and the check-value units (R500–R524). A cycle of the timebase moves the counts; a load
point or a match that it reaches comes due, and the timer holds there until its event takes place. -/
namespace Sys2Proof.Machine
open Sys2Proof

/-- Page and offset of a register of timer t, by its offset in timer 0 (R500). -/
def tmrPage (t : Nat) : Nat := 0x74 + t / 8
def tmrOff (t off : Nat) : Nat := off + 0x100 * (t % 8)
/-- Offset of a register of channel k. -/
def chanOff (t k off : Nat) : Nat := tmrOff t off + 0x20 * k

def State.tmrReg (s : State) (t off : Nat) : W32 := s.reg (tmrPage t) (tmrOff t off)
def State.tmrNum (s : State) (t off : Nat) : Nat := s.reg64 (tmrPage t) (tmrOff t off) % 2 ^ 48
def State.setTmrNum (s : State) (t off n : Nat) : State := s.setReg64 (tmrPage t) (tmrOff t off) (n % 2 ^ 48)
def State.tmrRun (s : State) (t : Nat) : Bool := bit (s.tmrReg t Reg.TMR_CTRL) 31
def State.tmrCenter (s : State) (t : Nat) : Bool := bit (s.tmrReg t Reg.TMR_CTRL) 30
def State.tmrDown (s : State) (t : Nat) : Bool := bit (s.tmrReg t Reg.TMR_CTRL) 29
def State.setTmrBit (s : State) (t b : Nat) (on : Bool) : State :=
  if on then s.orReg (tmrPage t) (tmrOff t Reg.TMR_CTRL) (bitWord b) else s.clrReg (tmrPage t) (tmrOff t Reg.TMR_CTRL) (bitWord b)
def State.setTmr (s : State) (x : TmrState) : State := { s with tmr := x }
/-- Register of channel k of timer t. -/
def State.chan (s : State) (t k off : Nat) : W32 := s.reg (tmrPage t) (chanOff t k off)
def State.chanNum (s : State) (t k off : Nat) : Nat := s.reg64 (tmrPage t) (chanOff t k off) % 2 ^ 48

/-! ## Flags and link actions (R511, R524) -/

/-- `PG_INT` of a timer follows its enabled flags (R524). -/
def State.followFlag (s : State) (t : Nat) : State :=
  if fld (s.tmrReg t Reg.TMR_FLAG &&& s.tmrReg t Reg.TMR_FLAG_EN) 4 0 = 0 then s else s.setInt (tmrPage t) (t % 8)

/-- An event of a timer sets its flag and leaves its link action for the next cycle (R511, R512). -/
def State.tmrEvent (s : State) (t e : Nat) : State :=
  let s := (s.orReg (tmrPage t) (tmrOff t Reg.TMR_FLAG) (bitWord e)).followFlag t
  let a := s.tmrReg t Reg.TMR_ACT
  let act := fld a (4 * e + 3) (4 * e + 2)
  if act = 0 then s
  else s.setTmr { s.tmr with acts := s.tmr.acts ++ [(if bit a (4 * e + 1) then fld a 31 27 else t, act)] }

/-! ## Capture (R514–R516) -/

/-- A capture of channel k of timer t (R515, R516). -/
def State.capture (s : State) (t k : Nat) : State :=
  let pg := tmrPage t
  let st := tmrOff t Reg.TMR_CAPSTAT
  let v := if bit (s.chan t k Reg.TMR_CCFGk) 9 then s.elapsed else s.tmrNum t Reg.TMR_COUNT
  let s := if bit (s.reg pg st) k = false then
      (s.setReg64 pg (chanOff t k Reg.TMR_CAPk) v).orReg pg st (bitWord k)
    else
      let s := if bit (s.reg pg st) (4 + k) then s.count pg (tmrOff t Reg.TMR_CAP_LOST) 1 else s
      (s.setTmr { s.tmr with second := setNum s.tmr.second (4 * t + k) v }).orReg pg st (bitWord (4 + k))
  s.tmrEvent t k

/-- An edge that a channel takes: every (EPRE + 1)th is a capture (R515). -/
def State.chanEdge (s : State) (t k : Nat) : State :=
  let n := numAt s.tmr.edges (4 * t + k)
  if n = fld (s.chan t k Reg.TMR_CCFGk) 17 10 then
    (s.setTmr { s.tmr with edges := setNum s.tmr.edges (4 * t + k) 0 }).capture t k
  else s.setTmr { s.tmr with edges := setNum s.tmr.edges (4 * t + k) (n + 1) }

/-- Every channel in CAPTURE that watches a source and takes this kind of edge (R514, R515). -/
def State.tmrEdge (s : State) (src : Nat) (kind : Nat → Bool) : State :=
  (List.range 128).foldl (fun s i =>
    let c := s.chan (i / 4) (i % 4) Reg.TMR_CCFGk
    if fld c 31 30 = 2 ∧ fld c 5 0 = src ∧ kind (fld c 27 26) then s.chanEdge (i / 4) (i % 4) else s) s

/-- An internal source gives one edge of whatever kind (R514): 16 the tick, 17 the summit, 18 an accepted SYSREF edge,
32 + t the WRAP of timer t. -/
def State.tmrSource (s : State) (src : Nat) : State := s.tmrEdge src (fun _ => true)

/-- CAPTURE_EDGE: the filtered level of a pin changes. -/
def execCaptureEdge (pin : Fin 16) (rising : Bool) (s : State) : Host.Outcome State Fault Refusal :=
  if s.clocked && bit (s.reg 0x78 Reg.TMR_IN_LEVEL) pin != rising then
    let s := s.setFld 0x78 Reg.TMR_IN_LEVEL pin pin (if rising then 1 else 0)
    .next (s.tmrEdge pin (fun e => e == 2 || (if rising then e != 1 else e == 1)))
  else .next s

/-- CAPTURE_READ: the read of the low word (R501, R516). -/
def execCaptureRead (req : Requester) (timer : Fin 32) (channel : Fin 4) (s : State) : Host.Outcome State Fault Refusal :=
  let pg := tmrPage timer
  let off := chanOff timer channel Reg.TMR_CAPk
  if s.mayRead req pg off = false then .next (s.denyRead req pg off)
  else
    let st := tmrOff timer Reg.TMR_CAPSTAT
    let v := s.reg pg off
    let s := (s.latchHigh req (pg * 4096 + off) (s.reg pg (off + 4))).answer v.toNat false
    let k := channel.val
    if bit (s.reg pg st) (4 + k) then
      .next ((s.setReg64 pg off (numAt s.tmr.second (4 * timer + k))).clrReg pg st (bitWord (4 + k)))
    else .next (s.clrReg pg st (bitWord k))

/-! ## Counting (R502–R506) -/

/-- The period in force. -/
def State.tmrPeriod (s : State) (t : Nat) : Nat := max 1 (s.tmrNum t Reg.TMR_PERIOD_ACT)

/-- Channels whose compare value the count has reached (R507). -/
def State.tmrMatches (s : State) (t : Nat) : List Nat :=
  (List.range 4).filter (fun k =>
    let v := s.chanNum t k Reg.TMR_CMPk
    fld (s.chan t k Reg.TMR_CCFGk) 31 30 == 1 && decide (v ≠ 0 ∧ v ≤ s.tmrPeriod t ∧ v = s.tmrNum t Reg.TMR_COUNT))

/-- The matches of the count's new value come due. -/
def State.noteMatches (s : State) (t : Nat) : State :=
  s.setTmr { s.tmr with due := s.tmr.due ++ (s.tmrMatches t).map (fun k => 8 * t + k) }

/-- The period is loaded (R502, R503, R505); the count becomes the period, or 0 moving up. -/
def State.tmrLoad (s : State) (t : Nat) : State :=
  let p := max 1 (s.tmrNum t Reg.TMR_PERIOD)
  let s := (s.setTmrNum t Reg.TMR_PERIOD_ACT p).setTmrNum t Reg.TMR_COUNT (if s.tmrCenter t then 0 else p)
  let s := s.setTmrBit t 29 false
  s.setTmr { s.tmr with used := setIns s.tmr.used t }

/-- One prescaled tick of a timer: the count moves, or the load point comes due (R502, R503). -/
def State.tmrTick (s : State) (t : Nat) : State :=
  let n := s.tmrNum t Reg.TMR_COUNT
  let s := s.setTmr { s.tmr with used := setIns s.tmr.used t }
  let wrap : State := s.setTmr { s.tmr with due := s.tmr.due ++ [8 * t + 4] }
  if s.tmrCenter t = false then
    (if n ≤ 1 then wrap else (s.setTmrNum t Reg.TMR_COUNT (n - 1)).noteMatches t)
  else if s.tmrDown t = false ∧ n < s.tmrPeriod t then (s.setTmrNum t Reg.TMR_COUNT (n + 1)).noteMatches t
  else if n ≤ 1 then wrap
  else ((s.setTmrBit t 29 true).setTmrNum t Reg.TMR_COUNT (n - 1)).noteMatches t

/-- Start a timer: the prescaler restarts (R506). -/
def State.tmrStart (s : State) (t : Nat) : State :=
  if s.tmrRun t then s
  else (s.setTmrBit t 31 true).setTmr { s.tmr with presc := setNum s.tmr.presc t 0 }

/-- Link actions of the last cycle: RESET, and STOP rather than START (R511, R512). -/
def State.tmrActions (s : State) : State :=
  let l := s.tmr.acts
  let s := s.setTmr { s.tmr with acts := [] }
  (l.map (·.1)).eraseDups.foldl (fun s t =>
    let s := if l.contains (t, 1) then s.tmrLoad t else s
    if l.contains (t, 3) then s.setTmrBit t 31 false else if l.contains (t, 2) then s.tmrStart t else s) s

/-- Timers that run. -/
def State.runningTimers (s : State) : List Nat := (List.range 32).filter s.tmrRun

/-- One cycle of the timebase. (DEDUCED, log 75) -/
def State.tmrCycle (s : State) : State :=
  let s := if s.tmr.acts.isEmpty then s else s.tmrActions
  s.runningTimers.foldl (fun s t =>
    if s.tmr.due.any (fun d => d / 8 == t) then s
    else
      let n := numAt s.tmr.presc t
      if fld (s.tmrReg t Reg.TMR_CTRL) 23 16 ≤ n then
        (s.setTmr { s.tmr with presc := setNum s.tmr.presc t 0 }).tmrTick t
      else s.setTmr { s.tmr with presc := setNum s.tmr.presc t (n + 1) }) s

/-- TIMER_WRAP: the load point (R502, R503). -/
def execTimerWrap (timer : Fin 32) (s : State) : Host.Outcome State Fault Refusal :=
  if s.clocked && s.tmr.due.contains (8 * timer + 4) then
    let s := s.setTmr { s.tmr with due := s.tmr.due.filter (· != 8 * timer.val + 4) }
    .next ((((s.tmrLoad timer).noteMatches timer).tmrEvent timer 4).tmrSource (32 + timer))
  else .next s

/-- Output state of a channel after an action: 1 SET, 2 CLEAR, 3 TOGGLE (R510). -/
def outAfter (act : Nat) (old : Bool) : Bool := if act = 1 then true else if act = 2 then false else if act = 3 then !old else old

/-- COMPARE_MATCH: the channel acts on the match that has come due (R508–R510). -/
def execCompareMatch (timer : Fin 32) (channel : Fin 4) (s : State) : Host.Outcome State Fault Refusal :=
  let id := 8 * timer.val + channel.val
  if s.clocked && s.tmr.due.contains id then
    let c := 4 * timer.val + channel.val
    let s := s.setTmr { s.tmr with due := s.tmr.due.filter (· != id) }
    let act := fld (s.chan timer channel Reg.TMR_CCFGk) 29 28
    let act := if s.tmrCenter timer ∧ s.tmrDown timer then (if act = 1 then 2 else if act = 2 then 1 else act) else act
    let on := outAfter act (s.tmr.outs.contains c)
    let s := s.setTmr { s.tmr with outs := if on then setIns s.tmr.outs c else setDel s.tmr.outs c }
    let add := s.chanNum timer channel Reg.TMR_ADDk
    let cmp := s.chanNum timer channel Reg.TMR_CMPk
    let p := s.tmrPeriod timer
    let s := if s.tmrCenter timer = false ∧ add ≠ 0 ∧ cmp = s.tmrNum timer Reg.TMR_COUNT then
        s.setReg64 (tmrPage timer) (chanOff timer channel Reg.TMR_CMPk) ((((cmp : Int) - 1 - add) % p).toNat + 1)
      else s
    .next (s.tmrEvent timer channel)
  else .next s

/-- Level of pin `TRIG_OUTp` (R510, R522). -/
def State.trigOut (s : State) (p : Nat) : Bool :=
  let v := s.reg 0x78 (Reg.TMR_OUT_SELp + 4 * p)
  bit v 31 && (s.tmr.outs.contains (fld v 6 0) != bit v 30)

/-! ## Control (R504–R506, R513) -/

/-- A write to `TMR_CTRL` (R505, R506). -/
def State.tmrCtrlWrite (s : State) (t : Nat) (v : W32) : State :=
  let old := s.tmrReg t Reg.TMR_CTRL
  let differs := bit v 30 != bit old 30 || fld v 23 16 != fld old 23 16
  let pg := tmrPage t
  let off := tmrOff t Reg.TMR_CTRL
  let s := if differs && bit old 31 then s.setErr pg 0
    else
      let keep : W32 := if bit v 30 == bit old 30 then 0xA0000000 else 0x80000000
      let s := s.setReg pg off ((old &&& keep) ||| (v &&& 0x40FF0000))
      if bit v 30 != bit old 30 && !(s.tmr.used.contains t) then
        s.setTmrNum t Reg.TMR_COUNT (if bit v 30 then 0 else s.tmrNum t Reg.TMR_PERIOD_ACT)
      else s
  let s := if bit v 28 then s.tmrLoad t else s
  if bit v 31 then s.tmrStart t else s.setTmrBit t 31 false

/-- TIMER_START. -/
def execTimerStart (req : Requester) (timer : Fin 32) (s : State) : Host.Outcome State Fault Refusal :=
  .next (s.ifAdmit req (tmrPage timer) (tmrOff timer Reg.TMR_CTRL) (fun s => s.tmrStart timer))

/-- TIMER_STOP. -/
def execTimerStop (req : Requester) (timer : Fin 32) (s : State) : Host.Outcome State Fault Refusal :=
  .next (s.ifAdmit req (tmrPage timer) (tmrOff timer Reg.TMR_CTRL) (fun s => s.setTmrBit timer 31 false))

/-- LOAD_NOW. -/
def execLoadNow (req : Requester) (timer : Fin 32) (s : State) : Host.Outcome State Fault Refusal :=
  .next (s.ifAdmitWord req (tmrPage timer) (tmrOff timer Reg.TMR_CTRL) 0x10000000 (fun s _ => s.tmrLoad timer))

/-- TMR_PERIOD_WRITE: the 64-bit write. -/
def execTmrPeriodWrite (req : Requester) (timer : Fin 32) (v : W64) (s : State) : Host.Outcome State Fault Refusal :=
  .next (s.ifAdmit req (tmrPage timer) (tmrOff timer Reg.TMR_PERIOD) (fun s => s.setTmrNum timer Reg.TMR_PERIOD v.toNat))

/-- Start every timer whose bit is 1. -/
def State.gstart (s : State) (v : W32) : State :=
  (List.range 32).foldl (fun s t => if bit v t then s.tmrStart t else s) s

/-- TMR_GSTART. -/
def execTmrGstart (req : Requester) (v : W32) (s : State) : Host.Outcome State Fault Refusal :=
  .next (s.ifAdmit req 0x78 Reg.TMR_GSTART (fun s => s.gstart v))

/-- Writes of a timer page that have a rule of their own (R506, R515, R524). -/
def State.tmrWrite (s : State) (page off : Nat) (v : W32) : Option State :=
  let t := 8 * (page - 0x74) + (off - 0x100) / 0x100
  let o := 0x100 + off % 0x100
  if off < 0x100 ∨ 0x900 ≤ off then none
  else if o = Reg.TMR_CTRL then some (s.tmrCtrlWrite t v)
  else if o = Reg.TMR_FLAG_EN then some ((s.setReg page off (v &&& 0x1F)).followFlag t)
  else if 0x140 ≤ o ∧ o % 0x20 = 0 ∧ o < 0x1C0 then
    some ((s.setReg page off (v &&& 0xFFFFFE3F)).setTmr { s.tmr with edges := setNum s.tmr.edges (4 * t + (o - 0x140) / 0x20) 0 })
  else none

/-! ## Check-value units (R517–R519) -/

/-- Offset of a register of unit u (R500). -/
def crcOff (u off : Nat) : Nat := off + 0x80 * u
def State.crcReg (s : State) (u off : Nat) : W32 := s.reg 0x79 (crcOff u off)
def State.crcWidth (s : State) (u : Nat) : Nat := fld (s.crcReg u Reg.CRC_CFG) 6 0
/-- A 64-bit register of a unit in the width of its polynomial. -/
def State.crcNum (s : State) (u off : Nat) : Nat := s.reg64 0x79 (crcOff u off) % 2 ^ s.crcWidth u
def State.setCrcState (s : State) (u n : Nat) : State := s.setReg64 0x79 (crcOff u Reg.CRC_STATE) (n % 2 ^ s.crcWidth u)

/-- The low n bits of x in reverse order. -/
def reflect (n x : Nat) : Nat := (List.range n).foldl (fun r i => 2 * r + (if Nat.testBit x i then 1 else 0)) 0

/-- One byte fed to a register of W bits (R517). -/
def crcFeedByte (w poly : Nat) (refin : Bool) (reg b : Nat) : Nat :=
  let b := if refin then reflect 8 b else b
  (List.range 8).foldl (fun r j =>
    let top := Nat.testBit r (w - 1) != Nat.testBit b (7 - j)
    let r := (2 * r) % 2 ^ w
    if top then r ^^^ poly else r) reg

/-- Feed bytes (R518). -/
def State.crcFeed (s : State) (u : Nat) (l : List Byte) : State :=
  let refin := bit (s.crcReg u Reg.CRC_CFG) 8
  let r := l.foldl (fun r b => crcFeedByte (s.crcWidth u) (s.crcNum u Reg.CRC_POLY) refin r b.toNat) (s.crcNum u Reg.CRC_STATE)
  (s.setCrcState u r).count 0x79 (crcOff u Reg.CRC_BYTES) l.length

/-- `CRC_RESULT` (R517). -/
def State.crcResult (s : State) (u : Nat) : Nat :=
  let r := s.crcNum u Reg.CRC_STATE
  (if bit (s.crcReg u Reg.CRC_CFG) 9 then reflect (s.crcWidth u) r else r) ^^^ s.crcNum u Reg.CRC_XOROUT

def State.crcInit (s : State) (u : Nat) : State := s.setCrcState u (s.crcNum u Reg.CRC_INIT)

/-- CRC_INIT: the write of `CRC_CTRL.INIT`. -/
def execCrcInit (req : Requester) (crcUnit : Fin 8) (s : State) : Host.Outcome State Fault Refusal :=
  .next (s.ifAdmit req 0x79 (crcOff crcUnit Reg.CRC_CTRL) (fun s => s.crcInit crcUnit))

/-- CRC_DATA8. -/
def execCrcData8 (req : Requester) (crcUnit : Fin 8) (v : W32) (s : State) : Host.Outcome State Fault Refusal :=
  .next (s.ifAdmit req 0x79 (crcOff crcUnit Reg.CRC_DATA8) (fun s => s.crcFeed crcUnit (leBytes 1 v.toNat)))

/-- CRC_DATA16. -/
def execCrcData16 (req : Requester) (crcUnit : Fin 8) (v : W32) (s : State) : Host.Outcome State Fault Refusal :=
  .next (s.ifAdmit req 0x79 (crcOff crcUnit Reg.CRC_DATA16) (fun s => s.crcFeed crcUnit (leBytes 2 v.toNat)))

/-- CRC_DATA32. -/
def execCrcData32 (req : Requester) (crcUnit : Fin 8) (v : W32) (s : State) : Host.Outcome State Fault Refusal :=
  .next (s.ifAdmit req 0x79 (crcOff crcUnit Reg.CRC_DATA32) (fun s => s.crcFeed crcUnit (leBytes 4 v.toNat)))

/-- Writes of the CRC page that have a rule of their own (R517–R519). -/
def State.crcWrite (s : State) (off : Nat) (v : W32) : Option State :=
  let u := (off - 0x100) / 0x80
  let o := 0x100 + (off - 0x100) % 0x80
  if off < 0x100 ∨ 0x500 ≤ off then none
  else if o = Reg.CRC_CFG then
    (if fld v 6 0 = 0 ∨ 64 < fld v 6 0 then some (s.setErr 0x79 0)
     else
       let s := s.setReg 0x79 off (v &&& 0x37F)
       some (s.setCrcState u (s.crcNum u Reg.CRC_STATE)))
  else if o = Reg.CRC_CTRL then some (if bit v 0 then s.crcInit u else s)
  else if o = Reg.CRC_DATA8 then some (s.crcFeed u (leBytes 1 v.toNat))
  else if o = Reg.CRC_DATA16 then some (s.crcFeed u (leBytes 2 v.toNat))
  else if o = Reg.CRC_DATA32 then some (s.crcFeed u (leBytes 4 v.toNat))
  else none

end Sys2Proof.Machine
end

