-- ==== Sys2Proof/Machine/Plateau.lean ====
section
/-! DEFINITION. The Plateau arrays (R296–R324): job descriptors, operands, the operations, the step program, the detached
ring, completion records and side accesses. -/
namespace Sys2Proof.Machine
open Sys2Proof

/-- Map a list while the state goes along. -/
def mapState (f : State → α → β × State) (s : State) : List α → List β × State
  | [] => ([], s)
  | x :: l =>
    let a := f s x
    let b := mapState f a.2 l
    (a.1 :: b.1, b.2)

def State.plt (s : State) (k : Nat) : PltState := (Store.find s.plts k).getD {}
def State.setPlt (s : State) (k : Nat) (x : PltState) : State := { s with plts := Store.put s.plts k x }

/-! ## The descriptor (R306) -/

def PltJob.w (j : PltJob) (i : Nat) : W32 := j.words.getD i 0
def PltJob.op (j : PltJob) : Nat := fld (j.w 0) 31 26
def PltJob.bind (j : PltJob) : Bool := bit (j.w 0) 25
def PltJob.irq (j : PltJob) : Bool := bit (j.w 0) 24
def PltJob.sr (j : PltJob) : Bool := bit (j.w 0) 23
def PltJob.fp32Acc (j : PltJob) : Bool := bit (j.w 0) 22
def PltJob.fmtA (j : PltJob) : Nat := fld (j.w 0) 19 16
def PltJob.fmtB (j : PltJob) : Nat := fld (j.w 0) 15 12
def PltJob.fmtO (j : PltJob) : Nat := fld (j.w 0) 11 8
def PltJob.tag (j : PltJob) : Nat := fld (j.w 0) 7 0
def PltJob.m (j : PltJob) : Nat := fld (j.w 1) 31 16
def PltJob.n (j : PltJob) : Nat := fld (j.w 1) 15 0
def PltJob.k (j : PltJob) : Nat := fld (j.w 2) 31 16
def PltJob.sub (j : PltJob) : Nat := fld (j.w 2) 15 8
def PltJob.waitRgn (j : PltJob) : Nat := fld (j.w 2) 7 0
def PltJob.aux0 (j : PltJob) : W32 := j.w 3
def PltJob.aux1 (j : PltJob) : W32 := j.w 4
/-- Scale words of A, B and O: MULT and EXP of x = 0, 1, 2. -/
def PltJob.mult (j : PltJob) (x : Nat) : Int := toSigned 16 (fld (j.w (5 + x)) 31 16)
def PltJob.exp (j : PltJob) (x : Nat) : Int := toSigned 6 (fld (j.w (5 + x)) 15 10)
/-- Address of A, B and O. -/
def PltJob.addr (j : PltJob) (x : Nat) : Nat := (j.w (8 + 2 * x)).toNat + 2 ^ 32 * fld (j.w (9 + 2 * x)) 19 0
def PltJob.winM1 (j : PltJob) : Nat := fld (j.w 14) 31 22
def PltJob.stride (j : PltJob) : Nat := fld (j.w 14) 21 0
def PltJob.off (j : PltJob) : Nat := fld (j.w 15) 15 0

/-- Address of O with its time window slot (R315). -/
def PltJob.addrO (j : PltJob) : Nat :=
  if j.ring = false ∧ 0 < j.winM1 then j.addr 2 + j.step % (j.winM1 + 1) * j.stride * 64 else j.addr 2

/-- CONV1D parameters (R309). -/
def PltJob.kw (j : PltJob) : Nat := fld j.aux1 31 24
def PltJob.convStride (j : PltJob) : Nat := fld j.aux1 23 16
def PltJob.dilation (j : PltJob) : Nat := fld j.aux1 15 8
/-- Elements of one input channel. -/
def PltJob.lIn (j : PltJob) : Nat := (j.n - 1) * j.convStride + (j.kw - 1) * j.dilation + 1

/-! ## Formats and shapes (R84, R305, R309) -/

def pltOpcode (op : Nat) : Bool := op ≤ 0x09 || op == 0x10 || op == 0x11 || op == 0x18 || op == 0x19

def anyFmt (f : Nat) : Bool := decide (1 ≤ f ∧ f ≤ 10)
def intFmt (f : Nat) : Bool := decide (1 ≤ f ∧ f ≤ 4)
def gemmFmt (f : Nat) : Bool := f == 1 || f == 2 || decide (5 ≤ f ∧ f ≤ 8)

/-- The formats are ones that the operation admits; fields that it does not use are ignored. -/
def PltJob.formatOk (j : PltJob) : Bool :=
  let a := j.fmtA
  let b := j.fmtB
  let o := j.fmtO
  if j.op = 0x01 ∨ j.op = 0x02 ∨ j.op = 0x03 then
    gemmFmt a && gemmFmt b && decide (2 ≤ o ∧ o ≤ 9) && (j.fp32Acc || (decide (a ≤ 2) && decide (b ≤ 2)))
  else if j.op = 0x04 then (a == 7 || a == 8) && decide (7 ≤ o ∧ o ≤ 9)
  else if j.op = 0x05 then anyFmt a && anyFmt o && (decide (5 ≤ j.sub) || anyFmt b)
  else if j.op = 0x09 then anyFmt a && decide (7 ≤ o ∧ o ≤ 9)
  else if j.op = 0x10 then
    (if j.sub = 2 then o == 4 else anyFmt o || (j.sub == 1 && o == 0))
  else if j.op = 0x11 then anyFmt a && (j.sub == 0 || o == 9)
  else if j.op = 0x19 then anyFmt a && anyFmt o && (!(Nat.testBit j.sub 3) || anyFmt b)
  else if j.op = 0x00 then true
  else anyFmt a && anyFmt o

/-- Dimensions and SUB obey the operation's rule. -/
def PltJob.shapeOk (j : PltJob) : Bool :=
  let mn := j.m != 0 && j.n != 0
  if j.op = 0x01 ∨ j.op = 0x02 then mn && j.k != 0
  else if j.op = 0x03 then mn && j.k != 0 && j.kw != 0 && j.convStride != 0 && j.dilation != 0
  else if j.op = 0x04 then mn && decide (8 ≤ j.n ∧ j.n ≤ 32768) && 2 ^ Nat.log2 j.n == j.n
  else if j.op = 0x05 then mn && decide (j.sub < 8)
  else if j.op = 0x10 then j.n != 0 && j.k != 0 && decide (j.sub < 3)
  else if j.op = 0x11 then mn && decide (j.sub < 3)
  else if j.op = 0x19 then mn && decide (j.sub % 4 < 3)
  else if j.op = 0x00 then true
  else mn

/-! ## Operands (R307, R308, R314) -/

/-- Address, elements and element width of an operand. -/
structure PltOperand where
  addr : Nat
  count : Nat
  width : Nat
deriving DecidableEq, Repr

def PltOperand.bytes (x : PltOperand) : Nat := (x.count * x.width + 7) / 8

/-- Operands read as A and as B, the operand written as O, and whether O is read as well. -/
structure PltOperands where
  a : Option PltOperand := none
  b : Option PltOperand := none
  o : Option PltOperand := none
  readO : Bool := false
deriving DecidableEq, Repr

/-- The operands of an operation (R309, R316, R317). -/
def PltJob.operands (j : PltJob) : PltOperands :=
  let wa := fmtWidth j.fmtA
  let wb := fmtWidth j.fmtB
  let wo := fmtWidth j.fmtO
  let mn := j.m * j.n
  let a (n : Nat) : Option PltOperand := some ⟨j.addr 0, n, wa⟩
  let b (n : Nat) : Option PltOperand := some ⟨j.addr 1, n, wb⟩
  let o (n : Nat) : Option PltOperand := some ⟨j.addrO, n, wo⟩
  if j.op = 0x00 then {}
  else if j.op = 0x01 ∨ j.op = 0x02 then
    { a := a (j.m * j.k), b := b (j.k * j.n), o := o mn, readO := j.op == 0x02 }
  else if j.op = 0x03 then { a := a (j.k * j.lIn), b := b (j.m * j.k * j.kw), o := o mn }
  else if j.op = 0x04 then { a := a (2 * mn), o := o (2 * mn) }
  else if j.op = 0x05 then
    let c := fld j.aux1 1 0
    { a := a mn, o := o mn
      b := if 5 ≤ j.sub then none else b (if c = 0 then mn else if c = 1 then j.n else if c = 2 then j.m else 1) }
  else if j.op = 0x06 then { a := a mn, o := o (if Nat.testBit j.sub 2 then j.n else j.m) }
  else if j.op = 0x10 then { a := some ⟨j.addr 0, j.k, 32⟩, o := o j.n, readO := j.sub == 2 }
  else if j.op = 0x11 then
    { a := a mn, b := some ⟨j.addr 1, mn, 64⟩, o := if j.sub = 0 then none else o mn, readO := true }
  else if j.op = 0x18 then { a := a mn, o := o mn, readO := true }
  else if j.op = 0x19 then { a := a mn, o := o mn, b := if Nat.testBit j.sub 3 then b mn else none }
  else { a := a mn, o := o mn }

def PltOperands.all (x : PltOperands) : List PltOperand := x.a.toList ++ x.b.toList ++ x.o.toList

/-- Local SRAM of array k (R297). -/
def pltSram (k : Nat) : Nat := Base.plt + k * 0x1000000

/-- Memories of R308. -/
inductive PltPlace where
  | sram
  | tarn
  | dram
deriving DecidableEq, Repr

/-- Banks of the Tarn range that [a, a + n) touches. -/
def banksOf (a n : Nat) : List Nat :=
  (List.range (((a - Base.tarn) % 0x80000 + n + 0x7FFFF) / 0x80000)).map (fun i => (a - Base.tarn) / 0x80000 + i)

/-- Where an operand of array k lies wholly, if R308 allows it. -/
def State.pltPlace (s : State) (k a n : Nat) : Option PltPlace :=
  if pltSram k ≤ a ∧ a + n ≤ pltSram k + 0x1000000 then some .sram
  else if Base.tarn ≤ a ∧ a + n ≤ Base.tarn + 0x4000000 ∧ (banksOf a n).all (fun b => s.owner b == k + 1) then some .tarn
  else if Base.dram ≤ a ∧ a + n ≤ Base.dram + dramBytes s.grade then some .dram
  else none

/-- The secure attribute of the array's accesses (R308). -/
def State.pltSecure (s : State) (k : Nat) : Bool := bit (s.reg (Page.plt k) Reg.PG_SEC) 31

/-- The bank takes the array's accesses (R183, R186, R188, R192). -/
def State.pltBank (s : State) (k b : Nat) : Bool :=
  s.owner b == k + 1 && (s.bank b).power == 2 && (s.bank b).powerReq.isNone && !(s.bank b).draining
  && !(s.bank b).clearing && (s.pltSecure k || !(s.bankSecure b))

/-- O overlaps the synapse store (R314). -/
def State.inSynapses (s : State) (a n : Nat) : Bool :=
  decide (Base.dram + s.reg64 (Page.die 0) Reg.DRM_SYN_BASE < a + n
    ∧ a < Base.dram + s.reg64 (Page.die 0) Reg.DRM_SYN_LIMIT)

/-- The status with which a job is refused before it touches memory (R305, R314). (DEDUCED, log 56) -/
def State.pltRefusal (s : State) (k : Nat) (j : PltJob) : Option Nat :=
  if j.formatOk = false then some 1
  else if j.shapeOk = false then some 3
  else if j.operands.all.any (fun x => (s.pltPlace k x.addr (max 1 x.bytes)).isNone) then some 4
  else match j.operands.o with
    | some x => if j.ring = false ∧ s.inSynapses x.addr x.bytes then some 8 else none
    | none => none

/-- An operand that the attribute bars: the memory counts the refusal (R188, R645). -/
def State.pltBarred (s : State) (k : Nat) (x : PltOperand) : Option Nat × State :=
  match s.pltPlace k x.addr (max 1 x.bytes) with
  | some .tarn =>
    (match (banksOf x.addr x.bytes).find? (fun b => !(s.pltBank k b)) with
     | some b => (some (if s.bankSecure b && !(s.pltSecure k) then 9 else 5), (s.tarnRefuse b).2)
     | none => (none, s))
  | some .dram =>
    if s.pltSecure k = false ∧ s.rangeSecure (x.addr - Base.dram) x.bytes then
      (some 9, s.count 0x6 Reg.BDR_REFUSED 1)
    else (none, s)
  | _ => (none, s)

/-- The first status that the operands' memories give. -/
def State.pltBars (s : State) (k : Nat) : List PltOperand → Option Nat × State
  | [] => (none, s)
  | x :: l =>
    let a := s.pltBarred k x
    if a.1.isSome then a else a.2.pltBars k l

/-- The elements of a tensor, lowest first in each word (R85, R307). -/
def State.readElems (s : State) (x : PltOperand) : List Nat :=
  let v := s.num x.addr x.bytes
  (List.range x.count).map (fun i => (v >>> (x.width * i)) % 2 ^ x.width)

/-- Some byte of an operand is poison (R168, R178, R297). -/
def State.operandPoison (s : State) (x : PltOperand) : Bool :=
  if Base.dram ≤ x.addr then
    (List.range ((x.addr % 64 + x.bytes + 63) / 64)).any (fun i => s.beatPoison (x.addr - Base.dram + 64 * i))
  else !(s.poisonWords x.addr x.bytes).isEmpty

/-- The number that packs elements of width `w`. -/
def packElems (w : Nat) : List Nat → Nat
  | [] => 0
  | c :: l => c % 2 ^ w + 2 ^ w * packElems w l

/-- Write a tensor; the bits of its last byte that belong to no element stay. -/
def State.writeElems (s : State) (k : Nat) (x : PltOperand) (codes : List Nat) : State :=
  let bits := x.count * x.width
  let old := s.num x.addr x.bytes
  let l := leBytes x.bytes (packElems x.width codes + old / 2 ^ bits * 2 ^ bits)
  if Base.dram ≤ x.addr then s.dramWrite none (s.pltSecure k) (x.addr - Base.dram) l
  else s.sramStore x.addr l

/-! ## Arithmetic (R310) -/

/-- A value rounded to FP32. -/
def fp32 (x : Num) : Num := decodeNum 9 (encodeNum 9 false x none).code

/-- Real value of a stored element (R99). -/
def realOf (f c : Nat) (mult exp : Int) : Num :=
  if mult = 0 then .fin false 0 1 else ((decodeNum f c).mul (Num.ofInt mult)).shift exp

/-- Real values of an operand (x = 0, 1, 2 for A, B, O). -/
def PltJob.reals (j : PltJob) (x : Nat) (codes : List Nat) : List Num :=
  codes.map (fun c => realOf (if x = 0 then j.fmtA else if x = 1 then j.fmtB else j.fmtO) c (j.mult x) (j.exp x))

/-- A result in a format with a scale; a quotient by a MULT of zero has no value and is free. -/
def State.pltScaled (s : State) (k site f : Nat) (mult exp : Int) (sr : Bool) (x : Num) : Nat × State :=
  if mult = 0 then ((Config.word s.fresh).toNat % 2 ^ fmtWidth f, s.useFresh)
  else s.siteConvSr (Page.plt k) site f ((x.div (Num.ofInt mult)).shift (-exp)) sr

/-- Results converted to FMT_O and its scale at a site. -/
def State.pltOut (s : State) (k : Nat) (j : PltJob) (site : Nat) (sr : Bool) (l : List Num) : List Nat × State :=
  mapState (fun s x => s.pltScaled k site j.fmtO (j.mult 2) (j.exp 2) sr x) s l

/-- Add up terms, each addition rounded to FP32. The array defines no order: `order` says at each addition which two of the
values at hand are added, and whatever it holds names some pair. -/
def sumOrder (order : List Nat) (fuel : Nat) (l : List Num) : Num × List Nat :=
  match fuel, l with
  | 0, l => (l.getD 0 (.fin false 0 1), order)
  | _, [] => (.fin false 0 1, order)
  | _, [x] => (x, order)
  | fuel + 1, l =>
    let p := order.headD 0
    let i := p % l.length
    let l1 := l.eraseIdx i
    let j := p / l.length % l1.length
    sumOrder (order.drop 1) fuel (fp32 ((l.getD i (.fin false 0 1)).add (l1.getD j (.fin false 0 1))) :: l1.eraseIdx j)

/-- Sums of several lists of terms. -/
def sumsOrder (order : List Nat) : List (List Num) → List Num
  | [] => []
  | l :: r =>
    let a := sumOrder order l.length l
    a.1 :: sumsOrder a.2 r

def getNum (l : List Num) (i : Nat) : Num := l.getD i (.fin false 0 1)

/-- Larger and smaller value; a NaN operand gives a NaN (R88). -/
def numMax (a b : Num) : Num := if a.isNan then a else if b.isNan then b else if a.lt b then b else a
def numMin (a b : Num) : Num := if a.isNan then a else if b.isNan then b else if b.lt a then b else a
def numAbs : Num → Num
  | .nan _ => .nan false
  | .inf _ => .inf false
  | .fin _ n d => .fin false n d
def numOne : Num := .fin false 1 1
def numZero : Num := .fin false 0 1

/-- ln 2 × 2¹²⁸. -/
def ln2Fix : Nat := 0xB17217F7D1CF79ABC9E3B39803F2F6AF

/-- exp of r / 2¹²⁸ below 1, times 2¹²⁸. -/
def expSeries (r : Nat) : Nat :=
  ((List.range 40).foldl (fun (p : Nat × Nat) i => (p.1 + p.2, p.2 * r / 2 ^ 128 / (i + 1))) (0, 2 ^ 128)).1

/-- exp with a free relative error below 2⁻²⁰ (R310). -/
def expNum (x : Num) (free : Nat) : Num :=
  let err (y : Num) : Num := y.mul (.fin false (2 ^ 60 - (2 ^ 40 - 1) + free % (2 ^ 41 - 1)) (2 ^ 60))
  match x with
  | .nan b => .nan b
  | .inf b => if b then numZero else .inf false
  | .fin b n d =>
    let y := n * 2 ^ 128 / d
    if 2 ^ 140 ≤ y then (if b then numZero else .inf false)
    else if b then
      let k := y / ln2Fix + 1
      err ((Num.fin false (expSeries (k * ln2Fix - y)) (2 ^ 128)).shift (-(k : Int)))
    else
      let k := y / ln2Fix
      err ((Num.fin false (expSeries (y - k * ln2Fix)) (2 ^ 128)).shift k)

/-! ## The operations (R309, R310)

Each takes the job and the elements of its operands and gives the end status with the elements of O, if O is written. -/

structure PltIn where
  a : List Nat
  b : List Nat
  o : List Nat
deriving DecidableEq, Repr

abbrev PltResult := Nat × Option (List Nat)

/-- A matrix of sums: `ts` lists the pairs of element indices whose products each element of O adds up; `old` is the value
that the sum is added to. -/
def State.pltDot (s : State) (k : Nat) (j : PltJob) (x : PltIn) (order : List Nat) (ts : List (List (Nat × Nat)))
    (old : Option (List Num)) : PltResult × State :=
  if j.fp32Acc then
    let va := j.reals 0 x.a
    let vb := j.reals 1 x.b
    let terms := (List.range ts.length).map (fun e =>
      (match old with
       | some l => getNum l e
       | none => numZero) :: (ts.getD e []).map (fun t => (getNum va t.1).mul (getNum vb t.2)))
    let r := s.pltOut k j 0 false (sumsOrder order terms)
    ((0, some r.1), r.2)
  else
    let ia := x.a.map (toSigned (fmtWidth j.fmtA))
    let ib := x.b.map (toSigned (fmtWidth j.fmtB))
    let scale := (realOf 4 1 (j.mult 0) (j.exp 0)).mul (realOf 4 1 (j.mult 1) (j.exp 1))
    let acc := mapState (fun s t => s.siteInt (Page.plt k) 0 32 ((t.map (fun p => ia.getD p.1 0 * ib.getD p.2 0)).sum)) s ts
    let vals := (List.range ts.length).map (fun e =>
      let y := (Num.ofInt (acc.1.getD e 0)).mul scale
      match old with
      | some l => (getNum l e).add y
      | none => y)
    let r := acc.2.pltOut k j 0 false vals
    ((0, some r.1), r.2)

/-- Index pairs of a matrix product. -/
def gemmTerms (j : PltJob) : List (List (Nat × Nat)) :=
  (List.range (j.m * j.n)).map (fun e =>
    (List.range j.k).map (fun t => (e / j.n * j.k + t, t * j.n + e % j.n)))

/-- Index pairs of a convolution: element (m, n) adds A[k, n × stride + w × dilation] × B[m, k, w]. -/
def convTerms (j : PltJob) : List (List (Nat × Nat)) :=
  (List.range (j.m * j.n)).map (fun e =>
    (List.range (j.k * j.kw)).map (fun t =>
      (t / j.kw * j.lIn + e % j.n * j.convStride + t % j.kw * j.dilation, (e / j.n * j.k + t / j.kw) * j.kw + t % j.kw)))

def pltGemm (order : List Nat) (k : Nat) (j : PltJob) (x : PltIn) (s : State) : PltResult × State :=
  s.pltDot k j x order (gemmTerms j) none

def pltGemmAcc (order : List Nat) (k : Nat) (j : PltJob) (x : PltIn) (s : State) : PltResult × State :=
  s.pltDot k j x order (gemmTerms j) (some (j.reals 2 x.o))

def pltConv1d (order : List Nat) (k : Nat) (j : PltJob) (x : PltIn) (s : State) : PltResult × State :=
  s.pltDot k j x order (convTerms j) none

/-- FFT: the spec states no accuracy, so each element of the transform is a free FP32 value. (DESIGN CHOICE, log 48) -/
def pltFft (k : Nat) (j : PltJob) (x : PltIn) (s : State) : PltResult × State :=
  let vals := (List.range x.a.length).map (fun i => decodeNum 9 (Config.word (s.fresh + i)).toNat)
  let s := { s with fresh := s.fresh + x.a.length }
  let r := s.pltOut k j 0 false vals
  ((0, some r.1), r.2)

/-- ELT and REDUCE compute exactly on integer operands with an integer O. -/
def PltJob.exact (j : PltJob) (useB : Bool) : Bool := intFmt j.fmtA && intFmt j.fmtO && (!useB || intFmt j.fmtB)

/-- One element of ELT. -/
def eltOp (sub : Nat) (a b factor : Num) : Num :=
  if sub = 0 then a.add b else if sub = 1 then a.sub b else if sub = 2 then a.mul b
  else if sub = 3 then numMax a b else if sub = 4 then numMin a b
  else if sub = 5 then numMax a numZero else if sub = 6 then a else a.mul factor

def pltElt (k : Nat) (j : PltJob) (x : PltIn) (s : State) : PltResult × State :=
  let useB := decide (j.sub < 5)
  let rnd (y : Num) : Num := if j.exact useB then y else fp32 y
  let va := j.reals 0 x.a
  let vb := j.reals 1 x.b
  let c := fld j.aux1 1 0
  let vals := (List.range va.length).map (fun e =>
    let b := getNum vb (if c = 0 then e else if c = 1 then e % j.n else if c = 2 then e / j.n else 0)
    rnd (eltOp j.sub (rnd (getNum va e)) (rnd b) (decodeNum 9 j.aux0.toNat)))
  let r := s.pltOut k j 2 false vals
  ((0, some r.1), r.2)

/-- The lists that REDUCE reduces: along a row for axis 0, along a column for axis 1. -/
def reduceLists (j : PltJob) (v : List Num) : List (List Num) :=
  if Nat.testBit j.sub 2 then
    (List.range j.n).map (fun c => (List.range j.m).map (fun r => getNum v (r * j.n + c)))
  else (List.range j.m).map (fun r => (List.range j.n).map (fun c => getNum v (r * j.n + c)))

def foldNums (f : Num → Num → Num) (l : List Num) : Num := (l.drop 1).foldl f (getNum l 0)

def pltReduce (order : List Nat) (k : Nat) (j : PltJob) (x : PltIn) (s : State) : PltResult × State :=
  let exact := j.exact false
  let rnd (y : Num) : Num := if exact then y else fp32 y
  let ls := reduceLists j ((j.reals 0 x.a).map rnd)
  let mode := j.sub % 4
  let sums (ls : List (List Num)) : List Num :=
    if exact then ls.map (foldNums Num.add) else sumsOrder order ls
  let vals :=
    if mode = 0 then sums ls
    else if mode = 1 then ls.map (foldNums numMax)
    else if mode = 2 then ls.map (foldNums numMin)
    else sums (ls.map (fun l => l.map (fun y => rnd (y.mul y))))
  let r := s.pltOut k j 2 false vals
  ((0, some r.1), r.2)

def pltExpNorm (order : List Nat) (k : Nat) (j : PltJob) (x : PltIn) (s : State) : PltResult × State :=
  let v := (j.reals 0 x.a).map fp32
  let f := decodeNum 9 j.aux0.toNat
  let rows := (List.range j.m).map (fun r => (List.range j.n).map (fun c => getNum v (r * j.n + c)))
  let tops := rows.map (foldNums numMax)
  let es := (List.range v.length).map (fun e =>
    fp32 (expNum (fp32 (f.mul (fp32 ((getNum v e).sub (getNum tops (e / j.n)))))) (Config.num (s.fresh + e))))
  let s := { s with fresh := s.fresh + v.length }
  let sums := sumsOrder order ((List.range j.m).map (fun r => (List.range j.n).map (fun c => getNum es (r * j.n + c))))
  let vals := (List.range v.length).map (fun e => fp32 ((getNum es e).div (getNum sums (e / j.n))))
  let r := s.pltOut k j 2 false vals
  ((0, some r.1), r.2)

/-- QUANT and DEQUANT: the elements at a site with O's format and scale. (DEDUCED, log 57) -/
def pltRequant (site : Nat) (k : Nat) (j : PltJob) (x : PltIn) (s : State) : PltResult × State :=
  let r := s.pltOut k j site false ((j.reals 0 x.a).map fp32)
  ((0, some r.1), r.2)

def pltSgd (k : Nat) (j : PltJob) (x : PltIn) (s : State) : PltResult × State :=
  let g := (j.reals 0 x.a).map fp32
  let w := (j.reals 2 x.o).map fp32
  let eta := decodeNum 9 j.aux0.toNat
  let vals := (List.range g.length).map (fun e => fp32 ((getNum w e).sub (fp32 (eta.mul (getNum g e)))))
  let r := s.pltOut k j 3 j.sr vals
  ((0, some r.1), r.2)

/-- The surrogate shape at x (R310); the spec states no accuracy for the exponential, which is a free FP32 value. -/
def surrogate (shape : Nat) (beta x : Num) (free : Nat) : Num :=
  let t := fp32 (beta.mul (numAbs x))
  if shape = 0 then
    let u := fp32 (numOne.add t)
    fp32 (numOne.div (fp32 (u.mul u)))
  else if shape = 1 then numMax numZero (fp32 (numOne.sub t))
  else decodeNum 9 (Config.word free).toNat

def pltSurrogate (k : Nat) (j : PltJob) (x : PltIn) (s : State) : PltResult × State :=
  let va := (j.reals 0 x.a).map fp32
  let vb := (j.reals 1 x.b).map fp32
  let theta := decodeNum 9 j.aux0.toNat
  let beta := decodeNum 9 j.aux1.toNat
  let vals := (List.range va.length).map (fun e =>
    let y := surrogate (j.sub % 4) beta (fp32 ((getNum va e).sub theta)) (s.fresh + e)
    if Nat.testBit j.sub 3 then fp32 (y.mul (getNum vb e)) else y)
  let s := { s with fresh := s.fresh + va.length }
  let r := s.pltOut k j 2 false vals
  ((0, some r.1), r.2)

/-! ## Gather and emit (R316–R318) -/

/-- Logical cell, first neuron and neurons of a gather list entry. -/
def gatherEntry (w : Nat) : Nat × Nat × Nat := (bitsOf w 31 21, bitsOf w 20 8, bitsOf w 7 0 + 1)

/-- The neurons of a gather list, in order. -/
def gatherList (l : List Nat) : List (Nat × Nat) :=
  (l.map (fun w => let e := gatherEntry w; (List.range e.2.2).map (fun i => (e.1, e.2.1 + i)))).flatten

def pltGather (k : Nat) (j : PltJob) (x : PltIn) (s : State) : PltResult × State :=
  let ns := gatherList x.a
  if ns.length ≠ j.n ∨ x.a.any (fun w => decide (8192 < (gatherEntry w).2.1 + (gatherEntry w).2.2)) then ((3, none), s)
  else
    let spk (p : Nat × Nat) : Nat := if s.offline p.1 = false ∧ (s.neuron p.1 p.2).spk then 1 else 0
    if j.sub = 0 then
      let r := s.pltOut k j 0 false (ns.map (fun p => if s.offline p.1 then numZero else Num.ofInt (s16 (s.neuron p.1 p.2).v)))
      ((0, some r.1), r.2)
    else if j.sub = 1 then
      let r := mapState (fun s p => s.siteConv (Page.plt k) 0 j.fmtO (Num.ofInt (spk p : Int))) s ns
      ((0, some r.1), r.2)
    else
      let r := mapState (fun s e =>
        let y := s.siteInt (Page.plt k) 0 32 (toSigned 32 (x.o.getD e 0) + spk (ns.getD e (0, 0)))
        (ofSigned 32 y.1, y.2)) s (List.range ns.length)
      ((0, some r.1), r.2)

/-- Fields of an emit map entry (R318). -/
def emitValid (e : Nat) : Bool := Nat.testBit e 63 && bitsOf e 62 61 != 3
def emitKind (e : Nat) : Nat := bitsOf e 62 61
def State.emitChip (s : State) (e : Nat) : Nat := if Nat.testBit e 60 then s.chipId else bitsOf e 43 32

/-- An event to send, or a packet under assembly: destination chip, type and words. -/
structure OutEvent where
  chip : Nat
  binary : Bool
  words : List W32
deriving DecidableEq, Repr

/-- The event of map entry e with value g (R317). -/
def State.pltSend (s : State) (k : Nat) (j : PltJob) (e : Nat) (g : Num) : OutEvent × State :=
  let w : W32 := BitVec.ofNat 32 e
  if emitKind e = 0 then ({ chip := s.emitChip e, binary := true, words := [w] }, s)
  else
    let r := s.pltScaled k 4 (if emitKind e = 1 then 3 else 7) (j.mult 1) (j.exp 1) false g
    ({ chip := s.emitChip e, binary := false, words := [w, BitVec.ofNat 32 (r.1 * 65536 + j.off)] }, r.2)

/-- One element of SPK_EMIT: its event, if any, and the pattern of its state afterwards. -/
def State.emitElem (s : State) (k : Nat) (j : PltJob) (e : Nat) (v : Num) (st : Nat) : (Option OutEvent × Nat) × State :=
  let theta := decodeNum 9 j.aux0.toNat
  let old := decodeNum 9 st
  let pat (x : Num) : Nat := (encodeNum 9 false x none).code
  if emitValid e = false then ((none, st), s)
  else if v.isNan then ((none, st), s.count (Page.plt k) Reg.SAT_NAN 1)
  else if j.sub = 0 then
    (if theta.lt v then
      let a := s.pltSend k j e v
      ((some a.1, st), a.2)
     else ((none, st), s))
  else if j.sub = 1 then
    let n := fp32 (old.add v)
    let clamp (x : Num) : Nat := pat (numMin (numMax x numZero) numOne)
    if n.isNan = false ∧ n.lt numOne = false then
      let a := s.pltSend k j e v
      ((some a.1, clamp (fp32 (n.sub numOne))), a.2)
    else ((none, clamp n), s)
  else
    let d := fp32 (v.sub old)
    if theta.lt (numAbs d) then
      let a := s.pltSend k j e d
      ((some a.1, pat v), a.2)
    else ((none, st), s)

/-- The next event joins the packet under assembly (R224, R318). -/
def OutEvent.joins (e p : OutEvent) : Bool :=
  p.chip == e.chip && fld (p.words.getD 0 0) 31 25 == fld (e.words.getD 0 0) 31 25 && p.binary == e.binary
  && decide (p.words.length + e.words.length ≤ 7)

/-- Pack events into packets, in order; `cur` is the packet under assembly. -/
def packEvents (cur : Option OutEvent) : List OutEvent → List OutEvent
  | [] => cur.toList
  | e :: l =>
    match cur with
    | none => packEvents (some e) l
    | some p => if e.joins p then packEvents (some { p with words := p.words ++ e.words }) l else p :: packEvents (some e) l

/-- The packet of a step. -/
def OutEvent.packet (e : OutEvent) (step : Nat) (late : Bool) : Packet :=
  mkPacket (if e.binary then 1 else 2) e.chip 1 step late e.words

/-- Node of array k (R201). -/
def pltNode (k : Nat) : Nat := if k = 0 then 2 else if k = 1 then 3 else if k = 2 then 5 else 6

def pltEmit (k : Nat) (j : PltJob) (x : PltIn) (s : State) : PltResult × State :=
  let va := (j.reals 0 x.a).map fp32
  let r := mapState (fun s e => s.emitElem k j (x.b.getD e 0) (getNum va e) (x.o.getD e 0)) s (List.range va.length)
  let evs := r.1.filterMap (·.1)
  let s := r.2.count (Page.plt k) Reg.PLT_EMIT_EVT evs.length
  let step := if j.ring then s.stamp else j.step
  let s := (packEvents none evs).foldl (fun s e =>
    s.sendNode (pltNode k) (e.packet step (decide (step < s.stepNo)))) s
  ((0, if j.sub = 0 then none else some (r.1.map (·.2))), s)

/-! ## Running a job (R305, R311, R320) -/

/-- Requester index of array k (R320). -/
def pltWho (k : Nat) : Nat := 2048 + k

/-- Hand the DRAM traffic of a job to the slices (R159, R320). -/
def State.pltReqs (s : State) (k : Nat) (j : PltJob) : State :=
  let x := j.operands
  let rd := x.a.toList ++ x.b.toList ++ (if x.readO then x.o.toList else [])
  (rd ++ x.o.toList).foldl (fun s y =>
    if Base.dram ≤ y.addr then s.pushReqs (pltWho k) j.id (y.addr - Base.dram) y.bytes else s) s

/-- Do the work of a job: the end status, and the chip with its output written and its events sent. -/
def State.pltWork (s : State) (k : Nat) (j : PltJob) (go : Nat → PltJob → PltIn → State → PltResult × State) : Nat × State :=
  match s.pltRefusal k j with
  | some st => (st, if st = 4 ∧ j.operands.all.any (fun x => addrRegion x.addr == .unmapped) then s.unmappedAcc else s)
  | none =>
    let x := j.operands
    let rd := x.a.toList ++ x.b.toList ++ (if x.readO then x.o.toList else [])
    match s.pltBars k x.all with
    | (some st, s) => (st, s)
    | (none, s) =>
      let s := s.pltReqs k j
      if rd.any s.operandPoison then (5, s)
      else
        let codes (y : Option PltOperand) : List Nat := match y with
          | some y => s.readElems y
          | none => []
        let r := go k j { a := codes x.a, b := codes x.b, o := if x.readO then codes x.o else [] } s
        match x.o, r.1.2 with
        | some y, some l => (r.1.1, r.2.writeElems k y l)
        | _, _ => (r.1.1, r.2)

/-- An operand lies in DRAM that is being cleared: the job waits for it (R646). -/
def State.pltHeld (s : State) (j : PltJob) : Bool :=
  j.operands.all.any (fun x => addrRegion x.addr == .dram && s.clearingAny (x.addr - Base.dram) x.bytes)

/-- The job in progress runs its operation. -/
def State.pltRun (s : State) (k op : Nat) (go : Nat → PltJob → PltIn → State → PltResult × State) : State :=
  match (s.plt k).job with
  | none => s
  | some j =>
    if s.runs (139 + k) && s.enabled (Page.plt k) && j.op == op && j.status.isNone && !(s.pltHeld j) then
      let a := s.pltWork k j go
      a.2.setPlt k { a.2.plt k with job := some { j with status := some a.1 } }
    else s

/-- NOP -/
def execNop (plt : Fin 4) (s : State) : Host.Outcome State Fault Refusal :=
  .next (s.pltRun plt 0x00 (fun _ _ _ s => ((0, none), s)))
/-- GEMM -/
def execGemm (plt : Fin 4) (order : List Nat) (s : State) : Host.Outcome State Fault Refusal :=
  .next (s.pltRun plt 0x01 (pltGemm order))
/-- GEMM_ACC -/
def execGemmAcc (plt : Fin 4) (order : List Nat) (s : State) : Host.Outcome State Fault Refusal :=
  .next (s.pltRun plt 0x02 (pltGemmAcc order))
/-- CONV1D -/
def execConv1d (plt : Fin 4) (order : List Nat) (s : State) : Host.Outcome State Fault Refusal :=
  .next (s.pltRun plt 0x03 (pltConv1d order))
/-- FFT -/
def execFft (plt : Fin 4) (s : State) : Host.Outcome State Fault Refusal := .next (s.pltRun plt 0x04 pltFft)
/-- ELT -/
def execElt (plt : Fin 4) (s : State) : Host.Outcome State Fault Refusal := .next (s.pltRun plt 0x05 pltElt)
/-- REDUCE -/
def execReduce (plt : Fin 4) (order : List Nat) (s : State) : Host.Outcome State Fault Refusal :=
  .next (s.pltRun plt 0x06 (pltReduce order))
/-- EXP_NORM -/
def execExpNorm (plt : Fin 4) (order : List Nat) (s : State) : Host.Outcome State Fault Refusal :=
  .next (s.pltRun plt 0x07 (pltExpNorm order))
/-- QUANT -/
def execQuant (plt : Fin 4) (s : State) : Host.Outcome State Fault Refusal := .next (s.pltRun plt 0x08 (pltRequant 1))
/-- DEQUANT -/
def execDequant (plt : Fin 4) (s : State) : Host.Outcome State Fault Refusal := .next (s.pltRun plt 0x09 (pltRequant 2))
/-- SPK_GATHER -/
def execSpkGather (plt : Fin 4) (s : State) : Host.Outcome State Fault Refusal := .next (s.pltRun plt 0x10 pltGather)
/-- SPK_EMIT -/
def execSpkEmit (plt : Fin 4) (s : State) : Host.Outcome State Fault Refusal := .next (s.pltRun plt 0x11 pltEmit)
/-- SGD_UPDATE -/
def execSgdUpdate (plt : Fin 4) (s : State) : Host.Outcome State Fault Refusal := .next (s.pltRun plt 0x18 pltSgd)
/-- SURROGATE -/
def execSurrogate (plt : Fin 4) (s : State) : Host.Outcome State Fault Refusal := .next (s.pltRun plt 0x19 pltSurrogate)

/-! ## The next job (R300–R303, R311) -/

/-- Regions that a step-program job waits for (R311). -/
def State.pltWaits (s : State) (k : Nat) (j : PltJob) : List Nat :=
  let listed : List Nat :=
    if j.op = 0x10 ∧ (s.pltPlace k (j.addr 0) (max 1 (4 * j.k))).isSome then
      (s.readElems ⟨j.addr 0, j.k, 32⟩).map (fun w => bitsOf w 31 29)
    else []
  if j.bind then (List.range 8).filter (fun r => Nat.testBit j.waitRgn r || listed.contains r) else []

/-- The next job of the step program may start. -/
def State.pltReady (s : State) (k : Nat) : Bool :=
  match (s.plt k).program with
  | [] => false
  | j :: _ => (s.pltWaits k j).all (fun r => s.step.rgnUpd.contains r || j.seen.contains r)

/-- Read a descriptor at an offset of the Tarn range: none where its bank refuses the array (R302). A poisoned descriptor
ends with POISON (R305). -/
def State.pltFetch (s : State) (k off index : Nat) (ring : Bool) : Option PltJob × State :=
  let a := Base.tarn + off
  match (banksOf a 64).find? (fun b => !(s.pltBank k b)) with
  | some b => (none, (s.tarnRefuse b).2.setErr (Page.plt k) 0)
  | none =>
    let words := (List.range 16).map (fun i => s.word (a + 4 * i))
    let j : PltJob := { ring := ring, index := index, words := words, step := s.stepNo
                        tick := s.reg64 Page.stp Reg.STP_TICK_NS, id := s.fresh + 1 }
    let st := if (s.poisonWords a 64).isEmpty = false then some 5
              else if j.bind = ring then some 0xA
              else if pltOpcode j.op = false then some 2 else none
    (some { j with status := st }, s.useFresh)

/-- Start the next job where the array is idle: the step program first, then the preempted detached job, then the ring. -/
def State.pltStart (s : State) (k : Nat) : State :=
  let p := s.plt k
  let pg := Page.plt k
  if s.runs (139 + k) = false ∨ presentIn s.grade pg = false ∨ s.enabled pg = false ∨ s.faulted pg ∨ p.job.isSome then s
  else if s.pltReady k then s.setPlt k { p with job := p.program.head?, program := p.program.drop 1 }
  else if bit (s.reg pg Reg.PLT_CTRL) 1 = false then s
  else match p.held with
    | some j => s.setPlt k { p with job := some j, held := none }
    | none =>
      if s.reg pg Reg.PLT_DT_HEAD = s.reg pg Reg.PLT_DT_TAIL then s
      else
        let h := s.regFld pg Reg.PLT_DT_HEAD 11 0
        let a := s.pltFetch k (bitsOf (s.reg pg Reg.PLT_DT_BASE).toNat 25 6 * 64 + 64 * h) h true
        match a.1 with
        | none => a.2
        | some j => a.2.setPlt k { p with job := some j }

def State.pltStartAll (s : State) : State := (List.range 4).foldl (fun s k => s.pltStart k) s

/-! ## The end of a job (R305) -/

/-- Post a completion record, or lose it. -/
def State.pltRecord (s : State) (k : Nat) (j : PltJob) (st cycles : Nat) : State :=
  let pg := Page.plt k
  let size := 2 ^ s.regFld pg Reg.PLT_CQ_SIZE 3 0
  let tail := s.regFld pg Reg.PLT_CQ_TAIL 11 0
  if (tail + 1) % size = s.regFld pg Reg.PLT_CQ_HEAD 11 0 % size then s.countInt pg Reg.PLT_CQ_LOST 3 1
  else
    let a := Base.tarn + bitsOf (s.reg pg Reg.PLT_CQ_BASE).toNat 25 4 * 16 + 16 * tail
    let l := leBytes 4 (st * 2 ^ 28 + (if j.ring then 2 ^ 27 else 0) + j.op * 2 ^ 21 + j.tag) ++ leBytes 4 (j.index % 65536)
             ++ leBytes 4 (s.stepNo % 2 ^ 32) ++ leBytes 4 (min 0xFFFFFFFF cycles)
    let s := match (banksOf a 16).find? (fun b => !(s.pltBank k b)) with
      | some b => (s.tarnRefuse b).2
      | none => s.sramStore a l
    s.setReg pg Reg.PLT_CQ_TAIL (BitVec.ofNat 32 ((tail + 1) % size))

/-- The step program of a job's step has come to its end (R321). -/
def State.pltProgramEnd (s : State) (k : Nat) (j : PltJob) : State :=
  if (s.plt k).program.any (fun x => x.step == j.step) then s
  else
    let pg := Page.plt k
    let ns : W32 := BitVec.ofNat 32 (min 0xFFFFFFFF (s.elapsed - j.tick))
    let s := s.setReg pg Reg.PLT_SB_LAST_NS ns
    s.setReg pg Reg.PLT_SB_MAX_NS (if (s.reg pg Reg.PLT_SB_MAX_NS).toNat < ns.toNat then ns else s.reg pg Reg.PLT_SB_MAX_NS)

/-- A job that is no longer in progress ends with a status. -/
def State.pltEnd (s : State) (k : Nat) (j : PltJob) (st cycles : Nat) : State :=
  let pg := Page.plt k
  let s := { s with dram := { s.dram with reqs := s.dram.reqs.filter (fun q => !(q.who == pltWho k && q.item == j.id)) } }
  let s := s.count pg Reg.PLT_BUSY_CYC cycles
  let s := if st = 0 then s
           else ((s.count pg Reg.PLT_JOB_ERR 1).setInt pg 1).setReg pg Reg.PLT_LAST_STATUS
             (BitVec.ofNat 32 (st * 2 ^ 28 + (if j.ring then 2 ^ 27 else 0) + j.op * 2 ^ 21 + j.index % 65536))
  let s := if j.irq then s.setInt pg 0 else s
  let s := if j.ring || j.irq || st != 0 then s.pltRecord k j st cycles else s
  if j.ring then
    let size := 2 ^ s.regFld pg Reg.PLT_DT_SIZE 3 0
    let s := s.setPlt k { s.plt k with ended := (s.plt k).ended + 1 }
    (s.count pg Reg.PLT_DT_DONE 1).setReg pg Reg.PLT_DT_HEAD (BitVec.ofNat 32 ((s.regFld pg Reg.PLT_DT_HEAD 11 0 + 1) % size))
  else (s.count pg Reg.PLT_SB_DONE 1).pltProgramEnd k j

/-- Take the job out of progress. -/
def State.pltClear (s : State) (k : Nat) : State := s.setPlt k { s.plt k with job := none }

/-- Cycles of the compute time of an operation (R320). -/
def pltCycles (j : PltJob) : Nat :=
  let up (a b : Nat) : Nat := (a + b - 1) / b
  let dot (k : Nat) : Nat :=
    let k := if j.fmtA = 1 ∧ j.fmtB = 1 then up k 2
             else if j.fmtA = 7 ∨ j.fmtA = 8 ∨ j.fmtB = 7 ∨ j.fmtB = 8 then 2 * k else k
    up j.m 128 * up j.n 512 * (k + 48)
  if j.op = 0x01 ∨ j.op = 0x02 then dot j.k
  else if j.op = 0x03 then dot (j.k * j.kw)
  else if j.op = 0x04 then up (Nat.log2 j.n) 3 * (up (36 * j.m * j.n) 32768 + 48)
  else if j.op = 0x07 then 48 + up (j.m * j.n) 128
  else if j.op = 0x00 ∨ j.op = 0x10 then 0
  else 48 + up (j.m * j.n) 512

/-- JOB_END: a job whose end status is known ends once its DRAM traffic has been served, after `cycles` cycles, which are no
fewer than its compute time (R305, R320). -/
def execJobEnd (plt : Fin 4) (cycles : Nat) (s : State) : Host.Outcome State Fault Refusal :=
  match (s.plt plt).job with
  | none => .next s
  | some j =>
    match j.status with
    | none => .next s
    | some st =>
      if s.runs (139 + plt) && s.dram.reqs.all (fun q => !(q.who == pltWho plt && q.item == j.id)) then
        .next (((s.pltClear plt).pltEnd plt j st (if st = 0 then max cycles (pltCycles j) else cycles)).pltStart plt)
      else .next s

/-! ## Preemption and abort (R303) -/

/-- DETACHED_PREEMPT: the detached job in progress stands at a preemption point. -/
def execDetachedPreempt (plt : Fin 4) (s : State) : Host.Outcome State Fault Refusal :=
  let p := s.plt plt
  match p.job with
  | none => .next s
  | some j =>
    if s.runs (139 + plt) = false ∨ j.ring = false then .next s
    else if p.abort then .next (((s.setPlt plt { p with job := none, abort := false }).pltEnd plt j 7 0).pltStart plt)
    else if s.pltReady plt then
      .next (((s.setPlt plt { p with job := none, held := some j }).count (Page.plt plt) Reg.PLT_PREEMPT 1).pltStart plt)
    else .next s

/-- ABORT_DT is asked for: a job in progress ends at its next preemption point, and a preempted one stands at it. -/
def State.pltAbort (s : State) (k : Nat) : State :=
  let p := s.plt k
  match p.job, p.held with
  | some j, h => if j.ring then s.setPlt k { p with abort := true } else match h with
    | some d => (s.setPlt k { p with held := none }).pltEnd k d 7 0
    | none => s
  | none, some d => (s.setPlt k { p with held := none }).pltEnd k d 7 0
  | none, none => s

/-- A write to `PLT_CTRL`. -/
def State.pltCtrl (s : State) (k : Nat) (v : W32) : State :=
  let s := s.setReg (Page.plt k) Reg.PLT_CTRL (v &&& 0xF)
  (if bit v 4 then s.pltAbort k else s).pltStart k

/-- ABORT_DT: a write of `v`, with 1 in ABORT_DT, to `PLT_CTRL`. -/
def execAbortDt (req : Requester) (plt : Fin 4) (v : W32) (s : State) : Host.Outcome State Fault Refusal :=
  .next (s.ifAdmitWord req (Page.plt plt) Reg.PLT_CTRL (v ||| 0x10) (fun s v => s.pltCtrl plt v))

/-- PLT_DT_TAIL (R301). -/
def execPltDtTail (req : Requester) (plt : Fin 4) (v : W32) (s : State) : Host.Outcome State Fault Refusal :=
  .next (s.ifAdmit req (Page.plt plt) Reg.PLT_DT_TAIL (fun s =>
    (s.setReg (Page.plt plt) Reg.PLT_DT_TAIL (v &&& 0xFFF)).pltStart plt))

/-- `PLT_STAT`.STATE (R321). -/
def State.pltStateCode (s : State) (k : Nat) : Nat :=
  if s.clocked = false then 4
  else match (s.plt k).job with
    | some j => if j.ring then 3 else 2
    | none => if (s.plt k).program.isEmpty then 0 else 1

/-- `PLT_STAT`. -/
def State.pltStat (s : State) (k : Nat) : W32 :=
  let p := s.plt k
  let i := match p.job.orElse (fun _ => p.program.head?) with
    | some j => j.index % 65536
    | none => 0
  BitVec.ofNat 32 (s.pltStateCode k * 2 ^ 28 + i)

/-- Writes to the PLT page that do more than store (R322). -/
def State.pltWrite (s : State) (k off : Nat) (v : W32) : Option State :=
  let pg := Page.plt k
  let busy := s.pltStateCode k == 3
  let size (head tail : Nat) : State :=
    if busy ∨ fld v 3 0 < 4 ∨ 12 < fld v 3 0 then s.setErr pg 2
    else if s.regFld pg off 3 0 = fld v 3 0 then s
    else ((s.setReg pg off (v &&& 0xF)).setReg pg head 0).setReg pg tail 0
  if off = Reg.PLT_CTRL then some (s.pltCtrl k v)
  else if off = Reg.PLT_SB_COUNT then some (if 256 < fld v 8 0 then s.setErr pg 2 else s.setReg pg off (v &&& 0x1FF))
  else if off = Reg.PLT_DT_SIZE then some (size Reg.PLT_DT_HEAD Reg.PLT_DT_TAIL)
  else if off = Reg.PLT_CQ_SIZE then some (size Reg.PLT_CQ_HEAD Reg.PLT_CQ_TAIL)
  else if off = Reg.PLT_DT_BASE ∨ off = Reg.PLT_CQ_BASE then
    (if busy then some (s.setErr pg 2) else none)
  else if off = Reg.PLT_DT_TAIL then some ((s.setReg pg off (v &&& 0xFFF)).pltStart k)
  else none

/-! ## The tick (R300, R313) and quiescence (R312) -/

/-- The job in progress belongs to the step program. -/
def State.pltBound (s : State) (k : Nat) : Option PltJob := (s.plt k).job.filter (fun j => !j.ring)

/-- Step-program jobs of the open step or an older one have not ended. -/
def State.pltUnfinished (s : State) (k : Nat) : Bool := (s.pltBound k).isSome || !(s.plt k).program.isEmpty

/-- The leftover of the step program is too old for the policy. -/
def State.pltTooOld (s : State) (step : Nat) : Bool := s.tooOld step

/-- Skip and end what the policy gives up of older step programs. -/
def State.pltLate (s : State) (k : Nat) : State :=
  if s.pltUnfinished k = false then s
  else
    let pg := Page.plt k
    let s := s.setInt pg 2
    let gone := (s.plt k).program.filter (fun j => s.pltTooOld j.step)
    let kept := ((s.plt k).program.filter (fun j => !(s.pltTooOld j.step))).map (fun j =>
      { j with seen := s.step.rgnUpd.foldl setIns j.seen })
    let s := (s.setPlt k { s.plt k with program := kept }).count pg Reg.PLT_SB_SKIP gone.length
    match s.pltBound k with
    | some j => if s.pltTooOld j.step then (s.pltClear k).pltEnd k j 6 0 else s
    | none => match gone.getLast? with
      | some j => s.pltProgramEnd k j
      | none => s

/-- Read the step program of the step that the tick has begun. -/
def State.pltProgram (s : State) (k : Nat) : State :=
  let pg := Page.plt k
  let base := bitsOf (s.reg pg Reg.PLT_SB_BASE).toNat 25 6 * 64
  (List.range (s.regFld pg Reg.PLT_SB_COUNT 8 0)).foldl (fun s i =>
    let a := s.pltFetch k (base + 64 * i) i false
    match a.1 with
    | some j => a.2.setPlt k { a.2.plt k with program := (a.2.plt k).program ++ [j] }
    | none => a.2.count pg Reg.PLT_SB_SKIP 1) s

/-- The step program at array k as the step that `STP_COUNT` names begins, after `pltLate`. -/
def State.pltTick (s : State) (k : Nat) : State :=
  let pg := Page.plt k
  if presentIn s.grade pg = false then s
  else
    let s := if s.enabled pg && bit (s.reg pg Reg.PLT_CTRL) 0 then s.pltProgram k else s
    s.pltStart k

/-- Every step-program job has ended or been skipped (R312). -/
def State.pltsDone (s : State) : Bool := (List.range 4).all (fun k => !(s.pltUnfinished k))

/-! ## Side accesses and resets (R298, R299, R324) -/

/-- A requester other than the array reaches its local SRAM. -/
def State.pltSide (s : State) (k : Nat) (op : TarnOp) : (Nat × Bool) × State :=
  let c := s.reg (Page.plt k) Reg.PLT_CTRL
  if presentIn s.grade (Page.plt k) = false then
    (match op with
     | .load _ _ => ((0, false), s)
     | _ => ((0, false), s.absentAcc))
  else match op with
    | .load o n =>
      if bit c 2 && sideAligned o n && decide (o + n ≤ 0x1000000) then
        ((s.num (pltSram k + o) n, !(s.poisonWords (pltSram k + o) n).isEmpty), s)
      else ((0, true), s)
    | .store o l =>
      if bit c 2 && bit c 3 && sideAligned o l.length && decide (o + l.length ≤ 0x1000000) then
        ((0, false), s.sramStore (pltSram k + o) l)
      else ((0, true), s)
    | .atomic _ _ _ => ((0, true), s)

/-- PLT_SIDE_ACCESS: served in a cycle that the array leaves unused, or after 64 cycles. -/
def execPltSideAccess (req : Requester) (plt : Fin 4) (op : TarnOp) (waited : Nat) (busy : Bool) (s : State) :
    Host.Outcome State Fault Refusal :=
  if s.serves req && (!busy || decide (64 ≤ waited)) then
    let a := s.pltSide plt op
    .next (a.2.answer a.1.1 a.1.2)
  else .next s

/-- Entry to NAP: a detached job ends with ABORTED (R324). -/
def State.pltNap (s : State) (k : Nat) : State :=
  let p := s.plt k
  let ends := p.held.toList ++ (p.job.filter (·.ring)).toList
  let s := s.setPlt k { p with held := none, abort := false, job := p.job.filter (fun j => !j.ring) }
  ends.foldl (fun s j => s.pltEnd k j 7 0) s

/-- Descriptors in the detached ring that have not ended. -/
def State.dtUsed (s : State) (k : Nat) : Nat :=
  let size := 2 ^ s.regFld (Page.plt k) Reg.PLT_DT_SIZE 3 0
  (s.regFld (Page.plt k) Reg.PLT_DT_TAIL 11 0 + size - s.regFld (Page.plt k) Reg.PLT_DT_HEAD 11 0 % size) % size

/-- Every job of the array is gone (R324). -/
def State.pltDrop (s : State) (k : Nat) : State :=
  let s := { s with dram := { s.dram with reqs := s.dram.reqs.filter (fun q => q.who != pltWho k) } }
  s.setPlt k { ended := (s.plt k).ended + s.dtUsed k }

end Sys2Proof.Machine
end

