-- ==== Sys2Proof/Machine/Ingress.lean ====
section
/-! DEFINITION. Signal ingress (R325–R360): JESD204C links, the mixer and the decimator, the encoder channels, sample
blocks, the CSI-2 receivers, the AER ports and the sensor map unit. -/
namespace Sys2Proof.Machine
open Sys2Proof

abbrev Page.ing : Nat := 0x50
def Page.enc (c : Nat) : Nat := 0x80 + c
def Page.evc (i : Nat) : Nat := 0x54 + i
abbrev Page.evcMap : Nat := 0x58
def Page.aer (j : Nat) : Nat := 0x5A + j

def State.encState (s : State) (c : Nat) : EncState := (Store.find s.ingress.enc c).getD {}
def State.setEnc (s : State) (c : Nat) (x : EncState) : State :=
  { s with ingress := { s.ingress with enc := Store.put s.ingress.enc c x } }

/-! ## JESD204C links (R328–R333) -/

/-- A register of link k (R355). -/
def State.link (s : State) (k off : Nat) : W32 := s.reg Page.ing (off + 0x20 * k)
def State.setLink (s : State) (k off : Nat) (v : W32) : State := s.setReg Page.ing (off + 0x20 * k) v
/-- Link states: 0 DOWN, 1 CDR_LOCK, 2 SYNC, 3 EMB_LOCK, 4 ALIGNED (R355). -/
def State.linkState (s : State) (k : Nat) : Nat := fld (s.link k Reg.ING_LSTATk) 31 29
def State.setLinkState (s : State) (k x : Nat) : State :=
  s.setFld Page.ing (Reg.ING_LSTATk + 0x20 * k) 31 29 x
def State.linkOn (s : State) (k : Nat) : Bool := s.grade.ingress && bit (s.link k Reg.ING_LCFGk) 0

/-- Lanes of a configuration word. -/
def lcfgLanes (v : W32) : List Nat := (List.range (fld v 27 24)).map (fun i => fld v 31 28 + i)

/-- The enable is refused (R333). -/
def State.linkRefused (s : State) (k : Nat) (v : W32) : Bool :=
  let l := fld v 27 24
  let rate := fld (s.link k Reg.ING_LRATEk) 15 0
  l == 0 || decide (8 < l) || decide (16 < fld v 31 28 + l) || fld v 19 18 == 3 || decide (fld v 17 14 < 7)
  || decide (rate < 6000) || decide (32500 < rate)
  || (List.range 4).any (fun j => j != k && s.linkOn j
        && (lcfgLanes (s.link j Reg.ING_LCFGk)).any (fun x => (lcfgLanes v).contains x))

/-- A write to `ING_LCFGk`. -/
def State.linkWrite (s : State) (k : Nat) (v0 : W32) : State :=
  let v := v0 &&& 0xFFFFFFC3
  let was := s.linkOn k
  if bit v 0 && s.linkRefused k v then
    (if was then s else s.setLink k Reg.ING_LCFGk (v &&& 0xFFFFFFFE)).setErr Page.ing 0
  else
    let s := s.setLink k Reg.ING_LCFGk v
    if bit v 0 && was then s
    else
      let s := (s.setLinkState k 0).setFld Page.ing (Reg.ING_LSTATk + 0x20 * k) 7 0 0
      { s with ingress := { s.ingress with lemc := setDel s.ingress.lemc k } }

/-- LINK_ENABLE: a write of `v`, with 1 in EN, to `ING_LCFGk` (R330, R333). -/
def execLinkEnable (req : Requester) (link : Fin 4) (v : W32) (s : State) : Host.Outcome State Fault Refusal :=
  .next (s.ifAdmit req Page.ing (Reg.ING_LCFGk + 0x20 * link.val) (fun s => s.linkWrite link (v ||| 1)))

/-- Every lane of the link is locked. -/
def State.lanesLocked (s : State) (k : Nat) : State :=
  s.setFld Page.ing (Reg.ING_LSTATk + 0x20 * k) 7 0 (2 ^ fld (s.link k Reg.ING_LCFGk) 27 24 - 1)

/-- JESD_CDR_LOCK -/
def execJesdCdrLock (link : Fin 4) (s : State) : Host.Outcome State Fault Refusal :=
  if s.clocked && s.linkOn link && s.linkState link == 0 then .next (s.setLinkState link 1) else .next s

/-- JESD_SYNC_LOCK -/
def execJesdSyncLock (link : Fin 4) (s : State) : Host.Outcome State Fault Refusal :=
  if s.clocked && s.linkOn link && s.linkState link == 1 then .next ((s.setLinkState link 2).lanesLocked link) else .next s

/-- JESD_EMB_LOCK -/
def execJesdEmbLock (link : Fin 4) (s : State) : Host.Outcome State Fault Refusal :=
  if s.clocked && s.linkOn link && s.linkState link == 2 then .next ((s.setLinkState link 3).lanesLocked link) else .next s

/-- Channels in a mode, by the link that feeds them. -/
def State.encMode (s : State) (c : Nat) : Nat :=
  let m := s.regFld (Page.enc c) Reg.ENC_CFG 31 29
  if m = 7 then 0 else m
def State.encRunning (s : State) (c : Nat) : Bool := s.grade.ingress && s.encMode c != 0
/-- The encoder channels' clock, which PLL0 feeds, runs (R613, R616). -/
def State.encClock (s : State) : Bool := s.clocked && !(bit (s.reg Page.clk Reg.CLK_PLLn_STAT) 30)
def State.encLink (s : State) (c : Nat) : Nat := s.regFld (Page.enc c) Reg.ENC_SRC 5 4

/-- Change every running channel that a test admits. -/
def State.mapEnc (s : State) (f : Nat → Bool) (g : Nat → EncState → EncState) : State :=
  (List.range 64).foldl (fun s c => if s.encRunning c && f c then s.setEnc c (g c (s.encState c)) else s) s

/-- JESD_ALIGNED: the elastic buffers are released after the delay that follows an aligned LEMC boundary (R330). The latency
is the same at every start of the link with the same configuration (R332), to within 1 ns, which `jitter` gives. -/
def execJesdAligned (link : Fin 4) (jitter : Bool) (s : State) : Host.Outcome State Fault Refusal :=
  if s.clocked && s.linkOn link && s.linkState link == 3 && s.ingress.lemc.contains link.val then
    let base := Config.num (2 ^ 100 + (s.link link Reg.ING_LCFGk).toNat * 2 ^ 40
      + (s.link link Reg.ING_LRATEk).toNat * 2 ^ 16 + (s.link link Reg.ING_RBDk).toNat * 4 + link.val)
    let s := (s.setLinkState link 4).setLink link Reg.ING_LAT_NSk
      (BitVec.ofNat 32 ((base + (if jitter then 1 else 0)) % 65536))
    .next (s.mapEnc (fun c => s.encLink c == link.val) (fun _ e => { e with first := true }))
  else .next s

/-- JESD_LINK_LOSS: a lane has lost sync header lock for four blocks (R330). -/
def execJesdLinkLoss (link : Fin 4) (lane : Fin 8) (s : State) : Host.Outcome State Fault Refusal :=
  if s.clocked && s.linkOn link && s.linkState link == 4 then
    let s := (s.setLinkState link 2).clrReg Page.ing (Reg.ING_LSTATk + 0x20 * link.val) (bitWord lane)
    let s := s.countInt Page.ing (Reg.ING_LOSSk + 0x20 * link.val) 0 1
    let s := { s with ingress := { s.ingress with lemc := setDel s.ingress.lemc link } }
    .next ((List.range 64).foldl (fun s c =>
      if s.encRunning c && s.encLink c == link.val then s.setInt (Page.enc c) 0 else s) s)
  else .next s

/-- SYSREF_EDGE; `off` says whether the edge falls off the LEMC boundary of an aligned link (R331). -/
def execSysrefEdge (off : Bool) (s : State) : Host.Outcome State Fault Refusal :=
  let mode := s.regFld Page.ing Reg.ING_SYSREF_CTRL 1 0
  if s.clocked && s.grade.ingress && (mode == 1 || mode == 2) then
    let s := (s.setReg64 Page.ing Reg.ING_SYSREF_NS s.elapsed).count Page.ing Reg.ING_SYSREF_CNT 1
    let s := if mode = 1 then s.setFld Page.ing Reg.ING_SYSREF_CTRL 1 0 0 else s
    let aligned := (List.range 4).any (fun k => s.linkOn k && s.linkState k == 4)
    let lemc := (List.range 4).foldl (fun l k => if s.linkOn k && s.linkState k != 4 then setIns l k else l) s.ingress.lemc
    let s := { s with ingress := { s.ingress with lemc := lemc } }
    let s := s.mapEnc (fun c => bit (s.reg (Page.enc c) Reg.ENC_CFG) 24)
      (fun c e => { e with phase := (s.reg (Page.enc c) Reg.ENC_NCO_PHASE).toNat })
    let s := s.tmrSource 18
    .next (if off && aligned then s.countInt Page.ing Reg.ING_SYSREF_MIS 2 1 else s)
  else .next s

/-! ## Mixer and decimator (R335, R336) -/

/-- π/2 × 2⁹⁶. -/
def halfPiFix : Nat := 0x1921FB54442D18469898CC517

/-- cos and sin of an angle below π/2, given in units of π/2³¹, times 2⁹⁶. -/
def cosSin (r : Nat) : Int × Int :=
  let x := r * halfPiFix / 2 ^ 30
  let f (a : Int × Int × Nat) (n : Nat) : Int × Int × Nat :=
    let t := a.2.2 * x / 2 ^ 96 / (n + 1)
    if n % 4 = 0 then (a.1 + a.2.2, a.2.1, t) else if n % 4 = 1 then (a.1, a.2.1 + a.2.2, t)
    else if n % 4 = 2 then (a.1 - a.2.2, a.2.1, t) else (a.1, a.2.1 - a.2.2, t)
  let y := (List.range 40).foldl f (0, 0, 2 ^ 96)
  (y.1, y.2.1)

/-- cos and sin of 2π φ / 2³², times 2⁹⁶. -/
def cosSinTurn (phi : Nat) : Int × Int :=
  let a := cosSin (phi % 2 ^ 30)
  let q := phi / 2 ^ 30 % 4
  if q = 0 then a else if q = 1 then (-a.2, a.1) else if q = 2 then (-a.1, -a.2) else (a.2, -a.1)

/-- One input sample through the mixer, narrowed at the MIX site. -/
def State.encMix (s : State) (c : Nat) (e : EncState) (i q : Int) : (Int × Int) × State :=
  let pg := Page.enc c
  if bit (s.reg pg Reg.ENC_CFG) 25 then
    let w := cosSinTurn e.phase
    let a := s.siteInt pg 0 16 (roundShift (i * w.1 + q * w.2) 96)
    let b := a.2.siteInt pg 0 16 (roundShift (q * w.1 - i * w.2) 96)
    ((a.1, b.1), b.2)
  else ((i, q), s)

/-- A chain of integrators takes a value. -/
def integrate (x : Int) : List Int → List Int
  | [] => []
  | a :: l => (a + x) :: integrate (a + x) l

/-- A chain of combs takes a value: its output and its new state. -/
def combs (x : Int) : List Int → Int × List Int
  | [] => (x, [])
  | a :: l => let y := combs (x - a) l; (y.1, x :: y.2)

/-- Ratio of the CIC and half-band stages of a configuration word. -/
def cicRatio (v : W32) : Nat := max 1 (fld v 23 17)
def halfBands (v : W32) : Nat := fld v 16 14

/-- The stream is complex after the mixer (R334, R335). -/
def State.encComplex (s : State) (c : Nat) : Bool :=
  bit (s.reg (Page.enc c) Reg.ENC_SRC) 31 || bit (s.reg (Page.enc c) Reg.ENC_CFG) 25

/-- An output of the CIC after its gain. -/
def State.decGain (s : State) (c : Nat) (acc : Int) : Int :=
  let g := s.reg (Page.enc c) Reg.ENC_DEC_GAIN
  roundShift (acc * fld g 31 16) (fld g 5 0)

/-- The decimator has a value for the encoder: with half-band stages, whose coefficients the spec does not give, it is free;
it is narrowed at the DEC site. -/
def State.encOut (s : State) (c : Nat) (e : EncState) (i q : Int) : EncState × State :=
  let pg := Page.enc c
  let hb := halfBands (s.reg pg Reg.ENC_CFG)
  if e.half + 1 < 2 ^ hb then ({ e with half := e.half + 1 }, s)
  else
    let free (n : Nat) : Int := toSigned 32 (Config.word (s.fresh + n)).toNat
    let v : Int × Int := if hb = 0 then (i, q) else (free 0, if s.encComplex c then free 1 else 0)
    let s := if hb = 0 then s else { s with fresh := s.fresh + 2 }
    let a := s.siteInt pg 1 16 v.1
    let b := a.2.siteInt pg 1 16 v.2
    ({ e with half := 0, bad := 0, samples := e.samples ++ [{ i := a.1, q := b.1, bad := e.bad }] }, b.2)

/-- One input sample of a running channel (R329, R333–R336). -/
def State.encInput (s : State) (c : Nat) (i q : Int) (ok : Bool) : State :=
  let pg := Page.enc c
  let e := s.encState c
  let x := if ok then (i, q) else e.last
  let s := if ok then s else s.count pg Reg.ENC_INVALID 1
  let m := s.encMix c e x.1 x.2
  let e := { e with last := x, bad := e.bad + (if ok then 0 else 1)
                    phase := (e.phase + (m.2.reg pg Reg.ENC_NCO_FTW).toNat) % 2 ^ 32
                    intI := integrate m.1.1 e.intI, intQ := integrate m.1.2 e.intQ, cnt := e.cnt + 1 }
  let s := m.2
  if e.cnt < cicRatio (s.reg pg Reg.ENC_CFG) then s.setEnc c e
  else
    let ci := combs (e.intI.getD 4 0) e.combI
    let cq := combs (e.intQ.getD 4 0) e.combQ
    let o := s.encOut c { e with cnt := 0, combI := ci.2, combQ := cq.2 } (s.decGain c ci.1) (s.decGain c cq.1)
    o.2.setEnc c o.1

/-- A converter's sample of N bits as S16 (R329). -/
def State.converter (s : State) (k : Nat) (frame : List Nat) (m : Nat) : Int :=
  let n := fld (s.link k Reg.ING_LCFGk) 17 14 + 1
  toSigned 16 (frame.getD m 0 % 2 ^ n * 2 ^ (16 - n))

/-- JESD_MULTIBLOCK: the samples of a multiblock, one list for each sampling instant with one value for each converter;
`ok` says whether the CRC-12 holds (R333, R334). -/
def execJesdMultiblock (link : Fin 4) (ok : Bool) (frames : List (List Nat)) (s : State) : Host.Outcome State Fault Refusal :=
  if s.clocked && s.linkOn link && s.linkState link == 4 then
    let good := ok || !(bit (s.link link Reg.ING_LCFGk) 1)
    let s := if good then s else s.countInt Page.ing (Reg.ING_CRC_ERRk + 0x20 * link.val) 1 1
    .next (frames.foldl (fun s fr => (List.range 64).foldl (fun s c =>
      if s.encRunning c && s.encLink c == link.val then
        let src := s.reg (Page.enc c) Reg.ENC_SRC
        let m := fld src 3 0
        s.encInput c (s.converter link fr m) (if bit src 31 then s.converter link fr (m + 1) else 0) good
      else s) s) s)
  else .next s

/-! ## Starting and stopping a channel (R336, R337, R342, R345) -/

/-- Threshold i, from the words that `rd` gives. -/
def encThr (rd : Nat → W32) (i : Nat) : Int :=
  let w := rd (Reg.ENC_THR0 + 4 * (i / 2))
  toSigned 16 (if i % 2 = 0 then fld w 15 0 else fld w 31 16)

/-- The parameters of a mode lie in their ranges (R339, R342). (DESIGN CHOICE, log 58) -/
def encParamOk (mode : Nat) (rd : Nat → W32) : Bool :=
  let lo := fld (rd Reg.ENC_PARAM) 15 0
  let n := fld (rd Reg.ENC_PARAM) 31 16
  if mode = 1 then
    decide (lo ≤ 32767 ∧ 1 ≤ n ∧ n ≤ 16) && (List.range (n - 1)).all (fun i => decide (encThr rd i < encThr rd (i + 1)))
    && decide (fld (rd Reg.ENC_UP) 11 0 + n ≤ 4096 ∧ fld (rd Reg.ENC_DOWN) 11 0 + n ≤ 4096)
  else if mode = 2 then decide (1 ≤ lo ∧ lo ≤ 32767)
  else if mode = 3 then decide (lo ≤ 32767)
  else true

/-- Sample rate of a channel's input times 66 × M × N' (R329), and that product. -/
def State.encRate (s : State) (c : Nat) : Nat × Nat :=
  let v := s.link (s.encLink c) Reg.ING_LCFGk
  let np := fld v 19 18
  (fld (s.link (s.encLink c) Reg.ING_LRATEk) 15 0 * fld v 27 24 * 64,
   66 * (fld v 23 20 + 1) * (if np = 0 then 8 else if np = 1 then 12 else 16))

/-- N, slots and stride of sample blocks (R344). -/
def State.blkLog (s : State) (c : Nat) : Nat := s.regFld (Page.enc c) Reg.ENC_BLK_CFG 3 0
def State.blkSlots (s : State) (c : Nat) : Nat := 2 ^ s.regFld (Page.enc c) Reg.ENC_BLK_CFG 7 4
def State.blkStride (s : State) (c : Nat) : Nat := 64 + 64 * ((4 * 2 ^ s.blkLog c + 63) / 64)
def State.blkPlt (s : State) (c : Nat) : Nat := s.regFld (Page.enc c) Reg.ENC_BLK_CFG 9 8
def State.blkCount (s : State) (c : Nat) : Nat := s.regFld (Page.enc c) Reg.ENC_BLK_CFG 11 10
/-- Tarn range offset of slot 0, and the bank. -/
def State.blkBase (s : State) (c : Nat) : Nat := s.regFld (Page.enc c) Reg.ENC_BLK_BASE 25 6 * 64
def State.blkBank (s : State) (c : Nat) : Nat := s.blkBase c / 0x80000

/-- The secure attribute of a channel's writes (R643). -/
def State.encSecure (s : State) (c : Nat) : Bool := bit (s.reg (Page.enc c) Reg.PG_SEC) 31

/-- The bank takes the channel's writes, as its owner or through the side port (R188, R189, R192, R345). -/
def State.blkAdmits (s : State) (c : Nat) : Bool :=
  let b := s.blkBank c
  let side := s.reg (Page.bank b) Reg.TAR_SIDE
  (s.bank b).power == 2 && !(s.bank b).clearing && (s.encSecure c || !(s.bankSecure b))
  && ((s.owner b == 5 && !(s.bank b).draining && (s.bank b).powerReq.isNone) || (bit side 0 && bit side 1))

/-- A BLOCK-mode channel may start (R345). -/
def State.blkOk (s : State) (c : Nat) : Bool :=
  let b := s.blkBank c
  let k := s.blkPlt c
  decide (3 ≤ s.blkLog c ∧ s.regFld (Page.enc c) Reg.ENC_BLK_CFG 7 4 ≤ 8)
  && decide (s.blkBase c % 0x80000 + s.blkSlots c * s.blkStride c ≤ 0x80000)
  && (s.owner b == 5 || bit (s.reg (Page.bank b) Reg.TAR_SIDE) 1)
  && (s.blkCount c == 0 || (s.owner b == k + 1 && decide (k < s.grade.plts)))

/-- The channel may start with configuration word `v` (R334, R336, R337, R342, R345). -/
def State.encStartOk (s : State) (c : Nat) (v : W32) : Bool :=
  let pg := Page.enc c
  let src := s.reg pg Reg.ENC_SRC
  let complex := bit src 31 || bit v 25
  let r := s.encRate c
  let mode := fld v 31 29
  encParamOk mode (s.reg pg) && fld v 27 26 != 3 && halfBands v != 7 && decide (fld v 23 17 ≤ 64)
  && (fld v 27 26 != 1 || complex) && decide (r.1 ≤ 1000 * r.2 * cicRatio v * 2 ^ halfBands v)
  && (!(bit src 31) || (fld src 3 0 % 2 == 0
        && decide (fld src 3 0 + 1 ≤ fld (s.link (s.encLink c) Reg.ING_LCFGk) 23 20)))
  && (mode != 6 || s.blkOk c)

/-- The channel stops and its unsent events are discarded (R342). -/
def State.encStop (s : State) (c : Nat) (v : W32) : State :=
  (s.setReg (Page.enc c) Reg.ENC_CFG (v &&& 0x0FFFC000)).setEnc c {}

/-- The channel starts, or is refused (R342). -/
def State.encStart (s : State) (c : Nat) (v0 : W32) : State :=
  let pg := Page.enc c
  let v := v0 &&& 0xEFFFC000
  if s.encStartOk c v then
    let r := s.encRate c
    let s := s.setReg pg Reg.ENC_CFG v
    let s := s.setReg pg Reg.ENC_RATE_KSPS (BitVec.ofNat 32 (1000 * r.1 / (r.2 * cicRatio v * 2 ^ halfBands v) % 2 ^ 20))
    let s := s.setReg pg Reg.ENC_GDLY_NS (BitVec.ofNat 32
      (Config.num (2 ^ 110 + v.toNat * 2 ^ 40 + (s.link (s.encLink c) Reg.ING_LRATEk).toNat) % 65536))
    let s := (s.setEnc c { phase := (s.reg pg Reg.ENC_NCO_PHASE).toNat, blkSeq := (Config.word s.fresh).toNat }).useFresh
    if s.linkState (s.encLink c) = 4 then s else s.setInt pg 0
  else (s.setReg pg Reg.ENC_CFG (v &&& 0x1FFFFFFF)).setErr pg 0

/-- A write to `ENC_CFG`. -/
def State.encCfg (s : State) (c : Nat) (v : W32) : State :=
  let off := fld v 31 29 == 0 || fld v 31 29 == 7
  if s.encRunning c then (if off then s.encStop c v else s.setErr (Page.enc c) 0)
  else if off then s.setReg (Page.enc c) Reg.ENC_CFG (v &&& 0xEFFFC000)
  else if s.faulted (Page.enc c) then s.setErr (Page.enc c) 0
  else s.encStart c v

/-- CHANNEL_START: a write to `ENC_CFG` with a MODE other than OFF. -/
def execChannelStart (req : Requester) (chan : Fin 64) (v : W32) (s : State) : Host.Outcome State Fault Refusal :=
  if fld v 31 29 = 0 ∨ fld v 31 29 = 7 then .next s
  else .next (s.ifAdmit req (Page.enc chan) Reg.ENC_CFG (fun s => s.encCfg chan v))

/-- CHANNEL_STOP: a write of MODE = OFF. -/
def execChannelStop (req : Requester) (chan : Fin 64) (v : W32) (s : State) : Host.Outcome State Fault Refusal :=
  .next (s.ifAdmit req (Page.enc chan) Reg.ENC_CFG (fun s => s.encCfg chan (v &&& 0x1FFFFFFF)))

/-- Registers whose writes a running channel posts (R342), with the words that a write of `v` stores. -/
def encPosted (off : Nat) (v : W64) : List (Nat × W32) :=
  let lo : W32 := v.truncate 32
  let hi : W32 := (v >>> 32).truncate 32
  if off = Reg.ENC_PARAM then [(off, lo)]
  else if off = Reg.ENC_UP ∨ off = Reg.ENC_DOWN then [(off, lo), (off + 4, hi &&& 0xF0000FFF)]
  else if Reg.ENC_THR0 ≤ off ∧ off < Reg.ENC_THR0 + 32 ∧ off % 4 = 0 then [(off, lo)]
  else []

/-- The write of an admitted requester to such a register. -/
def State.encPost (s : State) (req : Requester) (c off : Nat) (v : W64) : State :=
  let pg := Page.enc c
  let l := encPosted off v
  if s.encRunning c = false then l.foldl (fun s x => s.setReg pg x.1 x.2) s
  else
    let e := s.encState c
    let all := e.posts ++ l
    let rd (o : Nat) : W32 := all.foldl (fun w x => if x.1 = o then x.2 else w) (s.reg pg o)
    if encParamOk (s.encMode c) rd = false then s.setErr pg 0
    else if s.running then (s.setEnc c { e with posts := all }).posted req
    else l.foldl (fun s x => s.setReg pg x.1 x.2) s

/-- ENC_POSTED_WRITE (R342). -/
def execEncPostedWrite (req : Requester) (chan : Fin 64) (off : Nat) (v : W64) (s : State) : Host.Outcome State Fault Refusal :=
  .next (s.ifAdmit req (Page.enc chan) off (fun s => s.encPost req chan off v))

/-- Posted writes of the channels take effect at a summit. -/
def State.encSummit (s : State) : State :=
  (List.range 64).foldl (fun s c =>
    let e := s.encState c
    if e.posts.isEmpty then s
    else (e.posts.foldl (fun s x => s.setReg (Page.enc c) x.1 x.2) s).setEnc c { e with posts := [] }) s

/-- Writes to the ENC page that do more than store; a running channel's configuration is fixed (R342). -/
def State.encWrite (s : State) (req : Requester) (c off : Nat) (v : W32) : Option State :=
  if off = Reg.ENC_CFG then some (s.encCfg c v)
  else if (encPosted off 0).isEmpty = false then some (s.encPost req c off (v.zeroExtend 64))
  else if s.encRunning c ∧ (off = Reg.ENC_SRC ∨ off = Reg.ENC_NCO_FTW ∨ off = Reg.ENC_NCO_PHASE ∨ off = Reg.ENC_DEC_GAIN
      ∨ off = Reg.ENC_TOFF_NS ∨ off = Reg.ENC_BLK_CFG ∨ off = Reg.ENC_BLK_BASE ∨ off = Reg.ENC_BLK_TMPL) then
    some (s.setErr (Page.enc c) 0)
  else none

/-! ## Events of an encoder channel (R326, R341) -/

/-- Sub-step offset of a sample time in an event stamped with a step (R326). -/
def State.sampleOff (s : State) (t : Int) (step : Nat) : Nat :=
  let p := (s.reg Page.stp Reg.STP_PERIOD_ACT).toNat
  if s.stepNo < step ∨ p = 0 then 0
  else min 65535 ((t - s.reg64 Page.stp Reg.STP_TICK_NS).toNat * 65536 / p)

/-- An event to destination register `dest` with row selector raised by k and value g (R339, R341). -/
def State.encSend (s : State) (c dest k : Nat) (g t : Int) : State :=
  let pg := Page.enc c
  let m := s.reg64 pg dest
  if emitValid m = false then s
  else
    let w : W32 := BitVec.ofNat 32 (m + k)
    let kind := emitKind m
    let a := if kind = 0 then (0, s) else s.siteConv pg 2 (if kind = 1 then 3 else 7) (Num.ofInt g)
    let s := a.2
    let e := s.encState c
    if 256 ≤ e.events.length then s.countInt pg Reg.ENC_DROP 1 1
    else s.setEnc c { e with events := e.events ++ [{ t := t, group := e.group, chip := s.emitChip m, binary := kind == 0
                                                      word := w, value := BitVec.ofNat 16 a.1 }] }

/-- The words of a waiting event, stamped with a step. -/
def State.encWords (s : State) (e : EncEvent) (step : Nat) : OutEvent :=
  { chip := e.chip, binary := e.binary
    words := if e.binary then [e.word] else [e.word, e.value ++ BitVec.ofNat 16 (s.sampleOff e.t step)] }

/-- Events at the head that share a packet with the first, at most n. -/
def State.encTake (s : State) (step n : Nat) (cur : OutEvent) (group : Nat) : List EncEvent → Nat × OutEvent
  | [] => (n, cur)
  | e :: l =>
    let w := s.encWords e step
    if e.group = group ∧ w.joins cur then s.encTake step (n + 1) { cur with words := cur.words ++ w.words } group l
    else (n, cur)

/-- The LOCAL input of node 7 has a credit for another event packet (R201, R214). -/
def State.node7Credit (s : State) : Bool := decide (s.bufClaims 135 11 1 < bufPlaces 1)

/-- A channel injects its next packet. -/
def State.encInject (s : State) (c : Nat) : State :=
  let e := s.encState c
  match e.events with
  | [] => s
  | x :: l =>
    if s.node7Credit then
      let step := s.stamp
      let a := s.encTake step 1 (s.encWords x step) x.group l
      let s := (s.setEnc c { e with events := e.events.drop a.1 }).count (Page.enc c) Reg.ENC_EVENTS a.1
      s.sendNode 7 (a.2.packet step false)
    else s

/-- Waiting events of every channel are injected while the node takes them: one packet for each channel. -/
def State.encDrain (s : State) : State := s.ingress.enc.foldl (fun s x => s.encInject x.1) s

/-! ## Encoder modes (R337–R340) -/

/-- Largest number whose square is at most n. -/
def isqrt (n : Nat) : Nat :=
  (List.range 20).foldl (fun r i => let t := r + 2 ^ (19 - i); if t * t ≤ n then t else r) 0

/-- The value that the encoder sees (R337). -/
def State.encValue (s : State) (c : Nat) (d : DecSample) : Int × State :=
  let sel := s.regFld (Page.enc c) Reg.ENC_CFG 27 26
  if sel = 1 then (d.q, s)
  else if sel = 2 then
    s.siteInt (Page.enc c) 0 16 (if s.encComplex c then (((isqrt (4 * (d.i * d.i + d.q * d.q).toNat) + 1) / 2 : Nat) : Int)
      else d.i.natAbs)
  else (d.i, s)

/-- R340: the first sample sets the mode state. -/
def State.encFirst (s : State) (c : Nat) (x t : Int) : State :=
  let rd := s.reg (Page.enc c)
  let n := fld (rd Reg.ENC_PARAM) 31 16
  let lvl := if s.encMode c = 1 then ((List.range n).filter (fun i => decide (encThr rd i ≤ x))).length else 0
  s.setEnc c { s.encState c with first := false, lvl := lvl, ref := x, pos := decide (0 < x), x1 := x, x2 := x, t1 := t
                                 hold := 0, armed := false }

/-- LEVEL: the thresholds that x has reached are passed upwards. -/
def State.levelUp (s : State) (c : Nat) (x t : Int) (n : Nat) : State :=
  (List.range 16).foldl (fun s _ =>
    let e := s.encState c
    if e.lvl < n ∧ encThr (s.reg (Page.enc c)) e.lvl ≤ x then
      let s := s.encSend c Reg.ENC_UP e.lvl 1 t
      s.setEnc c { s.encState c with lvl := e.lvl + 1 }
    else s) s

/-- LEVEL: the thresholds that x has left are passed downwards. -/
def State.levelDown (s : State) (c : Nat) (x t : Int) (hyst : Int) : State :=
  (List.range 16).foldl (fun s _ =>
    let e := s.encState c
    if 0 < e.lvl ∧ x < encThr (s.reg (Page.enc c)) (e.lvl - 1) - hyst then
      let s := s.encSend c Reg.ENC_DOWN (e.lvl - 1) (-1) t
      s.setEnc c { s.encState c with lvl := e.lvl - 1 }
    else s) s

def encLevel (c : Nat) (x t : Int) (s : State) : State :=
  let p := s.reg (Page.enc c) Reg.ENC_PARAM
  (s.levelUp c x t (fld p 31 16)).levelDown c x t (fld p 15 0)

def encDelta (c : Nat) (x t : Int) (s : State) : State :=
  let d : Int := s.regFld (Page.enc c) Reg.ENC_PARAM 15 0
  let e := s.encState c
  if d ≤ x - e.ref then
    let k := (x - e.ref) / d
    let s := s.encSend c Reg.ENC_UP 0 k t
    s.setEnc c { s.encState c with ref := e.ref + k * d }
  else if d ≤ e.ref - x then
    let k := (e.ref - x) / d
    let s := s.encSend c Reg.ENC_DOWN 0 (-k) t
    s.setEnc c { s.encState c with ref := e.ref - k * d }
  else s

def encZc (c : Nat) (x t : Int) (s : State) : State :=
  let hyst : Int := s.regFld (Page.enc c) Reg.ENC_PARAM 15 0
  let e := s.encState c
  if e.pos = false ∧ hyst < x then (s.setEnc c { e with pos := true }).encSend c Reg.ENC_UP 0 1 t
  else if e.pos ∧ x < -hyst then (s.setEnc c { e with pos := false }).encSend c Reg.ENC_DOWN 0 (-1) t
  else s

def encPeak (c : Nat) (x t : Int) (s : State) : State :=
  let p := s.reg (Page.enc c) Reg.ENC_PARAM
  let thr := toSigned 16 (fld p 15 0)
  let e := s.encState c
  let s := if 0 < e.hold then s.setEnc c { e with hold := e.hold - 1 }
           else if thr ≤ e.x1 ∧ e.x2 < e.x1 ∧ x ≤ e.x1 then
             (s.setEnc c { e with hold := fld p 31 16 }).encSend c Reg.ENC_UP 0 e.x1 e.t1
           else s
  s.setEnc c { s.encState c with x2 := e.x1, x1 := x, t1 := t }

def encLatency (c : Nat) (x t : Int) (s : State) : State :=
  let thr := toSigned 16 (s.regFld (Page.enc c) Reg.ENC_PARAM 15 0)
  let e := s.encState c
  if e.armed ∧ thr ≤ x then (s.setEnc c { e with armed := false }).encSend c Reg.ENC_UP 0 1 t else s

/-- `armed := 1` at every tick. -/
def State.encTick (s : State) : State :=
  s.mapEnc (fun c => s.encMode c == 5) (fun _ e => { e with armed := true })

/-- A decimated sample leaves the decimator of a channel that runs in a mode. -/
def State.encSample (s : State) (c mode : Nat) (f : Nat → Int → Int → State → State) : State :=
  let e := s.encState c
  if s.encClock && s.encRunning c && s.encMode c == mode then
    match e.samples with
    | [] => s
    | d :: l =>
      let s := s.setEnc c { e with samples := l, group := e.group + 1 }
      let v := s.encValue c d
      let t : Int := (s.elapsed : Int) - v.2.regFld (Page.enc c) Reg.ENC_TOFF_NS 15 0
      let s := if e.first then v.2.encFirst c v.1 t else f c v.1 t v.2
      s.encInject c
  else s

/-- LEVEL -/
def execLevel (chan : Fin 64) (s : State) : Host.Outcome State Fault Refusal := .next (s.encSample chan 1 encLevel)
/-- DELTA -/
def execDelta (chan : Fin 64) (s : State) : Host.Outcome State Fault Refusal := .next (s.encSample chan 2 encDelta)
/-- ZC -/
def execZc (chan : Fin 64) (s : State) : Host.Outcome State Fault Refusal := .next (s.encSample chan 3 encZc)
/-- PEAK -/
def execPeak (chan : Fin 64) (s : State) : Host.Outcome State Fault Refusal := .next (s.encSample chan 4 encPeak)
/-- LATENCY -/
def execLatency (chan : Fin 64) (s : State) : Host.Outcome State Fault Refusal := .next (s.encSample chan 5 encLatency)

/-! ## Sample blocks (R344–R346) -/

/-- Address of the slot of a sequence number. -/
def State.slotAddr (s : State) (c seq : Nat) : Nat := Base.tarn + s.blkBase c + seq % s.blkSlots c * s.blkStride c

/-- The block in progress is dropped: its number stays used (R345). -/
def State.dropBlock (s : State) (c : Nat) : State :=
  let e := s.encState c
  (s.countInt (Page.enc c) Reg.ENC_BLK_DROP 2 1).setEnc c { e with blkPos := 0, blkBad := 0, blkSeq := (e.blkSeq + 1) % 2 ^ 32 }

/-- The header of a block (R344). -/
def blkHeader (e : EncState) (c : Nat) : List Byte :=
  leBytes 4 e.blkSeq ++ leBytes 8 (ofSigned 64 e.blkTime) ++ leBytes 4 (e.blkStep % 2 ^ 32) ++ leBytes 4 e.blkBad
  ++ leBytes 4 c ++ leBytes 40 0

/-- One point of a block is written; with the last one, the header. -/
def State.writePoint (s : State) (c : Nat) (d : DecSample) (t : Int) : State :=
  let pg := Page.enc c
  if s.blkAdmits c = false then
    (s.tarnRefuse (s.blkBank c)).2.dropBlock c
  else
    let e := s.encState c
    let e := if e.blkPos = 0 then { e with blkTime := t, blkStep := s.stepNo, blkBad := 0 } else e
    let e := { e with blkBad := e.blkBad + d.bad }
    let f := if bit (s.reg pg Reg.ENC_BLK_CFG) 12 then 7 else 8
    let code (x : Int) : Nat := (encodeNum f false (Num.ofInt x) none).code
    let a := s.slotAddr c e.blkSeq
    let s := s.sramStore (a + 64 + 4 * e.blkPos) (leBytes 2 (code d.i) ++ leBytes 2 (code d.q))
    if e.blkPos + 1 < 2 ^ s.blkLog c then s.setEnc c { e with blkPos := e.blkPos + 1 }
    else (s.sramStore a (blkHeader e c)).setEnc c
      { e with blkPos := 0, blkBad := 0, blkSeq := (e.blkSeq + 1) % 2 ^ 32, done := e.done ++ [e.blkSeq] }

/-- BLOCK: a decimated sample is written to the current slot; a real stream has an imaginary part of zero. -/
def execBlock (chan : Fin 64) (s : State) : Host.Outcome State Fault Refusal :=
  let e := s.encState chan
  if s.encClock && s.encRunning chan && s.encMode chan == 6 then
    match e.samples with
    | [] => .next s
    | d :: l =>
      let t : Int := (s.elapsed : Int) - s.regFld (Page.enc chan) Reg.ENC_TOFF_NS 15 0
      .next ((s.setEnc chan { e with samples := l, first := false }).writePoint chan d t)
  else .next s

/-- Copy n descriptors of the template into the detached ring of array k at ring index `at` on. -/
def State.copyDescriptors (s : State) (c k n start seq : Nat) : State :=
  let size := 2 ^ s.regFld (Page.plt k) Reg.PLT_DT_SIZE 3 0
  let src := Base.tarn + s.regFld (Page.enc c) Reg.ENC_BLK_TMPL 25 6 * 64
  let ring := Base.tarn + s.regFld (Page.plt k) Reg.PLT_DT_BASE 25 6 * 64
  let point := s.slotAddr c seq + 64
  (List.range n).foldl (fun s i =>
    let w (j : Nat) : Nat :=
      let x := s.word (src + 64 * i + 4 * j)
      (if j = 0 then withFld x 7 0 seq
       else if j = 8 ∧ i = 0 then BitVec.ofNat 32 point
       else if j = 9 ∧ i = 0 then withFld x 19 0 (point / 2 ^ 32)
       else x).toNat
    s.sramStore (ring + 64 * ((start + i) % size)) ((List.range 16).map (fun j => leBytes 4 (w j))).flatten) s

/-- BLOCK_COMPLETE: the writes of the oldest written block have completed (R346). -/
def execBlockComplete (chan : Fin 64) (s : State) : Host.Outcome State Fault Refusal :=
  let e := s.encState chan
  let pg := Page.enc chan
  match e.done with
  | [] => .next s
  | seq :: l =>
    if s.clocked = false then .next s
    else
      let s := (s.setEnc chan { e with done := l }).setReg pg Reg.ENC_BLK_SEQ (BitVec.ofNat 32 seq)
      let n := s.blkCount chan
      let k := s.blkPlt chan
      let slot := seq % s.blkSlots chan
      let used := s.dtUsed k
      let size := 2 ^ s.regFld (Page.plt k) Reg.PLT_DT_SIZE 3 0
      if n = 0 then .next s
      else if size ≤ used + n ∨ (s.plt k).ended < numAt e.slots slot then .next (s.countInt pg Reg.ENC_BLK_DROP 2 1)
      else
        let tail := s.regFld (Page.plt k) Reg.PLT_DT_TAIL 11 0
        let s := s.copyDescriptors chan k n tail seq
        let s := s.setEnc chan { s.encState chan with slots := setNum e.slots slot ((s.plt k).ended + used + n) }
        .next ((s.setReg (Page.plt k) Reg.PLT_DT_TAIL (BitVec.ofNat 32 ((tail + n) % size))).pltStart k)

/-- After a freeze every running channel restarts its state (R343). -/
def State.encResume (s : State) : State := s.mapEnc (fun _ => true) (fun _ e => { e with first := true, samples := [] })

/-- `ENC_STAT` (R356). -/
def State.encStat (s : State) (c : Nat) : W32 :=
  let run := s.encRunning c
  BitVec.ofNat 32 ((if run then 2 ^ 31 else 0) + (if run && s.linkState (s.encLink c) != 4 then 2 ^ 30 else 0)
    + min 255 (s.encState c).events.length)

/-! ## CSI-2 receivers (R347–R349) -/

/-- Word w of template t of receiver i. -/
def State.tpl (s : State) (i t w : Nat) : W32 := s.reg (Page.evc i) (Reg.EVC_TPL + 16 * t + 4 * w)

/-- Bits of a template's words. -/
def tplSize (w0 : W32) : Nat := if fld w0 20 19 = 0 then 16 else if fld w0 20 19 = 1 then 32 else 64

/-- A template that R348 refuses, by the word that is written. -/
def tplRefused (n : Nat) (w0 w1 w2 : W32) : Bool :=
  let size := tplSize w0
  let out (pos width : Nat) : Bool := decide (0 < width ∧ size < pos + width)
  (n == 0 && (fld w0 20 19 == 3 || decide (fld w0 26 21 < 0x30) || decide (0x37 < fld w0 26 21)))
  || out (fld w0 18 13) (fld w0 12 10) || out (fld w1 31 26) (fld w1 25 22) || out (fld w1 21 16) (fld w1 15 12)
  || (bit w2 26 && out (fld w1 11 6) 1) || out (fld w1 5 0) (fld w2 31 27)

/-- The bits of a template word that are not reserved. -/
def tplMask (n : Nat) : W32 :=
  if n = 0 then 0xFFFFFFFC else if n = 1 then 0xFFFFFFFF else if n = 2 then 0xFC00FFFF else 0x7

/-- The write of an admitted requester to template word `word` = 4 t + n. -/
def State.tplWrite (s : State) (i word : Nat) (v0 : W32) : State :=
  let n := word % 4
  let v := v0 &&& tplMask n
  let w (k : Nat) : W32 := if k = n then v else s.tpl i (word / 4) k
  if tplRefused n (w 0) (w 1) (w 2) then s.setErr (Page.evc i) 0
  else s.setReg (Page.evc i) (Reg.EVC_TPL + 4 * word) v

/-- TEMPLATE_WRITE (R348). -/
def execTemplateWrite (req : Requester) (rx : Fin 4) (word : Fin 32) (v : W32) (s : State) : Host.Outcome State Fault Refusal :=
  .next (s.ifAdmit req (Page.evc rx) (Reg.EVC_TPL + 4 * word.val) (fun s => s.tplWrite rx word v))

def State.anchor (s : State) (i vc : Nat) : CsiAnchor := (Store.find s.ingress.anchors (16 * i + vc)).getD {}
def State.setAnchor (s : State) (i vc : Nat) (a : CsiAnchor) : State :=
  { s with ingress := { s.ingress with anchors := Store.put s.ingress.anchors (16 * i + vc) a } }

/-- The receiver takes packets: it is enabled and locked. -/
def State.evcTakes (s : State) (i : Nat) : Bool :=
  s.runs (181 + i) && bit (s.reg (Page.evc i) Reg.EVC_CTRL) 0 && bit (s.reg (Page.evc i) Reg.EVC_STAT) 31

/-- CSI2_LOCK_CHANGE: lock is gained, or lost with LINK_ERR; anchors do not outlast a loss (R357, R360). -/
def execCsi2LockChange (rx : Fin 4) (locked : Bool) (s : State) : Host.Outcome State Fault Refusal :=
  let pg := Page.evc rx
  if s.clocked = false then .next s
  else if locked then
    .next (if bit (s.reg pg Reg.EVC_CTRL) 0 then s.orReg pg Reg.EVC_STAT (bitWord 31) else s)
  else if bit (s.reg pg Reg.EVC_STAT) 31 then .next ((s.clrReg pg Reg.EVC_STAT (bitWord 31)).setInt pg 1)
  else .next s

/-- The header of a packet: 0 good, 1 one bit corrected, 2 or more bits in error (R347). -/
def State.evcHeader (s : State) (i ecc : Nat) : State :=
  if ecc = 0 then s else s.countInt (Page.evc i) Reg.EVC_ECC_ERR 1 1

/-- CSI2_FRAME_START (R349). -/
def execCsi2FrameStart (rx : Fin 4) (vc : Fin 16) (ecc : Fin 3) (s : State) : Host.Outcome State Fault Refusal :=
  if s.evcTakes rx then
    let s := s.evcHeader rx ecc
    if ecc.val = 2 then .next s
    else .next ((s.setAnchor rx vc { s.anchor rx vc with start := some s.elapsed, ts0 := none }).orReg
      (Page.evc rx) Reg.EVC_STAT (bitWord vc))
  else .next s

/-- Field of a sensor word. -/
def sensorField (w pos width : Nat) : Nat := (w >>> pos) % 2 ^ width

/-- Sensor events that wait from a source. -/
def State.sensorCount (s : State) (src : Nat) : Nat := (s.ingress.events.filter (fun e => e.src == src)).length

/-- A sensor event enters the buffer of its receiver (R354). -/
def State.bufferSensor (s : State) (e : SensorEvent) : State :=
  let s := s.count (Page.evc e.src) Reg.EVC_EVENTS 1
  if 4096 ≤ s.sensorCount e.src then s.countInt (Page.evc e.src) Reg.EVC_DROP_FULL 0 1
  else { s with ingress := { s.ingress with events := s.ingress.events ++ [e] } }

/-- Sample time of an event with timestamp field `ts` (R349); none without an anchor. -/
def State.sensorTime (s : State) (i vc : Nat) (w2 : W32) (ts : Nat) : Option Int × State :=
  let a := s.anchor i vc
  let tsw := fld w2 31 27
  let toff : Int := s.regFld (Page.evc i) Reg.EVC_TOFF_NS 15 0
  if tsw = 0 then (some ((s.elapsed : Int) - toff), s)
  else
    let full := a.timeHi * 2 ^ tsw + ts
    let ts0 := a.ts0.getD full
    let s := s.setAnchor i vc { a with ts0 := some ts0 }
    (a.start.map (fun t => (t : Int) - toff + (((full : Int) - ts0) % (2 ^ (2 * tsw) : Nat)) * fld w2 15 0), s)

/-- One word of a payload under a template (R348). -/
def State.sensorWord (s : State) (i vc : Nat) (w0 w1 w2 w3 : W32) (w : Nat) : State :=
  let ty := sensorField w (fld w0 18 13) (fld w0 12 10)
  let ts := sensorField w (fld w1 5 0) (fld w2 31 27)
  if fld w0 12 10 = 0 ∨ ty = fld w0 9 6 then
    let t := s.sensorTime i vc w2 ts
    t.2.bufferSensor { src := i, map := fld w3 2 0, x := sensorField w (fld w1 31 26) (fld w1 25 22)
                       y := sensorField w (fld w1 21 16) (fld w1 15 12)
                       p := if bit w2 26 then sensorField w (fld w1 11 6) 1 else 0, t := t.1 }
  else if ty = fld w0 5 2 then s.setAnchor i vc { s.anchor i vc with timeHi := ts }
  else s

/-- CSI2_LONG_PACKET (R347, R348). -/
def execCsi2LongPacket (rx : Fin 4) (vc : Fin 16) (dt : Fin 64) (ecc : Fin 3) (crcOk : Bool) (payload : List Byte) (s : State) :
    Host.Outcome State Fault Refusal :=
  if s.evcTakes rx then
    let pg := Page.evc rx
    let s := s.evcHeader rx ecc
    if ecc.val = 2 then .next s
    else if crcOk = false then .next (s.countInt pg Reg.EVC_CRC_ERR 1 1)
    else
      match (List.range 8).find? (fun t => let w := s.tpl rx t 0
          bit w 31 && fld w 30 27 == vc.val && fld w 26 21 == dt.val) with
      | none => .next (s.count pg Reg.EVC_DT_OTHER 1)
      | some t =>
        let w (n : Nat) : W32 := s.tpl rx t n
        let bytes := tplSize (w 0) / 8
        .next ((List.range (payload.length / bytes)).foldl (fun s i =>
          s.sensorWord rx vc (w 0) (w 1) (w 2) (w 3) (leNat ((payload.drop (bytes * i)).take bytes))) s)
  else .next s

/-! ## AER ports (R350, R359) -/

/-- Words that a port buffers. -/
def State.aerFifo (s : State) (j : Nat) : Nat := (s.ingress.aer.filter (fun w => w.port == j)).length

/-- A word enters the buffer. -/
def State.aerTake (s : State) (w : AerWord) : State :=
  ({ s with ingress := { s.ingress with aer := s.ingress.aer ++ [w] } }).count (Page.aer w.port) Reg.AER_EVENTS 1

def State.aerAckHigh (s : State) (j : Nat) : State :=
  { s with ingress := { s.ingress with aerAck := setIns s.ingress.aerAck j } }

/-- AER_WORD: AER_REQ rises with a word. -/
def execAerWord (port : Fin 2) (word : W32) (s : State) : Host.Outcome State Fault Refusal :=
  let pg := Page.aer port
  if s.runs (186 + port) && bit (s.reg pg Reg.AER_CTRL) 0 && !(s.ingress.aerAck.contains port.val)
      && s.ingress.aerHeld.all (fun w => w.port != port.val) then
    let w : AerWord := { port := port, word := word, t := s.elapsed }
    if s.aerFifo port < 1024 then .next ((s.aerTake w).aerAckHigh port)
    else if bit (s.reg pg Reg.AER_CTRL) 1 then .next ((s.countInt pg Reg.AER_DROP 0 1).aerAckHigh port)
    else .next { s with ingress := { s.ingress with aerHeld := s.ingress.aerHeld ++ [w] } }
  else .next s

/-- AER_ACK_RELEASE: there is room for the word whose acknowledge is withheld. -/
def execAerAckRelease (port : Fin 2) (s : State) : Host.Outcome State Fault Refusal :=
  match s.ingress.aerHeld.find? (fun w => w.port == port.val) with
  | none => .next s
  | some w =>
    if s.runs (186 + port) && decide (s.aerFifo port < 1024) then
      let s := { s with ingress := { s.ingress with aerHeld := eraseFirst w s.ingress.aerHeld } }
      .next ((s.aerTake w).aerAckHigh port)
    else .next s

/-- AER_REQ_FALL: the handshake completes. -/
def execAerReqFall (port : Fin 2) (s : State) : Host.Outcome State Fault Refusal :=
  if s.clocked then .next { s with ingress := { s.ingress with aerAck := setDel s.ingress.aerAck port } } else .next s

/-- The sensor event of an AER word (R350, R359). -/
def State.aerEvent (s : State) (w : AerWord) : SensorEvent :=
  let f := s.reg (Page.aer w.port) Reg.AER_FMT
  let x := w.word.toNat
  { src := 4 + w.port, map := fld f 2 0, x := sensorField x (fld f 31 27) (fld f 26 23)
    y := sensorField x (fld f 22 18) (fld f 17 14), p := if bit f 8 then sensorField x (fld f 13 9) 1 else 0
    t := some ((w.t : Int) - s.regFld (Page.aer w.port) Reg.AER_TOFF_NS 15 0) }

/-! ## The sensor map unit (R351–R354) -/

/-- Lines that the cache holds: 8,192 in every Tarn bank that the unit owns. -/
def State.mapLines (s : State) : Nat := 8192 * ((List.range 128).filter (fun b => s.owner b == 6)).length

/-- Geometry of map k. -/
def State.mapX (s : State) (k : Nat) : Nat := s.regFld Page.evcMap (Reg.EVC_MAPk_GEOM + 16 * k) 4 0
def State.mapY (s : State) (k : Nat) : Nat := s.regFld Page.evcMap (Reg.EVC_MAPk_GEOM + 16 * k) 9 5

/-- DRAM offset of the map entry of an event (R351). -/
def State.mapAddr (s : State) (e : SensorEvent) : Nat :=
  bitsOf (s.reg64 Page.evcMap (Reg.EVC_MAPk_BASE + 16 * e.map)) 35 6 * 64
    + 8 * ((e.y * 2 ^ s.mapX e.map + e.x) * 2 + e.p)

/-- Count an event outside the geometry on its source page. (DEDUCED, log 59) -/
def State.dropRange (s : State) (src : Nat) : State :=
  if src < 4 then s.countInt (Page.evc src) Reg.EVC_DROP_RANGE 0 1
  else s.countInt (Page.aer (src - 4)) Reg.AER_DROP_RANGE 0 1

/-- Serve an event from its map entry (R352). -/
def State.serveMap (s : State) (e : SensorEvent) (m : Nat) : State :=
  if emitValid m = false then s.count Page.evcMap Reg.EVC_MAP_NONE 1
  else
    let step := s.stamp
    let off := match e.t with
      | some t => s.sampleOff t step
      | none => Config.num s.fresh % 65536
    let s := s.useFresh
    let w : W32 := BitVec.ofNat 32 m
    let k := emitKind m
    let ws := if k = 0 then [w] else [w, BitVec.ofNat 32 ((if k = 1 then 1 else 0x3F80) * 65536 + off)]
    s.sendNode 7 ({ chip := s.emitChip m, binary := k == 0, words := ws : OutEvent }.packet step false)

/-- Take the oldest event of a source. -/
def State.takeSensor (s : State) (src : Nat) : Option SensorEvent × State :=
  if src < 4 then
    match s.ingress.events.find? (fun e => e.src == src) with
    | some e => (some e, { s with ingress := { s.ingress with events := eraseFirst e s.ingress.events } })
    | none => (none, s)
  else
    match s.ingress.aer.find? (fun w => w.port == src - 4) with
    | some w => (some (s.aerEvent w), { s with ingress := { s.ingress with aer := eraseFirst w s.ingress.aer } })
    | none => (none, s)

/-- A miss waits for its line; requester 2,085 reads it. -/
def State.missMap (s : State) (e : SensorEvent) (a : Nat) : State :=
  let m : MapMiss := { id := s.fresh + 1, addr := a, ev := e }
  let s := ({ s with ingress := { s.ingress with misses := s.ingress.misses ++ [m] } }).useFresh
  if a / 64 * 64 + 64 ≤ dramBytes s.grade then s.pushReqs 2085 m.id (a / 64 * 64) 64 else s

/-- MAP_LOOKUP: the next event of a source (R351–R354). -/
def execMapLookup (src : Fin 6) (s : State) : Host.Outcome State Fault Refusal :=
  if s.clocked && s.node7Credit && decide (s.ingress.misses.length < 64) then
    let x := s.takeSensor src
    match x.1 with
    | none => .next s
    | some e =>
      let s := x.2
      if 2 ^ s.mapX e.map ≤ e.x ∨ 2 ^ s.mapY e.map ≤ e.y then .next (s.dropRange src)
      else
        let a := s.mapAddr e
        match (s.ingress.cache.take s.mapLines).find? (fun l => l.1 == a / 64 * 64) with
        | some l => .next ((s.count Page.evcMap Reg.EVC_HITS 1).serveMap e (l.2 / 2 ^ (8 * (a % 64)) % 2 ^ 64))
        | none => .next (s.missMap e a)
  else .next s

/-- A line enters the cache; in a full cache it takes the place of some line. (DESIGN CHOICE, log 60) -/
def State.fillLine (s : State) (a v : Nat) : State :=
  let n := s.mapLines
  let c := (s.ingress.cache.filter (fun l => l.1 != a)).take n
  if n = 0 then s
  else
    let c := if n ≤ c.length then c.eraseIdx (Config.num s.fresh % c.length) else c
    ({ s with ingress := { s.ingress with cache := (a, v) :: c } }).useFresh

/-- MAP_MISS_FILL: a line has come from DRAM (R353). -/
def execMapMissFill (miss : Nat) (s : State) : Host.Outcome State Fault Refusal :=
  match s.ingress.misses.find? (fun m => m.id == miss) with
  | none => .next s
  | some m =>
    if s.clocked && s.node7Credit && s.reqsDone miss then
      let s := { s with ingress := { s.ingress with misses := eraseFirst m s.ingress.misses } }
      let line := m.addr / 64 * 64
      let r := s.dramRead (bit (s.reg Page.evcMap Reg.PG_SEC) 31) line 64
      let s := (r.2.fillLine line r.1.1).count Page.evcMap Reg.EVC_MISSES 1
      .next (s.serveMap m.ev (if r.1.2 then 0 else r.1.1 / 2 ^ (8 * (m.addr % 64)) % 2 ^ 64))
    else .next s

/-- The map cache is emptied. -/
def State.flushMap (s : State) : State :=
  (({ s with ingress := { s.ingress with cache := [] } }).setReg Page.evcMap Reg.EVC_MAP_FLUSH 0).setInt Page.evcMap 0

/-- A flush that was requested takes effect at the summit (R353). -/
def State.flushSummit (s : State) : State := if bit (s.reg Page.evcMap Reg.EVC_MAP_FLUSH) 0 then s.flushMap else s

/-- EVC_MAP_FLUSH (R353). -/
def execEvcMapFlush (req : Requester) (s : State) : Host.Outcome State Fault Refusal :=
  .next (s.ifAdmit req Page.evcMap Reg.EVC_MAP_FLUSH (fun s =>
    if s.running then (s.setReg Page.evcMap Reg.EVC_MAP_FLUSH 1).posted req else s.flushMap))

/-- Writes to `EVC_MAPk_GEOM` (R358). -/
def State.evcMapWrite (s : State) (off : Nat) (v : W32) : Option State :=
  if Reg.EVC_MAPk_GEOM ≤ off ∧ off < 0x100 ∧ off % 16 = 8 ∧ 21 < fld v 4 0 + fld v 9 5 then some (s.setErr Page.evcMap 0)
  else none

end Sys2Proof.Machine
end

