-- ==== Sys2Proof/Machine/Traverse.lean ====
section
/-! DEFINITION. Traverse links (R361–R381): training, lanes, link frames with their replay and credits, slot plans, and
the latency measurement. -/
namespace Sys2Proof.Machine
open Sys2Proof

/-! ## A port -/

def State.trvPort (s : State) (p : Nat) : TrvPort := (Store.find s.trv.ports p).getD {}
def State.setTrvPort (s : State) (p : Nat) (x : TrvPort) : State :=
  { s with trv := { s.trv with ports := Store.put s.trv.ports p x } }
def State.updTrvPort (s : State) (p : Nat) (f : TrvPort → TrvPort) : State := s.setTrvPort p (f (s.trvPort p))
def Page.trv (p : Nat) : Nat := 0xC0 + p
abbrev Page.trvc : Nat := 0xD0

/-- The bit of a port in `TRV_DEGRADE`, with the interrupt when it becomes 1 (R371). -/
def State.followDegrade (s : State) (p : Nat) : State :=
  let low := s.trvUsable p && (s.trvState p == 5 || decide (s.trvWidth p < s.trvCwidth p))
  let was := bit (s.reg Page.trvc Reg.TRV_DEGRADE) p
  let s := if low then s.orReg Page.trvc Reg.TRV_DEGRADE (bitWord p) else s.clrReg Page.trvc Reg.TRV_DEGRADE (bitWord p)
  if low && !was then s.setInt (Page.trv p) 1 else s

/-- A port takes a state code (R368, R413). -/
def State.setTrvState (s : State) (p code : Nat) : State :=
  let old := s.trvState p
  let s := (s.setFld (Page.trv p) Reg.TRV_STAT 31 28 code).setStat (Page.trv p)
    (if code = 0 then 0 else if code = 1 then 2 else if code = 5 then 8 else if code = 6 then 6 else 4)
  (if code = old then s else s.setInt (Page.trv p) 0).followDegrade p

/-- The UP state of a width (R368). -/
def upCode (w : Nat) : Nat := if w = 4 then 2 else if w = 2 then 3 else 4

/-- A packet that a port discards is counted there and consumed (R372); SUMMIT, TICK and FREEZE packets have no count. -/
def State.trvDiscard (s : State) (p : Nat) (k : Packet) : State :=
  let s := s.count (Page.trv p) Reg.TRV_DROP 1
  if k.vc = 0 then s else s.consumed 136 k.par

/-- The packets of a DATA frame, with their header checks (R374, R375). -/
def framePackets (w : List W32) : List Packet :=
  ((List.range 8).map (fun k => (w.drop (8 * k)).take 8)).filterMap (fun l =>
    let h := l.getD 0 0 &&& 0xFFFFFF00
    if h = 0 then none else some { words := (h ||| BitVec.ofNat 32 (hchk h)) :: l.drop 1 })

/-- The join under way ends without a JOIN_ACK (R387, R388). -/
def State.endJoin (s : State) (code : Nat) : State :=
  let s := s.setFld Page.trvc Reg.TRV_JOIN_STAT 31 24 (code % 16)
  let s := (s.clrReg Page.trvc Reg.TRV_JOIN (bitWord 31)).setInt Page.trvc 1
  { s with trv := { s.trv with tree := { s.trv.tree with ack := none, mtable := [] } } }

/-- A port leaves every UP state (R372, R388). -/
def State.leaveUp (s : State) (p : Nat) : State :=
  let mine := s.fabric.trvTx.filter (fun q => q.1 == p)
  let s : State := { s with fabric := { s.fabric with trvTx := s.fabric.trvTx.filter (fun q => q.1 != p) } }
  let s := mine.foldl (fun s q => s.trvDiscard p q.2) s
  let held := s.fabric.bufs.filter (fun f => f.trv == some p)
  let s := s.setBufs (s.fabric.bufs.filter (fun f => f.trv != some p))
  let s := held.foldl (fun s f => s.trvDiscard p f.pkt) s
  if s.joinState = 1 ∧ s.regFld Page.trvc Reg.TRV_JOIN 3 0 = p then s.endJoin 8 else s

/-- A port falls to DOWN: it also discards its replay buffer (R372). -/
def State.fallDown (s : State) (p : Nat) : State :=
  let x := s.trvPort p
  let s := if s.trvUsable p then s.leaveUp p else s
  let s := (x.replay.filter (fun f => !f.ctrl)).foldl (fun s f => (framePackets f.words).foldl (fun s k => s.trvDiscard p k) s) s
  let s := s.setTrvPort p { coefs := x.coefs, downAt := s.elapsed }
  ((s.setFld (Page.trv p) Reg.TRV_STAT 27 25 0).setFld (Page.trv p) Reg.TRV_STAT 19 13 0).setTrvState p 0

/-- DETECT begins (R365, R367). (DEDUCED, log 62) -/
def State.startTraining (s : State) (p : Nat) (stored : Bool) : State :=
  let s := if s.trvUsable p then s.leaveUp p else s
  let s := s.updTrvPort p (fun x => { x with stage := 1, stored := stored && x.coefs })
  ((s.setFld (Page.trv p) Reg.TRV_STAT 27 25 0).setFld (Page.trv p) Reg.TRV_STAT 19 14 0).setTrvState p 1

/-- The port is present and its link logic runs. -/
def State.trvRuns (s : State) (p : Nat) : Bool := (s.clocked || decide (Frz.collect ≤ s.frzState)) && !s.domainLost (161 + p) && presentIn s.grade (Page.trv p)
  && !s.faulted (Page.trv p)

def State.trvEn (s : State) (p : Nat) : Bool := bit (s.reg (Page.trv p) Reg.TRV_CFG) 31

/-! ## Training (R365, R366) -/

/-- PORT_TRAINING_START. -/
def execPortTrainingStart (port : Fin 16) (s : State) : Host.Outcome State Fault Refusal :=
  if s.trvRuns port && s.trvEn port && s.trvState port == 0 then
    .next (s.startTraining port (s.trvPort port).stored)
  else .next s

/-- DETECT_RETRY: 1 ms after the port fell to DOWN. -/
def execDetectRetry (port : Fin 16) (s : State) : Host.Outcome State Fault Refusal :=
  if s.trvRuns port && s.trvEn port && s.trvState port == 0
      && decide ((s.trvPort port).downAt + 1000000 ≤ s.elapsed) then
    .next (s.startTraining port false)
  else .next s

/-- The port is in a stage of its training. -/
def State.inStage (s : State) (p k : Nat) : Bool :=
  s.trvRuns p && s.trvState p == 1 && (s.trvPort p).stage == k

/-- DETECT_DONE. -/
def execDetectDone (port : Fin 16) (s : State) : Host.Outcome State Fault Refusal :=
  if s.inStage port 1 then .next (s.updTrvPort port (fun x => { x with stage := 2 })) else .next s

/-- EQ_DONE: the coefficients are stored (R367). -/
def execEqDone (port : Fin 16) (s : State) : Host.Outcome State Fault Refusal :=
  if s.inStage port 2 then .next (s.updTrvPort port (fun x => { x with stage := 3, coefs := true })) else .next s

/-- LANE_TEST_DONE: `good` holds the lanes that passed (R366). -/
def execLaneTestDone (port : Fin 16) (good : BitVec 5) (s : State) : Host.Outcome State Fault Refusal :=
  if s.inStage port 3 then
    .next ((s.updTrvPort port (fun x => { x with stage := 4 })).setFld (Page.trv port) Reg.TRV_STAT 24 20 good.toNat)
  else .next s

/-- Lanes of a mask, ascending. -/
def lanesOf (m : Nat) : List Nat := (List.range 5).filter (fun i => Nat.testBit m i)
def laneMask (l : List Nat) : Nat := (l.map (fun i => 2 ^ i)).sum

/-- Width for a number of good lanes (R366). -/
def widthOf (n : Nat) : Nat := if 4 ≤ n then 4 else if 2 ≤ n then 2 else n

/-! ## Link control messages (R374, R382) -/

/-- The 64 words of a control message of a kind: word w of slot k at 8 k + w. -/
def ctrlWords (kind : Nat) (l : List (Nat × W32)) : List W32 :=
  (List.range 64).map (fun i =>
    if i = 0 then BitVec.ofNat 32 ((Config.ctrlKind kind).toNat * 2 ^ 24)
    else ((l.find? (fun q => q.1 == i)).map (·.2)).getD 0)

/-- The model's own numbers of the kinds of R374. -/
abbrev Kind.hello : Nat := 0
abbrev Kind.latProbe : Nat := 1
abbrev Kind.latEcho : Nat := 2
abbrev Kind.joinReq : Nat := 3
abbrev Kind.joinAck : Nat := 4
abbrev Kind.joinRefuse : Nat := 5
abbrev Kind.mtable : Nat := 6
abbrev Kind.leave : Nat := 7
abbrev Kind.assign : Nat := 8

/-- Queue a control message on a port that is UP. -/
def State.queueCtrl (s : State) (p kind : Nat) (l : List (Nat × W32)) : State :=
  if s.trvUsable p then s.updTrvPort p (fun x => { x with ctrlQ := x.ctrlQ ++ [ctrlWords kind l] }) else s
def State.queueCtrlU (s : State) (p kind : Nat) (l : List (Nat × W32)) : State :=
  if s.trvUsable p then s.updTrvPort p (fun x => { x with ctrluQ := x.ctrluQ ++ [(kind, ctrlWords kind l)] }) else s

/-- Depth that a HELLO shows: 0xF outside a group (R382). -/
def State.helloDepth (s : State) : Nat := if 2 ≤ s.joinState then s.regFld Page.trvc Reg.TRV_JOIN_STAT 3 0 else 15

/-- Queue a HELLO frame (R382). -/
def State.sendHello (s : State) (p : Nat) : State :=
  let id := s.chipId
  s.queueCtrlU p Kind.hello
    ([(1, BitVec.ofNat 32 (id * 2 ^ 20 + p * 2 ^ 16 + s.regFld Page.sum Reg.SUM_GROUP 15 0)),
      (2, s.grade.caps),
      (3, BitVec.ofNat 32 (s.regFld Page.chp Reg.PG_REV 7 0 * 2 ^ 24 + s.regFld (Page.trv p) Reg.TRV_STAT 24 20 * 2 ^ 19
        + s.trvWidth p * 2 ^ 16 + s.helloDepth * 2 ^ 12 + s.regFld Page.trvc Reg.TRV_ROOT_ID 11 0)),
      (4, s.reg Page.trvc Reg.TRV_MASTER_ID &&& 0xFFF)]
      ++ (List.range 3).map (fun i => (5 + i, Config.identity i))
      ++ (List.range 5).map (fun i => (9 + i, Config.identity (3 + i))))

/-- A HELLO on every UP port, after a change of chip ID, group, depth or tick master (R382). -/
def State.helloAll (s : State) : State := (List.range 16).foldl (fun s p => s.sendHello p) s

/-- The 64-bit time that a probe carries. -/
def timeWords (t : Nat) : List (Nat × W32) := [(1, BitVec.ofNat 32 t), (2, BitVec.ofNat 32 (t / 2 ^ 32))]

/-- Queue a LAT_PROBE frame; the time of departure enters it as it leaves (R381). -/
def State.sendProbe (s : State) (p : Nat) : State := s.queueCtrlU p Kind.latProbe []

/-- WIDTH_AGREED: with the partner's mask the width is known, and the port comes up and sends HELLO and LAT_PROBE, or
falls to DOWN (R365, R366, R381). A retrain keeps the sequence state and asks the partner to go on from its
acknowledgement (R372). -/
def execWidthAgreed (port : Fin 16) (partner : BitVec 5) (s : State) : Host.Outcome State Fault Refusal :=
  if s.inStage port 4 = false then .next s
  else
    let pg := Page.trv port
    let good := lanesOf (s.regFld pg Reg.TRV_STAT 24 20 &&& partner.toNat)
    let w := widthOf good.length
    let s := s.setFld pg Reg.TRV_STAT 24 20 (laneMask good)
    if w = 0 then .next (s.fallDown port)
    else
      let x := s.trvPort port
      let s := s.setTrvPort port (if x.stored then { x with stage := 0, stored := false, want := none, rplDue := true, acc := 0 }
                                  else { coefs := x.coefs })
      let s := (s.setFld pg Reg.TRV_STAT 27 25 w).setFld pg Reg.TRV_STAT 19 15 (laneMask (good.take w))
      let s := s.setFld pg Reg.TRV_STAT 14 14 (if w < good.length then 1 else 0)
      .next (((s.setTrvState port (upCode w)).sendHello port).sendProbe port)

/-! ## Lane failures, replay windows and retraining (R367, R369, R370) -/

/-- An error record of the chip's Traverse ports (R574). -/
def trvRecord (p code cls lane : Nat) : ErrRecord :=
  { level := 3, cls := cls, esc := false, inj := false, code := code, unit := pageId (Page.trv p)
    addr := p * 2 ^ 8 + lane }

/-- LANE_FAIL (R369). -/
def execLaneFail (port : Fin 16) (lane : Fin 5) (s : State) : Host.Outcome State Fault Refusal :=
  let pg := Page.trv port
  let used := lanesOf (s.regFld pg Reg.TRV_STAT 19 15)
  if s.trvRuns port && s.trvUsable port && used.contains lane.val then
    let good := setDel (lanesOf (s.regFld pg Reg.TRV_STAT 24 20)) lane
    let s := (s.count pg Reg.TRV_LANE_FAIL 1).setFld pg Reg.TRV_STAT 24 20 (laneMask good)
    match good.find? (fun i => !(used.contains i)) with
    | some i =>
      let used := setIns (setDel used lane) i
      let s := s.setFld pg Reg.TRV_STAT 19 15 (laneMask used)
      let s := s.setFld pg Reg.TRV_STAT 14 14 (if used.length < good.length then 1 else 0)
      .next (s.detect pg 0 (trvRecord port 0x0401 1 lane))
    | none => .next ((s.detect pg 0 (trvRecord port 0x0402 2 lane)).startTraining port true)
  else .next s

/-- DEGRADE_WINDOW: a window of 1 ms ends (R370). -/
def execDegradeWindow (port : Fin 16) (s : State) : Host.Outcome State Fault Refusal :=
  if s.trvRuns port && s.trvUsable port then
    let many := decide (s.regFld (Page.trv port) Reg.TRV_DEG_THR 15 0 < (s.trvPort port).replays)
    let s := s.updTrvPort port (fun x => { x with replays := 0 })
    if many && s.trvState port != 5 then .next ((s.record (trvRecord port 0x0404 2 0)).setTrvState port 5)
    else if !many && s.trvState port == 5 then .next (s.setTrvState port (upCode (s.trvWidth port)))
    else .next s
  else .next s

/-- PORT_DOWN: the lanes have lost lock (R372). -/
def execPortDown (port : Fin 16) (s : State) : Host.Outcome State Fault Refusal :=
  if s.trvRuns port && (s.trvUsable port || s.trvState port == 1) then .next (s.fallDown port) else .next s

/-- A write to `TRV_CFG`: EN = 0 takes the port down, RETRAIN retrains it with stored coefficients (R365, R367, R410). -/
def State.trvCfgWrite (s : State) (p : Nat) (v : W32) : State :=
  let s := s.setReg (Page.trv p) Reg.TRV_CFG (v &&& 0xFE000000)
  if bit v 31 = false then (if s.trvState p = 0 then s else s.fallDown p)
  else if bit v 24 ∧ s.trvUsable p then s.startTraining p true
  else s.followDegrade p

/-- RETRAIN: the write to `TRV_CFG` that carries it. -/
def execRetrain (req : Requester) (port : Fin 16) (v : W32) (s : State) : Host.Outcome State Fault Refusal :=
  .next (s.ifAdmitWord req (Page.trv port) Reg.TRV_CFG (v ||| bitWord 24) (fun s v => s.trvCfgWrite port v))

/-! ## Link frames (R373–R377) -/

/-- The control word of a frame: one byte in each slot (R373). -/
def frameCtl (w : List W32) : Nat := ((List.range 8).map (fun k => fld (w.getD (8 * k) 0) 7 0 * 2 ^ (8 * k))).sum

/-- The frame with a control word put in. -/
def putCtl (w : List W32) (c : Nat) : List W32 :=
  (List.range 64).map (fun i =>
    if i % 8 = 0 then (w.getD i 0 &&& 0xFFFFFF00) ||| BitVec.ofNat 32 (bitsOf c (i + 7) i) else w.getD i 0)

/-- CRC of a frame whose control word has the upper half `c` (R375). -/
def frameCrc (w : List W32) (c : Nat) : Nat :=
  crc32 ((putCtl w (c / 2 ^ 32 * 2 ^ 32)).map (fun v => leBytes 4 v.toNat)).flatten

/-- Sequence number a comes before b in the window (R377, R378). -/
def seqBefore (a b : Nat) : Bool := decide (1 ≤ (b + 4096 - a) % 4096 ∧ (b + 4096 - a) % 4096 ≤ 1024)

/-- Ask for the expected frame, unless it has been asked for (R377). -/
def TrvPort.request (x : TrvPort) (t : Nat) : TrvPort :=
  if x.want.isSome then x else { x with want := some (t, 1), rplDue := true }

/-- Take ACK, RPL and the credits of a control word (R373, R376, R377). -/
def TrvPort.takeCtl (x : TrvPort) (c : Nat) : TrvPort :=
  let ack := bitsOf c 48 37
  let left := x.replay.filter (fun f => !(seqBefore f.seq ack))
  let net := bitsOf c 36 36
  let used := (List.range 4).foldl (fun u v =>
    if Nat.testBit c (32 + v) then setNum u (net * 4 + v) (numAt u (net * 4 + v) - 8) else u) x.used
  { x with replay := left, used := used
           resend := if Nat.testBit c 61 then left else x.resend.filter (fun f => !(seqBefore f.seq ack)) }

/-- Receive a frame: its type and words where it is taken, and the port with what it told (R375–R377). -/
def State.rxFrame (s : State) (p : Nat) (f : LinkRx) : Option (Nat × List W32) × State :=
  if (s.clocked && s.trvUsable p) = false then (none, s)
  else
    let pg := Page.trv p
    let s := (s.count pg Reg.TRV_FEC_CORR f.corrected).count pg Reg.TRV_FEC_UNCORR f.uncorrectable
    let s := (List.range 5).foldl (fun s k => s.count pg (Reg.TRV_LANE_SYM0 + 4 * k) (f.symbols.getD k 0)) s
    let c := frameCtl f.words
    if 0 < f.uncorrectable ∨ frameCrc f.words c ≠ c % 2 ^ 32 then (none, s.updTrvPort p (fun x => x.request s.elapsed))
    else
      let ty := bitsOf c 63 62
      let x := (s.trvPort p).takeCtl c
      let w := f.words.zipIdx.map (fun q => if q.2 % 8 = 0 then q.1 &&& 0xFFFFFF00 else q.1)
      if ty = 1 ∨ ty = 3 then (some (ty, w), s.setTrvPort p x)
      else if bitsOf c 60 49 = x.rxSeq then
        (some (ty, w), s.setTrvPort p { x with rxSeq := (x.rxSeq + 1) % 4096, want := none })
      else if seqBefore (bitsOf c 60 49) x.rxSeq then (none, s.setTrvPort p x)
      else (none, s.setTrvPort p (x.request s.elapsed))

/-- A packet that a frame has brought passes to the node, or to the unit that takes it at the port (R230, R383, R399,
R403, R406). -/
def State.trvDeliver (s : State) (p : Nat) (k : Packet) : State :=
  let net := typeNet k.ty
  let s := s.updTrvPort p (fun x => { x with got := addNum x.got (net * 4 + k.vc) 1 })
  if s.trvCarries p k = false then s.trvRefuse p k
  else if k.ty = 8 ∨ k.ty = 0xA ∨ k.ty = 0xB then
    s.updTrvPort p (fun x => { x with summitIn := x.summitIn ++ [(s.elapsed, k)] })
  else if (k.ty = 5 ∨ k.ty = 9) ∧ k.chip = s.chipId then
    s.updTrvPort p (fun x => { x with remoteIn := x.remoteIn ++ [k] })
  else
    let s := if k.chip = s.chipId then s else s.count Page.rteChip Reg.RTE_CHIP_TRANSIT 1
    s.setLinks (s.fabric.links ++ [{ router := net * 136 + 128 + p / 2, port := 9 + p % 2, pkt := k
                                     fromRouter := net * 136 + 128 + p / 2, fromPort := 9 + p % 2 }])

/-- LINK_FRAME: a DATA or NULL frame. -/
def execLinkFrame (port : Fin 16) (frame : LinkRx) (s : State) : Host.Outcome State Fault Refusal :=
  match s.rxFrame port frame with
  | (some (0, w), s) => .next ((framePackets w).foldl (fun s k => s.trvDeliver port k) s)
  | (_, s) => .next s

/-- Do what a control message of a type says, where the frame is taken. -/
def State.onCtrl (s : State) (p : Nat) (f : LinkRx) (ty : Nat) (g : State → List W32 → State) : State :=
  match s.rxFrame p f with
  | (some (t, w), s) => if t = ty then g s w else s
  | (none, s) => s

/-- REPLAY_REQUEST_TIMEOUT: the expected frame has not come within 1,000 ns; after eight requests the port retrains
(R377, R378). -/
def execReplayRequestTimeout (port : Fin 16) (s : State) : Host.Outcome State Fault Refusal :=
  match (s.trvPort port).want with
  | none => .next s
  | some (t, n) =>
    if (s.clocked && s.trvUsable port && decide (t + 1000 ≤ s.elapsed)) = false then .next s
    else if 8 ≤ n then
      let s := (s.count (Page.trv port) Reg.TRV_RETRAINS 1).record (trvRecord port 0x0403 1 0)
      .next ((s.updTrvPort port (fun x => { x with want := none })).startTraining port true)
    else .next (s.updTrvPort port (fun x => { x with want := some (s.elapsed, n + 1), rplDue := true }))

/-! ## Sending (R362, R374–R379) -/

/-- Packets that a port has received in a class and the node has not taken yet. -/
def State.trvWaiting (s : State) (p cls : Nat) : Nat :=
  let x := s.trvPort p
  let here (k : Packet) : Bool := typeNet k.ty * 4 + k.vc == cls
  (s.fabric.links.filter (fun f => f.router == typeNet f.pkt.ty * 136 + 128 + p / 2 && f.port == 9 + p % 2 && here f.pkt)).length
    + (x.summitIn.filter (fun q => here q.2)).length + (x.remoteIn.filter here).length

/-- Credits of a class that are due to the partner. -/
def State.trvOwed (s : State) (p cls : Nat) : Nat :=
  let x := s.trvPort p
  numAt x.got cls - s.trvWaiting p cls - numAt x.gave cls

/-- CNET and CRET of the next frame (R373, R376). -/
def State.trvCredits (s : State) (p : Nat) : Nat × Nat :=
  let mask (net : Nat) : Nat := ((List.range 4).map (fun v => if 8 ≤ s.trvOwed p (net * 4 + v) then 2 ^ v else 0)).sum
  if mask 0 ≠ 0 then (0, mask 0) else (1, mask 1)

/-- Put a frame of a type on the lanes (R373, R375). (DESIGN CHOICE, log 63) -/
def State.emitFrame (s : State) (p ty seq : Nat) (w : List W32) : State :=
  let cr := s.trvCredits p
  let x := s.trvPort p
  let c := ty * 2 ^ 62 + (if x.rplDue then 2 ^ 61 else 0) + seq * 2 ^ 49 + x.rxSeq * 2 ^ 37 + cr.1 * 2 ^ 36 + cr.2 * 2 ^ 32
  let gave := (List.range 4).foldl (fun g v =>
    if Nat.testBit cr.2 v then addNum g (cr.1 * 4 + v) 8 else g) x.gave
  s.setTrvPort p { x with rplDue := false, gave := gave, out := putCtl w (c + frameCrc w c) }

/-- Credits that a port starts with (R376). -/
def trvCreditLimit (vc : Nat) : Nat := if vc = 1 then 64 else 16

/-- The oldest packet of a network and VC that waits at a port with a credit. -/
def State.trvReady (s : State) (p net vc : Nat) : Option (Nat × Packet) :=
  if numAt (s.trvPort p).used (net * 4 + vc) < trvCreditLimit vc then
    s.fabric.trvTx.find? (fun q => q.1 == p && typeNet q.2.ty == net && q.2.vc == vc)
  else none

/-- The packet of a slot of the plan, and whether the slot was passed to MNT (R379). -/
def State.trvSlot (s : State) (p slot : Nat) : Option ((Nat × Packet) × Bool) :=
  let e := s.regFld (Page.trv p) (Reg.TRV_PLAN + slot / 2 * 4) (16 * (slot % 2) + 15) (16 * (slot % 2))
  let own := if slot = 0 then s.trvReady p 0 0
             else if Nat.testBit e 15 then s.trvReady p (bitsOf e 14 14) (bitsOf e 13 12) else none
  match own with
  | some q => some (q, false)
  | none =>
    let turn := if (s.trvPort p).mntReply then 1 else 0
    match s.trvReady p turn 3 with
    | some q => some (q, true)
    | none => (s.trvReady p (1 - turn) 3).map (fun q => (q, true))

/-- A TICK packet leaves with what is left of its lead: while it waits, word 1 holds the time at which the tick falls due
(R402). -/
def State.leaveLead (s : State) (k : Packet) : Packet :=
  if k.ty = 0xB then { words := k.words.set 1 (k.word 1 - BitVec.ofNat 32 s.elapsed) } else k

/-- Fill the eight slots of a frame from the plan: the packets by slot. -/
def State.fillSlots (s : State) (p : Nat) : List (Option Packet) × State :=
  (List.range 8).foldl (fun a i =>
    let s := a.2
    let x := s.trvPort p
    match s.trvSlot p ((x.slot + i) % 64) with
    | none => (a.1 ++ [none], s)
    | some (q, passed) =>
      let net := typeNet q.2.ty
      let s : State := { s with fabric := { s.fabric with trvTx := eraseFirst q s.fabric.trvTx } }
      let s := s.setTrvPort p { x with used := addNum x.used (net * 4 + q.2.vc) 1
                                       mntReply := if passed then decide (net = 0) else x.mntReply }
      (a.1 ++ [some (s.leaveLead q.2)], s)) ([], s)

/-- The 64 words of a DATA frame. -/
def dataWords (l : List (Option Packet)) : List W32 :=
  (l.map (fun k => match k with
    | none => List.replicate 8 (0 : W32)
    | some k => (List.range 8).map k.word)).flatten

/-- What departs in a LAT_PROBE or LAT_ECHO frame: the time of departure, or the time held (R381). -/
def State.departWords (s : State) (kind : Nat) (w : List W32) : List W32 :=
  if kind = Kind.latProbe then (w.set 1 (BitVec.ofNat 32 s.elapsed)).set 2 (BitVec.ofNat 32 (s.elapsed / 2 ^ 32))
  else if kind = Kind.latEcho then w.set 3 (BitVec.ofNat 32 s.elapsed - w.getD 3 0) else w

/-- Send one frame: CTRL_U, a frame to be sent again, a NULL frame while the replay buffer is full, CTRL, DATA, or NULL. -/
def State.sendFrame (s : State) (p : Nat) : State :=
  let x := s.trvPort p
  let idle := List.replicate 64 (0 : W32)
  let s := match x.ctrluQ, x.resend with
    | (kind, w) :: l, _ => (s.setTrvPort p { x with ctrluQ := l }).emitFrame p 3 0 (s.departWords kind w)
    | [], f :: l =>
      ((s.setTrvPort p { x with resend := l, replays := x.replays + 1 }).count (Page.trv p) Reg.TRV_REPLAYS 1).emitFrame p
        (if f.ctrl then 2 else 0) f.seq f.words
    | [], [] =>
      if 1024 ≤ x.replay.length then (s.count (Page.trv p) Reg.TRV_RPL_STALL 1).emitFrame p 1 0 idle
      else match x.ctrlQ with
        | w :: l =>
          (s.setTrvPort p { x with ctrlQ := l, txSeq := (x.txSeq + 1) % 4096
                                   replay := x.replay ++ [({ ctrl := true, seq := x.txSeq, words := w } : TrvFrame)] }).emitFrame p 2 x.txSeq w
        | [] =>
          let a := s.fillSlots p
          if a.1.all (·.isNone) then a.2.emitFrame p 1 0 idle
          else
            let w := dataWords a.1
            (a.2.updTrvPort p (fun y => { y with
              txSeq := (x.txSeq + 1) % 4096
              replay := y.replay ++ [({ ctrl := false, seq := x.txSeq, words := w } : TrvFrame)] })).emitFrame p 0 x.txSeq w
  s.updTrvPort p (fun y => { y with slot := (y.slot + 8) % 64 })

/-- A packet leaves in slot 0 of a DATA frame of its own, where it has a credit and the replay buffer a place (R379, R403). -/
def State.sendSlot0 (s : State) (p : Nat) (k : Packet) : State :=
  let x := s.trvPort p
  if 1024 ≤ x.replay.length ∨ trvCreditLimit 0 ≤ numAt x.used 0 then s
  else
    let w := dataWords (some k :: List.replicate 7 none)
    (s.setTrvPort p { x with txSeq := (x.txSeq + 1) % 4096, slot := 8, used := addNum x.used 0 1
                             replay := x.replay ++ [({ ctrl := false, seq := x.txSeq, words := w } : TrvFrame)] }).emitFrame p 0 x.txSeq w

/-- The control messages that wait at the UP ports leave before the clocks stop (R584). -/
def State.flushCtrl (s : State) : State :=
  (List.range 16).foldl (fun s p =>
    let x := s.trvPort p
    if s.trvUsable p && !x.ctrlQ.isEmpty then
      (List.range (x.ctrluQ.length + x.resend.length + x.ctrlQ.length)).foldl (fun s _ => s.sendFrame p) s
    else s) s

/-- Link frame time in ps (R362). -/
def frameTime (w : Nat) : Nat := if w = 4 then 2560 else if w = 2 then 5120 else 10240

/-- One cycle of the timebase at the ports: a frame leaves at the end of each link frame time. -/
def State.trvCycle (s : State) : State :=
  (List.range 16).foldl (fun s p =>
    if s.trvUsable p then
      let t := (s.trvPort p).acc + 1000
      let f := frameTime (s.trvWidth p)
      if f ≤ t then (s.updTrvPort p (fun x => { x with acc := t - f })).sendFrame p
      else s.updTrvPort p (fun x => { x with acc := t })
    else s) s

/-- The plan counters at the tick (R379). -/
def State.trvTickSlots (s : State) : State :=
  { s with trv := { s.trv with ports := s.trv.ports.map (fun q => (q.1, { q.2 with slot := 0 })) } }

/-- TRV_SWAP (R215, R379): every network and VC that an entry can name is in the table of R379, so no plan is refused. -/
def execTrvSwap (req : Requester) (port : Fin 16) (s : State) : Host.Outcome State Fault Refusal :=
  .next (s.ifAdmit req (Page.trv port) Reg.TRV_SWAP (fun s =>
    if s.running then s.setReg (Page.trv port) Reg.TRV_SWAP 1
    else s.copyWords (Page.trv port) Reg.TRV_SHADOW Reg.TRV_PLAN 32))

/-- A requested swap of a plan takes effect at the summit. -/
def State.trvSwapSummit (s : State) : State :=
  (List.range 16).foldl (fun s p =>
    if bit (s.reg (Page.trv p) Reg.TRV_SWAP) 0 then
      (s.copyWords (Page.trv p) Reg.TRV_SHADOW Reg.TRV_PLAN 32).setReg (Page.trv p) Reg.TRV_SWAP 0
    else s) s

/-! ## Latency (R381) -/

/-- LATENCY_MEASURE. -/
def execLatencyMeasure (port : Fin 16) (s : State) : Host.Outcome State Fault Refusal :=
  .next (if s.trvRuns port then s.sendProbe port else s)

/-- LAT_PROBE: the echo returns the probe's time and, as it leaves, the time it was held. -/
def execLatProbe (port : Fin 16) (frame : LinkRx) (s : State) : Host.Outcome State Fault Refusal :=
  .next (s.onCtrl port frame 3 (fun s w =>
    s.queueCtrlU port Kind.latEcho [(1, w.getD 1 0), (2, w.getD 2 0), (3, BitVec.ofNat 32 s.elapsed)]))

/-- LAT_ECHO: half of the round trip less the hold time. -/
def execLatEcho (port : Fin 16) (frame : LinkRx) (s : State) : Host.Outcome State Fault Refusal :=
  .next (s.onCtrl port frame 3 (fun s w =>
    let trip := s.elapsed - join64 (w.getD 1 0) (w.getD 2 0) - (w.getD 3 0).toNat
    s.setReg (Page.trv port) Reg.TRV_LAT_NS (BitVec.ofNat 32 (min 65535 (trip / 2)))))

/-- HELLO: the partner registers take what the frame says (R382). -/
def execHello (port : Fin 16) (frame : LinkRx) (s : State) : Host.Outcome State Fault Refusal :=
  .next (s.onCtrl port frame 3 (fun s w =>
    let pg := Page.trv port
    let a := w.getD 1 0
    let b := w.getD 3 0
    let s := s.setReg pg Reg.TRV_PARTNER (BitVec.ofNat 32 (2 ^ 31 + fld a 19 16 * 2 ^ 16 + fld a 31 20))
    let s := s.setReg pg Reg.TRV_PARTNER_CAPS (w.getD 2 0)
    let s := s.setReg pg Reg.TRV_PARTNER_GRP (BitVec.ofNat 32 (fld b 15 12 * 2 ^ 28 + fld b 11 0 * 2 ^ 16 + fld a 15 0))
    let s := (List.range 8).foldl (fun s i =>
      s.setReg pg (Reg.TRV_PARTNER_ID0 + 4 * i) (w.getD (if i < 3 then 5 + i else 6 + i) 0)) s
    s.orReg pg Reg.TRV_STAT (bitWord 13)))

end Sys2Proof.Machine
end

