-- ==== Sys2Proof/Machine/Tree.lean ====
section
/-! DEFINITION. Chip IDs, joining and leaving a barrier group, the summit tree, ticks and freezes across links, and remote
DRAM (R382–R409). -/
namespace Sys2Proof.Machine
open Sys2Proof

def State.setTree (s : State) (t : TreeState) : State := { s with trv := { s.trv with tree := t } }
def State.updTree (s : State) (f : TreeState → TreeState) : State := s.setTree (f s.trv.tree)

/-! ## The group's shape (R393, R398) -/

def State.childMask (s : State) : Nat := s.regFld Page.sum Reg.SUM_CHILD_MASK 15 0
def State.childPorts (s : State) : List Nat := (List.range 16).filter (fun p => Nat.testBit s.childMask p)
def State.parentPort (s : State) : Nat := s.regFld Page.sum Reg.SUM_PARENT_PORT 4 0
def State.isRoot (s : State) : Bool := bit (s.reg Page.sum Reg.SUM_STAT) 16
def State.isTreePort (s : State) (p : Nat) : Bool := s.parentPort == p || s.childPorts.contains p

/-- The child ports change: `SUM_CHILD_MASK`, `SUM_STAT.CHILDREN` and `TRV_STAT.TREE` follow. -/
def State.setChild (s : State) (p : Nat) (on : Bool) : State :=
  let s := if on then s.orReg Page.sum Reg.SUM_CHILD_MASK (bitWord p) else s.clrReg Page.sum Reg.SUM_CHILD_MASK (bitWord p)
  let s := s.setFld Page.sum Reg.SUM_STAT 21 17 s.childPorts.length
  let s := s.setFld (Page.trv p) Reg.TRV_STAT 12 12 (if on then 1 else 0)
  s.updTree (fun t => { t with missed := setNum t.missed p 0, tokens := t.tokens.filter (fun k => k.1 != p) })

/-- Chips whose member entry has been written. -/
def State.listedChips (s : State) : List Nat :=
  ((s.regs.filter (fun e => decide (0xD1 * 4096 ≤ e.1 ∧ e.1 < 0xD3 * 4096))).map (fun e =>
    let c := (e.1 - 0xD1 * 4096) / 4 * 2
    [c, c + 1])).flatten

/-- Members that have not been declared absent. -/
def State.members (s : State) : List Nat := s.listedChips.filter s.memberHere

/-- The chain of PARENT entries of c leads to a (R394): depth is at most 8 links, the fuel allows for any chain. -/
def State.descends (s : State) (a : Nat) : Nat → Nat → Bool
  | 0, _ => false
  | n + 1, c => c == a || (let p := bitsOf (s.member c) 11 0
                           p != 0xFFF && s.descends a n p)

def State.inSubtree (s : State) (a c : Nat) : Bool := s.descends a 4096 c

/-- Mark a member ABSENT in the member table and in the chip route table (R394). -/
def State.markAbsent (s : State) (c : Nat) : State :=
  let s := s.setMember c (s.member c ||| 2 ^ 14)
  let k := chipRouteKey c
  s.orReg k.1 (k.2 + 4) (bitWord 30)

/-- The release of a declaration (R394). -/
def State.applyAbsent (s : State) (c : Nat) : State :=
  let gone := s.members.filter (s.inSubtree c)
  let s := gone.foldl (fun s d => s.markAbsent d) s
  if gone.isEmpty then s else (s.count Page.sum Reg.SUM_ABSENT_CNT gone.length).setInt Page.sum 0

/-- A lone chip with an ID holds its own entry alone (R393). -/
def State.clearMembers (s : State) : State :=
  let s := s.listedChips.foldl (fun s c => s.setMember c 0x0FFF) s
  if s.chipId = 0xFFF then s else s.setMember s.chipId 0x8FFF

/-- `TRV_MASTER_ID` of a chip that knows of no other tick master (R382). -/
def State.followMaster (s : State) : State :=
  if bit (s.reg Page.stp Reg.STP_TICK_SRC) 8 then s.setReg Page.trvc Reg.TRV_MASTER_ID (BitVec.ofNat 32 s.chipId)
  else if s.regFld Page.trvc Reg.TRV_MASTER_ID 11 0 = s.chipId then s.setReg Page.trvc Reg.TRV_MASTER_ID 0xFFF
  else s

/-- A write to `SUM_GROUP` or `STP_TICK_SRC`: a change of group or tick master goes to the partners (R382). -/
def State.roleWrite (s : State) (page off : Nat) (v : W32) : State :=
  let t := s.setReg page off v
  if page = Page.stp ∧ fld v 8 8 ≠ s.regFld page off 8 8 then t.followMaster.helloAll
  else if page = Page.sum ∧ v ≠ s.reg page off then t.helloAll else t

/-- The chip takes an ID while it is alone (R384, R385). -/
def State.takeId (s : State) (id : Nat) : State :=
  let master := s.regFld Page.trvc Reg.TRV_MASTER_ID 11 0 = s.chipId
  let s := s.setReg Page.trvc Reg.TRV_CHIP_ID (BitVec.ofNat 32 id)
  let s := (s.setReg Page.trvc Reg.TRV_ROOT_ID (BitVec.ofNat 32 id)).clearMembers
  let s := if master then s.setReg Page.trvc Reg.TRV_MASTER_ID 0xFFF else s
  s.followMaster.helloAll

/-- TRV_CHIP_ID. -/
def execTrvChipId (req : Requester) (v : W32) (s : State) : Host.Outcome State Fault Refusal :=
  .next (s.ifAdmit req Page.trvc Reg.TRV_CHIP_ID (fun s =>
    if s.joinState = 0 then s.takeId (fld v 11 0) else s.setErr Page.trvc 0))

/-- TRV_ASSIGN: with GO an ASSIGN frame leaves (R385). -/
def State.assignWrite (s : State) (p : Nat) (v : W32) : State :=
  if bit v 12 then s.queueCtrl p Kind.assign [(1, v &&& 0xFFF)] else s

def execTrvAssign (req : Requester) (port : Fin 16) (v : W32) (s : State) : Host.Outcome State Fault Refusal :=
  .next (s.ifAdmit req (Page.trv port) Reg.TRV_ASSIGN (fun s => s.assignWrite port v))

/-- ASSIGN. -/
def execAssign (port : Fin 16) (frame : LinkRx) (s : State) : Host.Outcome State Fault Refusal :=
  .next (s.onCtrl port frame 2 (fun s w =>
    if s.chipId = 0xFFF ∧ bit (s.reg (Page.trv port) Reg.TRV_CFG) 26 ∧ s.partner port ≠ 0xFFF ∧ s.joinState = 0 then
      s.takeId (fld (w.getD 1 0) 11 0)
    else s))

/-! ## SUMMIT packets (R399) -/

/-- Send a SUMMIT packet on a port. -/
def State.sendSummit (s : State) (p kind wave subj last step : Nat) (counts : List W32) : State :=
  s.toPort p (mkPacket 8 s.chipId 0 (step % 4) false
    ([BitVec.ofNat 32 (kind * 2 ^ 28 + wave % 16 * 2 ^ 24 + subj % 4096 * 2 ^ 12 + last % 4096), BitVec.ofNat 32 step] ++ counts))

/-- Send the same packet to every child. -/
def State.sendDown (s : State) (kind wave subj last step : Nat) : State :=
  s.childPorts.foldl (fun s p => s.sendSummit p kind wave subj last step []) s

/-- Take the oldest packet of the SUMMIT channel at a port, if it is of a type and kind. -/
def State.takeSummit (s : State) (p : Nat) (f : Packet → Bool) : Option (Nat × Packet) × State :=
  match (s.trvPort p).summitIn with
  | q :: l => if s.clocked && f q.2 then (some q, s.updTrvPort p (fun x => { x with summitIn := l })) else (none, s)
  | [] => (none, s)

/-- KIND of a SUMMIT packet. -/
def summitKind (kind : Nat) (k : Packet) : Bool := k.ty == 8 && fld (k.word 1) 31 28 == kind
def summitSubj (k : Packet) : Nat := fld (k.word 1) 23 12
def summitLast (k : Packet) : Nat := fld (k.word 1) 11 0
def summitWave (k : Packet) : Nat := fld (k.word 1) 27 24
def summitStep (k : Packet) : Nat := (k.word 2).toNat

/-- Do `f` with the oldest SUMMIT packet of a port where it is of a kind. -/
def State.onSummit (s : State) (p kind : Nat) (f : State → Packet → State) : State :=
  match s.takeSummit p (summitKind kind) with
  | (some q, s) => f s q.2
  | (none, s) => s

/-! ## Waves (R395, R400) -/

/-- The step number as SUMMIT packets carry it. -/
def State.stepLow (s : State) : Nat := s.stepNo % 2 ^ 32

/-- No event, packet or chain of the open step is on its way on the chip. -/
def State.noneOnTheWay (s : State) : Bool :=
  let par := s.stepNo % 4
  s.fabric.links.all (fun f => f.pkt.par != par) && s.fabric.bufs.all (fun f => f.pkt.par != par)
  && s.fabric.blockIn.all (fun x => x.2.par != par) && s.fabric.opened.all (fun x => x.2.par != par)
  && s.fabric.chains.isEmpty && s.eth.ports.all (fun x => x.2.inject.all (fun e => e.step != some s.stepNo))

/-- Every cell is quiescent and nothing is on its way to one: the reports of the regions still hold (R51, R52, R53). -/
def State.quietNow (s : State) : Bool :=
  decide (s.step.rgnQui.length = 8) && s.noneOnTheWay && (List.range 2048).all s.cellQuiescent

/-- The chip is quiescent for its step, with every external event of the step consumed (R51, R52, R391). -/
def State.localQuiet (s : State) : Bool :=
  s.trv.tree.joining || (s.step.phase == .summitWait && s.quietNow)

/-- The chip's own counts of the open step: injected and consumed (R52, R391). -/
def State.ownCounts (s : State) : Nat × Nat :=
  let par := s.stepNo % 4
  if s.trv.tree.joining then (0, 0)
  else (((List.range 137).map (fun u => numAt s.step.inj (u * 4 + par))).sum,
        ((List.range 137).map (fun u => numAt s.step.cons (u * 4 + par))).sum)

/-- Totals of the chip and its children: injected, consumed, members. -/
def State.waveTotals (s : State) : Nat × Nat × Nat :=
  let own := s.ownCounts
  let t := s.trv.tree.tokens
  ((own.1 + (t.map (fun k => k.2.1)).sum) % 2 ^ 48, (own.2 + (t.map (fun k => k.2.2.1)).sum) % 2 ^ 48,
   1 + (t.map (fun k => k.2.2.2)).sum)

/-- Every present child's token of the wave has come. -/
def State.tokensIn (s : State) : Bool := s.childPorts.all (fun p => s.trv.tree.tokens.any (fun k => k.1 == p))

/-- The root starts a wave of the open step. -/
def State.startWave (s : State) : State :=
  let w := (s.trv.tree.wave + 1) % 16
  let s := s.updTree (fun t => { t with wave := w, probe := some (w, s.stepLow), tokens := [] })
  s.sendDown 0 w 0 0 s.stepLow

/-- The root closes a wave and compares its totals with those of the last one (R53, R395). -/
def State.closeWave (s : State) : State :=
  let t := s.waveTotals
  let equal := s.step.wave == some (t.1, t.2.1) && (t.1 == t.2.1 || s.trv.tree.relaxed)
  let s := s.setFld Page.sum Reg.SUM_STAT 12 0 t.2.2
  let s := { s with step := { s.step with wave := some (t.1, t.2.1), agreed := equal } }
  let s := s.updTree (fun t => { t with probe := none, tokens := [] })
  if equal then s else s.startWave

/-- A member that is quiescent and holds every child's token answers its PROBE (R400 step 2). -/
def State.tryToken (s : State) : State :=
  match s.trv.tree.probe with
  | none => s
  | some (w, n) =>
    if s.isRoot = false && s.localQuiet && s.tokensIn && (n == s.stepLow || s.trv.tree.joining) then
      let t := s.waveTotals
      let s := s.setFld Page.sum Reg.SUM_STAT 12 0 t.2.2
      let s := s.updTree (fun t => { t with probe := none, tokens := [] })
      s.sendSummit s.parentPort 1 w s.chipId 0 n
        [BitVec.ofNat 32 t.1, BitVec.ofNat 32 t.2.1, BitVec.ofNat 32 (t.1 / 2 ^ 32 * 2 ^ 16 + t.2.1 / 2 ^ 32), BitVec.ofNat 32 t.2.2]
    else s

/-- PROBE (R400). -/
def execProbe (port : Fin 16) (s : State) : Host.Outcome State Fault Refusal :=
  .next (s.onSummit port 0 (fun s k =>
    if s.parentPort = port.val then
      let s := s.updTree (fun t => { t with wave := summitWave k, probe := some (summitWave k, summitStep k), tokens := [],
                                            heard := true })
      (s.sendDown 0 (summitWave k) 0 0 (summitStep k)).tryToken
    else s))

/-- TOKEN (R400). -/
def execToken (port : Fin 16) (s : State) : Host.Outcome State Fault Refusal :=
  .next (s.onSummit port 1 (fun s k =>
    if s.childPorts.contains port.val ∧ s.trv.tree.probe = some (summitWave k, summitStep k) then
      let inj := (k.word 3).toNat + fld (k.word 5) 31 16 * 2 ^ 32
      let cons := (k.word 4).toNat + fld (k.word 5) 15 0 * 2 ^ 32
      (s.updTree (fun t => { t with
        tokens := t.tokens.filter (fun q => q.1 != port.val) ++ [(port.val, inj, cons, fld (k.word 6) 12 0)]
        missed := setNum t.missed port 0 })).tryToken
    else s))

/-! ## The true summit of the open step (R53, R54, R57, R78) -/

/-- The units that the release has still to reach: the chip, the regions, the blocks. -/
def releaseUnits : List Nat := List.range 137

/-- The summit of the open step is reached on this chip, and its release begins. -/
def State.reachSummit (s : State) : State :=
  let s := s.setReg64 Page.stp Reg.STP_SUMMIT_NS s.elapsed
  let s := (s.setReg64 Page.sum Reg.SUM_LAST_STEP s.stepNo).setReg Page.sum Reg.SUM_LAT_NS
    (BitVec.ofNat 32 (min 0xFFFFFFFF (s.elapsed - s.step.quietAt)))
  let s := (s.setReg Page.sum Reg.SUM_WDOG_CNT 0).clrReg Page.stp Reg.STP_STAT (bitWord 8)
  let s := s.setInt Page.stp 1
  { s with step := { s.step with summited := true, release := releaseUnits, relStep := s.stepNo, agreed := false } }

/-- RELEASE (R400 step 5): the summit actions follow, and the packet goes on to the children. -/
def execRelease (port : Fin 16) (s : State) : Host.Outcome State Fault Refusal :=
  .next (s.onSummit port 2 (fun s k =>
    if s.parentPort = port.val then
      let s := s.updTree (fun t => { t with heard := true, probe := none, tokens := [] })
      let s := s.sendDown 2 0 0 0 (summitStep k)
      if summitStep k = s.stepLow ∧ s.step.summited = false ∧ s.running ∧ s.trv.tree.joining = false then s.reachSummit else s
    else s))

/-! ## Joining (R386–R392) -/

/-- Words 0.2 and 0.3 of JOIN_REQ: the parameters that must agree (R386, R387). -/
def State.joinWords (s : State) : W32 × W32 :=
  (s.reg Page.stp Reg.STP_PERIOD,
   BitVec.ofNat 32 (s.regFld Page.stp Reg.STP_POLICY 1 0 * 2 ^ 30 + s.regFld Page.stp Reg.STP_DEFER_MAX 1 0 * 2 ^ 28
     + s.regFld Page.lrn Reg.LRN_CTRL 0 0 * 2 ^ 27 + s.regFld Page.lrn Reg.LRN_EPOCH_LEN 15 0))

/-- A refusal by the joiner itself, at once (R386). -/
def State.notReady (s : State) : State := (s.setFld Page.trvc Reg.TRV_JOIN_STAT 27 24 6).setInt Page.trvc 1

/-- A write of 1 to `TRV_JOIN.REQ`. -/
def State.askJoin (s : State) (p : Nat) : State :=
  let src := s.regFld Page.stp Reg.STP_TICK_SRC 1 0
  if s.chipId ≠ 0xFFF ∧ s.joinState = 0 ∧ s.running = false ∧ (src = 1 ∨ src = 2)
      ∧ bit (s.reg Page.stp Reg.STP_TICK_SRC) 8 = false ∧ s.trvUsable p then
    let w := s.joinWords
    let s := (s.setFld Page.trvc Reg.TRV_JOIN_STAT 31 28 1).orReg Page.trvc Reg.TRV_JOIN (bitWord 31)
    let s := s.updTree (fun t => { t with reqAt := s.elapsed, ack := none, mtable := [] })
    s.queueCtrl p Kind.joinReq
      [(1, BitVec.ofNat 32 (s.chipId * 2 ^ 20 + s.regFld Page.sum Reg.SUM_GROUP 15 0)), (2, w.1), (3, w.2)]
  else s.notReady

/-- The chip is alone again: its member table holds only its own entry, and `SUM_STAT` shows a lone root (R396). -/
def State.becomeAlone (s : State) : State :=
  let s := (List.range 16).foldl (fun s p => s.setFld (Page.trv p) Reg.TRV_STAT 12 12 0) s
  let s := (s.setReg Page.sum Reg.SUM_CHILD_MASK 0).setReg Page.sum Reg.SUM_PARENT_PORT 0x1F
  let s := (s.setReg Page.sum Reg.SUM_STAT ((s.reg Page.sum Reg.SUM_STAT &&& 0x06000000) ||| 0x10001)).setReg Page.trvc
    Reg.TRV_JOIN_STAT (s.reg Page.trvc Reg.TRV_JOIN_STAT &&& 0x0F000000)
  let s := s.setReg Page.trvc Reg.TRV_ROOT_ID (BitVec.ofNat 32 s.chipId)
  let s := (s.setReg Page.trvc Reg.TRV_MASTER_ID 0xFFF).followMaster.clearMembers
  (s.setTree {}).helloAll

/-- LEAVE on every tree port, and the chip is alone (R396). -/
def State.leaveGroup (s : State) : State :=
  if s.joinState < 2 then s
  else ((List.range 16).foldl (fun s p => if s.isTreePort p then s.queueCtrl p Kind.leave [] else s) s).becomeAlone

/-- A write to `TRV_JOIN` (R386, R388, R396). -/
def State.joinWrite (s : State) (v : W32) : State :=
  let s := if s.joinState = 1 then s else s.setFld Page.trvc Reg.TRV_JOIN 3 0 (fld v 3 0)
  let s := if bit v 31 then s.askJoin (fld v 3 0) else s
  if bit v 30 then (if s.joinState = 1 then s.endJoin 10 else s.leaveGroup) else s

/-- JOIN_REQUEST: the write to `TRV_JOIN` that sets REQ. -/
def execJoinRequest (req : Requester) (v : W32) (s : State) : Host.Outcome State Fault Refusal :=
  .next (s.ifAdmitWord req Page.trvc Reg.TRV_JOIN ((v &&& 0xF) ||| bitWord 31) (fun s v => s.joinWrite v))

/-- LEAVE_REQUEST: the write to `TRV_JOIN` that sets LEAVE. -/
def execLeaveRequest (req : Requester) (v : W32) (s : State) : Host.Outcome State Fault Refusal :=
  .next (s.ifAdmitWord req Page.trvc Reg.TRV_JOIN ((v &&& 0xF) ||| bitWord 30) (fun s v => s.joinWrite v))

/-- JOIN_TIMEOUT (R388). -/
def execJoinTimeout (s : State) : Host.Outcome State Fault Refusal :=
  let ms := (s.reg Page.trvc Reg.TRV_JOIN_TMO_MS).toNat
  if s.joinState = 1 ∧ ms ≠ 0 ∧ s.trv.tree.reqAt + ms * 1000000 ≤ s.elapsed then .next (s.endJoin 9) else .next s

/-- Send JOIN_REFUSE to the joiner of a port (R387). -/
def State.refuseJoin (s : State) (p code : Nat) : State :=
  (s.updTree (fun t => { t with asked := t.asked.filter (fun q => q.1 != p) })).queueCtrl p Kind.joinRefuse
    [(1, BitVec.ofNat 32 (code % 16))]

/-- A refusal by the root for a joiner: the partner that holds its request sends it on (R387). -/
def State.rootRefusal (s : State) (joiner code : Nat) : State :=
  match s.trv.tree.asked.find? (fun q => q.2 == joiner) with
  | some q => s.refuseJoin q.1 code
  | none => s.sendDown 5 0 joiner code s.stepLow

/-- MTABLE frames: the 4,096 entries of the member table, two in a word, the words of a slot after its first (R390). -/
def State.mtableFrame (s : State) (k : Nat) : List (Nat × W32) :=
  (List.range 56).filterMap (fun j =>
    let e := 112 * k + 2 * j
    if e < 4096 then some (8 * (j / 7) + 1 + j % 7, BitVec.ofNat 32 (s.member e + s.member (e + 1) * 2 ^ 16)) else none)

/-- The partner of a joiner makes it its child, and sends JOIN_ACK and the member table (R390). -/
def State.admitChild (s : State) (p joiner : Nat) : State :=
  let d := s.regFld Page.trvc Reg.TRV_JOIN_STAT 3 0
  let lone := s.joinState = 0
  let s := s.setChild p true
  let s := s.updTree (fun t => { t with asked := t.asked.filter (fun q => q.2 != joiner) })
  let s := if lone then s.setFld Page.trvc Reg.TRV_JOIN_STAT 31 28 2 else s
  let n := s.members.length
  let step := s.stepNo
  let s := s.queueCtrl p Kind.joinAck
    [(1, BitVec.ofNat 32 (s.chipId * 2 ^ 20 + (d + 1) * 2 ^ 16 + n)),
     (2, BitVec.ofNat 32 step), (3, BitVec.ofNat 32 (step / 2 ^ 32)),
     (4, BitVec.ofNat 32 s.epoch), (5, BitVec.ofNat 32 (s.epoch / 2 ^ 32)),
     (6, BitVec.ofNat 32 (s.regFld Page.trvc Reg.TRV_ROOT_ID 11 0 * 2 ^ 12 + s.regFld Page.trvc Reg.TRV_MASTER_ID 11 0))]
  let s := (List.range 37).foldl (fun s k => s.queueCtrl p Kind.mtable (s.mtableFrame k)) s
  if lone then s.helloAll else s

/-- A member records a joiner (R390). -/
def State.applyGrant (s : State) (g : Nat × Nat) : State :=
  let k := chipRouteKey g.1
  ((s.setMember g.1 (2 ^ 15 + g.2)).clrReg k.1 (k.2 + 4) (bitWord 30)).setInt Page.sum 2

/-- The partner of a joiner, which it has recorded, admits it. -/
def State.finishGrant (s : State) (g : Nat × Nat) : State :=
  if g.2 = s.chipId then
    match s.trv.tree.asked.find? (fun q => q.2 == g.1) with
    | some q => s.admitChild q.1 g.1
    | none => s
  else s

/-- The joins that came ahead of a release: every joiner is recorded before a table leaves (R390). -/
def State.applyGrants (s : State) : State :=
  let l := s.trv.tree.grants
  let s := l.foldl (fun s g => s.applyGrant g) (s.updTree (fun t => { t with grants := [] }))
  l.foldl (fun s g => s.finishGrant g) s

/-- The declarations and joins that came ahead of a release (R390, R394). -/
def State.applyTree (s : State) : State :=
  let l := s.trv.tree.notices
  (l.foldl (fun s c => s.applyAbsent c) (s.updTree (fun t => { t with notices := [] }))).applyGrants

/-- The root grants the joins that wait: the grants go down the tree (R389, R390). (DEDUCED, log 64) -/
def State.grantJoins (s : State) : State :=
  let l := s.trv.tree.waiting
  let s := s.updTree (fun t => { t with waiting := [], grants := t.grants ++ l
                                        grantAt := if l.isEmpty then t.grantAt else some s.elapsed })
  l.foldl (fun s g => s.sendDown 4 0 g.1 g.2 s.stepLow) s

/-- The root checks a request; it grants at once while its step timer is stopped (R387, R389). -/
def State.rootJoin (s : State) (joiner partner : Nat) : State :=
  if s.memberHere joiner then s.rootRefusal joiner 3
  else if 4095 ≤ s.members.length then s.rootRefusal joiner 4
  else
    let s := s.updTree (fun t => { t with waiting := t.waiting ++ [(joiner, partner)] })
    if s.running then s else s.grantJoins.applyGrants

/-- At a true summit the root grants at a join boundary, where 5,000 ns or more remain before its next tick, or it holds
that tick itself under STRETCH (R389). -/
def State.grantAtSummit (s : State) (closes : Bool) : State :=
  let stretches := s.policy = 2 ∧ (bit (s.reg Page.stp Reg.STP_TICK_SRC) 8 ∨ s.childMask = 0)
  if closes || !s.learning then
    (if 5000 ≤ s.step.remaining ∨ stretches then s.grantJoins else s)
  else s

/-- JOIN_REQ: the partner checks the request and forwards it towards the root, or refuses it (R387, R389). -/
def execJoinReq (port : Fin 16) (frame : LinkRx) (s : State) : Host.Outcome State Fault Refusal :=
  .next (s.onCtrl port frame 2 (fun s w =>
    let joiner := fld (w.getD 1 0) 31 20
    if (w.getD 2 0, w.getD 3 0) ≠ s.joinWords then s.refuseJoin port 1
    else if fld (w.getD 1 0) 15 0 ≠ s.regFld Page.sum Reg.SUM_GROUP 15 0 then s.refuseJoin port 2
    else if 8 ≤ s.regFld Page.trvc Reg.TRV_JOIN_STAT 3 0 then s.refuseJoin port 5
    else if s.chipId = 0xFFF ∨ s.joinState = 1 ∨ bit (s.reg (Page.trv port) Reg.TRV_CFG) 25 = false
        ∨ s.parentPort = port.val then s.refuseJoin port 7
    else
      let s := s.updTree (fun t => { t with asked := t.asked.filter (fun q => q.1 != port.val) ++ [(port.val, joiner)] })
      if s.isRoot then s.rootJoin joiner s.chipId else s.sendSummit s.parentPort 3 0 joiner s.chipId s.stepLow []))

/-- SUMMIT_JOIN_REQ: on its way the packet passes every member towards the root (R389). -/
def execSummitJoinReq (port : Fin 16) (s : State) : Host.Outcome State Fault Refusal :=
  .next (s.onSummit port 3 (fun s k =>
    if s.isRoot then s.rootJoin (summitSubj k) (summitLast k)
    else s.sendSummit s.parentPort 3 0 (summitSubj k) (summitLast k) (summitStep k) []))

/-- JOIN_GRANT: it waits for the release of the open step; with no step open the root's timer stands, and no release follows
(R389, R390). -/
def execJoinGrant (port : Fin 16) (s : State) : Host.Outcome State Fault Refusal :=
  .next (s.onSummit port 4 (fun s k =>
    let s := s.sendDown 4 0 (summitSubj k) (summitLast k) (summitStep k)
    let s := s.updTree (fun t => { t with grants := t.grants ++ [(summitSubj k, summitLast k)] })
    if s.running ∧ s.step.summited = false then s else s.applyGrants))

/-- SUMMIT_JOIN_REFUSE (R387). -/
def execSummitJoinRefuse (port : Fin 16) (s : State) : Host.Outcome State Fault Refusal :=
  .next (s.onSummit port 5 (fun s k => s.rootRefusal (summitSubj k) (summitLast k % 16)))

/-- JOIN_REFUSE: the joiner is alone again with the code (R387). -/
def execJoinRefuse (port : Fin 16) (frame : LinkRx) (s : State) : Host.Outcome State Fault Refusal :=
  .next (s.onCtrl port frame 2 (fun s w =>
    if s.joinState = 1 ∧ s.regFld Page.trvc Reg.TRV_JOIN 3 0 = port.val then s.endJoin (fld (w.getD 1 0) 3 0) else s))

/-- Setting `PG_CTRL.EN` on the STP page: the timer loads `STP_PERIOD` and counts (R41). -/
def State.startTimer (s : State) : State :=
  let s := s.orReg Page.stp Reg.PG_CTRL 1
  let s := s.setReg Page.stp Reg.STP_PERIOD_ACT (s.reg Page.stp Reg.STP_PERIOD)
  { s with step := { s.step with remaining := (s.reg Page.stp Reg.STP_PERIOD).toNat, flywheel := none, heldTick := false,
                                 heldEdge := false, leadDue := none, leadSent := false } }

/-- The joiner has the JOIN_ACK and the whole member table, and becomes a member (R391). -/
def State.becomeMember (s : State) (p : Nat) (a : List W32) : State :=
  let w (i : Nat) := a.getD i 0
  let table := s.trv.tree.mtable
  let s := s.setReg64 Page.stp Reg.STP_COUNT (join64 (w 2) (w 3))
  let s := (s.setReg64 Page.lrn Reg.LRN_EPOCH (join64 (w 4) (w 5) % 2 ^ 48)).setReg Page.lrn Reg.LRN_EPOCH_POS 0
  let s := s.listedChips.foldl (fun s c => s.setMember c 0x0FFF) s
  let s := table.zipIdx.foldl (fun s q => if q.1 = 0x0FFF then s else s.setMember q.2 q.1) s
  let s := s.setReg Page.sum Reg.SUM_PARENT_PORT (BitVec.ofNat 32 p)
  let s := (s.setFld Page.sum Reg.SUM_STAT 16 16 0).setFld Page.sum Reg.SUM_STAT 12 0 (fld (w 1) 12 0)
  let s := s.setFld (Page.trv p) Reg.TRV_STAT 12 12 1
  let s := s.setReg Page.trvc Reg.TRV_JOIN_STAT (BitVec.ofNat 32 (2 * 2 ^ 28 + fld (w 1) 19 16))
  let s := (s.clrReg Page.trvc Reg.TRV_JOIN (bitWord 31)).setReg Page.trvc Reg.TRV_ROOT_ID (BitVec.ofNat 32 (fld (w 6) 23 12))
  let s := s.setReg Page.trvc Reg.TRV_MASTER_ID (BitVec.ofNat 32 (fld (w 6) 11 0))
  let s := { s.setTree { joining := true } with step := { s.step with summited := true, release := [] } }
  (s.startTimer.setInt Page.trvc 0).helloAll

/-- The joiner goes on once both have come. -/
def State.tryMember (s : State) (p : Nat) : State :=
  match s.trv.tree.ack with
  | some a => if 4096 ≤ s.trv.tree.mtable.length then s.becomeMember p a else s
  | none => s

/-- Whether the frames of a join on this port are the ones that the chip waits for. -/
def State.joinsOn (s : State) (p : Nat) : Bool := s.joinState == 1 && s.regFld Page.trvc Reg.TRV_JOIN 3 0 == p

/-- JOIN_ACK (R390, R391). -/
def execJoinAck (port : Fin 16) (frame : LinkRx) (s : State) : Host.Outcome State Fault Refusal :=
  .next (s.onCtrl port frame 2 (fun s w =>
    if s.joinsOn port then (s.updTree (fun t => { t with ack := some (w.take 8) })).tryMember port else s))

/-- MTABLE: the frames bring the table in order (R390, R391). -/
def execMtable (port : Fin 16) (frame : LinkRx) (s : State) : Host.Outcome State Fault Refusal :=
  .next (s.onCtrl port frame 2 (fun s w =>
    if s.joinsOn port then
      let new := ((List.range 56).map (fun j =>
        let v := w.getD (8 * (j / 7) + 1 + j % 7) 0
        [fld v 15 0, fld v 31 16])).flatten
      (s.updTree (fun t => { t with mtable := (t.mtable ++ new).take 4096 })).tryMember port
    else s))

/-! ## Absence and leaving (R394–R397) -/

/-- The parent declares a child absent (R394). -/
def State.declareAbsent (s : State) (p : Nat) : State :=
  let c := s.partner p
  let s := (s.setChild p false).updTree (fun t => { t with relaxed := true })
  if s.isRoot then s.updTree (fun t => { t with notices := t.notices ++ [c] })
  else (s.sendSummit s.parentPort 6 0 c 0 s.stepLow []).tryToken

/-- `SUM_ABSENT_TICKS` as it acts (R79). -/
def State.absentTicks (s : State) : Nat := max 1 (s.regFld Page.sum Reg.SUM_ABSENT_TICKS 7 0)

/-- ABSENT_DECLARE. -/
def execAbsentDeclare (port : Fin 16) (s : State) : Host.Outcome State Fault Refusal :=
  if s.clocked ∧ s.childPorts.contains port.val ∧ s.absentTicks ≤ numAt s.trv.tree.missed port then
    .next (s.declareAbsent port)
  else .next s

/-- ABSENT: from a child it goes on towards the root, from the parent down the tree (R394). -/
def execAbsent (port : Fin 16) (s : State) : Host.Outcome State Fault Refusal :=
  .next (s.onSummit port 6 (fun s k =>
    let c := summitSubj k
    if s.parentPort = port.val then
      (s.sendDown 6 0 c 0 (summitStep k)).updTree (fun t => { t with notices := t.notices ++ [c] })
    else if s.isRoot then s.updTree (fun t => { t with notices := t.notices ++ [c], relaxed := true })
    else s.sendSummit s.parentPort 6 0 c 0 (summitStep k) []))

/-- The member becomes the root of its own subtree (R397). -/
def State.becomeOrphan (s : State) : State :=
  let p := s.parentPort
  let own := s.chipId
  let gone := s.members.filter (fun c => !(s.inSubtree own c))
  let s := gone.foldl (fun s c => s.markAbsent c) s
  let s := if p < 16 then s.setFld (Page.trv p) Reg.TRV_STAT 12 12 0 else s
  let s := (s.setReg Page.sum Reg.SUM_PARENT_PORT 0x1F).setFld Page.sum Reg.SUM_STAT 16 16 1
  let s := (s.setFld Page.trvc Reg.TRV_JOIN_STAT 31 28 3).setFld Page.trvc Reg.TRV_JOIN_STAT 3 0 0
  let s := (s.setReg Page.trvc Reg.TRV_ROOT_ID (BitVec.ofNat 32 own)).setInt Page.trvc 2
  (s.updTree (fun t => { t with probe := none, tokens := [], silent := 0, fallen := 0, relaxed := true })).helloAll

/-- The chip has a parent. -/
def State.hasParent (s : State) : Bool := s.joinState == 2 && decide (s.parentPort < 16)

/-- LEAVE (R396, R397). -/
def execLeave (port : Fin 16) (frame : LinkRx) (s : State) : Host.Outcome State Fault Refusal :=
  .next (s.onCtrl port frame 2 (fun s _ =>
    if s.childPorts.contains port.val then s.declareAbsent port
    else if s.hasParent && s.parentPort == port.val then s.becomeOrphan
    else s))

/-- ORPHAN (R397). -/
def execOrphan (s : State) : Host.Outcome State Fault Refusal :=
  if s.clocked && s.hasParent && decide (s.absentTicks ≤ s.trv.tree.silent ∨ s.absentTicks ≤ s.trv.tree.fallen) then
    .next s.becomeOrphan
  else .next s

/-- What the tick counts in the tree (R394, R397), and the first tick of a joiner (R391). -/
def State.treeTick (s : State) : State :=
  let t := s.trv.tree
  let missed := if t.probe.isSome then
      s.childPorts.foldl (fun m p => if t.tokens.any (fun k => k.1 == p) then m else addNum m p 1) t.missed
    else t.missed
  let up := s.trvUsable s.parentPort
  s.setTree { t with
    missed := missed, probe := none, tokens := [], relaxed := false, joining := false, heard := false
    silent := if s.hasParent ∧ t.heard = false ∧ t.joining = false then t.silent + 1 else 0
    fallen := if s.hasParent ∧ up = false then t.fallen + 1 else 0 }

/-! ## Ticks and freezes across links (R401–R403) -/

/-- Hand a TICK packet to every tree port but one: the time at which the tick falls due stands in word 1 until it leaves. -/
def State.sendTick (s : State) (due step : Nat) (skip : Option Nat) : State :=
  (List.range 16).foldl (fun s p =>
    if s.isTreePort p && decide (some p ≠ skip) then
      s.toPort p (mkPacket 0xB s.chipId 0 (step % 4) false [BitVec.ofNat 32 due, BitVec.ofNat 32 step])
    else s) s

/-- A FREEZE packet leaves in slot 0 of every UP port (R403). -/
def State.sendFreeze (s : State) (origin cause : Nat) : State :=
  (List.range 16).foldl (fun s p =>
    if s.trvUsable p then
      s.sendSlot0 p (mkPacket 0xA s.chipId 0 (s.stepNo % 4) false [BitVec.ofNat 32 (origin * 2 ^ 16 + cause)])
    else s) s

/-- FREEZE_PACKET (R403). -/
def execFreezePacket (port : Fin 16) (s : State) : Host.Outcome State Fault Refusal :=
  match s.takeSummit port (fun k => k.ty == 0xA) with
  | (none, s) => .next s
  | (some q, s) =>
    if bit (s.reg (Page.trv port) Reg.TRV_CFG) 27 then .next (s.freeze 4 (fld (q.2.word 1) 27 16))
    else .next (s.count (Page.trv port) Reg.TRV_DROP 1)

/-! ## Remote DRAM (R405–R409) -/

/-- A remote access ends in error (R408). -/
def State.remoteError (s : State) (write : Bool) : State :=
  let s := (s.count Page.trvc Reg.TRV_RMT_ERR 1).setErr Page.trvc 1
  if write then s else s.answer 0 true

def State.setRemote (s : State) (l : List Remote) : State := { s with trv := { s.trv with remote := l } }

/-- Bit i of the byte enables stands for byte i of the granule. -/
def byteEnables (first n : Nat) : Nat := (2 ^ n - 1) * 2 ^ first

/-- The data words of a granule with bytes placed from `first` on. -/
def granuleWords (first : Nat) (l : List Byte) : List W32 :=
  (List.range 4).map (fun i => BitVec.ofNat 32 (leNat (List.replicate first 0 ++ l) / 2 ^ (32 * i)))

/-- Word 2 of a request (R406). -/
def remoteWord2 (off gran : Nat) (sec : Bool) (tag : Nat) : W32 :=
  BitVec.ofNat 32 (bitsOf off 35 24 * 2 ^ 20 + (gran - 1) * 2 ^ 18 + (if sec then 2 ^ 17 else 0) + tag % 2 ^ 16)

/-- REMOTE_ACCESS: a read of up to 64 bytes within one line, or a write within one 16-byte granule; what an operand holds
beyond that is another access (R405, R406, R408). (DEDUCED, log 65) -/
def execRemoteAccess (req : Requester) (addr : Nat) (bytes : Nat) (data : Option (List Byte)) (s : State) :
    Host.Outcome State Fault Refusal :=
  let off := addr % 2 ^ 36
  let chip := bitsOf addr 47 36
  let core : Bool := match req.who with
    | .jtag => false
    | _ => true
  if s.serves req = false ∨ core = false ∨ Nat.testBit addr 51 = false then .next s
  else if bitsOf addr 50 48 ≠ 0 then .next (s.remoteError data.isSome)
  else if chip = s.chipId then
    match data with
    | some l => .next (s.dramWrite (some req) (s.isSecure req) off l)
    | none =>
      let a := s.dramRead (s.isSecure req) off bytes
      .next (a.2.answer a.1.1 a.1.2)
  else if 256 ≤ s.trv.remote.length then .next s
  else
    let node := match req.who with
      | .crs _ => 4
      | _ => 0
    let tag := s.trv.tag
    let w1 := BitVec.ofNat 32 (s.chipId * 2 ^ 20 + bitsOf off 23 4)
    let s : State := { s with trv := { s.trv with tag := (tag + 1) % 2 ^ 16 } }
    match data with
    | some l =>
      let l := l.take (16 - off % 16)
      let s := s.setRemote (s.trv.remote ++ [{ tag := tag, req := req, write := true, first := off % 16, bytes := l.length
                                               left := 1, sentAt := s.elapsed }])
      .next (s.sendNode node (mkPacket 9 chip 3 s.stamp false
        ([w1, remoteWord2 off 1 (s.isSecure req) tag, BitVec.ofNat 32 (byteEnables (off % 16) l.length)]
          ++ granuleWords (off % 16) l)))
    | none =>
      let n := max 1 (min bytes (64 - off % 64))
      let gran := (off % 16 + n + 15) / 16
      let s := s.setRemote (s.trv.remote ++ [{ tag := tag, req := req, write := false, first := off % 16, bytes := n
                                               left := gran, sentAt := s.elapsed }])
      .next (s.sendNode node (mkPacket 5 chip 3 s.stamp false [w1, remoteWord2 off gran (s.isSecure req) tag, 0]))

/-- The oldest remote request of a type at a port. -/
def State.takeRemote (s : State) (p ty : Nat) : Option Packet × State :=
  match (s.trvPort p).remoteIn with
  | k :: l => if s.clocked && k.ty == ty then (some k, s.updTrvPort p (fun x => { x with remoteIn := l })) else (none, s)
  | [] => (none, s)

/-- DRAM offset of a request (R406). -/
def remoteOffset (k : Packet) : Nat := fld (k.word 2) 31 20 * 2 ^ 24 + fld (k.word 1) 19 0 * 16

/-- STATUS with which the target turns a request away, if it does (R407). -/
def State.remoteRefusal (s : State) (d n : Nat) (sec : Bool) : Option Nat :=
  if bit (s.reg Page.trvc Reg.TRV_GCFG) 0 = false then some 2
  else if dramBytes s.grade < d + n then some 1
  else if sec = false ∧ s.rangeSecure d n then some 3
  else none

/-- READ_REQ: the target reads its DRAM and sends one reply for each granule (R406, R407). -/
def execReadReq (port : Fin 16) (s : State) : Host.Outcome State Fault Refusal :=
  match s.takeRemote port 5 with
  | (none, s) => .next s
  | (some k, s) =>
    let d := remoteOffset k
    let n := 16 * (fld (k.word 2) 19 18 + 1)
    let sec := bit (k.word 2) 17
    let s := s.consumed 136 k.par
    match s.remoteRefusal d n sec with
    | some st =>
      let s := if st = 3 then s.count Page.bdr Reg.BDR_REFUSED 1 else s
      .next (s.sendNode (port / 2) (s.remoteReply k st))
    | none =>
      let s := s.pushReqs (2068 + port) 0 d n
      let a := s.dramRead sec d n
      if a.1.2 then .next (a.2.sendNode (port / 2) (a.2.remoteReply k 4))
      else
        .next ((List.range (n / 16)).foldl (fun s i =>
          s.sendNode (port / 2) (mkPacket 6 (fld (k.word 1) 31 20) 3 s.stamp false
            ([withFld (k.word 1) 31 20 s.chipId, withFld (k.word 2 &&& 0xFFFDFFFF) 19 18 i, 0]
              ++ (List.range 4).map (fun j => BitVec.ofNat 32 (a.1.1 / 2 ^ (128 * i + 32 * j)))))) a.2)

/-- The enabled bytes of a WRITE, as runs: offset from the granule and bytes. -/
def enabledRuns (en : Nat) (l : List Byte) : List (Nat × List Byte) :=
  (List.range 16).foldr (fun i r =>
    if Nat.testBit en i then
      match r with
      | (j, m) :: r' => if j = i + 1 then (i, l.getD i 0 :: m) :: r' else (i, [l.getD i 0]) :: r
      | [] => [(i, [l.getD i 0])]
    else r) []

/-- WRITE: the target stores the enabled bytes, or posts them, and sends a COMPLETION (R406, R407). -/
def execWrite (port : Fin 16) (s : State) : Host.Outcome State Fault Refusal :=
  match s.takeRemote port 9 with
  | (none, s) => .next s
  | (some k, s) =>
    let d := remoteOffset k
    let sec := bit (k.word 2) 17
    let s := s.consumed 136 k.par
    match s.remoteRefusal d 16 sec with
    | some st =>
      let s := if st = 3 then s.count Page.bdr Reg.BDR_REFUSED 1 else s
      .next (s.sendNode (port / 2) (s.remoteReply k st))
    | none =>
      let s := s.pushReqs (2068 + port) 0 d 16
      let l := ((List.range 4).map (fun j => leBytes 4 (k.word (4 + j)).toNat)).flatten
      let s := (enabledRuns (fld (k.word 3) 15 0) l).foldl (fun s r => s.dramWrite none sec (d + r.1) r.2) s
      .next (s.sendNode (port / 2) (s.remoteReply k 0))

/-- The oldest reply of a type at node 0. -/
def State.takeReply (s : State) (ty : Nat) : Option Packet × State :=
  match s.fabric.unitIn.find? (fun q => q.1 == 0 && q.2.ty == ty) with
  | none => (none, s)
  | some q =>
    if s.clocked then
      (some q.2, { s.consumed 136 q.2.par with fabric := { s.fabric with unitIn := eraseFirst q s.fabric.unitIn } })
    else (none, s)

/-- A reply that finds no access waiting came after its timeout and is discarded (R408). -/
def State.onReply (s : State) (ty : Nat) (f : State → Packet → Remote → State) : State :=
  match s.takeReply ty with
  | (none, s) => s
  | (some k, s) =>
    match s.trv.remote.find? (fun r => r.tag == fld (k.word 2) 15 0 && r.write == decide (ty = 0xC)) with
    | none => s
    | some r =>
      if fld (k.word 3) 31 28 ≠ 0 then (s.setRemote (eraseFirst r s.trv.remote)).remoteError r.write else f s k r

/-- READ_RSP: the access ends with its last granule (R406, R408). -/
def execReadRsp (s : State) : Host.Outcome State Fault Refusal :=
  .next (s.onReply 6 (fun s k r =>
    let g := ((List.range 4).map (fun j => (k.word (4 + j)).toNat * 2 ^ (32 * j))).sum
    let data := r.data.filter (fun q => q.1 != fld (k.word 2) 19 18) ++ [(fld (k.word 2) 19 18, g)]
    if data.length < r.left then
      s.setRemote (replaceFirst r { r with data := data } s.trv.remote)
    else
      let line := (data.map (fun q => q.2 * 2 ^ (128 * q.1))).sum
      (s.setRemote (eraseFirst r s.trv.remote)).answer (line / 2 ^ (8 * r.first) % 2 ^ (8 * r.bytes)) false))

/-- COMPLETION. -/
def execCompletion (s : State) : Host.Outcome State Fault Refusal :=
  .next (s.onReply 0xC (fun s _ r => s.setRemote (eraseFirst r s.trv.remote)))

/-- REMOTE_TIMEOUT: the oldest access has had no reply for `TRV_RMT_TIMEOUT_NS` (R408). -/
def execRemoteTimeout (s : State) : Host.Outcome State Fault Refusal :=
  match s.trv.remote.find? (fun r =>
      decide (r.sentAt + max 1000 (s.reg Page.trvc Reg.TRV_RMT_TIMEOUT_NS).toNat ≤ s.elapsed)) with
  | none => .next s
  | some r => if s.clocked then .next ((s.setRemote (eraseFirst r s.trv.remote)).remoteError r.write) else .next s

end Sys2Proof.Machine
end

