-- ==== Sys2Proof/Machine/Ethernet.lean ====
section
/-! DEFINITION. Host Ethernet ports (R414–R440): frames, MACsec, the owner and its requests, bulk transfers, event
injection, stream engines, raw rings and timestamps. -/
namespace Sys2Proof.Machine
open Sys2Proof

def Page.eth (p : Nat) : Nat := 0xE0 + p
abbrev Page.umh : Nat := 0xE4

def State.ethPort (s : State) (p : Nat) : EthPort := (Store.find s.eth.ports p).getD {}
def State.setEthPort (s : State) (p : Nat) (x : EthPort) : State :=
  { s with eth := { s.eth with ports := Store.put s.eth.ports p x } }
def State.seState (s : State) (p e : Nat) : SeState := (Store.find s.eth.engines (8 * p + e)).getD {}
def State.setSe (s : State) (p e : Nat) (x : SeState) : State :=
  { s with eth := { s.eth with engines := Store.put s.eth.engines (8 * p + e) x } }

/-- Offset of a register of stream engine e (R437). -/
def seOff (e off : Nat) : Nat := off + 0x40 * e

/-- The port's link is up and the port runs. -/
def State.ethUp (s : State) (p : Nat) : Bool :=
  s.runs (177 + p) && bit (s.reg (Page.eth p) Reg.ETH_CFG) 31 && s.regFld (Page.eth p) Reg.ETH_STAT 31 30 == 2

def State.macsecOn (s : State) (p : Nat) : Bool := bit (s.reg (Page.eth p) Reg.ETH_MACSEC_CTRL) 31

/-! ## Bytes in network order -/

/-- The number of n bytes of a list from offset o, the most significant first. -/
def beAt (l : List Byte) (o n : Nat) : Nat := leNat ((l.drop o).take n).reverse

/-- n bytes of a number, the most significant first. -/
def beBytes (n x : Nat) : List Byte := (leBytes n x).reverse

/-! ## The link (R440) -/

/-- ETH_LINK_CHANGE: `link` is 0 DOWN, 1 TRAINING, 2 UP. -/
def execEthLinkChange (port : Fin 4) (link : Fin 3) (speed : Fin 4) (s : State) : Host.Outcome State Fault Refusal :=
  if s.clocked ∧ s.faulted (Page.eth port) = false then
    let pg := Page.eth port
    let s := (s.setFld pg Reg.ETH_STAT 31 30 link).setFld pg Reg.ETH_STAT 29 28 (if link = 2 then speed else 0)
    .next ((s.setStat pg (if link = 0 then 0 else if link = 1 then 2 else 4)).setInt pg 0)
  else .next s

/-! ## MACsec (R418) -/

/-- Bytes of the SA table of a port (R437). -/
def State.saBytes (s : State) (p k o n : Nat) : List Byte :=
  (((List.range 16).map (fun i => leBytes 4 (s.reg (Page.eth p) (Reg.ETH_SA + 0x40 * k + 4 * i)).toNat)).flatten.drop o).take n

/-- Next packet number of an SA. -/
def State.saPn (s : State) (p k : Nat) : Nat := leNat (s.saBytes p k 0x30 8)
def State.setSaPn (s : State) (p k n : Nat) : State := s.setReg64 (Page.eth p) (Reg.ETH_SA + 0x40 * k + 0x30) n

/-- The SA holds a key. (DEDUCED, log 67) -/
def State.saKeyed (s : State) (p k : Nat) : Bool := leNat (s.saBytes p k 0 32) != 0

/-- A frame that MACsec drops (R418). -/
def State.macsecDrop (s : State) (p : Nat) : State := s.countInt (Page.eth p) Reg.ETH_MACSEC_DROP 1 1

/-- The 64-bit packet number of a frame: that of XPN is the one nearest above the window's start. -/
def fullPn (next low : Nat) : Nat :=
  let hi := next / 2 ^ 32
  if low + 2 ^ 31 < next % 2 ^ 32 then (hi + 1) * 2 ^ 32 + low else hi * 2 ^ 32 + low

/-- Receive SAs hold four SCs with four ANs each, in the order of the table. -/
def State.rxSa (s : State) (p sci an : Nat) : Option Nat :=
  (List.range 16).map (fun i => i + 4) |>.find? (fun k => k % 4 == an && leNat (s.saBytes p k 0x38 8) == sci && s.saKeyed p k)

/-- Check a frame with a SecTAG: the frame without its SecTAG and ICV where it passes (R418). -/
def State.macsecOpen (s : State) (p : Nat) (l : List Byte) : Option (List Byte) × State :=
  let pg := Page.eth p
  let an := beAt l 14 1 % 4
  match s.rxSa p (beAt l 20 8) an with
  | none => (none, s.macsecDrop p)
  | some k =>
    let next := s.saPn p k
    let pn := if bit (s.reg pg Reg.ETH_MACSEC_CTRL) 29 then fullPn next (beAt l 16 4) else beAt l 16 4
    if pn + (s.reg pg Reg.ETH_MACSEC_WIN).toNat < next then (none, s.macsecDrop p)
    else
      match Config.gcmOpen (s.saBytes p k 0 32) (s.saBytes p k 0x20 12) (leNat (s.saBytes p k 0x2C 4)) pn (l.take 28) (l.drop 28) with
      | none => (none, s.macsecDrop p)
      | some t => (some (l.take 12 ++ t), s.setSaPn p k (max next (pn + 1)))

/-! ## Sending -/

/-- Packet numbers that the transmit SA of a port still has: its next one does not pass 2³² − 1, or 2⁶⁴ − 1 under XPN
(R650). -/
def State.pnLeft (s : State) (p an : Nat) : Nat :=
  (if bit (s.reg (Page.eth p) Reg.ETH_MACSEC_CTRL) 29 then 2 ^ 64 - 1 else 2 ^ 32 - 1) - s.saPn p an

/-- Frames leave a port: each is counted, and takes a packet number of the transmit SA under MACsec; a frame for which there
is none is dropped (R418, R650). -/
def State.ethSend (s : State) (p : Nat) (l : List EthOut) : State :=
  let an := s.regFld (Page.eth p) Reg.ETH_MACSEC_CTRL 28 27
  let n := if s.macsecOn p then min l.length (s.pnLeft p an) else l.length
  let s := s.count (Page.eth p) Reg.ETH_TX_FRAMES n
  let s := if s.macsecOn p then s.setSaPn p an (s.saPn p an + n) else s
  let s := (List.range (l.length - n)).foldl (fun s _ => s.macsecDrop p) s
  { s with eth := { s.eth with out := l.take n } }

/-- Bytes of a frame that remain after the headers of a form and the Umhoma header (R433). -/
def State.umhRoom (s : State) (p form extra : Nat) : Nat :=
  s.regFld (Page.eth p) Reg.ETH_MTU 13 0 - 18 - (if bit (s.reg (Page.eth p) Reg.ETH_VLAN) 31 then 4 else 0)
    - (if s.macsecOn p then 32 else 0) - (if form = 4 then 28 else if form = 6 then 48 else 0) - extra

/-- A Umhoma header of the device: VER 1 and RSP 1 (R422). -/
def umhHeader (op len session count id last : Nat) : List Byte :=
  leBytes 4 (2 ^ 28 + 2 ^ 27 + op % 256 * 2 ^ 16 + len % 65536) ++ leBytes 4 (session % 65536 * 65536 + count % 65536)
    ++ leBytes 4 id ++ leBytes 4 last

/-- Cut data into pieces of n bytes with their offsets. -/
def cutData (n : Nat) (l : List Byte) : List (Nat × List Byte) :=
  (List.range ((l.length + n - 1) / n)).map (fun i => (n * i, (l.drop (n * i)).take n))

/-- Frames of a response: with a fragment word where there are several, or where the data come in fragments (R422). -/
def responseFrames (room op session count id last : Nat) (frag : Bool) (data : List Byte) : List (List Byte) :=
  if frag = false ∧ data.length ≤ room then [umhHeader op data.length session count id last ++ data]
  else
    let n := max 4 ((room - 4) / 4 * 4)
    let cs := cutData n data
    cs.map (fun c =>
      let done := decide (data.length ≤ c.1 + c.2.length)
      umhHeader op (c.2.length + 4) session count id last ++ leBytes 4 ((if done then 2 ^ 31 else 0) + c.1 % 2 ^ 24) ++ c.2)

/-- Session of the owner. -/
def State.session (s : State) : Nat := s.regFld Page.umh Reg.ETH_UMH_OWNER 15 0

/-- What a request names (R422). -/
def UmhReq.word (q : UmhReq) (i : Nat) : W32 := q.words.getD i 0
def UmhReq.op (q : UmhReq) : Nat := fld (q.word 0) 23 16
def UmhReq.count (q : UmhReq) : Nat := fld (q.word 1) 15 0
def UmhReq.id (q : UmhReq) : Nat := (q.word 2).toNat
def UmhReq.pay (q : UmhReq) (i : Nat) : W32 := BitVec.ofNat 32 (leNat ((q.payload.drop (4 * i)).take 4))

/-- Answer a request; the owner's are kept but for BULK_READ and ATTEST (R424, R430). -/
def State.umhAnswer (s : State) (p : Nat) (q : UmhReq) (status done count : Nat) (frag : Bool) (data : List Byte) : State :=
  let s := if status = 0 then s else s.count Page.umh Reg.ETH_UMH_REFUSED 1
  let fs := responseFrames (s.umhRoom p q.peer.form 16) q.op (if s.eth.owner = some q.peer then s.session else fld (q.word 1) 31 16)
    count q.id (status * 2 ^ 24 + done) frag data
  let x := s.ethPort p
  let s := if s.eth.owner = some q.peer ∧ q.op ≠ 2 ∧ q.op ≠ 5 ∧ status ≠ 1 then
      s.setEthPort p { x with kept := (x.kept ++ [(q.id, fs)]).drop (x.kept.length + 1 - 64) }
    else s
  s.ethSend p (fs.map (fun f => .umhoma p q.peer f))

/-- An answer without data. -/
def State.umhStatus (s : State) (p : Nat) (q : UmhReq) (status done : Nat) : State := s.umhAnswer p q status done 0 false []

/-! ## The owner (R425, R426) -/

/-- Ownership ends (R426). -/
def State.endOwner (s : State) : State :=
  if s.eth.owner.isNone then s
  else
    let s := (s.clrReg Page.umh Reg.ETH_UMH_OWNER 0x800FFFFF).setInt Page.umh 0
    let s := s.eth.engines.foldl (fun s x =>
      (s.setSe (x.1 / 8) (x.1 % 8) { x.2 with due := none }).setReg (Page.eth (x.1 / 8)) (seOff (x.1 % 8) Reg.ETH_SE_STAT) 0) s
    { s with eth := { s.eth with owner := none, ports := s.eth.ports.map (fun x => (x.1, { x.2 with kept := [] })) } }

/-- A requester becomes the owner with a new SESSION (R425). -/
def State.newOwnerUmh (s : State) (p : Nat) (q : UmhPeer) : State :=
  let session := 1 + Config.num s.fresh % 65535
  let changed := s.eth.owner ≠ some q
  let s := s.useFresh.setReg Page.umh Reg.ETH_UMH_OWNER (BitVec.ofNat 32 (2 ^ 31 + p * 2 ^ 16 + session))
  let s := s.setReg64 Page.umh Reg.ETH_UMH_OWNER_MAC q.mac
  let s : State := { s with eth := { s.eth with owner := some q, lastReq := s.elapsed,
                                                ports := s.eth.ports.map (fun x => (x.1, { x.2 with kept := [] })) } }
  if changed then s.setInt Page.umh 0 else s

/-- `CHP_BOOT_STAT.STAGE` and FAIL (R566). -/
def State.bootStage (s : State) : Nat := s.regFld Page.chp Reg.CHP_BOOT_STAT 31 28
def State.bootFail (s : State) : Nat := s.regFld Page.chp Reg.CHP_BOOT_STAT 23 16

/-- The chip has read READY since its last reset (R562, R563). -/
def State.atReady (s : State) : Bool :=
  s.bootStage == 9 && s.boot.path == .none && decide (s.frzState < Frz.collect)

/-- The boot ROM serves the host-boot subset: in HALTED, and while a host supplies the image (R550, R553). -/
def State.hostBoot (s : State) : Bool :=
  s.bootStage == 0xF || (s.boot.path != .none && (s.regFld Page.chp Reg.CHP_BOOT_STAT 7 6 == 1 || s.boot.host)
    && (s.bootStage == 6 || s.bootStage == 7))

/-- A DRAM staging area exists: the halt did not come in OTP or DRAM_TRAIN (R550, R553). -/
def State.staging (s : State) : Bool := s.bootStage != 0xF || !(decide (1 ≤ s.bootFail ∧ s.bootFail ≤ 4))

/-- RFG1 serves requests: it is in RUN (R429, R451). -/
def State.hostServed (s : State) : Bool := s.atReady && s.regFld 0x49 Reg.RFG_STAT 31 28 == 1

/-- A request that the boot ROM takes (R553): HELLO, BULK_WRITE, a REG_READ of the chip page, and a REG_WRITE of
`CHP_BOOT_IMG` or `CHP_RESET`, in raw form. -/
def State.bootTakes (s : State) (q : UmhReq) : Bool :=
  let items (n k : Nat) (f : Nat → Bool) : Bool := (List.range n).all (fun i => f (q.pay (k * i)).toNat)
  q.peer.form == 0 && (q.op == 1 || (q.op == 6 && s.staging)
    || (q.op == 3 && items q.count 1 (fun o => decide (o < 4096)))
    || (q.op == 4 && items q.count 2 (fun o => o == Reg.CHP_RESET || (o == Reg.CHP_BOOT_IMG && s.staging))))

/-! ## Receiving (R415, R416, R421) -/

/-- The IEEE 1588 event message in a frame: the offset of its header (R414, R420). -/
def ptpEvent (l : List Byte) : Option Nat :=
  let at' (o : Nat) : Option Nat := if beAt l o 1 % 16 ≤ 3 ∧ o + 34 ≤ l.length then some o else none
  if beAt l 12 2 = 0x88F7 then at' 14
  else if beAt l 12 2 = 0x0800 ∧ beAt l 23 1 = 17 ∧ beAt l 36 2 = 319 then at' 42
  else if beAt l 12 2 = 0x86DD ∧ beAt l 20 1 = 17 ∧ beAt l 56 2 = 319 then at' 62
  else none

/-- Time of a capture: within 8 ns of the crossing (R420). (DESIGN CHOICE, log 69) -/
def State.captureTime (s : State) : Nat := s.elapsed + Config.num s.fresh % 17 - 8

/-- Store bytes in a ring or buffer: DRAM as a requester, or a Tarn bank as owner 7 or through the side port (R432,
R436). -/
def hostReq : Requester := { who := .host, mmode := false }

/-- Pieces of [a, a + n) that do not cross a 64-byte line. -/
def linePieces (a n : Nat) : List (Nat × Nat) :=
  if n = 0 then []
  else
    let first := min n (64 - a % 64)
    (a, first) :: (List.range ((n - first + 63) / 64)).map (fun i => (a + first + 64 * i, min 64 (n - first - 64 * i)))

/-- One access of an engine to SRAM. -/
def State.sramOp (s : State) (a : Nat) (op : Nat → TarnOp) : (Nat × Bool) × State :=
  match addrRegion a with
  | .tarn =>
    let b := (a - Base.tarn) / bankBytes
    let o := op ((a - Base.tarn) % bankBytes)
    if s.tarnTakes b 7 hostReq then s.tarnDo b o else s.tarnSide b hostReq o
  | .pltSram => s.pltSide ((a - Base.plt) / 0x1000000) (op ((a - Base.plt) % 0x1000000))
  | .unmapped => ((0, true), s.unmappedAcc)
  | _ => ((0, true), s)

/-- Write memory for an engine of the ports. -/
def State.dmaWrite (s : State) (who a : Nat) (l : List Byte) : State :=
  match addrRegion a with
  | .dram =>
    let d := a - Base.dram
    (s.pushReqs who 0 d l.length).dramWrite (some hostReq) false d l
  | _ => (linePieces a l.length).foldl (fun s x =>
      (s.sramOp x.1 (fun o => .store o ((l.drop (x.1 - a)).take x.2))).2) s

/-- Read memory for an engine of the ports: the bytes, and whether any is poison. -/
def State.dmaRead (s : State) (who a n : Nat) : (List Byte × Bool) × State :=
  match addrRegion a with
  | .dram =>
    let d := a - Base.dram
    let r := (s.pushReqs who 0 d n).dramRead false d n
    ((leBytes n r.1.1, r.1.2), r.2)
  | _ => (linePieces a n).foldl (fun acc x =>
      let r := acc.2.sramOp x.1 (fun o => .load o x.2)
      ((acc.1.1 ++ leBytes x.2 r.1.1, acc.1.2 || r.1.2), r.2)) (([], false), s)

/-- Slots of a raw ring. -/
def ringSlots (log : Nat) : Nat := 2 ^ min log 12

/-- A frame that is not Umhoma goes to the raw ring, or is dropped (R421, R436). (DEDUCED, log 68) -/
def State.rawReceive (s : State) (p : Nat) (l : List Byte) (macsec vlan : Bool) : State :=
  let pg := Page.eth p
  let cfg := s.reg pg Reg.ETH_RAW_CFG
  let n := ringSlots (fld cfg 3 0)
  let ptr := s.reg pg Reg.ETH_RAW_RX_PTR
  let tail := fld ptr 27 16
  if bit cfg 31 = false ∨ (tail + 1) % n = fld ptr 11 0 % n then s.count pg Reg.ETH_RX_DROP 1
  else
    let ts := (ptpEvent l).isSome
    let t := if ts then s.captureTime else 0
    let s := if ts then s.useFresh else s
    let slot := bitsOf (s.reg64 pg Reg.ETH_RAW_RX_BASE) 51 6 * 64 + 10240 * (tail % n)
    let head := leBytes 4 l.length ++ leBytes 4 ((if macsec then 1 else 0) + (if vlan then 2 else 0) + (if ts then 4 else 0))
      ++ leBytes 8 t ++ List.replicate 16 0
    (s.dmaWrite 2084 slot (head ++ l)).setFld pg Reg.ETH_RAW_RX_PTR 27 16 ((tail + 1) % n)

/-- Payload bytes that an operation and a count ask for (R422, R423); none for a reserved operation. -/
def umhLen (op count len : Nat) : Option Bool :=
  if op = 1 then some (len == 4)
  else if op = 2 then some (len == 32)
  else if op = 3 then some (len == 4 * count && decide (count ≤ 256))
  else if op = 4 then some (len == 8 * count && decide (count ≤ 256))
  else if op = 5 then some (len == 12)
  else if op = 6 then some (decide (8 ≤ len ∧ len ≤ 8200) && len % 4 == 0)
  else if op = 7 then some (len == 12 * count && decide (count ≤ 512))
  else if op = 9 then some true
  else none

/-- A Umhoma request reaches a port: it is answered at once, or waits for its service (R424, R425, R429, R430). -/
def State.umhTake (s : State) (p : Nat) (peer : UmhPeer) (l : List Byte) : State :=
  if l.length < 16 then s.count (Page.eth p) Reg.ETH_RX_DROP 1
  else
    let w (i : Nat) : W32 := BitVec.ofNat 32 (leNat ((l.drop (4 * i)).take 4))
    let len := fld (w 0) 15 0
    let q : UmhReq := { peer := peer, words := [w 0, w 1, w 2, w 3], payload := (l.drop 16).take len }
    let owns := decide (s.eth.owner = some peer)
    let s := s.count Page.umh Reg.ETH_UMH_REQS 1
    let s : State := if owns then { s with eth := { s.eth with lastReq := s.elapsed } } else s
    let x := s.ethPort p
    if s.atReady = false && s.hostBoot = false then (s.setInt Page.umh 1).umhStatus p q 1 0
    else if fld (w 0) 31 28 ≠ 1 then s.umhStatus p q 9 0
    else if l.length < 16 + len ∨ umhLen q.op q.count len ≠ some true then s.umhStatus p q 6 0
    else if 3 ≤ q.op && !(owns && fld (w 1) 31 16 == s.session) then s.umhStatus p q 2 0
    else match (if owns && q.op != 9 then x.kept.find? (fun k => k.1 == q.id) else none) with
      | some k => (s.count Page.umh Reg.ETH_UMH_DUP 1).ethSend p (k.2.map (fun f => .umhoma p peer f))
      | none =>
        if (s.hostBoot && !(s.bootTakes q)) || (!s.hostBoot && decide (q.op ≤ 4) && !s.hostServed) then
          (s.setInt Page.umh 1).umhStatus p q 1 0
        else s.setEthPort p { x with reqs := x.reqs ++ [q] }

/-- The station address, the IP addresses and the UDP port of a port. -/
def State.ethMac (s : State) (p : Nat) : Nat := s.reg64 (Page.eth p) Reg.ETH_MAC % 2 ^ 48
def State.ethIp4 (s : State) (p : Nat) : Nat := (s.reg (Page.eth p) Reg.ETH_IPV4).toNat
def State.ethIp6 (s : State) (p : Nat) : Nat :=
  s.reg64 (Page.eth p) Reg.ETH_IPV6 + 2 ^ 64 * s.reg64 (Page.eth p) (Reg.ETH_IPV6 + 8)
def State.umhEn (s : State) (b : Nat) : Bool :=
  bit (s.reg Page.umh Reg.ETH_UMH_CTRL) 0 && bit (s.reg Page.umh Reg.ETH_UMH_CTRL) b

/-- What becomes of a frame behind its tags (R421). -/
inductive EthClass where
  | umhoma (peer : UmhPeer) (l : List Byte)
  | answer (kind : Nat)
  | drop
  | other
deriving DecidableEq, Repr

/-- Sort a frame by its EtherType `et` and the bytes behind it (R414, R421). (PRESUMED, log 66) -/
def State.ethSort (s : State) (p dst src vid et : Nat) (l : List Byte) : EthClass :=
  let peer (form addr udp : Nat) : UmhPeer := { form := form, mac := src, vid := vid, addr := addr, udp := udp }
  if et = 0x88B5 ∧ dst = s.ethMac p ∧ s.umhEn 2 then .umhoma (peer 0 0 0) l
  else if et = 0x0806 then
    (if beAt l 6 2 = 1 ∧ beAt l 24 4 = s.ethIp4 p then .answer 0 else .other)
  else if et = 0x0800 then
    (if beAt l 0 1 % 16 ≠ 5 ∨ beAt l 6 2 % 2 ^ 14 ≠ 0 then .drop
     else if beAt l 16 4 ≠ s.ethIp4 p then .other
     else if beAt l 9 1 = 17 ∧ beAt l 22 2 = s.regFld (Page.eth p) Reg.ETH_UDP_PORT 15 0 ∧ s.umhEn 3 then
       .umhoma (peer 4 (beAt l 12 4) (beAt l 20 2)) (l.drop 28)
     else if beAt l 9 1 = 1 ∧ beAt l 20 1 = 8 then .answer 2
     else .other)
  else if et = 0x86DD then
    (if [0, 43, 44, 50, 51, 60].contains (beAt l 6 1) then .drop
     else if beAt l 6 1 = 58 ∧ beAt l 40 1 = 135 ∧ beAt l 48 16 = s.ethIp6 p then .answer 1
     else if beAt l 24 16 ≠ s.ethIp6 p then .other
     else if beAt l 6 1 = 17 ∧ beAt l 42 2 = s.regFld (Page.eth p) Reg.ETH_UDP_PORT 15 0 ∧ s.umhEn 3 then
       .umhoma (peer 6 (beAt l 8 16) (beAt l 40 2)) (l.drop 48)
     else if beAt l 6 1 = 58 ∧ beAt l 40 1 = 128 then .answer 2
     else .other)
  else .other

/-- A frame behind its MACsec protection (R416, R421). -/
def State.ethFrame (s : State) (p : Nat) (l : List Byte) (macsec : Bool) : State :=
  let pg := Page.eth p
  let vlan := s.reg pg Reg.ETH_VLAN
  let tagged := decide (beAt l 12 2 = 0x8100)
  let vid := if tagged then beAt l 14 2 % 4096 else 0
  let inner := if tagged then beAt l 16 2 else beAt l 12 2
  if inner = 0x88A8 ∨ (tagged ∧ inner = 0x8100) ∨ (bit vlan 31 ∧ tagged ∧ vid ≠ fld vlan 11 0) then
    s.count pg Reg.ETH_RX_DROP 1
  else match s.ethSort p (beAt l 0 6) (beAt l 6 6) vid inner (l.drop (if tagged then 18 else 14)) with
    | .umhoma peer m => s.umhTake p peer m
    | .answer k => s.ethSend p [.answer p k l]
    | .drop => s.count pg Reg.ETH_RX_DROP 1
    | .other => s.rawReceive p l macsec tagged

/-- The FCS of a frame is the CRC-32 of what stands before it. -/
def fcsGood (l : List Byte) : Bool := leNat (l.drop (l.length - 4)) == crc32 (l.take (l.length - 4))

/-- ETH_FRAME_RECEIVE: `frame` runs from the destination address to the FCS (R415, R418, R421). -/
def execEthFrameReceive (port : Fin 4) (frame : List Byte) (s : State) : Host.Outcome State Fault Refusal :=
  if s.ethUp port = false then .next s
  else
    let pg := Page.eth port
    let s := s.count pg Reg.ETH_RX_FRAMES 1
    let l := frame.take (frame.length - 4)
    if frame.length < 18 ∨ fcsGood frame = false then .next (s.count pg Reg.ETH_FCS_ERR 1)
    else if s.regFld pg Reg.ETH_MTU 13 0 < frame.length then .next (s.count pg Reg.ETH_RX_DROP 1)
    else if s.macsecOn port = false then .next (s.ethFrame port l false)
    else if beAt l 12 2 = 0x88E5 then
      match s.macsecOpen port l with
      | (some m, s) => .next (s.ethFrame port m true)
      | (none, s) => .next s
    else if bit (s.reg pg Reg.ETH_MACSEC_CTRL) 30 then .next (s.macsecDrop port)
    else .next (s.ethFrame port l false)

/-! ## Requests served by hardware (R427, R431, R432) -/

/-- The oldest request of a port, where it is of an operation. -/
def State.takeReq (s : State) (p : Nat) (f : UmhReq → Bool) : Option UmhReq × State :=
  let x := s.ethPort p
  match x.reqs with
  | q :: l => if s.ethUp p && f q then (some q, s.setEthPort p { x with reqs := l }) else (none, s)
  | [] => (none, s)

/-- Do `f` with the oldest request of a port where it is of an operation. -/
def State.onReq (s : State) (p op : Nat) (f : State → UmhReq → State) : State :=
  match s.takeReq p (fun q => q.op == op) with
  | (some q, s) => f s q
  | (none, s) => s

/-- STATUS with which a bulk range is refused: BAD_ADDR or SECURITY (R424, R427). (DEDUCED, log 73) -/
def State.bulkRefusal (s : State) (a n : Nat) : Option Nat :=
  if a % 4 ≠ 0 then some 5
  else match addrRegion a with
    | .dram =>
      let d := a - Base.dram
      if dramBytes s.grade < d + n then some 5 else if s.rangeSecure d n then some 4 else none
    | .tarn =>
      let o := a - Base.tarn
      if 0x4000000 < o + n then some 5
      else if (List.range ((o % bankBytes + n + bankBytes - 1) / bankBytes)).any (fun i => s.bankSecure (o / bankBytes + i)) then some 4
      else none
    | .pltSram =>
      let o := a - Base.plt
      if 0x4000000 < o + n ∨ presentIn s.grade (Page.plt ((o + n - 1) / 0x1000000)) = false then some 5 else none
    | _ => some 5

/-- A refused bulk range: an address outside every range of R525 is counted (R526). -/
def State.bulkRefuse (s : State) (port : Nat) (q : UmhReq) (a st : Nat) : State :=
  (if addrRegion a = .unmapped then s.unmappedAcc else s).umhStatus port q st 0

/-- The oldest request of a port is a bulk access to DRAM that is being cleared: it waits (R646). -/
def State.bulkHeld (s : State) (port : Nat) : Bool :=
  match (s.ethPort port).reqs with
  | q :: _ =>
    let a := join64 (q.pay 0) (q.pay 1) % 2 ^ 52
    addrRegion a == .dram && ((q.op == 5 && s.clearingAny (a - Base.dram) (min (q.pay 2).toNat 1048576))
      || (q.op == 6 && s.clearingAny (a - Base.dram) (q.payload.length - 8)))
  | [] => false

/-- The lowest-numbered idle BULK engine of a port (R432). -/
def State.bulkEngine (s : State) (p : Nat) : Option Nat :=
  (List.range 8).find? (fun e => s.regFld (Page.eth p) (seOff e Reg.ETH_SE_CFG) 31 30 == 3
    && !(bit (s.reg (Page.eth p) (seOff e Reg.ETH_SE_STAT)) 31))

/-- BULK_READ. -/
def execBulkRead (port : Fin 4) (s : State) : Host.Outcome State Fault Refusal :=
  .next (if s.bulkHeld port then s else s.onReq port 5 (fun s q =>
    let a := join64 (q.pay 0) (q.pay 1) % 2 ^ 52
    let n := (q.pay 2).toNat
    match s.bulkEngine port with
    | none => (s.setInt Page.umh 1).umhStatus port q 1 0
    | some e =>
      if n < 4 ∨ 1048576 < n ∨ n % 4 ≠ 0 then s.umhStatus port q 6 0
      else match s.bulkRefusal a n with
        | some st => s.bulkRefuse port q a st
        | none =>
          let r := s.dmaRead 2087 a n
          if r.1.2 then r.2.umhStatus port q 8 0
          else
            let s := r.2.umhAnswer port q 0 n 1 true r.1.1
            s.count (Page.eth port) (seOff e Reg.ETH_SE_SENT) s.eth.out.length))

/-- BULK_WRITE. -/
def execBulkWrite (port : Fin 4) (s : State) : Host.Outcome State Fault Refusal :=
  .next (if s.bulkHeld port then s else s.onReq port 6 (fun s q =>
    let a := join64 (q.pay 0) (q.pay 1) % 2 ^ 52
    let l := q.payload.drop 8
    if s.hostBoot then
      (if a < Base.dram ∨ Base.dram + 0xA0000 < a + l.length then s.umhStatus port q 5 0
       else (s.dramStore (a - Base.dram) l).umhStatus port q 0 l.length)
    else match s.bulkEngine port with
    | none => (s.setInt Page.umh 1).umhStatus port q 1 0
    | some _ =>
      match s.bulkRefusal a l.length with
      | some st => s.bulkRefuse port q a st
      | none => (s.dmaWrite 2087 a l).umhStatus port q 0 l.length))

/-- Events of the items of an EVENT_INJECT request (R431). -/
def State.injItems (s : State) (q : UmhReq) (step : Option Nat) : List InjEvent :=
  (List.range q.count).map (fun i =>
    let w0 := q.pay (3 * i)
    let g := bit w0 31
    { step := step, chip := if bit w0 30 then s.chipId else fld w0 11 0, binary := !g
      words := if g then [q.pay (3 * i + 1), q.pay (3 * i + 2)] else [q.pay (3 * i + 1)] })

/-- EVENT_INJECT (R424, R431). -/
def execEventInject (port : Fin 4) (s : State) : Host.Outcome State Fault Refusal :=
  .next (s.onReq port 7 (fun s q =>
    let stepped := bit (q.word 0) 26
    if stepped ∧ (q.word 3).toNat ≠ s.stamp % 2 ^ 32 then s.umhStatus port q 7 0
    else
      let x := s.ethPort port
      let l := (s.injItems q (if stepped then some s.stamp else none)).take (4096 - x.inject.length)
      (s.setEthPort port { x with inject := x.inject ++ l }).umhStatus port q 0 l.length))

/-- The packet of the events at the head of a port's buffer, with how many it takes (R205, R431). -/
def injTake (n : Nat) (cur : OutEvent) (step : Option Nat) : List InjEvent → Nat × OutEvent
  | [] => (n, cur)
  | e :: l =>
    let w : OutEvent := { chip := e.chip, binary := e.binary, words := e.words }
    if e.step = step ∧ w.joins cur then injTake (n + 1) { cur with words := cur.words ++ w.words } step l else (n, cur)

/-- The LOCAL input of node 1 has a credit for another event packet (R201, R214). -/
def State.node1Credit (s : State) : Bool := decide (s.bufClaims 129 11 1 < bufPlaces 1)

/-- A cycle in which each port injects its next packet at node 1 (R431). -/
def State.injectDrain (s : State) : State :=
  s.eth.ports.foldl (fun s x =>
    match x.2.inject with
    | [] => s
    | e :: l =>
      if s.node1Credit then
        let a := injTake 1 { chip := e.chip, binary := e.binary, words := e.words } e.step l
        let step := e.step.getD s.stamp
        (s.setEthPort x.1 { s.ethPort x.1 with inject := x.2.inject.drop a.1 }).sendNode 1
          (a.2.packet step (decide (step < s.stepNo)))
      else s) s

/-! ## NOTIFY (R435) -/

/-- Claim up to `n` more sources of the host context. -/
def State.claimHost (s : State) : Nat → State
  | 0 => s
  | n + 1 =>
    match s.claimBest 20 with
    | (none, s) => s
    | (some i, s) => ({ s with eth := { s.eth with unsent := s.eth.unsent ++ [i] } }).claimHost n

/-- The port of the owner. -/
def State.ownerPort (s : State) : Nat := s.regFld Page.umh Reg.ETH_UMH_OWNER 19 16 % 4

/-- Send a NOTIFY frame to the owner. -/
def State.sendNotify (s : State) (p : UmhPeer) (n : Notify) : State :=
  s.ethSend s.ownerPort [.umhoma s.ownerPort p
    (umhHeader 9 (4 * n.sources.length) s.session n.sources.length n.id 0 ++ (n.sources.map (leBytes 4)).flatten)]

/-- NOTIFY: RFG1 claims sources of context 20 and sends up to 16 of them. -/
def execNotify (s : State) : Host.Outcome State Fault Refusal :=
  if s.clocked && s.hostServed then
    let s := s.claimHost (16 - min 16 s.eth.unsent.length)
    match s.eth.owner, s.eth.unsent with
    | some p, i :: l =>
      let n : Notify := { id := s.eth.notifyNum, sources := (i :: l).take 16, sentAt := s.elapsed }
      .next (({ s with eth := { s.eth with unsent := (i :: l).drop 16, notifies := s.eth.notifies ++ [n]
                                           notifyNum := (s.eth.notifyNum + 1) % 2 ^ 32 } }).sendNotify p n)
    | _, _ => .next s
  else .next s

/-- NOTIFY_ACK: RFG1 completes the sources of the echoed frame. -/
def execNotifyAck (port : Fin 4) (s : State) : Host.Outcome State Fault Refusal :=
  if s.hostServed then
    .next (s.onReq port 9 (fun s q =>
      match s.eth.notifies.find? (fun n => n.id == q.id) with
      | none => s
      | some n => ({ s with eth := { s.eth with notifies := eraseFirst n s.eth.notifies } }).endClaims 20
          (fun i => n.sources.contains i)))
  else .next s

/-- NOTIFY_RESEND: the oldest frame that has waited `ETH_UMH_NOTIFY_MS`. -/
def execNotifyResend (s : State) : Host.Outcome State Fault Refusal :=
  let ms := max 1 (s.regFld Page.umh Reg.ETH_UMH_NOTIFY_MS 15 0)
  match s.eth.owner, s.eth.notifies.find? (fun n => decide (n.sentAt + ms * 1000000 ≤ s.elapsed)) with
  | some p, some n =>
    if s.clocked && s.hostServed then
      .next (({ s with eth := { s.eth with notifies := s.eth.notifies.map (fun m =>
        if m = n then { n with sentAt := s.elapsed } else m) } }).sendNotify p n)
    else .next s
  | _, _ => .next s

/-! ## Ownership ends (R426) -/

/-- OWNER_IDLE_TIMEOUT. -/
def execOwnerIdleTimeout (s : State) : Host.Outcome State Fault Refusal :=
  let ms := max 1 (s.regFld Page.umh Reg.ETH_UMH_IDLE_MS 15 0)
  if s.clocked ∧ s.eth.owner.isSome ∧ s.eth.lastReq + ms * 1000000 ≤ s.elapsed then .next s.endOwner else .next s

/-- A write to `ETH_UMH_CTRL` (R439). -/
def State.umhCtrlWrite (s : State) (v : W32) : State :=
  let s := s.setReg Page.umh Reg.ETH_UMH_CTRL (v &&& 0xD)
  if bit v 1 then s.endOwner else s

/-- DROP_OWNER: the write to `ETH_UMH_CTRL` that carries it. -/
def execDropOwner (req : Requester) (v : W32) (s : State) : Host.Outcome State Fault Refusal :=
  .next (s.ifAdmitWord req Page.umh Reg.ETH_UMH_CTRL (v ||| 2) (fun s v => s.umhCtrlWrite v))

/-! ## Stream engines (R432–R434) -/

/-- Bytes of a buffer or entry (R438). -/
def State.seLen (s : State) (p e : Nat) : Nat := s.regFld (Page.eth p) (seOff e Reg.ETH_SE_LEN) 20 0
def State.seBase (s : State) (p e : Nat) : Nat := bitsOf (s.reg64 (Page.eth p) (seOff e Reg.ETH_SE_BASE)) 51 6 * 64

/-- At a summit each BUFFER engine takes up the step's buffer, or skips it (R432, R434). -/
def State.seSummit (s : State) (step : Nat) (forced : Bool) : State :=
  (List.range 32).foldl (fun s i =>
    let p := i / 8
    let e := i % 8
    let pg := Page.eth p
    if s.regFld pg (seOff e Reg.ETH_SE_CFG) 31 30 ≠ 1 then s
    else if s.eth.owner.isNone ∨ (s.seState p e).due.isSome then s.countInt pg (seOff e Reg.ETH_SE_SKIP) 3 1
    else (s.setSe p e { s.seState p e with due := some (step, forced) }).setReg pg (seOff e Reg.ETH_SE_STAT) 0x80000000) s

/-- Send a buffer or entry as STREAM frames (R433); data that are poison are sent as they read. -/
def State.streamSend (s : State) (p e a step : Nat) (forced : Bool) : State :=
  match s.eth.owner with
  | none => s
  | some peer =>
    let pg := Page.eth p
    let flow := s.reg pg (seOff e Reg.ETH_SE_FLOW)
    let r := s.dmaRead 2084 a (s.seLen p e)
    let s := r.2
    let n := max 64 (s.umhRoom p peer.form 32 / 64 * 64)
    let cs := cutData n r.1.1
    let num := (s.seState p e).num
    let session := s.session
    let len := r.1.1.length
    let dst : UmhPeer := if peer.form = 0 then peer else { peer with udp := fld flow 15 0 }
    let fs := cs.zipIdx.map (fun c =>
      EthOut.umhoma p dst (umhHeader 8 (16 + c.1.2.length) session 1 (num + c.2) 0
        ++ leBytes 4 (fld flow 31 16 * 2 ^ 16 + (if len ≤ c.1.1 + c.1.2.length then 2 else 0) + (if forced then 1 else 0))
        ++ leBytes 4 c.1.1 ++ leBytes 8 step ++ c.1.2))
    let s := (s.ethSend p fs).count pg (seOff e Reg.ETH_SE_SENT) fs.length
    s.setSe p e { s.seState p e with num := num + fs.length }

/-- STREAM_BUFFER_SEND: the engine sends the buffer of its step. -/
def execStreamBufferSend (port : Fin 4) (engine : Fin 8) (s : State) : Host.Outcome State Fault Refusal :=
  match (s.seState port engine).due with
  | none => .next s
  | some (n, forced) =>
    if s.ethUp port = false then .next s
    else
      let pg := Page.eth port
      let win := s.regFld pg (seOff engine Reg.ETH_SE_CFG) 9 0 + 1
      let a := s.seBase port engine + n % win * ((s.seLen port engine + 63) / 64 * 64)
      let s := s.streamSend port engine a n forced
      .next ((s.setSe port engine { s.seState port engine with due := none }).setReg pg (seOff engine Reg.ETH_SE_STAT) 0)

/-- ETH_SE_TAIL. -/
def execEthSeTail (req : Requester) (port : Fin 4) (engine : Fin 8) (v : W32) (s : State) : Host.Outcome State Fault Refusal :=
  let off := seOff engine Reg.ETH_SE_TAIL
  .next (s.ifAdmit req (Page.eth port) off (fun s => s.setReg (Page.eth port) off (v &&& 0xFFF)))

/-- STREAM_RING_SEND: the engine sends the next entry of its ring. -/
def execStreamRingSend (port : Fin 4) (engine : Fin 8) (s : State) : Host.Outcome State Fault Refusal :=
  let pg := Page.eth port
  let cfg := s.reg pg (seOff engine Reg.ETH_SE_CFG)
  let n := ringSlots (fld cfg 19 16)
  let head := s.regFld pg (seOff engine Reg.ETH_SE_HEAD) 11 0 % n
  let tail := s.regFld pg (seOff engine Reg.ETH_SE_TAIL) 11 0 % n
  if s.ethUp port = false ∨ fld cfg 31 30 ≠ 2 ∨ s.eth.owner.isNone ∨ head = tail then .next s
  else
    let s := s.streamSend port engine (s.seBase port engine + head * s.seLen port engine) s.stepNo false
    .next (s.setReg pg (seOff engine Reg.ETH_SE_HEAD) (BitVec.ofNat 32 ((head + 1) % n)))

/-! ## Raw transmit and timestamps (R420, R436) -/

/-- A checksum after one 16-bit word of its data has changed. -/
def fixSum (sum old new : Nat) : Nat :=
  let t := (65535 - sum) + (65535 - old) + new
  let t := t % 65536 + t / 65536
  65535 - (t % 65536 + t / 65536)

/-- Put bytes at an offset of a list. -/
def putAt (l : List Byte) (o : Nat) (b : List Byte) : List Byte := l.take o ++ b ++ l.drop (o + b.length)

/-- One-step: originTimestamp takes a time, as seconds and nanoseconds, and the UDP checksum follows (R420). -/
def oneStep (l : List Byte) (o t : Nat) : List Byte :=
  let new := beBytes 6 (t / 1000000000) ++ beBytes 4 (t % 1000000000)
  let udp := o - 2
  let sum := (List.range 5).foldl (fun c i => fixSum c (beAt l (o + 34 + 2 * i) 2) (beAt new (2 * i) 2)) (beAt l udp 2)
  let l' := putAt l (o + 34) new
  if o = 14 ∨ beAt l udp 2 = 0 then l' else putAt l' udp (beBytes 2 sum)

/-- A two-step capture enters the FIFO of 16 entries (R420). -/
def State.ptpCapture (s : State) (p id : Nat) : State :=
  let x := s.ethPort p
  let s := s.useFresh
  if 16 ≤ x.captures.length then s.count (Page.eth p) Reg.ETH_TS_LOST 1
  else ((s.setEthPort p { x with captures := x.captures ++ [(id, s.captureTime)] })).setInt (Page.eth p) 2

/-- Send the frame in a slot of the transmit ring. -/
def State.rawSlot (s : State) (p slot : Nat) : State :=
  let h := s.dmaRead 2084 slot 32
  let s := h.2
  let len := leNat (h.1.1.take 4) % 2 ^ 14
  let mode := leNat ((h.1.1.drop 4).take 4) % 4
  let r := s.dmaRead 2084 (slot + 32) len
  let s := r.2
  let l := r.1.1
  match ptpEvent l with
  | some o =>
    if mode = 1 then (s.ethSend p [.raw p l]).ptpCapture p (beAt l (o + 30) 2)
    else if mode = 2 then
      let t := ((s.elapsed : Int) + (toSigned 64 (s.reg64 (Page.eth p) Reg.ETH_PTP_OFS))).toNat
      s.ethSend p [.raw p (oneStep l o t)]
    else s.ethSend p [.raw p l]
  | none => s.ethSend p [.raw p l]

/-- RAW_TX: the write of the transmit tail, and the frames up to it (R436). -/
def execRawTx (req : Requester) (port : Fin 4) (v : W32) (s : State) : Host.Outcome State Fault Refusal :=
  let pg := Page.eth port
  .next (s.ifAdmit req pg Reg.ETH_RAW_TX_PTR (fun s =>
    let s := s.setFld pg Reg.ETH_RAW_TX_PTR 11 0 (fld v 11 0)
    let cfg := s.reg pg Reg.ETH_RAW_CFG
    let n := ringSlots (fld cfg 7 4)
    let head := s.regFld pg Reg.ETH_RAW_TX_PTR 27 16 % n
    let tail := fld v 11 0 % n
    if s.ethUp port = false ∨ bit cfg 31 = false then s
    else
      let base := bitsOf (s.reg64 pg Reg.ETH_RAW_TX_BASE) 51 6 * 64
      let s := (List.range ((tail + n - head) % n)).foldl (fun s i => s.rawSlot port (base + 10240 * ((head + i) % n))) s
      s.setFld pg Reg.ETH_RAW_TX_PTR 27 16 tail))

/-- ETH_TS_TX_ID: the read takes the oldest capture and latches its time (R420). -/
def execEthTsTxId (req : Requester) (port : Fin 4) (s : State) : Host.Outcome State Fault Refusal :=
  let pg := Page.eth port
  if s.mayRead req pg Reg.ETH_TS_TX_ID = false then .next (s.denyRead req pg Reg.ETH_TS_TX_ID)
  else
    let x := s.ethPort port
    match x.captures with
    | [] => .next (s.answer 0 false)
    | (id, t) :: l =>
      .next (((s.setEthPort port { x with captures := l }).setReg64 pg Reg.ETH_TS_TX t).answer (2 ^ 31 + id) false)

/-! ## Register writes (R438) -/

/-- A write of the ports' registers that has a rule of its own: none where the plain rule holds. -/
def State.ethWrite (s : State) (p off : Nat) (v : W32) : Option State :=
  let pg := Page.eth p
  let bad (b : Bool) (f : Option State) : Option State := if b then some (s.setErr pg 0) else f
  if off = Reg.ETH_MTU then bad (decide (fld v 13 0 < 64 ∨ 9216 < fld v 13 0)) none
  else if off = Reg.ETH_RAW_CFG then bad (decide (12 < fld v 7 4 ∨ 12 < fld v 3 0)) none
  else if 0x200 ≤ off ∧ off < 0x400 then
    let e := (off - 0x200) / 0x40
    let o := 0x200 + (off - 0x200) % 0x40
    if o = Reg.ETH_SE_CFG then
      let old := s.regFld pg off 31 30
      let busy := bit (s.reg pg (seOff e Reg.ETH_SE_STAT)) 31
      bad (decide (12 < fld v 19 16) || (busy && decide (fld v 31 30 ≠ old))) none
    else if o = Reg.ETH_SE_LEN then
      bad (decide (fld v 20 0 < 4 ∨ 1048576 < fld v 20 0 ∨ fld v 1 0 ≠ 0)) none
    else none
  else none

end Sys2Proof.Machine
end

