-- ==== Sys2Proof/Machine/Processors.lean ====
section
/-! DEFINITION. Crest cores, the Refuge cores and their restart, and the Cairn ring (R441–R472). -/
namespace Sys2Proof.Machine
open Sys2Proof

def Page.crs (c : Nat) : Nat := 0x30 + c
def Page.rfg (k : Nat) : Nat := 0x48 + k
abbrev Page.rfgc : Nat := 0x45
abbrev Page.crn : Nat := 0x46

def State.crest (s : State) (c : Nat) : CrestState := (Store.find s.proc.crests c).getD {}
def State.setCrest (s : State) (c : Nat) (x : CrestState) : State :=
  { s with proc := { s.proc with crests := Store.put s.proc.crests c x } }
def State.refuge (s : State) (k : Nat) : RefugeState := (Store.find s.proc.refuges k).getD {}
def State.setRefuge (s : State) (k : Nat) (x : RefugeState) : State :=
  { s with proc := { s.proc with refuges := Store.put s.proc.refuges k x } }

def State.crsState (s : State) (c : Nat) : Nat := s.regFld (Page.crs c) Reg.CRS_STAT 31 28
def State.rfgState (s : State) (k : Nat) : Nat := s.regFld (Page.rfg k) Reg.RFG_STAT 31 28
def State.setRfgState (s : State) (k x : Nat) : State := s.setFld (Page.rfg k) Reg.RFG_STAT 31 28 x

/-! ## Crest cores (R442, R446, R448, R449) -/

/-- Release a core from RESET. -/
def State.crsRun (s : State) (c : Nat) : State := s.crsMove c 0 1

/-- Return a core to RESET; a core whose power is off stays so. -/
def State.crsReset (s : State) (c : Nat) : State :=
  if s.crsState c = 5 then s
  else
    let s := s.setFld (Page.crs c) Reg.CRS_STAT 31 28 0
    { s with pic := { s.pic with wfi := setDel s.pic.wfi c } }

/-- A write to `CRS_CTRL`. -/
def State.crsCtrlWrite (s : State) (c : Nat) (v : W32) : State :=
  let s := if bit v 1 then s.crsReset c else s
  if bit v 0 then s.crsRun c else s

/-- CORE_RUN. -/
def execCoreRun (req : Requester) (core : Fin 16) (s : State) : Host.Outcome State Fault Refusal :=
  .next (s.ifAdmit req (Page.crs core) Reg.CRS_CTRL (fun s => s.crsRun core))

/-- CORE_RESET. -/
def execCoreReset (req : Requester) (core : Fin 16) (s : State) : Host.Outcome State Fault Refusal :=
  .next (s.ifAdmit req (Page.crs core) Reg.CRS_CTRL (fun s => s.crsReset core))

/-- The machine timer interrupt of a core: `time` has reached `CRS_MTIMECMP` (R446). -/
def State.timerDue (s : State) (c : Nat) : Bool := decide (s.reg64 (Page.crs c) Reg.CRS_MTIMECMP ≤ s.elapsed)

/-- MACHINE_TIMER: the interrupt is raised, and ends a wait for an interrupt. -/
def execMachineTimer (core : Fin 16) (s : State) : Host.Outcome State Fault Refusal :=
  if s.runs (143 + core) && presentIn s.grade (Page.crs core) && s.timerDue core then
    .next ((s.setCrest core { s.crest core with mtip := true }).wakeCore core)
  else .next s

/-- A write to `CRS_MTIMECMP` lowers the interrupt while the new value lies ahead (R446). -/
def State.followTimer (s : State) (c : Nat) : State :=
  s.setCrest c { s.crest c with mtip := (s.crest c).mtip && s.timerDue c }

/-- CREST_WDOG_EXPIRY: the running period ends (R449). -/
def execCrestWdogExpiry (core : Fin 16) (s : State) : Host.Outcome State Fault Refusal :=
  let pg := Page.crs core
  let us := s.regFld pg Reg.CRS_WDOG_US 23 0
  let x := s.crest core
  if (s.runs (143 + core) && presentIn s.grade pg && decide (us ≠ 0 ∧ x.began + us * 1000 ≤ s.elapsed)) = false then .next s
  else if x.expired = 0 then
    .next ((s.countInt pg Reg.CRS_WDOG_EXP 0 1).setCrest core { x with expired := 1, began := s.elapsed })
  else if x.expired = 1 then
    let s := s.setCrest core { x with expired := 2 }
    let act := s.regFld pg Reg.CRS_WDOG_CTRL 1 0
    if act = 1 then .next (s.crsReset core)
    else if act = 2 then .next (s.fatal 0x040C (pageId pg) core false)
    else .next s
  else .next s

/-- A kick, and a write to `CRS_WDOG_US`: the first period begins (R449). -/
def State.kickCrest (s : State) (c : Nat) : State := s.setCrest c { s.crest c with began := s.elapsed, expired := 0 }

/-- CRS_WDOG_KICK: the write of 1. -/
def execCrsWdogKick (req : Requester) (core : Fin 16) (s : State) : Host.Outcome State Fault Refusal :=
  .next (s.ifAdmit req (Page.crs core) Reg.CRS_WDOG_KICK (fun s => s.kickCrest core))

/-- L3_FLUSH: the write of 1 to `CRS_L3_FLUSH` (R468). (DEDUCED, log 74) -/
def execL3Flush (req : Requester) (s : State) : Host.Outcome State Fault Refusal :=
  .next (s.ifAdmit req 0x44 Reg.CRS_L3_FLUSH (fun s => s.setReg 0x44 Reg.CRS_L3_FLUSH 1))

/-- L3_FLUSH_DONE. -/
def execL3FlushDone (s : State) : Host.Outcome State Fault Refusal :=
  if s.runs 159 then .next (s.setReg 0x44 Reg.CRS_L3_FLUSH 0) else .next s

/-- CREST_CACHE_ERROR: `core` 16 is the L3, `line` the DRAM offset of the line (R442). -/
def execCrestCacheError (core : Fin 17) (cache : CacheError) (line : Nat) (s : State) : Host.Outcome State Fault Refusal :=
  let pg := if core = 16 then 0x44 else Page.crs core
  if (s.clocked && presentIn s.grade pg) = false then .next s
  else match cache with
    | .parity => .next s
    | .single => .next (s.count pg Reg.PG_ERRCNT 1)
    | .clean => .next s
    | .dirty => .next (s.poisonAt (Base.dram + line / 64 * 64))
    | .load =>
      .next (s.detect pg 0 { level := 3, cls := 2, esc := false, inj := false, code := 0x0406, unit := pageId pg
                             addr := if core = 16 then 15 else core })

/-- Register writes of a Crest page that have a rule of their own (R448, R449). -/
def State.crsWrite (s : State) (c off : Nat) (v : W32) : Option State :=
  let pg := Page.crs c
  if off = Reg.CRS_CTRL then some (s.crsCtrlWrite c v)
  else if off = Reg.CRS_BOOT_ADDR ∨ off = Reg.CRS_BOOT_ADDR + 4 then
    (if s.crsState c = 1 ∨ s.crsState c = 2 then some (s.setErr pg 1) else none)
  else if off = Reg.CRS_MSIP then
    let s := s.setReg pg off (v &&& 1)
    some (if bit v 0 then s.wakeCore c else s)
  else if off = Reg.CRS_WDOG_US then some ((s.setReg pg off (v &&& 0xFFFFFF)).kickCrest c)
  else if off = Reg.CRS_WDOG_KICK then some (if bit v 0 then s.kickCrest c else s)
  else none

/-! ## The Cairn ring (R453, R462–R465) -/

/-- The Cairn ring in the shared SRAM. -/
abbrev cairnBase : Nat := Base.rfg + 0x100000 + 0xC0000

/-- Write an entry (R462, R463). -/
def State.cairn (s : State) (id core : Nat) (args : List Nat) : State :=
  let n := (s.reg Page.crn Reg.CRN_SEQ).toNat
  let bytes := leBytes 4 (id * 2 ^ 22 + core * 2 ^ 20 + n % 2 ^ 16) ++ leBytes 8 s.elapsed ++ leBytes 4 s.stepNo
    ++ ((List.range 4).map (fun i => leBytes 4 (args.getD i 0))).flatten
  (s.setBytes (cairnBase + 32 * (n % 8192)) bytes).setReg Page.crn Reg.CRN_SEQ (BitVec.ofNat 32 (n + 1))

/-- Offset of the staging registers of core k (R471). -/
def crnOff (k i : Nat) : Nat := 0x100 + 0x20 * k + 4 * i

/-- The core that a requester is, among the Refuge cores. -/
def refugeOf (r : Requester) : Option Nat :=
  match r.who with
  | .rfg k => some k.val
  | .host => some 1
  | _ => none

/-- CRN_PUSH: the push waits in its core's staging registers for the ring, or is lost (R463, R464). (DEDUCED, log 91) -/
def execCrnPush (req : Requester) (core : Fin 4) (v : W32) (s : State) : Host.Outcome State Fault Refusal :=
  .next (s.ifAdmit req Page.crn (crnOff core 4) (fun s =>
    let id := fld v 9 0
    if refugeOf req ≠ some core.val ∨ bit (s.reg Page.crn (Reg.CRN_MASK0 + 4 * (id / 32))) (id % 32) = false then s
    else if s.proc.pushes.any (fun p => p.1 == core.val) then
      ({ s with proc := { s.proc with lost := addNum s.proc.lost core 1 } }).setInt Page.crn 0
    else { s with proc := { s.proc with pushes := s.proc.pushes ++ [(core.val, id)] } }))

/-- A cycle in which the ring writes what waits, in core order, and counts what was lost (R463, R464). -/
def State.cairnDrain (s : State) : State :=
  if s.proc.pushes.isEmpty ∧ s.proc.lost.isEmpty then s
  else
    let l := s.proc.pushes
    let lost := s.proc.lost
    let s := { s with proc := { s.proc with pushes := [], lost := [] } }
    let s := (List.range 4).foldl (fun s k =>
      match l.find? (fun p => p.1 == k) with
      | none => s
      | some p => s.cairn p.2 k ((List.range 4).map (fun i => (s.reg Page.crn (crnOff k i)).toNat))) s
    lost.foldl (fun s p => s.cairn 1023 p.1 [p.2]) s

/-! ## Restart of a Refuge core (R457–R461) -/

/-- Stage 1 of a restart: the claims of the core's context are completed, and requests that RFG1 had taken are lost (R457,
R458, R459). -/
def State.beginRestart (s : State) (k : Nat) (pc : W32) : State :=
  let s := (s.setReg (Page.rfg k) Reg.RFG_LAST_PC pc).setRfgState k 2
  let s := s.orReg Page.rfgc Reg.RFG_RESTART (bitWord k)
  let s := s.cairn 1021 k []
  let s := s.setRefuge k { s.refuge k with stage := 2, began := s.elapsed }
  let s := s.endClaims (16 + k) (fun _ => true)
  if k = 1 then
    { s with eth := { s.eth with ports := s.eth.ports.map (fun x =>
        (x.1, { x.2 with reqs := x.2.reqs.filter (fun q => decide (4 < q.op)) })) } }
  else s

/-- A heartbeat miss (R457, R461). -/
def State.heartbeatMiss (s : State) (k : Nat) (pc : W32) : State :=
  let s := s.countInt (Page.rfg k) Reg.RFG_HB_MISS 0 1
  let s := s.cairn 1020 k [pc.toNat]
  let recent := (s.refuge k).autos.filter (fun t => decide (s.elapsed < t + 60000000000))
  let s := s.setRefuge k { s.refuge k with lastKick := s.elapsed, autos := recent }
  if bit (s.reg (Page.rfg k) Reg.RFG_AUTO) 0 = false then s
  else if 2 ≤ recent.length then s.fatal 0x0408 (pageId (Page.rfg k)) k false
  else (s.setRefuge k { s.refuge k with autos := recent ++ [s.elapsed] }).beginRestart k pc

/-- HEARTBEAT_MISS: `pc` is the core's program counter. -/
def execHeartbeatMiss (core : Fin 4) (pc : W32) (s : State) : Host.Outcome State Fault Refusal :=
  let ms := max 1 (s.regFld (Page.rfg core) Reg.RFG_HB_MS 15 0)
  if s.refugeRuns core ∧ s.rfgState core = 1 ∧ (s.refuge core).lastKick + ms * 1000000 ≤ s.elapsed then
    .next (s.heartbeatMiss core pc)
  else .next s

/-- A write to `RFG_RESTART` (R457, R460). (DESIGN CHOICE, log 22) -/
def State.restartWrite (s : State) (v pc : W32) : State :=
  (List.range 4).foldl (fun s k =>
    if bit v k = false then s
    else if bit (s.reg Page.rfgc Reg.RFG_RESTART) k then s.setErr Page.rfgc 1
    else s.beginRestart k pc) s

/-- RFG_RESTART: `pc` is the program counter of each core named. -/
def execRfgRestart (req : Requester) (v : W32) (pc : W32) (s : State) : Host.Outcome State Fault Refusal :=
  .next (s.ifAdmit req Page.rfgc Reg.RFG_RESTART (fun s => s.restartWrite v pc))

/-- Where the image store and a core's private SRAM lie (R452, R453). -/
abbrev imageStore : Nat := Base.rfg + 0x100000
def privateSram (k : Nat) : Nat := Base.rfg + 0x40000 * k

/-- Copy bytes of memory. -/
def State.copyMem (s : State) (src dst n : Nat) : State :=
  let old := s.mem.filter (fun c => decide (dst ≤ c.1 ∧ c.1 < dst + n))
  let new := s.mem.filter (fun c => decide (src ≤ c.1 ∧ c.1 < src + n))
  let s := old.foldl (fun s c => s.setByte c.1 0) s
  new.foldl (fun s c => s.setByte (c.1 - src + dst) c.2) s

/-- Load the segment of core k from the image store into its private SRAM (R457, R554, R555). -/
def State.loadSegment (s : State) (k : Nat) : State :=
  let h := imageStore + 0x20 + 0x50 * k
  let s := s.copyMem (imageStore + s.num h 4) (privateSram k) (min 0x40000 (s.num (h + 4) 4))
  s

/-- RESTART_COPY_DONE. -/
def execRestartCopyDone (core : Fin 4) (s : State) : Host.Outcome State Fault Refusal :=
  if s.refugeRuns core ∧ (s.refuge core).stage = 2 then
    .next ((s.loadSegment core).setRefuge core { s.refuge core with stage := 3 })
  else .next s

/-- RESTART_DIGEST_DONE: `ok` says whether the digests match. -/
def execRestartDigestDone (core : Fin 4) (ok : Bool) (s : State) : Host.Outcome State Fault Refusal :=
  if s.refugeRuns core = false ∨ (s.refuge core).stage ≠ 3 then .next s
  else if ok then .next (s.setRefuge core { s.refuge core with stage := 4 })
  else
    let s := (s.setRefuge core { s.refuge core with stage := 0 }).setRfgState core 3
    .next ((s.setErr (Page.rfg core) 0).fatal 0x0409 (pageId (Page.rfg core)) core false)

/-- The heartbeat of core k (R457): the first one of its kernel start-up ends the restart. -/
def State.kickRefuge (s : State) (k : Nat) : State :=
  let x := s.refuge k
  let s := s.setRefuge k { x with lastKick := s.elapsed, stage := if x.stage = 4 then 0 else x.stage }
  if x.stage = 4 then
    let n := s.regFld (Page.rfg k) Reg.RFG_STAT 7 0
    let s := (s.setRfgState k 1).setFld (Page.rfg k) Reg.RFG_STAT 7 0 (min 255 (n + 1))
    ((s.clrReg Page.rfgc Reg.RFG_RESTART (bitWord k)).cairn 1022 k []).setInt (Page.rfg k) 1
  else s

/-- RFG_HB_KICK: only core k may write (R470). -/
def execRfgHbKick (req : Requester) (core : Fin 4) (s : State) : Host.Outcome State Fault Refusal :=
  .next (s.ifAdmit req (Page.rfg core) Reg.RFG_HB_KICK (fun s =>
    if refugeOf req = some core.val then s.kickRefuge core else s))

/-- RESTART_TIMEOUT: a restart that has not ended 25 ms after stage 1 is a further miss (R457). -/
def execRestartTimeout (core : Fin 4) (pc : W32) (s : State) : Host.Outcome State Fault Refusal :=
  if s.refugeRuns core ∧ (s.refuge core).stage ≠ 0 ∧ (s.refuge core).began + 25000000 ≤ s.elapsed then
    .next ((s.setRefuge core { s.refuge core with stage := 0 }).heartbeatMiss core pc)
  else .next s

/-- Register writes of the Refuge and Cairn pages that have a rule of their own (R457, R463, R470). -/
def State.rfgWrite (s : State) (req : Requester) (k off : Nat) (v : W32) : Option State :=
  if off = Reg.RFG_HB_KICK then
    some (if refugeOf req = some k ∧ bit v 0 then s.kickRefuge k else s)
  else if (off = Reg.RFG_WIN ∨ off = Reg.RFG_WIN + 4) ∧ refugeOf req ≠ some k then some s
  else none

/-- Writes to another core's staging registers are ignored (R463). -/
def State.crnWrite (s : State) (req : Requester) (off : Nat) : Option State :=
  if 0x100 ≤ off ∧ off < 0x180 ∧ refugeOf req ≠ some ((off - 0x100) / 0x20) then some s else none

end Sys2Proof.Machine
end

