-- ==== Sys2Proof/Machine/Security.lean ====
section
/-! DEFINITION. Bedrock: signed objects, OTP, secure DRAM ranges, debug authentication and the TRNG (R629–R657). -/
namespace Sys2Proof.Machine
open Sys2Proof

def State.setSec (s : State) (x : SecState) : State := { s with sec := x }

/-! ## OTP (R635–R640) -/

/-- Word k of the OTP array: what was burned at manufacture, LOCK_MFG and bit 0 of the anti-rollback counter among it
(R637, R638), and what has been burned since. -/
def State.otpWord (s : State) (k : Nat) : W32 :=
  Config.otp k ||| Store.get (fun _ => (0 : W32)) s.sec.burned k ||| (if k = 1729 ∨ k = 1745 then 1 else 0)

def State.otpBit (s : State) (b : Nat) : Bool := bit (s.otpWord (b / 32)) (b % 32)

/-- Burn one bit. -/
def State.burn (s : State) (b : Nat) : State :=
  s.setSec { s.sec with burned := Store.upd (fun _ => (0 : W32)) s.sec.burned (b / 32) (fun w => w ||| bitWord (b % 32)) }

/-- First bit of the key hash of a slot, and of its control byte. -/
def slotHashBit (k : Nat) : Nat := 53248 + 512 * k
def slotCtlBit (k : Nat) : Nat := 55296 + 8 * k

/-- The key hash that a slot holds. -/
def State.slotHash (s : State) (k : Nat) : Nat :=
  (List.range 16).foldl (fun n i => n + (s.otpWord (1664 + 16 * k + i)).toNat * 2 ^ (32 * i)) 0

/-- The control byte of a slot, DAMAGED derived (R636). -/
def State.slotCtl (s : State) (k : Nat) : Nat :=
  let b := fld (s.otpWord 1728) (8 * k + 7) (8 * k)
  let raw := b - 32 * (b / 32 % 2)
  if s.slotHash k ≠ 0 ∧ Nat.testBit b 6 = false then raw + 32 else raw

/-- A slot that is VALID, unrevoked and enabled for a use (R633). -/
def State.slotOk (s : State) (k use : Nat) : Bool :=
  Nat.testBit (s.slotCtl k) 6 && !(Nat.testBit (s.slotCtl k) 7) && Nat.testBit (s.slotCtl k) use && decide (use < 3)

/-- `OTP_SLOTS`, `OTP_ARB` and the configuration word (R655). -/
def State.otpSlots (s : State) : W32 :=
  BitVec.ofNat 32 ((List.range 4).foldl (fun n k => n + s.slotCtl k * 2 ^ (8 * k)) 0)
def State.otpArb (s : State) : Nat :=
  (List.range 256).foldl (fun n i => if 1 ≤ i ∧ s.otpBit (55328 + i) then i else n) 0
def State.otpConfig (s : State) : W32 := s.otpWord 1745

/-- Epoch fuses burned (R622). -/
def State.fuses (s : State) : Nat :=
  (List.range 2048).foldl (fun n i => if s.otpBit (63488 + i) then n + 1 else n) 0

/-- Powered time in ns (R622). -/
def State.poweredNs (s : State) : Nat := s.scree.base + s.elapsed

/-- A further epoch fuse is due (R622, R640). -/
def State.fuseDue (s : State) : Bool := decide ((s.fuses + 1) * 1843200 ≤ s.poweredNs / 1000000000)

/-- The unburned epoch fuse of the lowest index. -/
def State.nextFuse (s : State) : Option Nat := (List.range 2048).find? (fun i => !(s.otpBit (63488 + i)))

def State.otpBusy (s : State) : Bool := bit (s.reg Page.otp Reg.OTP_STAT) 31

/-- End an OTP command with a code (R640, R657). -/
def State.otpEnd (s : State) (code : Nat) : State :=
  (s.setReg Page.otp Reg.OTP_STAT (BitVec.ofNat 32 code)).setInt Page.otp 0

/-- Start burning bits. -/
def State.otpBegin (s : State) (bits : List Nat) : State :=
  (s.setReg Page.otp Reg.OTP_STAT (bitWord 31)).setSec { s.sec with otp := some bits }

/-- Bits that a SLOT command burns: the hash and USE first, VALID last (R636). -/
def State.slotBits (s : State) (k use : Nat) : List Nat :=
  ((List.range 512).filter (fun i => bit (s.reg Page.otp (Reg.OTP_STAGE0 + 4 * (i / 32))) (i % 32))).map
      (fun i => slotHashBit k + i)
    ++ ((List.range 3).filter (fun i => Nat.testBit use i)).map (fun i => slotCtlBit k + i) ++ [slotCtlBit k + 6]

def State.otpSlot (s : State) (arg : Nat) : State :=
  let k := bitsOf arg 1 0
  if s.slotCtl k ≠ 0 ∨ s.slotHash k ≠ 0 then s.otpEnd 2 else s.otpBegin (s.slotBits k (bitsOf arg 6 4))

def State.otpRevoke (s : State) (arg : Nat) : State :=
  let k := bitsOf arg 1 0
  if (List.range 4).any (fun j => j != k && s.slotOk j 0) then s.otpBegin [slotCtlBit k + 7] else s.otpEnd 3

/-- Bits that bring the anti-rollback counter to a value (R638). -/
def State.arbBits (s : State) (v : Nat) : List Nat :=
  ((List.range (v + 1)).filter (fun i => decide (s.otpArb < i))).map (fun i => 55328 + i)

def State.otpArbCmd (s : State) (arg : Nat) : State :=
  let v := arg % 256
  if v ≤ s.otpArb then s.otpEnd 0
  else match s.boot.running with
    | some r => if v ≤ r.2 then s.otpBegin (s.arbBits v) else s.otpEnd 4
    | none => s.otpEnd 4

def State.otpConfigCmd (s : State) (arg : Nat) : State :=
  if Nat.testBit arg 0 ∧ bit s.otpConfig 0 then s.otpEnd 2
  else s.otpBegin (((List.range 5).filter (fun i => Nat.testBit arg i)).map (fun i => 55840 + i))

def State.otpEpoch (s : State) : State :=
  match s.nextFuse with
  | none => s.otpEnd 6
  | some i => if s.fuseDue then s.otpBegin [63488 + i] else s.otpEnd 2

/-- A write to `OTP_CMD` (R640): one command at a time; codes that the table does not list do nothing. (DEDUCED, log 89) -/
def State.otpCommand (s : State) (v : W32) : State :=
  let arg := fld v 7 0
  let op := fld v 31 28
  if s.otpBusy then s.setFld Page.otp Reg.OTP_STAT 3 0 1
  else if op = 1 then s.otpSlot arg
  else if op = 2 then s.otpRevoke arg
  else if op = 3 then s.otpArbCmd arg
  else if op = 4 then s.otpConfigCmd arg
  else if op = 5 then s.otpEpoch
  else s

/-- The command register takes a command of a secure requester alone (R640). -/
def State.otpWrite (s : State) (r : Requester) (v : W32) : State :=
  s.ifAdmitWo r Page.otp Reg.OTP_CMD (fun s => if s.isSecure r then s.otpCommand v else s.secRefused)

/-- SLOT, REVOKE, ARB, CONFIG, EPOCH: a write to `OTP_CMD` with that OP. -/
def otpCmdWord (op : Nat) (arg : Fin 256) : W32 := BitVec.ofNat 32 (op * 2 ^ 28 + arg.val)
def execSlot (req : Requester) (arg : Fin 256) (s : State) : Host.Outcome State Fault Refusal :=
  .next (s.otpWrite req (otpCmdWord 1 arg))
def execRevoke (req : Requester) (arg : Fin 256) (s : State) : Host.Outcome State Fault Refusal :=
  .next (s.otpWrite req (otpCmdWord 2 arg))
def execArb (req : Requester) (arg : Fin 256) (s : State) : Host.Outcome State Fault Refusal :=
  .next (s.otpWrite req (otpCmdWord 3 arg))
def execConfig (req : Requester) (arg : Fin 256) (s : State) : Host.Outcome State Fault Refusal :=
  .next (s.otpWrite req (otpCmdWord 4 arg))
def execEpoch (req : Requester) (s : State) : Host.Outcome State Fault Refusal :=
  .next (s.otpWrite req (otpCmdWord 5 0))

/-- OTP_CMD_DONE: `good` bits read back as burned; where that is not all of them, the next one does not (R640). -/
def execOtpCmdDone (good : Nat) (s : State) : Host.Outcome State Fault Refusal :=
  match s.sec.otp with
  | none => .next s
  | some bits =>
    let fuse := bits.any (fun b => decide (63488 ≤ b))
    let s := (bits.take good).foldl State.burn (s.setSec { s.sec with otp := none })
    let s := if fuse ∧ bits.length ≤ good then s.setInt Page.scr 2 else s
    .next (s.otpEnd (if bits.length ≤ good then 0 else 5))

/-! ## Signed objects (R630–R634) -/

/-- Bytes [o, o + n) of an object. -/
def cutBytes (l : List Byte) (o n : Nat) : List Byte := (l.drop o).take n

/-- The two checks of a signature trailer, both computed to the end (R630, R631). -/
def signedBy (l : List Byte) : Bool × Bool :=
  let n := l.length
  let m := l.take (n - 0x1000)
  (Config.edOk (cutBytes l (n - 0x17C0) 32) m (cutBytes l (n - 0x1000) 64),
   Config.mlOk (cutBytes l (n - 0x17A0) 1952) m (cutBytes l (n - 0x0FC0) 3309))

/-- Key hash of the trailer of an object (R630). -/
def keyHash (l : List Byte) : Nat := (Config.sha512 (cutBytes l (l.length - 0x17C0) 1984)).toNat

/-- The lowest slot that admits the object for a use (R633). -/
def State.findSlot (s : State) (l : List Byte) (use : Nat) : Option Nat :=
  (List.range 4).find? (fun k => s.slotOk k use && s.slotHash k == keyHash l)

/-- `BDR_VER_STAT` of a finished verification (R631, R633, R654). -/
def State.verdict (s : State) (l : List Byte) (use : Nat) : W32 :=
  let k := s.findSlot l use
  let a := signedBy l
  BitVec.ofNat 32 ((if a.1 then 2 ^ 30 else 0) + (if a.2 then 2 ^ 29 else 0) + k.getD 0 * 2 ^ 26
    + (if k = none then 2 else if a.1 && a.2 then 0 else 3))

/-- An object verifies for a use. -/
def State.verifies (s : State) (l : List Byte) (use : Nat) : Bool :=
  decide (6080 ≤ l.length) && fld (s.verdict l use) 3 0 == 0

/-- End a verification with a status. -/
def State.verifyEnd (s : State) (v : W32) : State := (s.setReg Page.bdr Reg.BDR_VER_STAT v).setInt Page.bdr 1

/-- A write to `BDR_VER_CTRL` (R633). -/
def State.verifyWrite (s : State) (v : W32) : State :=
  if bit v 31 = false then s
  else if bit (s.reg Page.bdr Reg.BDR_VER_STAT) 31 then s.setErr Page.bdr 0
  else
    let a := s.reg64 Page.bdr Reg.BDR_VER_ADDR % 2 ^ 52
    let n := s.reg64 Page.bdr Reg.BDR_VER_SIZE % 2 ^ 40
    if n < 6080 then s.verifyEnd 1
    else if a < Base.dram ∨ Base.dram + dramBytes s.grade < a + n then s.verifyEnd 4
    else (s.setReg Page.bdr Reg.BDR_VER_STAT (bitWord 31)).setSec
      { s.sec with verify := some { addr := a, size := n, use := fld v 1 0, bytes := s.bytes a n } }

/-- BDR_VERIFY. -/
def execBdrVerify (req : Requester) (v : W32) (s : State) : Host.Outcome State Fault Refusal :=
  .next (s.ifAdmitWo req Page.bdr Reg.BDR_VER_CTRL (fun s => s.verifyWrite v))

/-- VERIFY_DONE: the result is a free value where a writer has changed the object (R633). -/
def execVerifyDone (s : State) : Host.Outcome State Fault Refusal :=
  match s.sec.verify with
  | none => .next s
  | some x =>
    let s := s.setSec { s.sec with verify := none }
    if s.bytes x.addr x.size = x.bytes then .next (s.verifyEnd (s.verdict x.bytes x.use))
    else .next ((s.verifyEnd (Config.word s.fresh &&& 0x6C00000F)).useFresh)

/-! ## Secure DRAM ranges (R645, R646) -/

/-- Some MiB that range i covers now would leave secure coverage. -/
def State.removesCover (s : State) (i base limit : Nat) : Bool :=
  let b := bitsOf (s.drange i).1 35 20
  (List.range (bitsOf (s.drange i).2 35 20 - b)).any (fun k => s.uncovers i base limit ((b + k) * 2 ^ 20))

/-- Take new values into a range's registers. -/
def State.setDrange (s : State) (i base limit : Nat) : State :=
  (s.setReg64 Page.bdr (Reg.BDR_DRANGEi_BASE + 16 * i) base).setReg64 Page.bdr (Reg.BDR_DRANGEi_LIMIT + 16 * i) limit

/-- A complete write of BASE or LIMIT of a range: coverage is added at once, and removed after a clearing. -/
def State.drangeWrite (s : State) (i : Nat) (isLimit : Bool) (v : Nat) : State :=
  if s.sec.drange.isSome then s.setErr Page.bdr 0
  else
    let base := if isLimit then (s.drange i).1 else bitsOf v 35 20 * 2 ^ 20
    let limit := if isLimit then bitsOf v 35 20 * 2 ^ 20 + 2 ^ 63 * bitsOf v 63 63 else (s.drange i).2
    if s.removesCover i base limit then
      (s.setReg Page.bdr Reg.BDR_DRANGE_STAT (bitWord 31)).setSec { s.sec with drange := some (i, base, limit) }
    else s.setDrange i base limit

/-- DRANGE_WRITE: the write that completes a range register. -/
def execDrangeWrite (req : Requester) (range : Fin 8) (isLimit : Bool) (v : W64) (s : State) :
    Host.Outcome State Fault Refusal :=
  let off := (if isLimit then Reg.BDR_DRANGEi_LIMIT else Reg.BDR_DRANGEi_BASE) + 16 * range.val
  .next (s.ifAdmit req Page.bdr off (fun s => s.drangeWrite range isLimit v.toNat))

/-- DRANGE_CLEAR_DONE: the removed bytes have been written zero, and the change takes effect. -/
def execDrangeClearDone (s : State) : Host.Outcome State Fault Refusal :=
  match s.sec.drange with
  | none => .next s
  | some x =>
    let gone (a : Nat) : Bool := decide (Base.dram ≤ a ∧ a < Base.dram + 2 * dieBytes) && s.clearing (a - Base.dram)
    let mem := s.mem.filter (fun c => !(gone c.1))
    let poison := s.poison.filter (fun a => !(gone a))
    let s : State := { s with mem := mem, poison := poison, sec := { s.sec with drange := none } }
    .next ((s.setDrange x.1 x.2.1 x.2.2).setReg Page.bdr Reg.BDR_DRANGE_STAT 0)

/-! ## The TRNG (R651–R653) -/

/-- `BDR_TRNG_STAT.STATE` and LEVEL. -/
def State.trngState (s : State) : Nat := s.regFld Page.bdr Reg.BDR_TRNG_STAT 31 30
def State.trngLevel (s : State) : Nat := s.regFld Page.bdr Reg.BDR_TRNG_STAT 6 0

/-- The words that the source has conditioned since the last command that looked. -/
def State.trngFill (s : State) (n : Nat) : State :=
  if s.trngState = 1 then s.setFld Page.bdr Reg.BDR_TRNG_STAT 6 0 (min 64 (s.trngLevel + n)) else s

/-- One random word: a free value. -/
def State.trngWord (s : State) : W32 × State := (BitVec.ofNat 32 (Config.trng s.fresh).toNat, s.useFresh)

/-- The read of `BDR_TRNG_DATA`. -/
def State.trngRead (s : State) : State :=
  if s.trngLevel = 0 then s.answer 0 false
  else
    let w := s.trngWord
    (w.2.setFld Page.bdr Reg.BDR_TRNG_STAT 6 0 (s.trngLevel - 1)).answer w.1.toNat false

/-- BDR_TRNG_DATA: `got` words have been conditioned since (R652). -/
def execBdrTrngData (req : Requester) (got : Fin 65) (s : State) : Host.Outcome State Fault Refusal :=
  if s.mayRead req Page.bdr Reg.BDR_TRNG_DATA then .next (s.trngFill got).trngRead
  else .next (s.denyRead req Page.bdr Reg.BDR_TRNG_DATA)

/-- TRNG_TEST_FAIL: `again` says that no test has passed since the last failure. The third failure in a row puts the TRNG
in FAILED (R652, R653). (DEDUCED, log 90) -/
def execTrngTestFail (again : Bool) (s : State) : Host.Outcome State Fault Refusal :=
  if s.trngState = 2 then .next s
  else
    let n := if again then s.sec.strikes + 1 else 1
    let s := s.setSec { s.sec with strikes := n }
    if 3 ≤ n then
      let s := (s.setFld Page.bdr Reg.BDR_TRNG_STAT 31 30 2).setFld Page.bdr Reg.BDR_TRNG_STAT 29 29 1
      .next (s.countInt Page.bdr Reg.BDR_TRNG_FAILS 0 1)
    else .next s

/-! ## Debug authentication (R647–R649) -/

/-- The debug level takes a value (R649). -/
def State.setDebug (s : State) (x : Nat) : State :=
  if s.debugLevel = x then s else (s.setFld Page.dbg Reg.DBG_STAT 31 30 x).setInt Page.dbg 0

/-- Bedrock fills the challenge. -/
def State.newChallenge (s : State) : State :=
  let s := (List.range 8).foldl (fun s i =>
    if s.trngState = 2 then s.setReg Page.dbg (Reg.DBG_CHALLENGE0 + 4 * i) 0
    else
      let w := s.trngWord
      w.2.setReg Page.dbg (Reg.DBG_CHALLENGE0 + 4 * i) w.1) s
  s.setSec { s.sec with challenge := true, token := [] }

/-- A write to `DBG_CTRL`. -/
def State.dbgCtrl (s : State) (v : W32) : State :=
  let s := if bit v 1 then s.setDebug 0 else s
  if bit v 0 then s.newChallenge else s

/-- NEW_CHALLENGE. -/
def execNewChallenge (req : Requester) (s : State) : Host.Outcome State Fault Refusal :=
  .next (s.ifAdmitWo req Page.dbg Reg.DBG_CTRL (fun s => s.newChallenge))

/-- RELOCK. -/
def execRelock (req : Requester) (s : State) : Host.Outcome State Fault Refusal :=
  .next (s.ifAdmitWo req Page.dbg Reg.DBG_CTRL (fun s => s.setDebug 0))

def State.tokenBusy (s : State) : Bool := bit (s.reg Page.dbg Reg.DBG_STAT) 29

/-- A word written to `DBG_TOKEN`: the last one starts the check. -/
def State.tokenWord (s : State) (v : W32) : State :=
  if s.tokenBusy then s
  else
    let s := s.setSec { s.sec with token := s.sec.token ++ [v] }
    if s.regFld Page.dbg Reg.DBG_TOKEN_LEN 12 0 ≤ s.sec.token.length then s.setFld Page.dbg Reg.DBG_STAT 29 29 1 else s

/-- DBG_TOKEN. -/
def execDbgToken (req : Requester) (v : W32) (s : State) : Host.Outcome State Fault Refusal :=
  .next (s.ifAdmitWo req Page.dbg Reg.DBG_TOKEN (fun s => s.tokenWord v))

/-- Level that a token asks for. -/
def tokenLevel (t : List W32) : Nat := fld (t.getD 1 0) 1 0

/-- The body of a token is well formed. -/
def tokenForm (t : List W32) : Bool :=
  t.length == 1552 && t.getD 0 0 == 0xDB600001 && (tokenLevel t == 1 || tokenLevel t == 2) && fld (t.getD 1 0) 31 2 == 0
  && ((t.drop 18).take 14).all (fun w => w == 0)

/-- The code that a token ends with, checked in the order in which R648 lists the codes. -/
def State.tokenCode (s : State) (t : List W32) : Nat :=
  if s.trngState = 2 then 4
  else if bit s.otpConfig 1 then 1
  else if tokenForm t = false then 2
  else if s.verifies ((t.map (fun w => leBytes 4 w.toNat)).flatten) 2 = false then 3
  else if s.sec.challenge = false
      ∨ (List.range 8).any (fun i => t.getD (10 + i) 0 != s.reg Page.dbg (Reg.DBG_CHALLENGE0 + 4 * i)) then 4
  else if (List.range 8).any (fun i => t.getD (2 + i) 0 != Config.identity i) then 5
  else if tokenLevel t = 2 ∧ bit s.otpConfig 2 then 6
  else 0

/-- TOKEN_CHECK_DONE: the challenge has served its one attempt. -/
def execTokenCheckDone (s : State) : Host.Outcome State Fault Refusal :=
  if s.tokenBusy = false then .next s
  else
    let t := s.sec.token
    let code := s.tokenCode t
    let s := ((s.setFld Page.dbg Reg.DBG_STAT 29 29 0).setFld Page.dbg Reg.DBG_STAT 3 0 code).setSec
      { s.sec with token := [], challenge := false }
    .next (if code = 0 then s.setDebug (tokenLevel t) else s)

/-! ## Register writes of the BDR, OTP and DBG pages with a rule of their own -/

def State.bdrWrite (s : State) (off : Nat) (v : W32) : Option State :=
  if off = Reg.BDR_VER_CTRL then some (s.verifyWrite v)
  else if off = Reg.BDR_CFG ∧ bit s.otpConfig 3 then some s
  else none

def State.dbgWrite (s : State) (off : Nat) (v : W32) : Option State :=
  if off = Reg.DBG_CTRL then some (s.dbgCtrl v)
  else if off = Reg.DBG_TOKEN then some (s.tokenWord v)
  else none

end Sys2Proof.Machine
end

