-- ==== Sys2Proof/Machine/Reset.lean ====
section
/-! DEFINITION. What each reset keeps and what it loses (R76, R171, R194, R324, R426, R454, R465, R497, R520, R540, R545,
R547, R569, R586, R602, R609, R649, R680), and the block remap tables that every start builds (R558). -/
namespace Sys2Proof.Machine
open Sys2Proof

/-- The resets that keep the always-on state (R545, R602). -/
inductive ResetKind where
  | warm
  | recovery
  | sleep
deriving DecidableEq, Repr

/-! ## Registers that a reset keeps -/

/-- Registers of the chip page that read from the always-on maps, and the record of starts and errors (R569, R571, R586). -/
def chpKept (off : Nat) : Bool :=
  off == Reg.CHP_BOOT_STAT || off == Reg.CHP_RESET_CAUSE || off == Reg.CHP_BOOT_NS || off == Reg.CHP_ERR_SEQ
  || off == Reg.CHP_DEF_SRAM || off == Reg.CHP_DEF_PLT || decide (Reg.CHP_LANE_BAD0 ≤ off ∧ off < Reg.CHP_LANE_BAD0 + 16)

/-- Step and time registers (R76). -/
def stpKept (k : ResetKind) (off : Nat) : Bool :=
  off == Reg.STP_COUNT || off == Reg.STP_COUNT + 4 || off == Reg.STP_ELAPSED_WRAP
  || (k == .sleep && [Reg.STP_PERIOD, Reg.STP_POLICY, Reg.STP_DEFER_MAX, Reg.STP_TICK_SRC, Reg.STP_TICK_LEAD, Reg.STP_OVERRUNS,
    Reg.STP_LATE_EVT, Reg.STP_SHED_EVT, Reg.STP_TICK_MISS, Reg.STP_TICK_LATE, Reg.STP_STRETCH_NS, Reg.STP_STRETCH_NS + 4].contains off)

/-- Registers of the firmware image that last verified (R466). -/
def fwReg (off : Nat) : Bool :=
  off == Reg.RFG_FW_VERSION || off == Reg.RFG_FW_SIZE || decide (Reg.RFG_FW_DIGEST0 ≤ off ∧ off < Reg.RFG_FW_DIGEST0 + 64)

/-- Stream engine registers of an Ethernet port (R440). -/
def seKept (off : Nat) : Bool :=
  decide (Reg.ETH_SE_CFG ≤ off ∧ off < Reg.ETH_SE_CFG + 0x200)
  && [Reg.ETH_SE_CFG, Reg.ETH_SE_BASE, Reg.ETH_SE_BASE + 4, Reg.ETH_SE_LEN, Reg.ETH_SE_FLOW].contains
    ((off - Reg.ETH_SE_CFG) % 0x40 + Reg.ETH_SE_CFG)

/-- The register keeps its value across a reset. -/
def keptReg (k : ResetKind) (p off : Nat) : Bool :=
  off != Reg.PG_LOCK &&
  match pageKind p with
  | .chp => chpKept off
  | .pwr | .scr => true
  | .frz => k != .recovery || (off != Reg.FRZ_CTRL && off != Reg.FRZ_FPW_US)
  | .stp => stpKept k off
  | .lrnChip => k == .recovery
      && [Reg.LRN_EPOCH, Reg.LRN_EPOCH + 4, Reg.LRN_CKPT_LAST, Reg.LRN_CKPT_LAST + 4].contains off
  | .crn => k != .sleep && off == Reg.CRN_SEQ
  | .rfgCommon => fwReg off
  | .picCtl => k != .recovery && decide (Reg.PIC_WAKE_SELn ≤ off ∧ off < Reg.PIC_WAKE_SELn + 256)
  | .ethPort => k == .warm && seKept off
  | _ => false

/-- A port whose link layer stays up through the reset (R564). -/
def State.portStays (s : State) (k : ResetKind) (p : Nat) : Bool := k == .warm && s.trvUsable p

/-- The page of a Traverse port that stays up is kept whole. (DEDUCED, log 78) -/
def State.keepsReg (s : State) (k : ResetKind) (key : Nat) : Bool :=
  let p := key / 4096
  keptReg k p (key % 4096)
  || (decide (pageKind p = .trvPort) && key % 4096 != Reg.PG_LOCK && s.portStays k (p - 0xC0))

/-- Memory that the reset keeps: DRAM, the shared SRAM of the Refuge complex and the retained dump SRAM (R454, R547, R586,
R588); nothing in SLEEP. -/
def keptMem (k : ResetKind) (a : Nat) : Bool :=
  k != .sleep && (decide (Base.dram ≤ a) || decide (Base.rfg + 0x100000 ≤ a ∧ a < Base.dump + 0x200000))

/-! ## What the always-on domain keeps of the other state -/

def State.keptPort (s : State) (k : ResetKind) (x : Nat × TrvPort) : Nat × TrvPort :=
  if s.portStays k x.1 then (x.1, { x.2 with summitIn := [], remoteIn := [] })
  else (x.1, { coefs := x.2.coefs && k != .recovery, stored := k == .warm && x.2.coefs, downAt := s.elapsed, out := x.2.out })

/-- The chip with every compute domain reset. -/
def State.bare (s : State) (k : ResetKind) : State :=
  { grade := s.grade, pending := s.pending, elapsed := s.elapsed, fresh := s.fresh + 1, rdata := s.rdata, rpoison := s.rpoison
    regs := s.regs.filter (fun e => s.keepsReg k e.1)
    mem := s.mem.filter (fun c => keptMem k c.1)
    poison := s.poison.filter (keptMem k)
    step := { summited := true }
    cells := { seedBase := s.fresh + 1 }
    dram := { remap := s.dram.remap }
    learn := {}
    pic := { latches := s.pic.latches }
    trv := { ports := s.trv.ports.map (s.keptPort k) }
    eth := { out := s.eth.out }
    fault := { records := s.fault.records, siteList := s.fault.siteList, recoverAt := s.fault.recoverAt
               recoverUnit := s.fault.recoverUnit, readySeen := s.fault.readySeen }
    boot := { s.boot with path := .none, proven := false, entry := 0, size := 0, host := false }
    power := { pins := s.power.pins, raised := s.power.raised, coolSince := s.power.coolSince, vidAt := s.power.vidAt
               throtNs := s.power.throtNs, gated := k == .sleep }
    scree := s.scree
    sec := { burned := s.sec.burned } }

/-- The registers that show the remap lists (R169, R172, R175). -/
def State.showRemaps (s : State) : State :=
  let s := s.dram.remap.foldl (fun s e =>
    let slice := fld e.2 28 26 * 16 + 8 * e.1 + fld e.2 25 23
    let used := ((List.range 16).map (fun b => (s.bankRemaps slice b).length)).sum
    let empty := ((List.range 16).filter (fun b => decide (4 ≤ (s.bankRemaps slice b).length))).length
    (s.setFld (Page.slice slice) Reg.DRM_SLICE_STAT 22 16 used).setFld (Page.slice slice) Reg.DRM_SLICE_STAT 4 0 empty) s
  [0, 1].foldl (fun s d =>
    s.setFld (Page.die d) Reg.DRM_DIE_STAT 28 16 ((s.dram.remap.filter (fun e => e.1 == d)).length)) s

/-- Every present slice takes a power state (R171). -/
def State.allSlices (s : State) (x : Nat) : State :=
  ((List.range 128).filter (fun i => presentIn s.grade (Page.slice i))).foldl (fun s i => s.setSlicePower i x) s

/-- Reset every compute domain (R545, R586, R609): DRAM waits in self-refresh, or is off; ownership ends; the debug level
returns to 0. -/
def State.resetCompute (s : State) (k : ResetKind) : State :=
  let owned := s.eth.owner.isSome
  let unlocked := s.debugLevel != 0
  let s := (s.bare k).showRemaps.allSlices (if k = .sleep then 3 else 2)
  let s := (List.range 16).foldl (fun s p => s.setFld (Page.trv p) Reg.TRV_STAT 12 12 0) s
  let s := if owned then s.setInt Page.umh 0 else s
  let s := if unlocked then s.setInt Page.dbg 0 else s
  s.setFld Page.pwr Reg.PWR_VID 31 31 0

/-! ## Remap tables (R558) -/

/-- Mark the logical cells of a block: a good own site, else a good site 16 that no lower cell has taken, else offline. -/
def State.mapBlock (s : State) (b : Nat) : State :=
  let bad (x : Nat) : Bool := s.fault.siteList.any (fun p => p.1 == x)
  match (blockCells b).filter (fun c => bad (homeSite c)) with
  | [] => s
  | c :: l =>
    let off (s : State) (c : Nat) : State := s.setCellMap c { site := homeSite c, offline := true }
    if bad (spareSite b) then (c :: l).foldl off s
    else l.foldl off (s.setCellMap c { site := spareSite b, offline := false })

/-- The cell at a failed site that the full list has not recorded goes offline. -/
def State.dropUnlisted (s : State) (site : Nat) : State :=
  let s := s.setStat (Page.site site) 7
  match (blockCells (site / 17)).find? (fun c => s.siteOf c == site) with
  | some c => s.setCellMap c { site := site, offline := true }
  | none => s

/-- The remap tables of every block from the site list. (DESIGN CHOICE, log 79) -/
def State.buildMaps (s : State) : State :=
  let s : State := { s with cells := { s.cells with map := [], mapped := true } }
  let s := (List.range 128).foldl State.mapBlock s
  s.fault.unlisted.foldl State.dropUnlisted (s.fault.siteList.foldl (fun s p => s.setStat (Page.site p.1) 7) s)

/-- A logical cell is offline. -/
def State.someOffline (s : State) : Bool := s.cells.map.any (fun p => p.2.offline)

/-! ## Soft reset of pages (R533) -/

/-- Return the registers of the pages of a set to their reset values, but those of another set of keys. -/
def State.resetRegs (s : State) (pages : Nat → Bool) (keep : Nat → Bool) : State :=
  { s with regs := s.regs.filter (fun e => !(pages (e.1 / 4096)) || keep e.1) }

/-- Remove memory. -/
def State.dropMem (s : State) (gone : Nat → Bool) : State :=
  { s with mem := s.mem.filter (fun c => !(gone c.1)), poison := s.poison.filter (fun a => !(gone a)) }

end Sys2Proof.Machine
end

