-- ==== Sys2Proof/Machine/Power.lean ====
section
/-! DEFINITION. Power states, wake, clocks, throttling, the Scree monitors, the wear ledger and the supply pins (R602–R628,
R659, R661, R674). -/
namespace Sys2Proof.Machine
open Sys2Proof

def State.setPower (s : State) (x : PowerState) : State := { s with power := x }
def State.setPwr (s : State) (x : Nat) : State := s.setFld Page.pwr Reg.PWR_STAT 31 28 x

/-- RFG0 serves requests: it runs its kernel, and no start is under way (R451, R603). -/
def State.servesPower (s : State) : Bool := s.rfgState 0 == 1 && s.boot.path == .none && decide (s.frzState = Frz.run)

/-! ## Entry (R603, R604, R610, R611) -/

/-- `PWR_AON_LOAD`: the low-power load in units of 0.1 mA (R610). -/
def State.aonLoad (s : State) : Nat :=
  let en := s.reg Page.pwr Reg.PWR_WAKE_EN
  let count (a n : Nat) : Nat := ((List.range n).filter (fun i => bit en (a + i))).length
  75 + 2 * count 0 4 + 3 * count 4 1 + 25 * count 5 4

/-- Every ON bank takes RETENTION (R194, R604). -/
def State.retainBanks (s : State) : State :=
  (List.range 128).foldl (fun s b =>
    if (s.bank b).power = 2 then (s.setBank b { s.bank b with power := 1 }).showBank b else s) s

/-- The banks that software has asked to be ON return to it (R194, R607). -/
def State.wakeBanks (s : State) : State :=
  (List.range 128).foldl (fun s b =>
    if (s.bank b).power = 1 ∧ powerCode (s.regFld (Page.bank b) Reg.TAR_PWR 1 0) = 2 then
      ((s.setBank b { s.bank b with power := 2 }).showBank b).serveHeld b
    else s) s

/-- The first steps of an entry from RUN (R604). -/
def State.quiesce (s : State) : State :=
  let s := s.leaveGroup
  let s := (List.range s.grade.crests).foldl (fun s c => s.crsReset c) s
  let s := (List.range s.grade.plts).foldl (fun s k => s.pltNap k) s
  s.retainBanks.allSlices 2

/-- Take a request to enter NAP (1) or SLEEP (2). -/
def State.enterPower (s : State) (target : Nat) : State :=
  if s.running then s.setInt Page.pwr 2
  else if target = 2 ∧ 180 < s.aonLoad then (s.setInt Page.pwr 2).setFld Page.pwr Reg.PWR_STAT 8 8 1
  else
    let s := if s.power.gated then s else s.quiesce
    let s := (s.setPwr Pwr.entering).setReg Page.pwr Reg.PWR_WAKE_CAUSE 0
    s.setPower { s.power with entry := some (target, s.elapsed) }

/-- Return to service after a wake (R607). -/
def State.enterRun (s : State) : State :=
  if s.pwrState = Pwr.waking ∧ s.power.waitMain = false ∧ s.power.gated then
    ((s.setPower { s.power with gated := false }).setPwr Pwr.run).allSlices 0 |>.wakeBanks
  else s

/-- Hold a request: while RFG0 restarts, while an entry is under way, and in NAP, where a request of RUN or SLEEP wakes RFG0
(R603, R608). -/
def State.holdPower (s : State) (target : Nat) : State := s.setPower { s.power with held := some target }

/-- A request of `PWR_REQ.TARGET`; 3 is treated as RUN (R603, R607, R608, R626). (DEDUCED, log 85) -/
def State.powerRequest (s : State) (x : Nat) : State :=
  let target := if x = 3 then 0 else x
  if s.pwrState = Pwr.nap then (if target = 1 then s else s.holdPower target)
  else if s.power.entry.map (·.1) = some target then s
  else if s.servesPower = false ∨ s.pwrState = Pwr.entering then s.holdPower target
  else if target = 0 then s.enterRun
  else s.enterPower target

/-- The register and the request that its write makes. -/
def State.pwrReqWrite (s : State) (v : W32) : State := (s.setReg Page.pwr Reg.PWR_REQ (v &&& 3)).powerRequest (fld v 1 0)

/-- PWR_REQ_NAP. -/
def execPwrReqNap (req : Requester) (s : State) : Host.Outcome State Fault Refusal :=
  .next (s.ifAdmit req Page.pwr Reg.PWR_REQ (fun s => s.pwrReqWrite 1))

/-- PWR_REQ_SLEEP. -/
def execPwrReqSleep (req : Requester) (s : State) : Host.Outcome State Fault Refusal :=
  .next (s.ifAdmit req Page.pwr Reg.PWR_REQ (fun s => s.pwrReqWrite 2))

/-- PWR_REQ_RUN. -/
def execPwrReqRun (req : Requester) (s : State) : Host.Outcome State Fault Refusal :=
  .next (s.ifAdmit req Page.pwr Reg.PWR_REQ (fun s => s.pwrReqWrite 0))

/-! ## Wake (R605–R609, R661) -/

/-- A wake begins: RFG0 runs on the oscillator, or the always-on domain asks for the main supplies. -/
def State.wakeBegins (s : State) : State :=
  if s.pwrState = Pwr.nap then
    let s := ((s.setPwr Pwr.waking).setInt Page.pwr 0).releaseLatches
    let s := s.setRefuge 0 { s.refuge 0 with lastKick := s.elapsed }
    { s with pic := { s.pic with wfi := setDel s.pic.wfi 16 } }
  else if s.pwrState = Pwr.sleep then
    let s := (s.setPwr Pwr.waking).setInt Page.pwr 0
    (s.setPower { s.power with waitMain := true }) |> fun s => { s with boot := { s.boot with released := s.elapsed } }
  else s

/-- A cause that has been recorded, or a held request of a Refuge core in NAP, wakes the device. -/
def State.wakeNow (s : State) : State :=
  if s.reg Page.pwr Reg.PWR_WAKE_CAUSE ≠ 0 ∨ (s.pwrState = Pwr.nap ∧ s.power.held.isSome) then s.wakeBegins else s

/-- The levels of the `WAKE` pins in level mode, and of the always-on timer, as wake sources (R606). -/
def State.wakeLevels (s : State) : State :=
  let s := (List.range 4).foldl (fun s i =>
    if bit (s.reg Page.pwr Reg.PWR_WAKE_CFG) i && Nat.testBit s.power.pins i then s.wakeEvent i else s) s
  if s.reg64 Page.pwr Reg.PWR_WAKE_AT_NS ≤ s.elapsed then s.wakeEvent 4 else s

/-- WAKE: the `WAKE` pins take new levels. A rising edge is an edge of interrupt source 1 + n, and a wake event of a pin in
edge mode; a high level is a wake event of a pin in level mode (R475, R605, R606). -/
def execWake (pins : Fin 16) (s : State) : Host.Outcome State Fault Refusal :=
  let old := s.power.pins
  let s := s.setPower { s.power with pins := pins }
  let s := (List.range 4).foldl (fun s i =>
    if Nat.testBit pins.val i && !(Nat.testBit old i) then
      let s := if bit (s.reg Page.pwr Reg.PWR_WAKE_CFG) i then s else s.wakeEvent i
      s.edgeAt (1 + i)
    else s) s
  .next s.wakeLevels.wakeNow

/-- AON_TIMER_EXPIRY: the level of the always-on timer rises (R606). -/
def execAonTimerExpiry (s : State) : Host.Outcome State Fault Refusal :=
  if s.power.timerHigh ∨ s.elapsed < s.reg64 Page.pwr Reg.PWR_WAKE_AT_NS then .next s
  else
    let s := (s.setPower { s.power with timerHigh := true }).wakeEvent 4
    .next (s.edgeAt 5).wakeNow

/-- ENERGY_DETECT: a port listens for energy during and after an entry, where its wake is enabled (R604, R606). -/
def execEnergyDetect (port : Fin 4) (s : State) : Host.Outcome State Fault Refusal :=
  let x := s.pwrState
  if bit (s.reg Page.pwr Reg.PWR_WAKE_EN) (5 + port) && (x == Pwr.entering || x == Pwr.nap || x == Pwr.sleep) then
    .next ((s.wakeEvent (5 + port)).edgeAt (6 + port)).wakeNow
  else .next s

/-- Every domain that a PLL feeds moves to the oscillator (R604). -/
def State.toOsc (s : State) : State :=
  let l := (List.range 192).foldl (fun l d =>
    let x := fld (s.domain d) 2 0
    if 1 ≤ x ∧ x ≤ 6 then Store.set domainReset l d 0x100 else l) s.power.domains
  let s := s.setPower { s.power with domains := l, pllOff := List.range 6 }
  (List.range 6).foldl (fun s n => s.setReg Page.clk (Reg.CLK_PLLn_STAT + 8 * n) 0) s

/-- ENTRY_COMPLETE: the window ends. Links fall, PLLs stand, and RFG0 waits; SLEEP also loses all that it powers off. -/
def execEntryComplete (s : State) : Host.Outcome State Fault Refusal :=
  match s.power.entry with
  | none => .next s
  | some (target, t) =>
    let s := s.toOsc
    let s := (List.range s.grade.trvs).foldl (fun s p => if s.trvState p = 0 then s else s.fallDown p) s
    let s := (List.range 4).foldl (fun s p => s.setFld (0xE0 + p) Reg.ETH_STAT 31 28 0) s
    let s := s.setPower { s.power with entry := none, gated := true }
    let s := (s.setReg Page.pwr Reg.PWR_LAST_ENTRY_NS (BitVec.ofNat 32 (min 0xFFFFFFFF (s.elapsed - t)))).count
      Page.pwr Reg.PWR_ENTRIES 1
    let s := { s with pic := { s.pic with wfi := setIns s.pic.wfi 16 } }
    let held := s.power.held
    let s := if target = 2 then s.resetCompute .sleep else s
    let s := s.setPower { s.power with held := if target = 2 then none else held }
    .next (s.setPwr (if target = 2 then Pwr.sleep else Pwr.nap)).wakeLevels.wakeNow

/-- PG_MAIN_RISE: the shortened cold path begins (R549, R661). -/
def execPgMainRise (s : State) : Host.Outcome State Fault Refusal :=
  if s.power.waitMain = false then .next s
  else
    let s := s.setPower { s.power with waitMain := false, gated := false }
    let s := s.setReg Page.chp Reg.CHP_BOOT_STAT ((s.reg Page.chp Reg.CHP_BOOT_STAT &&& 0xC0) ||| 0x10000000)
    let s := s.setReg Page.chp Reg.CHP_RESET_CAUSE 4
    .next ({ s with boot := { s.boot with path := .wake } }).releaseLatches

/-! ## Clocks (R613–R616, R627) -/

/-- Highest frequency of a PLL in MHz (R613). -/
def pllMax (n : Nat) : Nat :=
  if n = 0 then 2000 else if n = 1 then 1600 else if n = 2 then 3200 else if n = 3 then 1250 else if n = 4 then 2000 else 1600

def pllCtrl (n : Nat) : Nat := Reg.CLK_PLLn_CTRL + 8 * n
def pllStat (n : Nat) : Nat := Reg.CLK_PLLn_STAT + 8 * n

/-- A write to `CLK_PLLn_CTRL`: a PLL that is disabled, or takes a new frequency, is no longer locked. -/
def State.pllWrite (s : State) (n : Nat) (v : W32) : State :=
  if pllMax n < fld v 11 0 then s.setErr Page.clk 0
  else
    let old := s.reg Page.clk (pllCtrl n)
    let s := (s.setReg Page.clk (pllCtrl n) (v &&& 0x80000FFF)).setPower { s.power with pllOff := setDel s.power.pllOff n }
    if v &&& 0x80000FFF = old then s else s.setReg Page.clk (pllStat n) (s.reg Page.clk (pllStat n) &&& 0x40000000)

/-- PLL_ENABLE. -/
def execPllEnable (req : Requester) (pll : Fin 6) (v : W32) (s : State) : Host.Outcome State Fault Refusal :=
  .next (s.ifAdmit req Page.clk (pllCtrl pll) (fun s => s.pllWrite pll v))

/-- PLL_LOCK: LOCKED is set with the frequency in force, and LOST clears. KILL holds every PLL off, and a PLL that an entry
stopped waits for a write of its control register (R607, R618, R627). -/
def execPllLock (pll : Fin 6) (s : State) : Host.Outcome State Fault Refusal :=
  let c := s.reg Page.clk (pllCtrl pll)
  if bit c 31 ∧ pll.val ∉ s.power.pllOff ∧ s.frzState ≠ Frz.kill ∧ s.frzState ≠ Frz.frozen ∧ s.pwrState ≠ Pwr.nap ∧ s.pwrState ≠ Pwr.sleep then
    .next (s.setReg Page.clk (pllStat pll) (bitWord 31 ||| (c &&& 0xFFF)))
  else .next s

/-- PLL_UNLOCK: in RUN the loss is shown and raises the interrupt. -/
def execPllUnlock (pll : Fin 6) (s : State) : Host.Outcome State Fault Refusal :=
  let c := s.reg Page.clk (pllStat pll)
  if bit c 31 = false then .next s
  else if s.pwrState = Pwr.run then .next ((s.setReg Page.clk (pllStat pll) (bitWord 30)).setInt Page.clk 0)
  else .next (s.setReg Page.clk (pllStat pll) 0)

/-- The unit that a domain clocks is present (R614, R615). -/
def domainPresent (g : Grade) (d : Nat) : Bool :=
  if 139 ≤ d ∧ d ≤ 142 then decide (d - 139 < g.plts)
  else if 143 ≤ d ∧ d ≤ 158 then decide (d - 143 < g.crests)
  else if d = 159 then decide (0 < g.crests)
  else if 161 ≤ d ∧ d ≤ 176 then decide (d - 161 < g.trvs)
  else if d = 185 then g.ingress
  else if 188 ≤ d ∧ d ≤ 191 then decide ((d - 188) / 2 < g.dies)
  else decide (d < 192)

/-- The domain can be switched to a source and divider (R615). -/
def domainTakes (d : Nat) (v : W32) : Bool :=
  let x := fld v 2 0
  let k := fld v 15 8
  !(d == 0 || decide (181 ≤ d ∧ d ≤ 185)) && x != 7 && decide (1 ≤ k ∧ k ≤ 16)
  && (d != 1 || x == 0 || (x == 1 && k == 2))

/-- A write to `CLK_DSRC`. -/
def State.dsrcWrite (s : State) (v : W32) : State :=
  let d := s.regFld Page.clk Reg.CLK_DSEL 7 0
  let x := fld v 2 0
  if domainPresent s.grade d = false ∨ domainTakes d v = false then s
  else if x ≠ 0 ∧ bit (s.reg Page.clk (pllStat (x - 1))) 31 = false then s.setErr Page.clk 0
  else s.setPower { s.power with domains := Store.set domainReset s.power.domains d (v &&& 0xFF07) }

/-- CLK_DSRC. -/
def execClkDsrc (req : Requester) (v : W32) (s : State) : Host.Outcome State Fault Refusal :=
  .next (s.ifAdmit req Page.clk Reg.CLK_DSRC (fun s => s.dsrcWrite v))

/-- The read of `CLK_DSRC`: GATED shows a domain whose PLL is lost, or that NAP, SLEEP, a freeze or a recovery stops. -/
def State.dsrcView (s : State) : W32 :=
  let d := s.regFld Page.clk Reg.CLK_DSEL 7 0
  if domainPresent s.grade d = false then 0
  else if d = 0 then s.domain d
  else s.domain d ||| (if s.runs d then 0 else bitWord 31)

/-! ## Temperature (R617–R619) -/

/-- `PWR_STAT.THROTTLE`. -/
def State.throttle (s : State) : Nat := s.regFld Page.pwr Reg.PWR_STAT 1 0

/-- Count a swing of 20 °C or more since the last one counted (R619). -/
def State.noteSwing (s : State) (tj : Nat) : State :=
  let x := s.scree
  if x.low = 0 ∧ x.high = 0 then { s with scree := { x with low := tj, high := tj } }
  else if x.low + 160 ≤ tj ∨ tj + 160 ≤ x.high then
    { s.count Page.scr Reg.SCR_THCYC 1 with scree := { x with low := tj, high := tj } }
  else { s with scree := { x with low := min x.low tj, high := max x.high tj } }

/-- The hottest junction sensor reads `tj`, in units of 0.125 °C. -/
def State.noteTemp (s : State) (tj : Nat) : State :=
  let s := s.setReg Page.pwr Reg.PWR_TJ (BitVec.ofNat 32 tj)
  let s := s.setReg Page.pwr Reg.PWR_TJ_MAX (BitVec.ofNat 32 (max tj (s.reg Page.pwr Reg.PWR_TJ_MAX).toNat))
  s.noteSwing tj

def State.setThrottle (s : State) (x : Nat) : State := (s.setFld Page.pwr Reg.PWR_STAT 1 0 x).setInt Page.pwr 1

/-- THROTTLE_RAISE: a reading at or above 105.0 °C, 100 µs after the last rise. -/
def execThrottleRaise (tj : Fin 2048) (s : State) : Host.Outcome State Fault Refusal :=
  let s := s.noteTemp tj
  if tj.val < 840 then .next s
  else
    let s := s.setPower { s.power with coolSince := none }
    if 3 ≤ s.throttle ∨ (s.throttle ≠ 0 ∧ s.elapsed < s.power.raised + 100000) then .next s
    else .next ((s.setPower { s.power with raised := s.elapsed }).setThrottle (s.throttle + 1))

/-- THROTTLE_LOWER: a reading below 102.0 °C; each 10 ms of them lowers the level. -/
def execThrottleLower (tj : Fin 2048) (s : State) : Host.Outcome State Fault Refusal :=
  let s := s.noteTemp tj
  if 816 ≤ tj.val then .next (s.setPower { s.power with coolSince := none })
  else match s.power.coolSince with
    | none => .next (s.setPower { s.power with coolSince := some s.elapsed })
    | some t =>
      if s.throttle = 0 ∨ s.elapsed < t + 10000000 then .next s
      else .next ((s.setPower { s.power with coolSince := some s.elapsed }).setThrottle (s.throttle - 1))

/-- A clock in MHz under the throttle level in force (R617). -/
def State.throttled (s : State) (mhz : Nat) : Nat := mhz * (4 - s.throttle) / 4

/-- Clock of a domain in MHz: its source's frequency by its divider; the oscillator's is 200 MHz (R613, R615). -/
def State.domainMhz (s : State) (d : Nat) : Nat :=
  let v := s.domain d
  let x := fld v 2 0
  (if x = 0 then 200 else s.regFld Page.clk (pllStat (x - 1)) 11 0) / max 1 (fld v 15 8)

/-- THERMAL_SHUTDOWN: a sensor reads 115.0 °C or more (R618). -/
def execThermalShutdown (tj : Fin 2048) (sensor : Fin 64) (s : State) : Host.Outcome State Fault Refusal :=
  let s := s.noteTemp tj
  if tj.val < 920 ∨ s.pwrState = Pwr.sleep then .next s
  else .next (s.fatal 0x040D (pageId Page.pwr) sensor false)

/-! ## Scree monitors (R619–R622) -/

/-- Kind and number within its kind of an instance (R619). -/
def screeKind (i : Nat) : Nat × Nat :=
  if i < 64 then (0, i) else if i < 80 then (1, i - 64) else if i < 160 then (2, i - 80)
  else if i < 288 then (3, i - 160) else if i < 296 then (4, i - 288) else (5, i - 296)

abbrev hourNs : Nat := 3600000000000

/-- H of an instance in whole hours, from the least-squares line of D against powered hours; none for a slope that is zero or
negative (R620). -/
def screeHours (l : List ScreeSample) : Option Nat :=
  let n : Int := l.length
  let st : Int := (l.map (fun x => (x.time : Int))).sum
  let sd : Int := (l.map (fun x => (x.d : Int))).sum
  let std : Int := (l.map (fun x => (x.time : Int) * x.d)).sum
  let stt : Int := (l.map (fun x => (x.time : Int) * x.time)).sum
  let num := n * std - st * sd
  let den := n * stt - st * st
  if num ≤ 0 ∨ den ≤ 0 then none
  else some ((65535 - ((l.head?.map (·.d)).getD 0)) * den.toNat / (num.toNat * hourNs))

/-- The instance of the smallest H. -/
def State.screeBest (s : State) : Option (Nat × Nat) :=
  s.scree.history.foldl (fun best p =>
    match screeHours p.2, best with
    | none, b => b
    | some h, none => some (p.1, h)
    | some h, some b => if h < b.2 then some (p.1, h) else some b) none

/-- Hours of history held. -/
def State.historyHours (s : State) : Nat := (s.poweredNs - s.scree.since) / hourNs

/-- The estimate registers after a sample (R620, R621). The rounding of H to hours and the confidence are free values. (DESIGN CHOICE, log 87) -/
def State.screeEstimate (s : State) : State :=
  if s.historyHours < 72 then
    (s.setFld Page.scr Reg.SCR_STAT 31 28 0).setReg Page.scr Reg.SCR_EOL_HOURS 0xFFFFFFFF
  else match s.screeBest with
    | none =>
      let s := (s.setFld Page.scr Reg.SCR_STAT 31 28 2).setReg Page.scr Reg.SCR_EOL_HOURS 0xFFFFFFFE
      (s.setReg Page.scr Reg.SCR_EOL_SRC 0).setReg Page.scr Reg.SCR_EOL_CONF 0
    | some (i, h) =>
      let warn := (s.reg Page.scr Reg.SCR_EOL_WARN_H).toNat
      let low := decide ((s.reg Page.scr Reg.SCR_EOL_HOURS).toNat < warn)
      let h := min 0xFFFFFFFD (h + Config.num s.fresh % 2)
      let conf := Config.num (s.fresh + 1) % 101
      let s := (s.useFresh.useFresh.setFld Page.scr Reg.SCR_STAT 31 28 1).setReg Page.scr Reg.SCR_EOL_HOURS (BitVec.ofNat 32 h)
      let s := s.setReg Page.scr Reg.SCR_EOL_SRC (BitVec.ofNat 32 ((screeKind i).2 % 256 * 256 + (screeKind i).1))
      let s := (s.setReg Page.scr Reg.SCR_EOL_CONF (BitVec.ofNat 32 conf)).setInt Page.scr 0
      if h < warn ∧ low = false then s.setInt Page.scr 3 else s

/-- Add a sample of an instance; samples older than 1,000 h no longer count (R620). -/
def addSample (now d : Nat) (l : List ScreeSample) : List ScreeSample :=
  { time := now, d := min 65535 d } :: l.filter (fun x => decide (now ≤ x.time + 1000 * hourNs))

/-- SCREE_SAMPLE: RFG3 samples the monitors; `ds` holds the degradation index of each of the 297 instances (R619, R620). -/
def execScreeSample (ds : List Nat) (s : State) : Host.Outcome State Fault Refusal :=
  let every := max 60 (s.regFld Page.scr Reg.SCR_SAMPLE_S 15 0) * 1000000000
  if s.refugeRuns 3 ∧ s.rfgState 3 = 1 ∧ s.scree.sampled + every ≤ s.elapsed then
    let now := s.poweredNs
    let h := (List.range 297).foldl (fun h i => Store.upd (fun _ => []) h i (addSample now (ds.getD i 0))) s.scree.history
    .next { s with scree := { s.scree with history := h, sampled := s.elapsed } }.screeEstimate
  else .next s

/-- Burn the next epoch fuse (R622). -/
def State.burnFuse (s : State) : State :=
  match s.nextFuse with
  | none => s
  | some i => (s.burn (63488 + i)).setInt Page.scr 2

/-- EPOCH_FUSE_BURN: powered time has passed a further multiple of 512 hours, and RFG3 burns the fuse. -/
def execEpochFuseBurn (s : State) : Host.Outcome State Fault Refusal :=
  if s.fuseDue ∧ s.otpBusy = false ∧ s.rfgState 3 = 1 then .next s.burnFuse else .next s

/-! ## The wear ledger (R623–R625) -/

abbrev ledgerBytes : Nat := 45056

/-- DRAM offset of the ledger. -/
def State.ledgerAt (s : State) : Nat := bitsOf (s.reg64 Page.scr Reg.SCR_LEDGER_ADDR) 35 6 * 64

/-- The ledger lies where it may (R625). -/
def State.ledgerPlace (s : State) : Bool :=
  let a := s.ledgerAt
  let lo := s.reg64 (Page.die 0) Reg.DRM_SYN_BASE
  let hi := s.reg64 (Page.die 0) Reg.DRM_SYN_LIMIT
  decide (a + ledgerBytes ≤ dramBytes s.grade) && !(decide (a < hi ∧ lo < a + ledgerBytes ∧ lo < hi))
  && !(s.rangeSecure a ledgerBytes)

/-- Free: which samples of the history the 64 points of an instance hold, and the powered time of each point. -/
def ledgerPoint (fresh i j : Nat) (l : List ScreeSample) : Nat :=
  match l with
  | [] => 0
  | x :: l => (((x :: l)[Config.num (2 ^ 64 * (fresh + 1) + 64 * i + j) % (l.length + 1)]?).map (·.d)).getD 0

/-- The 134 bytes of an instance. -/
def State.ledgerInstance (s : State) (i : Nat) : List Byte :=
  let l := (Store.find s.scree.history i).getD []
  leBytes 2 ((l.head?.map (·.d)).getD 0)
    ++ ((List.range 64).map (fun j => leBytes 2 (ledgerPoint s.fresh i j l))).flatten
    ++ leBytes 4 (s.scree.throttle / hourNs)

/-- The identity digest as bytes. -/
def identityBytes : List Byte := ((List.range 8).map (fun i => leBytes 4 (Config.identity i).toNat)).flatten

/-- Free bytes of a signature of the identity keys; hedged signing takes fresh randomness, unless the TRNG is FAILED (R629,
R653). -/
def State.identitySign (s : State) (kind n : Nat) (m : List Byte) : List Byte :=
  (List.range n).map (fun i => Config.idSign kind m (if kind = 1 ∧ s.trngState ≠ 2 then s.fresh + 1 else 0) i)

/-- The signed part of the ledger. -/
def State.ledgerBody (s : State) : List Byte :=
  let inst := ((List.range 297).map s.ledgerInstance).flatten
  leBytes 4 0x5C2E0001 ++ leBytes 4 1 ++ identityBytes ++ leBytes 8 (s.poweredNs / 1000000000)
    ++ leBytes 4 s.historyHours ++ leBytes 4 (s.reg Page.scr Reg.SCR_THCYC).toNat ++ leBytes 4 s.scree.exports ++ leBytes 4 0
    ++ inst ++ List.replicate 1162 0

def State.ledger (s : State) : List Byte :=
  let m := s.ledgerBody
  m ++ s.identitySign 0 64 m ++ s.identitySign 1 3309 m ++ List.replicate 659 0

/-- A ledger request ends. -/
def State.ledgerEnd (s : State) (code b : Nat) : State :=
  ((s.setReg Page.scr Reg.SCR_LEDGER_STAT (BitVec.ofNat 32 code)).clrReg Page.scr Reg.SCR_LEDGER_CTRL (bitWord b)).setInt Page.scr 1

/-- RFG3 writes the ledger (R623, R625). -/
def State.exportLedger (s : State) : State :=
  if s.ledgerPlace = false then s.ledgerEnd 6 0
  else
    let s : State := { s with scree := { s.scree with exports := s.scree.exports + 1 } }
    ((s.dramWrite none true s.ledgerAt s.ledger).useFresh).ledgerEnd 0 0

/-- The floor in seconds (R622). -/
def State.floorS (s : State) : Nat := s.fuses * 1843200

/-- Why a ledger is refused, in the order of R624; 0 for none. -/
def State.ledgerCode (s : State) (l : List Byte) : Nat :=
  let m := l.take 0xA040
  let ed := (List.range 32).map Config.idKey
  let ml := (List.range 1952).map (fun i => Config.idKey (32 + i))
  if leNat (cutBytes l 0 4) ≠ 0x5C2E0001 ∨ leNat (cutBytes l 4 4) ≠ 1 then 1
  else if (Config.edOk ed m (cutBytes l 0xA040 64) && Config.mlOk ml m (cutBytes l 0xA080 3309)) = false then 2
  else if cutBytes l 8 32 ≠ identityBytes then 3
  else if leNat (cutBytes l 0x28 8) < s.floorS then 4
  else if bit (s.reg Page.scr Reg.SCR_STAT) 0 then 5
  else 0

/-- The history of an instance from a ledger: the times of its points are free values. -/
def ledgerHistory (fresh now hours : Nat) (l : List Byte) (i : Nat) : List ScreeSample :=
  let o := 0x40 + 134 * i
  { time := now, d := leNat (cutBytes l o 2) } :: (List.range 64).map (fun j =>
    { time := now - Config.num (2 ^ 64 * (fresh + 1) + j) % (hours * hourNs + 1), d := leNat (cutBytes l (o + 2 + 2 * j) 2) })

/-- Burn every fuse that the powered time calls for; at most `n`. -/
def State.burnDue (s : State) : Nat → State
  | 0 => s
  | n + 1 => if s.fuseDue ∧ s.nextFuse.isSome then (s.burnFuse).burnDue n else s

/-- Take an accepted ledger. -/
def State.takeLedger (s : State) (l : List Byte) : State :=
  let hours := leNat (cutBytes l 0x30 4)
  let s : State := { s with scree := { s.scree with base := leNat (cutBytes l 0x28 8) * 1000000000 } }
  let now := s.poweredNs
  let hist := (List.range 297).map (fun i => (i, ledgerHistory s.fresh now hours l i))
  let s : State := { s with scree := { s.scree with
    history := hist, since := now - hours * hourNs, throttle := leNat (cutBytes l (0x40 + 130) 4) * hourNs } }
  let s := (s.setReg Page.scr Reg.SCR_THCYC (BitVec.ofNat 32 (leNat (cutBytes l 0x34 4)))).orReg Page.scr Reg.SCR_STAT 1
  (s.useFresh).burnDue 2048

/-- RFG3 reads a ledger (R624, R625). -/
def State.restoreLedger (s : State) : State :=
  if s.ledgerPlace = false then s.ledgerEnd 6 1
  else
    let l := s.bytes (Base.dram + s.ledgerAt) ledgerBytes
    let code := s.ledgerCode l
    (if code = 0 then s.takeLedger l else s).ledgerEnd code 1

/-- RFG3 serves what `SCR_LEDGER_CTRL` asks for while it runs and DRAM is in service (R451). -/
def State.serveLedger (s : State) : State :=
  if s.clocked = false ∨ s.rfgState 3 ≠ 1 then s
  else
    let s := if bit (s.reg Page.scr Reg.SCR_LEDGER_CTRL) 0 then s.exportLedger else s
    if bit (s.reg Page.scr Reg.SCR_LEDGER_CTRL) 1 then s.restoreLedger else s

/-- A write to `SCR_LEDGER_CTRL`: ignored while a request is served. -/
def State.ledgerCtrl (s : State) (v : W32) : State :=
  if s.reg Page.scr Reg.SCR_LEDGER_CTRL ≠ 0 then s
  else (s.setReg Page.scr Reg.SCR_LEDGER_CTRL (v &&& 3)).serveLedger

/-- LEDGER_EXPORT. -/
def execLedgerExport (req : Requester) (s : State) : Host.Outcome State Fault Refusal :=
  .next (s.ifAdmitWo req Page.scr Reg.SCR_LEDGER_CTRL (fun s => s.ledgerCtrl 1))

/-- LEDGER_RESTORE. -/
def execLedgerRestore (req : Requester) (s : State) : Host.Outcome State Fault Refusal :=
  .next (s.ifAdmitWo req Page.scr Reg.SCR_LEDGER_CTRL (fun s => s.ledgerCtrl 2))

/-! ## Core voltage (R659, R674) -/

/-- A write to `PWR_VID`. -/
def State.vidWrite (s : State) (v : W32) : State :=
  if 40 < fld v 21 16 then s.setErr Page.pwr 0 else s.setFld Page.pwr Reg.PWR_VID 21 16 (fld v 21 16)

/-- PWR_VID_WRITE. -/
def execPwrVidWrite (req : Requester) (v : W32) (s : State) : Host.Outcome State Fault Refusal :=
  .next (s.ifAdmit req Page.pwr Reg.PWR_VID (fun s => s.vidWrite v))

/-- VID_STEP: CODE moves one step towards TARGET, 10 µs after its last step. -/
def execVidStep (s : State) : Host.Outcome State Fault Refusal :=
  let c := s.regFld Page.pwr Reg.PWR_VID 5 0
  let t := s.regFld Page.pwr Reg.PWR_VID 21 16
  if s.elapsed < s.power.vidAt + 10000 ∨ c = t then .next s
  else .next ((s.setPower { s.power with vidAt := s.elapsed }).setFld Page.pwr Reg.PWR_VID 5 0 (if c < t then c + 1 else c - 1))

/-! ## Output pins of the always-on domain (R659, R661, R666) -/

/-- Level of `PWR_EN_MAIN`: low from SLEEP entry until a wake begins. (DEDUCED, log 88) -/
def State.pwrEnMain (s : State) : Bool := s.pwrState != Pwr.sleep

/-- The code on `VID[5:0]`: none while `VID_VALID` is low and the pins are at high impedance. -/
def State.vidPins (s : State) : Option Nat :=
  if bit (s.reg Page.pwr Reg.PWR_VID) 31 then some (s.regFld Page.pwr Reg.PWR_VID 5 0) else none

/-- `ALERT_N` is low: at a throttle level above 0, and from a thermal shutdown until its recovery has ended. -/
def State.alertLow (s : State) : Bool :=
  s.throttle != 0 || (decide (Frz.collect ≤ s.frzState) && s.reg Page.frz Reg.FRZ_REC_CAUSE == 0x040D)

/-! ## Idle time and register writes with a rule of their own -/

/-- One cycle: a held request is served once RFG0 can, a ledger request once RFG3 can, a recorded cause wakes the device, and
time at a throttle level counts (R603, R617). -/
def State.powerCycle (s : State) : State :=
  let s := s.wakeNow
  let s :=
    match s.power.held with
    | none => s
    | some x =>
      if s.servesPower ∧ s.pwrState ≠ Pwr.nap ∧ s.pwrState ≠ Pwr.entering then
        (s.setPower { s.power with held := none }).powerRequest x
      else s
  let s := if s.reg Page.scr Reg.SCR_LEDGER_CTRL = 0 then s else s.serveLedger
  if s.throttle = 0 then s
  else
    let s : State := { s with scree := { s.scree with throttle := s.scree.throttle + 1 } }
    if s.power.throtNs + 1 < 1000 then s.setPower { s.power with throtNs := s.power.throtNs + 1 }
    else (s.setPower { s.power with throtNs := 0 }).count Page.pwr Reg.PWR_THROT_US 1

def State.pwrWrite (s : State) (off : Nat) (v : W32) : Option State :=
  if off = Reg.PWR_REQ then some (s.pwrReqWrite v)
  else if off = Reg.PWR_VID then some (s.vidWrite v)
  else none

/-- A complete write of `PWR_WAKE_AT_NS`: the level of the timer follows (R606). -/
def State.wakeAtWrite (s : State) (v : Nat) : State :=
  (s.setReg64 Page.pwr Reg.PWR_WAKE_AT_NS v).setPower { s.power with timerHigh := s.power.timerHigh && decide (v ≤ s.elapsed) }

def State.clkWrite (s : State) (off : Nat) (v : W32) : Option State :=
  if off = Reg.CLK_DSRC then some (s.dsrcWrite v)
  else if Reg.CLK_PLLn_CTRL ≤ off ∧ off < Reg.CLK_PLLn_CTRL + 48 ∧ off % 8 = 0 then some (s.pllWrite ((off - Reg.CLK_PLLn_CTRL) / 8) v)
  else none

def State.scrWrite (s : State) (off : Nat) (v : W32) : Option State :=
  if off = Reg.SCR_LEDGER_CTRL then some (s.ledgerCtrl v) else none

end Sys2Proof.Machine
end

