-- ==== Sys2Proof/Machine/Boot.lean ====
section
/-! DEFINITION. Power-on, the cold, shortened and warm paths, the defect maps, and READY (R545–R569, R612, R680). -/
namespace Sys2Proof.Machine
open Sys2Proof

def State.setBoot (s : State) (x : BootState) : State := { s with boot := x }
def State.setStage (s : State) (x : Nat) : State := s.setFld Page.chp Reg.CHP_BOOT_STAT 31 28 x
def State.setFail (s : State) (x : Nat) : State := s.setFld Page.chp Reg.CHP_BOOT_STAT 23 16 x

/-- `BOOT_SRC` as sampled (R551, R566). -/
def State.bootSrc (s : State) : Nat := s.regFld Page.chp Reg.CHP_BOOT_STAT 7 6

/-- A start is under way at a stage, and nothing stops its clocks. -/
def State.bootAt (s : State) (stage : Nat) : Bool :=
  s.boot.path != .none && s.bootStage == stage && (s.frzState == Frz.run || s.frzState == Frz.reload) && !s.power.gated

/-! ## Power-on (R545, R546, R612) -/

/-- The always-on domain starts. OTP keeps what it holds; the pins keep their levels; the model's own fields go on. -/
def State.powerUp (s : State) (src cause : Nat) : State :=
  let t : State := { grade := s.grade, pending := s.pending, fresh := s.fresh + 1, cells := { seedBase := s.fresh + 1 }
                     power := { pins := s.power.pins }, sec := { burned := s.sec.burned }, boot := { path := .cold } }
  let t : State := { t with scree := { base := t.fuses * 1843200000000000, since := t.fuses * 1843200000000000 } }
  let t := t.setReg Page.chp Reg.CHP_BOOT_STAT (BitVec.ofNat 32 (src % 4 * 64))
  (t.setReg Page.chp Reg.CHP_RESET_CAUSE (BitVec.ofNat 32 cause)).allSlices 3

/-- POWER_ON: `POR_N` rises, and `BOOT_SRC` is sampled. -/
def execPowerOn (src : Fin 4) (s : State) : Host.Outcome State Fault Refusal := .next (s.powerUp src 1)

/-- BROWN_OUT: the device starts again from power-on (R612, R662). -/
def execBrownOut (s : State) : Host.Outcome State Fault Refusal := .next (s.powerUp s.bootSrc 2)

/-! ## Halting (R550, R553) -/

/-- Station address base of the bring-up area, or the local base where its CRC fails (R553, R556). -/
def State.otpCrcOk (s : State) : Bool :=
  crc32 ((List.range 639).map (fun i => leBytes 4 (s.otpWord (1024 + i)).toNat)).flatten == (s.otpWord 1663).toNat
def State.macBase (s : State) : Nat :=
  if s.otpCrcOk then (s.otpWord 1025).toNat + 2 ^ 32 * fld (s.otpWord 1026) 15 0 else 0x020094100000

/-- The boot ROM writes the station address of each port. -/
def State.bootMacs (s : State) : State :=
  (List.range 4).foldl (fun s n => s.setReg64 (0xE0 + n) Reg.ETH_MAC ((s.macBase + n) % 2 ^ 48)) s

/-- A stage fails. -/
def State.halt (s : State) (code : Nat) : State := ((s.setFail code).setStage 0xF).bootMacs

/-! ## OTP and DRAM (R556–R559) -/

/-- Site k of the fused bad sites; the count is the bring-up area's own (R556). -/
def State.fusedSites (s : State) : List Nat :=
  (List.range (fld (s.otpWord 1024) 31 24)).map (fun k =>
    let w := s.otpWord (1027 + k / 2)
    if k % 2 = 0 then fld w 11 0 else fld w 27 16)

/-- Fused columns of an array. -/
def State.fusedColumns (s : State) (a : Nat) : Nat :=
  ((List.range (fld (s.otpWord 1024) 23 16)).filter (fun k =>
    let w := s.otpWord (1091 + k / 2)
    (if k % 2 = 0 then fld w 10 9 else fld w 26 25) == a)).length

/-- The OTP stage has read its area: the defect registers and, at power-on, the site list (R557, R558). -/
def State.takeOtp (s : State) : State :=
  let s := if s.boot.path = .cold then s.fusedSites.foldl (fun s x => s.listSite x 0) s else s
  let s := s.setReg Page.chp Reg.CHP_DEF_SRAM (BitVec.ofNat 32 (fld (s.otpWord 1024) 15 0 % 1024))
  s.setReg Page.chp Reg.CHP_DEF_PLT (BitVec.ofNat 32 ((List.range 4).foldl (fun n a => n + s.fusedColumns a % 16 * 16 ^ a) 0))

/-- PLLs locked at their frequencies of R613, and the domains on them. -/
def State.lockPlls (s : State) : State :=
  let s := (List.range 6).foldl (fun s n =>
    let v := BitVec.ofNat 32 (2 ^ 31 + pllMax n)
    (s.setReg Page.clk (pllCtrl n) v).setReg Page.clk (pllStat n) v) s
  let l := (List.range 192).foldl
    (fun l d => if domainPresent s.grade d then Store.set domainReset l d (domainFeed d) else l) s.power.domains
  s.setPower { s.power with domains := l }

/-- OTP_STAGE: the supply monitors, and which PLLs do not lock (R548, R556, R659). The warm path takes it too (R564). -/
def execOtpStage (supplyOk : Bool) (unlocked : BitVec 6) (s : State) : Host.Outcome State Fault Refusal :=
  if (s.bootAt 0 || s.bootAt 1 || s.bootAt 2) = false then .next s
  else if s.otpCrcOk = false then .next (s.halt 1)
  else if supplyOk = false then .next (s.halt 2)
  else if unlocked ≠ 0 then
    let s := s.lockPlls
    .next (((List.range 6).foldl (fun s n =>
      if unlocked.getLsbD n then s.setReg Page.clk (pllStat n) 0 else s) s).halt 3)
  else
    let s := (s.takeOtp.lockPlls.setReg Page.bdr Reg.BDR_TRNG_STAT (bitWord 30)).setFld Page.pwr Reg.PWR_VID 31 31 1
    .next (s.setStage 3)

/-- DRAM_TRAIN: afresh, or with the values that the always-on domain holds (R548, R549, R564). -/
def execDramTrain (ok : Bool) (s : State) : Host.Outcome State Fault Refusal :=
  if s.bootAt 3 = false then .next s
  else if ok = false then .next (s.halt 4)
  else .next ((s.allSlices 0).setStage (if s.boot.path = .warm then 7 else 4))

/-- A row fails its test (R167, R169, R559). -/
def State.failRow (s : State) (x : Nat × Nat × Nat) : State :=
  let (slice, bank, row) := x
  if presentIn s.grade (Page.slice slice) = false ∨ 16 ≤ bank ∨ 12288 ≤ row ∨ s.rowListed slice bank row then s
  else if (s.bankRemaps slice bank).length < 4 then
    let s := s.enterRemap { slice := slice, bank := bank, row := row, src := 0 }
    s.record { level := 2, cls := 1, esc := false, inj := false, code := 0x0302, unit := pageId (Page.slice slice)
               addr := dramOffset ⟨slice, bank, row, 0⟩ }
  else s.degradeBank slice bank

/-- DRAM_ROW_TEST: `rows` are the rows with a failing beat: slice, bank and row. Every byte reads zero afterwards. -/
def execDramRowTest (rows : List (Nat × Nat × Nat)) (s : State) : Host.Outcome State Fault Refusal :=
  if s.bootAt 4 = false then .next s
  else
    let s := (rows.foldl State.failRow s).dropMem (fun a => decide (Base.dram ≤ a ∧ a < Base.dram + 2 * dieBytes))
    .next (s.setStage 5)

/-- Mark a lane bad (R560, R569). -/
def State.markLane (s : State) (p lane : Nat) : State :=
  s.orReg Page.chp (Reg.CHP_LANE_BAD0 + 4 * (p / 4)) (bitWord (8 * (p % 4) + lane))

/-- BOOT_LANE_TEST: `bad` are the lanes that fail: port and lane. -/
def execBootLaneTest (bad : List (Fin 16 × Fin 5)) (s : State) : Host.Outcome State Fault Refusal :=
  if s.bootAt 5 = false then .next s
  else
    let s := bad.foldl (fun s x => if x.1.val < s.grade.trvs then s.markLane x.1 x.2 else s) s
    let s := if s.bootSrc = 1 then s.bootMacs else s
    .next (s.setStage 6)

/-! ## Images (R551–R555) -/

/-- Try the image in staging: it goes to VERIFY. (DEDUCED, log 76) -/
def State.tryImage (s : State) (size : Nat) (host : Bool) : State :=
  let n := s.regFld Page.chp Reg.CHP_BOOT_STAT 15 8
  let s := (s.setFld Page.chp Reg.CHP_BOOT_STAT 15 8 (min 255 (n + 1))).setStage 7
  let path := if s.boot.path = .none then BootPath.cold else s.boot.path
  s.setBoot { s.boot with path := path, size := size, host := host }

/-- IMAGE_FETCH: the flash answers with the image of the next directory entry; no bytes stand for an entry of size 0. -/
def execImageFetch (answers : Bool) (image : List Byte) (s : State) : Host.Outcome State Fault Refusal :=
  if s.bootAt 6 = false ∨ s.bootSrc = 1 ∨ s.boot.host then .next s
  else if answers = false then .next (s.halt 5)
  else if image.isEmpty ∨ 4 ≤ s.boot.entry then
    .next (s.halt (if s.boot.entry = 0 then 5 else s.bootFail))
  else
    let s := s.setBoot { s.boot with entry := s.boot.entry + 1 }
    let s := (s.dropMem (fun a => decide (Base.dram ≤ a ∧ a < Base.dram + 0xA0000))).setBytes Base.dram (image.take 0xA0000)
    .next (s.tryImage image.length false)

/-- A write to `CHP_BOOT_IMG`: host boot only (R553). -/
def State.bootImg (s : State) (v : W32) : State :=
  if s.hostBoot && s.staging && s.bootStage != 7 then s.tryImage (fld v 19 0) true else s

/-- CHP_BOOT_IMG. -/
def execChpBootImg (req : Requester) (v : W32) (s : State) : Host.Outcome State Fault Refusal :=
  .next (s.ifAdmitWo req Page.chp Reg.CHP_BOOT_IMG (fun s => s.bootImg v))

/-- Field of an image header. -/
def imgNum (l : List Byte) (o n : Nat) : Nat := leNat (cutBytes l o n)

/-- Check 1 of R554. -/
def imageFormed (l : List Byte) : Bool :=
  let n := l.length
  imgNum l 0 4 == 0xE1C0F1A5 && imgNum l 4 4 == 1 && imgNum l 8 4 == n && decide (6592 ≤ n ∧ n ≤ 655360)
  && (List.range 4).all (fun k =>
    let o := imgNum l (0x20 + 0x50 * k) 4
    let z := imgNum l (0x24 + 0x50 * k) 4
    decide (0x200 ≤ o ∧ o + z + 0x17C0 ≤ n ∧ z ≤ 0x40000))

/-- Check 5 of R554. -/
def segmentsMatch (l : List Byte) : Bool :=
  (List.range 4).all (fun k =>
    let h := 0x20 + 0x50 * k
    (Config.sha512 (cutBytes l (imgNum l h 4) (imgNum l (h + 4) 4))).toNat == imgNum l (h + 16) 64)

/-- The code with which an image fails, 0 where it verifies (R554). -/
def State.imageCode (s : State) (l : List Byte) : Nat :=
  let slot := imgNum l 0x14 4 % 4
  let a := signedBy l
  if imageFormed l = false then 6
  else if Nat.testBit (s.slotCtl slot) 7 then 8
  else if (s.slotOk slot 0 && s.slotHash slot == keyHash l && a.1 && a.2) = false then 7
  else if imgNum l 0x10 4 % 256 < s.otpArb then 9
  else if segmentsMatch l = false then 0xA
  else 0

/-- Bedrock copies the verified image and keeps its digest; the boot ROM writes the registers of R466 (R555). -/
def State.takeImage (s : State) (l : List Byte) : State :=
  let d := Config.sha512 l
  let s := (s.dropMem (fun a => decide (imageStore ≤ a ∧ a < imageStore + 0xA0000))).copyMem Base.dram imageStore l.length
  let s := (List.range 4).foldl (fun s k => s.loadSegment k) s
  let s := (s.setReg Page.rfgc Reg.RFG_FW_VERSION (BitVec.ofNat 32 (imgNum l 0xC 4))).setReg
    Page.rfgc Reg.RFG_FW_SIZE (BitVec.ofNat 32 l.length)
  let s := (List.range 16).foldl (fun s i =>
    s.setReg Page.rfgc (Reg.RFG_FW_DIGEST0 + 4 * i) (BitVec.ofNat 32 (d.toNat / 2 ^ (32 * i)))) s
  s.setBoot { s.boot with digest := some d, running := some (imgNum l 0x14 4 % 4, imgNum l 0x10 4 % 256) }

/-- IMAGE_VERIFY: a failure goes on to the next directory entry, or back to the host (R551, R553). -/
def execImageVerify (s : State) : Host.Outcome State Fault Refusal :=
  if s.bootAt 7 = false ∨ s.boot.size = 0 then .next s
  else
    let size := s.boot.size
    let l := s.bytes Base.dram (min size 0xA0000)
    let code := if 0xA0000 < size then 6 else s.imageCode l
    let s := s.setBoot { s.boot with size := 0 }
    if code = 0 then .next ((s.takeImage l).setStage 8)
    else .next ((s.setFail code).setStage 6)

/-! ## The warm path (R545, R546, R550, R564, R565, R567) -/

/-- A warm reset acts: not in a cold path before the first READY unless the path is halted, and not without supplies. (DESIGN CHOICE, log 77) -/
def State.warmActs (s : State) : Bool :=
  (s.fault.readySeen || s.bootStage == 0xF) && s.pwrState != Pwr.sleep && !s.power.waitMain

/-- A warm reset with its cause bit. From HALTED before the first READY it restarts the cold path at ROM. -/
def State.warmReset (s : State) (cause : Nat) : State :=
  if s.warmActs = false then s
  else
    let warm := s.fault.readySeen
    let src := s.bootSrc
    let s := ((s.resetCompute .warm).setFrz Frz.run).setPwr Pwr.run
    let s := s.setReg Page.chp Reg.CHP_BOOT_STAT (BitVec.ofNat 32 (2 ^ 28 + src * 64 + (if warm then 2 else 0)))
    let s := s.setReg Page.chp Reg.CHP_RESET_CAUSE (BitVec.ofNat 32 (2 ^ cause))
    let s := if warm then s else s.allSlices 3
    s.setBoot { s.boot with path := if warm then .warm else .cold, released := s.elapsed }

/-- WARM_N: low for at least 1 µs. -/
def execWarmN (s : State) : Host.Outcome State Fault Refusal := .next (s.warmReset 3)

/-- A write to `CHP_RESET` (R567). -/
def State.resetWrite (s : State) (v : W32) : State := if fld v 31 16 = 0xB007 ∧ bit v 0 then s.warmReset 4 else s

/-- CHP_RESET. -/
def execChpReset (req : Requester) (v : W32) (s : State) : Host.Outcome State Fault Refusal :=
  .next (s.ifAdmitWo req Page.chp Reg.CHP_RESET (fun s => s.resetWrite v))

/-- The image store matches the kept digest. -/
def State.storeMatches (s : State) : Bool :=
  match s.boot.digest with
  | none => false
  | some d => Config.sha512 (s.bytes imageStore (s.reg Page.rfgc Reg.RFG_FW_SIZE).toNat) == d

/-- The digest is checked: the segments are reloaded, or the path goes on with FETCH, VERIFY and the known-answer run. -/
def State.checkStore (s : State) : State :=
  if s.storeMatches then
    let s := (List.range 4).foldl (fun s k => s.loadSegment k) s
    (s.setBoot { s.boot with proven := true }).setStage 8
  else if s.bootSrc = 1 then ((s.setFail 0xB).setStage 6).bootMacs
  else (s.setFail 0xB).setStage 6

/-- WARM_PATH_DIGEST. -/
def execWarmPathDigest (s : State) : Host.Outcome State Fault Refusal :=
  if s.bootAt 7 ∧ s.boot.path = .warm ∧ s.boot.size = 0 ∧ s.bootFail = 0 then .next s.checkStore else .next s

/-! ## The known-answer run and READY (R561, R562) -/

/-- The record of an engine that fails the run. -/
def katRecord (page cls : Nat) : ErrRecord :=
  { level := 3, cls := cls, esc := false, inj := false, code := 0x0407, unit := pageId page, addr := (pageId page).toNat }

/-- The record of a cell site that fails: CONTAINED when a logical cell goes offline, which its block's tables then show
(R558, R561). -/
def State.failSite (s : State) (x : Nat) : State :=
  let b := x / 17
  let own := (List.range 16).filter (fun i => s.fault.siteList.any (fun p => p.1 == b * 17 + i))
  let off := x % 17 != 16 && (s.fault.unlisted.contains x || s.fault.siteList.any (fun p => p.1 == spareSite b)
    || own.head? != some (x % 17))
  s.record (katRecord (Page.site x) (if off then 2 else 1))

/-- An engine of another kind fails: it is FAULTED. -/
def State.failEngine (s : State) (page : Nat) : State :=
  match pageKind page with
  | .plt | .tar | .enc | .trvPort | .ethPort =>
    if presentIn s.grade page then (s.setStat page 7).record (katRecord page 2) else s
  | _ => s

/-- KNOWN_ANSWER_RUN: `sites` and the pages of the other engines that fail. DRAM that the run used reads zero. -/
def execKnownAnswerRun (sites : List (Fin 2176)) (engines : List Nat) (s : State) : Host.Outcome State Fault Refusal :=
  if s.bootAt 8 = false ∨ s.boot.proven then .next s
  else
    let s := sites.foldl (fun s x => s.failSite x) (sites.foldl (fun s x => s.listSite x 1) s)
    let s := engines.foldl State.failEngine s
    let s := s.dropMem (fun a => decide (Base.dram ≤ a ∧ a < Base.dram + 0x100000))
    .next (s.setBoot { s.boot with proven := true })

/-- No engine that the known-answer run checks is FAULTED, beside the cell sites. -/
def State.enginesGood (s : State) : Bool :=
  ((List.range 128).all (fun b => !s.faulted (Page.bank b))) && ((List.range 4).all (fun k => !s.faulted (Page.plt k)))
  && ((List.range 64).all (fun c => !s.faulted (Page.enc c))) && ((List.range 16).all (fun p => !s.faulted (0xC0 + p)))
  && ((List.range 4).all (fun p => !s.faulted (0xE0 + p)))

/-- Burn the anti-rollback counter at READY (R639). -/
def State.autoArb (s : State) : State :=
  match s.boot.running with
  | some r => if bit s.otpConfig 4 then (s.arbBits r.2).foldl State.burn s else s
  | none => s

/-- The four Refuge cores run their kernels. -/
def State.startRefuges (s : State) : State :=
  (List.range 4).foldl (fun s k => (s.setRfgState k 1).setRefuge k { lastKick := s.elapsed }) s

/-- The chip declares READY, DEGRADED or READY_RECOVERED (R558, R562, R584, R680). -/
def State.declareReady (s : State) : State :=
  let s := s.buildMaps.startRefuges.autoArb
  let bad := s.someOffline || !s.enginesGood
  let recovered := s.frzState == Frz.reload
  let s := (s.setStage 9).setFld Page.chp Reg.CHP_BOOT_STAT 0 0 (if bad then 1 else 0)
  let s := s.setStat Page.chp (if recovered then 9 else if bad then 8 else 3)
  let s := s.setReg Page.chp Reg.CHP_BOOT_NS (BitVec.ofNat 32 (s.elapsed - s.boot.released))
  let s := s.setPwr Pwr.run
  { s with fault := { s.fault with readySeen := true }, boot := { s.boot with path := .none } }

/-- READY: the firmware has started, and the known-answer run has ended where the path has one. -/
def execReady (s : State) : Host.Outcome State Fault Refusal :=
  if s.bootAt 8 ∧ s.boot.proven ∧ s.frzState = Frz.run then .next s.declareReady else .next s

end Sys2Proof.Machine
end

