-- ==== Sys2Proof/Machine/Views.lean ====
section
/-! DEFINITION. What every register reads as: the registers whose values follow from the rest of the state (R72–R79, R141,
R145, R172–R175, R195, R196, R234–R237, R256–R259, R293–R295, R523, R531–R534, R541, R566, R568, R600, R601, R626–R628,
R655, R676, R679). A read that changes nothing reads here; what a read changes is in Bus.lean. -/
namespace Sys2Proof.Machine
open Sys2Proof

/-! ## `PG_STAT` and the header (R532, R534) -/

/-- The chip is frozen (R592). -/
def State.isFrozen (s : State) : Bool := s.frzState == Frz.frozen

/-- State code of a cell site (R145). -/
def State.siteStat (s : State) (site code : Nat) : Nat :=
  if code = 7 ∨ code = 0 then code
  else match s.cellAt site with
    | some c => if s.cellQuiescent c then 5 else 4
    | none => if s.cells.mapped ∧ site % 17 = 16 then 3 else code

/-- State code of a Tarn bank (R196). -/
def State.tarStat (s : State) (b : Nat) : Nat :=
  let x := s.bank b
  if x.clearing then 2 else if x.power = 0 then 0 else if x.power = 1 then 5 else 3

/-- Region or block that the step is open for: QUIESCENT once it has reported, RUN before (R295, R600). -/
def State.stepStat (s : State) (reported : Bool) (idle : Nat) : Nat :=
  if reported then 5 else if s.step.phase = .wait then idle else 4

/-- Logical cells of a block that are offline. -/
def State.offlineCells (s : State) (b : Nat) : List Nat := (List.range 16).filter (fun i => s.offline (16 * b + i))

/-- State code of a page. -/
def State.statCode (s : State) (p : Nat) : Nat :=
  let code := s.regFld p Reg.PG_STAT 3 0
  let frozen (x : Nat) : Nat := if code = 7 then 7 else if s.isFrozen then 6 else x
  match pageKind p with
  | .cel => frozen (s.siteStat (p - 0x10000) code)
  | .tar => frozen (s.tarStat (16 * ((p - 0x100) / 0x100) + ((p - 0x100) % 0x100 - 0x40)))
  | .plt => frozen (if (s.plt (p - 0x40)).job.isSome then 4 else 3)
  | .rgn => frozen (s.stepStat (s.step.rgnQui.contains ((p - 0x100) / 0x100)) code)
  | .blk =>
    let b := (p - 0x1000) / 16
    frozen (if (s.offlineCells b).isEmpty = false then 8 else if s.cells.mapped then s.stepStat (s.step.blkQui.contains b) 3 else code)
  | .drmSlice =>
    let slice := 16 * ((p - 0x100) / 0x100) + ((p - 0x100) % 0x100 - 0x20)
    if s.dram.failedBanks.any (fun x => x / 16 == slice) then 8 else code
  | _ => code

/-- A header register. -/
def State.headerView (s : State) (p off : Nat) : W32 :=
  if off = Reg.PG_ID then pageId p
  else if off = Reg.PG_REV then (if p = Page.chp then 0xB0 else 1)
  else if off = Reg.PG_CAPS then 0
  else if off = Reg.PG_STAT then withFld (s.reg p Reg.PG_STAT) 3 0 (s.statCode p)
  else s.reg p off

/-! ## Chip, step and summit pages -/

/-- Entries of the site list with a source (R566). -/
def State.sitesFrom (s : State) (src : Nat) : Nat := (s.fault.siteList.filter (fun e => e.2 == src)).length

def State.chpView (s : State) (off : Nat) : W32 :=
  if off = Reg.CHP_CAPS then s.grade.caps
  else if off = Reg.CHP_DEF_SUM then
    BitVec.ofNat 32 (s.sitesFrom 0 % 256 * 2 ^ 24 + s.sitesFrom 1 % 256 * 2 ^ 16 + s.sitesFrom 2 % 256 * 256
      + min 255 (s.cells.map.filter (fun m => m.2.offline)).length)
  else if off = Reg.CHP_DEF_DATA then
    match s.fault.siteList[s.regFld Page.chp Reg.CHP_DEF_SEL 7 0]? with
    | some e => BitVec.ofNat 32 (2 ^ 31 + e.2 % 4 * 2 ^ 29 + e.1)
    | none => 0
  else s.reg Page.chp off

/-- Code of `STP_STAT.PHASE` (R676). -/
def Phase.code : Phase → Nat
  | .wait => 0 | .update => 1 | .deliver => 2 | .cut => 3 | .summitWait => 4 | .stopped => 5

def State.stpView (s : State) (off : Nat) : W32 :=
  if off = Reg.STP_ELAPSED_NS then BitVec.ofNat 32 s.elapsed
  else if off = Reg.STP_ELAPSED_NS + 4 then BitVec.ofNat 32 (s.elapsed / 2 ^ 32)
  else if off = Reg.STP_STAT then
    withFld (withFld (s.reg Page.stp off) 9 9 (if s.step.heldTick || s.step.heldEdge then 1 else 0)) 3 0
      (if s.running then s.step.phase.code else 5)
  else s.reg Page.stp off

/-- External sources stamp the step after the open one (R50, R675). -/
def State.stampsNext (s : State) : Bool :=
  s.step.phase == .cut || s.step.phase == .summitWait
  || (s.step.summited && s.stepNo != 0 && s.step.relStep == s.stepNo)

def State.sumView (s : State) (off : Nat) : W32 :=
  if off = Reg.SUM_STAT then
    withFld (withFld (s.reg Page.sum off) 26 26 (if s.stampsNext then 1 else 0)) 25 25
      (if s.stampsNext && (s.step.summited || s.quietNow) then 1 else 0)
  else s.reg Page.sum off

/-! ## Learning, DRAM and banks -/

def State.lrnView (s : State) (off : Nat) : W32 :=
  if off = Reg.LRN_STAT then
    (s.reg Page.lrn off &&& 0xFFFFFFF5) ||| (if s.learn.ckpt.isSome then 8 else 0) ||| (if s.learn.waited then 2 else 0)
  else s.reg Page.lrn off

def State.lrnRegionView (s : State) (p off : Nat) : W32 :=
  if off = Reg.LRN_RSW_STAT then
    let x := s.sweeper ((p - 0x100) / 0x100)
    BitVec.ofNat 32 ((if x.busy then 2 ^ 31 else 0) + x.entry % 2 ^ 18)
  else s.reg p off

/-- Slices of a die that have lost a bank (R172, R175). -/
def State.degradedSlices (s : State) (d : Nat) : Nat :=
  ((List.range 128).filter (fun i => i % 16 / 8 == d && s.dram.failedBanks.any (fun x => x / 16 == i))).length

def State.dieView (s : State) (p off : Nat) : W32 :=
  let d := p - 0x18
  if off = Reg.DRM_REMAP_DATA then
    (((s.dram.remap.filter (fun e => e.1 == d)).map (·.2))[s.regFld p Reg.DRM_REMAP_IDX 11 0]?).getD 0
  else if off = Reg.DRM_DIE_STAT then withFld (s.reg p off) 6 0 (s.degradedSlices d)
  else s.reg p off

def State.sliceView (s : State) (p off : Nat) : W32 :=
  let slice := 16 * ((p - 0x100) / 0x100) + ((p - 0x100) % 0x100 - 0x20)
  let key := slice * 4096 + s.regFld p Reg.DRM_RES_SEL 11 0
  if off = Reg.DRM_RES_RATE then BitVec.ofNat 32 (s.rate (s.regFld p Reg.DRM_RES_SEL 11 0) % 2 ^ 22)
  else if off = Reg.DRM_RES_WAITS then BitVec.ofNat 32 (min 0xFFFFFFFF (numAt s.dram.waits key))
  else if off = Reg.DRM_RES_BYTES then BitVec.ofNat 32 (min 0xFFFFFFFF (numAt s.dram.bytes key))
  else if off = Reg.DRM_POST_HELD then BitVec.ofNat 32 (s.dram.posts.filter (fun q => q.slice == slice)).length
  else s.reg p off

/-! ## Routes, channels and engines -/

/-- Entries of the windows in [lo, hi) whose word at `at_` modulo `size` has VALID set. -/
def State.validEntries (s : State) (lo hi size at_ : Nat) : List Nat :=
  (s.regs.filter (fun e => decide (lo * 4096 ≤ e.1 ∧ e.1 < hi * 4096) && e.1 % size == at_ && bit e.2 31)).map
    (fun e => (e.1 - lo * 4096) / size)

/-- Route entries of a region that are off its free list (R227). -/
def State.routesOff (s : State) (r : Nat) : List Nat :=
  let valid := s.validEntries (0x20000 + 0x400 * r) (0x20400 + 0x400 * r) 16 8
  let taken := (s.fabric.taken.filter (fun x => x / 2 ^ 18 == r)).map (fun x => x % 2 ^ 18)
  let posted := s.fabric.posts.filterMap (fun p =>
    match p.2 with
    | .word key v =>
      if key / 4096 / 0x400 = 0x80 + r ∧ key % 16 = 8 ∧ bit v 31 then some ((key - (0x20000 + 0x400 * r) * 4096) / 16) else none
    | _ => none)
  (valid ++ taken ++ posted).foldl setIns []

def State.rteView (s : State) (p off : Nat) : W32 :=
  let r := (p - 0x100) / 0x100
  if off = Reg.RTE_USED then
    BitVec.ofNat 32 (s.validEntries (0x20000 + 0x400 * r) (0x20400 + 0x400 * r) 16 8).length
  else if off = Reg.RTE_FREE then BitVec.ofNat 32 (262144 - (s.routesOff r).length)
  else if off = Reg.RTE_POST_HELD then BitVec.ofNat 32 (s.routePosts r)
  else s.reg p off

def State.chnRegionView (s : State) (p off : Nat) : W32 :=
  let r := (p - 0x100) / 0x100
  if off = Reg.CHN_USED then BitVec.ofNat 32 (s.validEntries (0x22200 + 8 * r) (0x22208 + 8 * r) 8 4).length else s.reg p off

def State.engineView (s : State) (p off : Nat) : W32 :=
  let g := s.engine (p - 0x60)
  if off = Reg.CHN_TX_STAT then withFld (s.reg p off) 22 16 g.credits
  else if off = Reg.CHN_CQ_COUNT then BitVec.ofNat 32 g.cq.length
  else if off = Reg.CHN_RX_COUNT then BitVec.ofNat 32 g.rx.length
  else if Reg.CHN_RX_W0 ≤ off ∧ off < Reg.CHN_RX_W0 + 32 then
    match g.rx.head? with
    | some k => k.word ((off - Reg.CHN_RX_W0) / 4)
    | none => 0
  else s.reg p off

/-! ## Cells, blocks and regions -/

/-- Bitmap word j of a cell (R123, R141). -/
def State.bitmapWord (s : State) (c j : Nat) : W32 :=
  (List.range 32).foldl (fun w i => if (s.neuron c (32 * j + i)).active then w ||| bitWord i else w) 0

/-- Active neurons of a cell. -/
def State.activeCount (s : State) (c : Nat) : Nat :=
  (s.cells.neurons.filter (fun e => e.1 / 8192 == c && e.2.active)).length

/-- Pool entries of a cell. -/
def State.poolCount (s : State) (c : Nat) : Nat := (s.cells.pool.filter (fun e => e.cell == c)).length

/-- A register of the page of a logical cell (R141). -/
def State.cellView (s : State) (c off : Nat) : W32 :=
  let pg := Page.cell c
  let q := s.regFld pg Reg.CEL_QSEL 8 0
  let n := s.neuron c (s.regFld pg Reg.CEL_NSEL 12 0)
  if off = Reg.CEL_ACTIVE then BitVec.ofNat 32 (s.activeCount c)
  else if off = Reg.CEL_POOL then BitVec.ofNat 32 (s.poolCount c)
  else if Reg.CEL_QDESC0 ≤ off ∧ off < Reg.CEL_QDESC0 + 16 then s.qword c q ((off - Reg.CEL_QDESC0) / 4)
  else if off = Reg.CEL_QHELD then BitVec.ofNat 32 (s.qheld c q)
  else if off = Reg.CEL_NDATA0 then n.u ++ n.v
  else if off = Reg.CEL_NDATA1 then n.f ++ n.a
  else if off = Reg.CEL_NDATA2 then n.acc
  else if off = Reg.CEL_ADATA then
    Store.get (fun _ => (0 : W32)) s.cells.axon (8192 * c + s.regFld pg Reg.CEL_ASEL 12 0)
  else if Reg.CEL_BITMAP ≤ off ∧ off < Reg.CEL_BITMAP + 1024 then s.bitmapWord c ((off - Reg.CEL_BITMAP) / 4)
  else s.reg pg off

/-- A register of a cell site page after the header: the mapped logical cell's (R13, R145). -/
def State.siteView (s : State) (site off : Nat) : W32 :=
  match s.cellAt site with
  | none => 0
  | some c => if off = Reg.CEL_MAP then BitVec.ofNat 32 (2 ^ 31 + c) else s.cellView c off

/-- A byte of the remap table: logical cell i of block b (R600). -/
def State.remapByte (s : State) (b i : Nat) : Nat :=
  let m := s.cellMap (16 * b + i)
  (if m.offline then 128 else 0) + m.site % 17

/-- Sites of a block whose pages assert their source (R143). -/
def State.cellInts (s : State) (b : Nat) : Nat :=
  (List.range 17).foldl (fun n i => if s.asserts (Page.site (17 * b + i)) 0x80000001 then n + 2 ^ i else n) 0

def State.blkView (s : State) (p off : Nat) : W32 :=
  let b := (p - 0x1000) / 16
  if off = Reg.BLK_STAT then
    (s.reg p off &&& 0x60000000) ||| (if s.spareFree b then bitWord 31 else 0)
      ||| BitVec.ofNat 32 ((s.offlineCells b).map (fun i => 2 ^ i)).sum
  else if Reg.BLK_REMAP0 ≤ off ∧ off < Reg.BLK_REMAP0 + 16 then
    BitVec.ofNat 32 ((List.range 4).map (fun j => s.remapByte b (off - Reg.BLK_REMAP0 + j) * 2 ^ (8 * j))).sum
  else if off = Reg.BLK_CELL_INT then BitVec.ofNat 32 (s.cellInts b)
  else s.reg p off

/-- Packets of the open step that a unit has injected, or consumed (R52). -/
def State.injCur (s : State) (unit : Nat) : Nat := numAt s.step.inj (unit * 4 + s.stepNo % 4)
def State.consCur (s : State) (unit : Nat) : Nat := numAt s.step.cons (unit * 4 + s.stepNo % 4)

def State.blkSnapView (s : State) (p off : Nat) : W32 :=
  let b := (p - 0x1000) / 16
  if off = Reg.BLK_INJ_CUR then BitVec.ofNat 32 (s.injCur b)
  else if off = Reg.BLK_CONS_CUR then BitVec.ofNat 32 (s.consCur b)
  else s.reg p off

/-- The routers of a region hold no packet. -/
def State.routersEmpty (s : State) (r : Nat) : Bool :=
  let here (f : Flit) : Bool := f.router % 136 / 16 == r && decide (f.router % 136 < 128)
  !(s.fabric.bufs.any here) && !(s.fabric.links.any here)

/-- The routers of a region are gated (R679). -/
def State.routersGated (s : State) (r : Nat) : Bool :=
  (s.running = false || (s.step.summited && !(s.step.release.contains (128 + r)))) && s.routersEmpty r

def State.rgnView (s : State) (p off : Nat) : W32 :=
  let r := (p - 0x100) / 0x100
  let mask (l : List Nat) : Nat := ((List.range 16).map (fun i => if l.contains (16 * r + i) then 2 ^ i else 0)).sum
  if off = Reg.RGN_STAT then
    BitVec.ofNat 32 ((if s.step.rgnUpd.contains r then 2 ^ 31 else 0) + (if s.step.rgnQui.contains r then 2 ^ 30 else 0)
      + (if s.routersGated r then 2 ^ 29 else 0) + mask s.step.blkQui)
  else if off = Reg.RGN_UPD_MASK then BitVec.ofNat 32 (mask s.step.blkUpd)
  else s.reg p off

/-! ## Cores, interrupts and timers -/

def State.crsView (s : State) (p off : Nat) : W32 :=
  let c := p - 0x30
  if off = Reg.CRS_FREQ_MHZ then BitVec.ofNat 32 (s.throttled (s.domainMhz (143 + c)))
  else if off = Reg.CRS_STAT ∧ s.isFrozen ∧ (s.crsState c = 1 ∨ s.crsState c = 2) then withFld (s.reg p off) 31 28 4
  else s.reg p off

/-- The cluster page: the counts of the snoop filter and of the L3 are free values. -/
def State.clusterView (s : State) (p off : Nat) : W32 :=
  if off = Reg.CRS_CL_CAPS then BitVec.ofNat 32 (s.grade.crests * 2 ^ 16 + 32)
  else if off = Reg.CRS_SNOOP_HITS ∨ off = Reg.CRS_L3_MISS then Config.word s.fresh
  else s.reg p off

def State.picCtlView (s : State) (off : Nat) : W32 :=
  let x := (off - 0x100) / 16
  if 0x100 ≤ off ∧ x < 21 ∧ off % 16 = 0xC then
    BitVec.ofNat 32 ((if s.requestLine x then 2 ^ 31 else 0) + min 15 (s.pic.claims.filter (fun c => c.1 == x)).length * 2 ^ 16
      + s.runLevel x)
  else s.reg Page.picCtl off

/-- Word k of PEND. -/
def State.pendWord (s : State) (k : Nat) : W32 :=
  (List.range 32).foldl (fun w i =>
    if assigned s.grade (32 * k + i) && s.pendOf (32 * k + i) then w ||| bitWord i else w) 0

def State.crcView (s : State) (off : Nat) : W32 :=
  let u := (off - 0x100) / 0x80
  if 0x100 ≤ off ∧ off % 0x80 = 0x28 then BitVec.ofNat 32 (s.crcResult u)
  else if 0x100 ≤ off ∧ off % 0x80 = 0x2C then BitVec.ofNat 32 (s.crcResult u / 2 ^ 32)
  else s.reg 0x79 off

/-! ## Power, wear and OTP -/

def State.pwrView (s : State) (off : Nat) : W32 :=
  if off = Reg.PWR_STAT ∧ s.pwrState = Pwr.run ∧ s.running ∧ s.step.summited ∧ s.step.release.isEmpty then
    withFld (s.reg Page.pwr off) 31 28 Pwr.stepIdle
  else if off = Reg.PWR_AON_LOAD then BitVec.ofNat 32 s.aonLoad
  else s.reg Page.pwr off

def State.scrView (s : State) (off : Nat) : W32 :=
  let sec := s.poweredNs / 1000000000
  if off = Reg.SCR_POWERED_S then BitVec.ofNat 32 sec
  else if off = Reg.SCR_POWERED_S + 4 then BitVec.ofNat 32 (sec / 2 ^ 32)
  else if off = Reg.SCR_FLOOR_H then BitVec.ofNat 32 (s.floorS / 3600)
  else if off = Reg.SCR_FUSES then BitVec.ofNat 32 s.fuses
  else if off = Reg.SCR_HIST_H then BitVec.ofNat 32 s.historyHours
  else s.reg Page.scr off

def State.otpView (s : State) (off : Nat) : W32 :=
  if off = Reg.OTP_SLOTS then s.otpSlots
  else if off = Reg.OTP_ARB then BitVec.ofNat 32 s.otpArb
  else if off = Reg.OTP_CONFIG then s.otpConfig
  else if off = Reg.OTP_EPOCH then BitVec.ofNat 32 s.fuses
  else if Reg.OTP_SLOTk_HASH ≤ off ∧ off < Reg.OTP_SLOTk_HASH + 256 then
    BitVec.ofNat 32 (s.slotHash ((off - Reg.OTP_SLOTk_HASH) / 64) / 2 ^ (8 * (off % 64)))
  else s.reg Page.otp off

/-! ## Any register -/

/-- The offset lies in a slot table of a node port that leads to an absent unit: it reads zero (R239). -/
def absentTable (g : Grade) (p off : Nat) : Bool :=
  let out := (off - Reg.FAB_SHADOW) / 0x80 % 12
  decide (Reg.FAB_SHADOW ≤ off ∧ 9 ≤ out) && !(portExists g (128 + (p - 0x20) / 2) out)

/-- What a register of a page reads as. -/
def State.view (s : State) (p off : Nat) : W32 :=
  if (pageKind p).window = false ∧ off < 0x40 then s.headerView p off
  else match pageKind p with
    | .chp => s.chpView off
    | .stp => s.stpView off
    | .sum => s.sumView off
    | .lrnChip => s.lrnView off
    | .lrnRegion => s.lrnRegionView p off
    | .drmDie => s.dieView p off
    | .drmSlice => s.sliceView p off
    | .rteChip => if off = Reg.RTE_CHIP_POST_HELD then BitVec.ofNat 32 (s.routePosts 8) else s.reg p off
    | .rteRegion => s.rteView p off
    | .chnRegion => s.chnRegionView p off
    | .chnEngine => s.engineView p off
    | .cel => s.siteView (p - 0x10000) off
    | .blk => s.blkView p off
    | .blkSnap => s.blkSnapView p off
    | .rgn => s.rgnView p off
    | .fabNode => if absentTable s.grade p off then 0 else s.reg p off
    | .plt =>
      if off = Reg.PLT_STAT then s.pltStat (p - 0x40)
      else if off = Reg.PLT_FREQ_MHZ then BitVec.ofNat 32 (s.throttled (s.domainMhz (139 + (p - 0x40))))
      else s.reg p off
    | .enc => if off = Reg.ENC_STAT then s.encStat (p - 0x80) else s.reg p off
    | .aer => if off = Reg.AER_FIFO then BitVec.ofNat 32 (s.aerFifo (p - 0x5A)) else s.reg p off
    | .trvCommon => if off = Reg.TRV_RMT_OUT then BitVec.ofNat 32 s.trv.remote.length else s.reg p off
    | .ethPort => if off = Reg.ETH_STAT then withFld (s.reg p off) 27 27 (if s.macsecOn (p - 0xE0) then 1 else 0) else s.reg p off
    | .crsCore => s.crsView p off
    | .crsCluster => s.clusterView p off
    | .picSrc => if Reg.PIC_SRC ≤ off then s.srcView (512 * (p - 0xE8) + (off - Reg.PIC_SRC) / 4) else s.reg p off
    | .picCtl => s.picCtlView off
    | .picPend =>
      if Reg.PIC_PEND ≤ off ∧ off < Reg.PIC_PEND + 512 then s.pendWord ((off - Reg.PIC_PEND) / 4) else 0
    | .crc => s.crcView off
    | .pwr => s.pwrView off
    | .clk => if off = Reg.CLK_DSRC then s.dsrcView else s.reg p off
    | .scr => s.scrView off
    | .otp => s.otpView off
    | _ => s.reg p off

/-- A 64-bit register as it reads. -/
def State.view64 (s : State) (p off : Nat) : Nat := join64 (s.view p off) (s.view p (off + 4))

end Sys2Proof.Machine
end

