-- ==== Sys2Proof/Machine/Faults.lean ====
section
/-! DEFINITION. Error records, cell migration and restore, the fabric watchdog, recovery, the crash dump, freeze and resume
(R570–R601, R681). -/
namespace Sys2Proof.Machine
open Sys2Proof

def State.setFault (s : State) (x : FaultState) : State := { s with fault := x }

/-! ## The record ring (R570, R571, R573) -/

/-- ERROR_RECORD_WRITE: the ring writer takes the oldest record that waits. The ring has no supply in SLEEP. -/
def execErrorRecordWrite (s : State) : Host.Outcome State Fault Refusal :=
  match s.fault.records with
  | [] => .next s
  | r :: l =>
    if s.pwrState = Pwr.sleep then .next s
    else
      let n := (s.reg Page.chp Reg.CHP_ERR_SEQ).toNat
      let s := s.setFault { s.fault with records := l }
      let s := s.setBytes (Base.dump + 32 * (n % 8192)) (r.bytes s.stepNo s.elapsed n)
      .next ((s.setReg Page.chp Reg.CHP_ERR_SEQ (BitVec.ofNat 32 (n + 1))).setInt Page.chp 3)

/-! ## Checkpoint slots as they are read back (R287, R577, R587) -/

/-- The slot of a cell in the last complete checkpoint, where its CRC and its cell number hold. -/
def State.slotData (s : State) (c : Nat) : Option (List Byte) :=
  let last := s.reg Page.lrn (Reg.LRN_CKPT_LAST + 4)
  let a := s.slotAt (fld last 24 24) c
  let l := s.bytes (Base.dram + a) 107576
  let clean := !(s.poison.any (fun p => decide (Base.dram + a < p + 64 ∧ p < Base.dram + a + 107576)))
  if bit last 31 && clean && leNat (l.drop 107572) == crc32 (l.take 107572)
      && leNat ((l.drop 107568).take 4) == 2 ^ 31 + c then some l else none

/-- Little-endian field of a slot. -/
def slotNum (l : List Byte) (o n : Nat) : Nat := leNat ((l.drop o).take n)

/-- The 12 bytes of neuron i of a slot (R117). -/
def slotNeuron (l : List Byte) (i : Nat) (n : Neuron) : Neuron :=
  { n with v := BitVec.ofNat 16 (slotNum l (12 * i) 2), u := BitVec.ofNat 16 (slotNum l (12 * i + 2) 2)
           a := BitVec.ofNat 16 (slotNum l (12 * i + 4) 2), f := BitVec.ofNat 16 (slotNum l (12 * i + 6) 2)
           acc := BitVec.ofNat 32 (slotNum l (12 * i + 8) 4) }

/-- A neuron at rest (R577 step 4). -/
def restNeuron (n : Neuron) : Neuron := { n with v := 0, u := 0, a := 0, f := 0, acc := 0, active := false }

/-! ## Migration (R577, R578) -/

/-- Neurons whose bytes cannot be read: restored from the slot, or put to rest (R577 steps 3 and 4). -/
def State.mendNeurons (s : State) (c : Nat) (slot : Option (List Byte)) (bad : List Nat) : State :=
  bad.foldl (fun s i =>
    if i < 8192 then
      match slot with
      | some l => s.setNeuron c i (slotNeuron l i (s.neuron c i))
      | none => s.setNeuron c i (restNeuron (s.neuron c i))
    else s) s

/-- Post-traces that cannot be read become zero. -/
def State.mendTraces (s : State) (c : Nat) (bad : List Nat) : State :=
  bad.foldl (fun s i => if i < 8192 then s.setNeuron c i { s.neuron c i with post := 0 } else s) s

/-- Pool entries of a cell that cannot be read, by their place among its entries, are dropped. -/
def State.mendPool (s : State) (b c : Nat) (bad : List Nat) : State :=
  let mine := s.cells.pool.filter (fun e => e.cell == c)
  let lost := (mine.zipIdx.filter (fun x => bad.contains x.2)).map (·.1)
  (s.setPool (lost.foldl (fun l e => eraseFirst e l) s.cells.pool)).count (Page.block b) Reg.BLK_MIG_DROP lost.length

/-- Items of the cell resume at the new site, each a late integration of the coming step (R577 step 5, R578). (DEDUCED, log 83) -/
def State.resumeItems (s : State) (c : Nat) : State :=
  s.setItems (s.cells.items.map (fun i => if i.cell = c then { i with resumed := true } else i))

/-- An entry of the migration buffer enters the new site (R577 step 6, R578). -/
def State.unbuffer (s : State) (b c : Nat) (p : Packet) : State :=
  if p.isEvent then s.placePacket p s.step.summited
  else
    let r := s.takeCell c p (fun s c p => s.actCell (msgHandler p) c p)
    match r.1 with
    | .answer code data => r.2.answerBlock b p code data
    | .wait => ({ r.2 with fabric := { r.2.fabric with blockIn := r.2.fabric.blockIn ++ [(b, p)] } }).injected b p.par

/-- Class and code of the record of a migration. -/
def migrationRecord (b c old new : Nat) (slot : Bool) (bad : Bool) : ErrRecord :=
  { level := 1, cls := if bad && !slot then 2 else 1, esc := false, inj := false
    code := if bad = false then 0x0201 else if slot then 0x0202 else 0x0203
    unit := pageId (Page.block b), addr := c * 2 ^ 32 + old * 2 ^ 16 + new }

/-- The copy of a block ends: the cell runs at the spare site. -/
def State.migrate (s : State) (b : Nat) (m : Migration) (bad badTrace badPool : List Nat) : State :=
  let c := m.cell
  let old := s.siteOf c
  let new := spareSite b
  let s := s.setMigrations (s.fault.migrations.filter (fun x => x.2.cell != c))
  let s := s.setCellMap c { site := new, offline := false }
  let drop (l : List (Nat × Nat)) : List (Nat × Nat) := l.filter (fun k => k.1 != new && k.1 != old)
  let s := { s with cells := { s.cells with tblCache := drop s.cells.tblCache, rowCache := drop s.cells.rowCache } }
  let slot := if bad.isEmpty then none else s.slotData c
  let s := if slot.isSome then s.pushReqs c 0 (s.slotAt (s.regFld Page.lrn (Reg.LRN_CKPT_LAST + 4) 24 24) c) 107576 else s
  let s := (((s.mendNeurons c slot bad).mendTraces c badTrace).mendPool b c badPool).resumeItems c
  let s := m.buffer.foldl (fun s e => s.unbuffer b c e.pkt) s
  let s := s.record (migrationRecord b c old new slot.isSome (!bad.isEmpty))
  let s := (s.count (Page.block b) Reg.BLK_MIG_CNT 1).setReg (Page.block b) Reg.BLK_MIG_NS
    (BitVec.ofNat 32 (min 0xFFFFFFFF (s.elapsed - m.fenced)))
  s.setInt (Page.block b) 0

/-- MIGRATION_COMPLETE: `bad`, `badTrace` and `badPool` are the neurons, post-traces and pool entries of the old site that
cannot be read. -/
def execMigrationComplete (block : Fin 128) (bad badTrace badPool : List Nat) (s : State) : Host.Outcome State Fault Refusal :=
  match s.fault.migrations.find? (fun m => m.1 == block.val && m.2.copying) with
  | none => .next s
  | some m => if s.runs (11 + block) then .next (s.migrate block m.2 bad badTrace badPool) else .next s

/-- A write to `BLK_MIGRATE` (R581). -/
def State.migrateWrite (s : State) (b : Nat) (v : W32) : State :=
  let c := 16 * b + fld v 3 0
  if bit v 31 then s.fenceCell c 0x0104 (s.siteOf c) true else s

/-- BLK_MIGRATE. -/
def execBlkMigrate (req : Requester) (block : Fin 128) (v : W32) (s : State) : Host.Outcome State Fault Refusal :=
  .next (s.ifAdmitWo req (Page.block block) Reg.BLK_MIGRATE (fun s => s.migrateWrite block v))

/-! ## Restore (R587) -/

/-- A write of 1 to `BLK_CTRL.RESTORE`. -/
def State.restoreWrite (s : State) (b : Nat) : State :=
  if s.running ∨ bit (s.reg Page.lrn (Reg.LRN_CKPT_LAST + 4)) 31 = false then s.setErr (Page.block b) 1
  else s.orReg (Page.block b) Reg.BLK_STAT (bitWord 30)

/-- BLK_RESTORE. -/
def execBlkRestore (req : Requester) (block : Fin 128) (s : State) : Host.Outcome State Fault Refusal :=
  .next (s.ifAdmitWord req (Page.block block) Reg.BLK_CTRL 2 (fun s _ => s.restoreWrite block))

/-- The neurons of a cell from its slot, with their post-traces and the bitmap (R287). -/
def State.loadNeurons (s : State) (c : Nat) (l : List Byte) : State :=
  (List.range 8192).foldl (fun s i =>
    let n := slotNeuron l i {}
    s.setNeuron c i { n with post := BitVec.ofNat 8 (slotNum l (98304 + i) 1)
                             active := Nat.testBit (slotNum l (106496 + i / 8) 1) (i % 8) }) s

/-- A mapped cell takes its slot, or stays at rest. -/
def State.restoreCell (s : State) (b c : Nat) : State :=
  if s.offline c ∨ s.cells.mapped = false then s
  else match s.slotData c with
    | some l =>
      ((List.range 7).zip learnRegs).foldl (fun s x =>
        s.setReg (Page.cell c) x.2 (BitVec.ofNat 32 (slotNum l (107520 + 4 * x.1) 4))) (s.loadNeurons c l)
    | none =>
      let s := (List.range 8192).foldl (fun s i => s.setNeuron c i {}) s
      (s.orReg (Page.block b) Reg.BLK_STAT (bitWord 29)).setErr (Page.block b) 1

/-- RESTORE_DONE. -/
def execRestoreDone (block : Fin 128) (s : State) : Host.Outcome State Fault Refusal :=
  if s.runs (11 + block) && bit (s.reg (Page.block block) Reg.BLK_STAT) 30 then
    let s := (blockCells block).foldl (fun s c => s.restoreCell block c) s
    .next (s.clrReg (Page.block block) Reg.BLK_STAT (bitWord 30))
  else .next s

/-! ## The fabric watchdog (R582) -/

/-- An input buffer of the page's router, node or port holds a packet. -/
def State.holdsPacket (s : State) (p : Nat) : Bool :=
  match pageKind p with
  | .fabBlock | .fabNode => s.fabric.bufs.any (fun f => (pageRouters p).contains f.router)
  | .trvPort => s.fabric.trvTx.any (fun q => q.1 == p - 0xC0) || !(s.trvPort (p - 0xC0)).summitIn.isEmpty
      || !(s.trvPort (p - 0xC0)).remoteIn.isEmpty
  | _ => false

/-- The clock of the page's router, node or port runs. -/
def State.fabricClock (s : State) (p : Nat) : Bool :=
  match pageKind p with
  | .trvPort => s.runs (161 + (p - 0xC0))
  | _ => (pageRouters p).all (fun x => s.runs (routerDomain x))

/-- FABRIC_PROGRESS_EXPIRY: the head packet of an input buffer has not moved for `FRZ_FPW_US`. -/
def execFabricProgressExpiry (page : Nat) (s : State) : Host.Outcome State Fault Refusal :=
  if s.clocked ∧ s.fabricClock page ∧ s.reg Page.frz Reg.FRZ_FPW_US ≠ 0 ∧ s.holdsPacket page then
    .next (s.fatal 0x040B (pageId Page.frz) page false)
  else .next s

/-! ## The crash dump (R588–R590) -/

/-- Free bytes: what a section of a dump holds where the spec names the contents but not their layout. (DESIGN CHOICE, log 81) -/
def freeBytes (fresh k n : Nat) : List Byte :=
  (List.range n).map (fun i => BitVec.ofNat 8 (Config.num (2 ^ 64 * (fresh + 1) + 2 ^ 32 * k + i)))

/-- Words 0 to 12 of the header. -/
def State.dumpWords (s : State) (code : Nat) (unit : W32) (flags : Nat) : List W32 :=
  [0xD00C0019, 1, BitVec.ofNat 32 code, unit, s.reg Page.stp Reg.STP_COUNT, s.reg Page.stp (Reg.STP_COUNT + 4),
   BitVec.ofNat 32 s.elapsed, BitVec.ofNat 32 (s.elapsed / 2 ^ 32), s.view Page.frz Reg.FRZ_STAT, s.view Page.sum Reg.SUM_STAT,
   s.view Page.stp Reg.STP_STAT, s.reg Page.chp Reg.CHP_ERR_SEQ, BitVec.ofNat 32 flags]

/-- The 4 KiB of the header. -/
def State.dumpHeader (s : State) (code : Nat) (unit : W32) (flags : Nat) : List Byte :=
  let m := ((s.dumpWords code unit flags).map (fun w => leBytes 4 w.toNat)).flatten ++ List.replicate 4040 0
  m ++ leBytes 4 (crc32 m)

/-- The pages with a header, in the order of R544. -/
def headerPages : List Nat :=
  let rg (lo n : Nat) : List Nat := (List.range n).map (fun i => lo + i)
  let regions (o n : Nat) : List Nat := ((List.range 8).map (fun r => rg (Page.region r + o) n)).flatten
  rg 0x0 8 ++ rg 0x10 2 ++ [0x14] ++ rg 0x18 2 ++ [0x1A] ++ rg 0x20 16 ++ rg 0x30 16 ++ rg 0x40 4 ++ [0x44, 0x45, 0x46]
    ++ rg 0x48 4 ++ [0x50] ++ rg 0x54 4 ++ [0x58] ++ rg 0x5A 2 ++ rg 0x60 20 ++ rg 0x74 4 ++ [0x78, 0x79] ++ rg 0x7C 4
    ++ rg 0x80 64 ++ rg 0xC0 16 ++ [0xD0] ++ rg 0xE0 4 ++ [0xE4] ++ rg 0xE8 8 ++ [0xF0, 0xF1]
    ++ regions 0 1 ++ regions 8 1 ++ regions 9 1 ++ regions 0xA 1 ++ regions 0xB 1 ++ regions 0x20 16 ++ regions 0x40 16
    ++ ((List.range 128).map (fun b => [Page.block b, Page.block b + 1])).flatten
    ++ (List.range 128).map (fun b => Page.block b + 2) ++ rg 0x10000 2176

/-- The summary of a page: `PG_ID`, `PG_STAT`, `PG_ERR` and `PG_INT`. -/
def State.pageSummary (s : State) (p : Nat) : List Byte :=
  ([Reg.PG_ID, Reg.PG_STAT, Reg.PG_ERR, Reg.PG_INT].map (fun o => leBytes 4 (s.view p o).toNat)).flatten

/-- The part of the dump above the header. -/
def State.dumpBody (s : State) : List Byte :=
  let pages := ((headerPages.filter (presentIn s.grade)).map s.pageSummary).flatten
  freeBytes s.fresh 0 0x57000 ++ pages ++ List.replicate (0x1FF000 - 0x57000 - 0x40000 - pages.length) 0

/-- Whether the 64 MiB area of `FRZ_DUMP_BASE` is in use, and where (R590). -/
def State.dumpArea (s : State) : Option Nat :=
  if bit (s.reg Page.frz (Reg.FRZ_DUMP_BASE + 4)) 31 then
    some (bitsOf (s.reg64 Page.frz Reg.FRZ_DUMP_BASE) 35 20 * 2 ^ 20)
  else none

/-- The bitmap of a site. -/
def State.siteBitmap (s : State) (site : Nat) : List Byte :=
  match s.cellAt site with
  | some c => ((List.range 256).map (fun j => leBytes 4 (s.bitmapWord c j).toNat)).flatten
  | none => List.replicate 1024 0

/-- The DRAM section. -/
def State.dumpDram (s : State) : List Byte :=
  freeBytes s.fresh 1 0x2200000 ++ ((List.range 2176).map s.siteBitmap).flatten ++ freeBytes s.fresh 2 0x200000
    ++ List.replicate (0x4000000 - 0x2620000) 0

/-- COLLECT writes the dump; what it has written when its time runs out is free. A thermal recovery writes only the header
(R585, R588, R589, R618). -/
def State.writeDump (s : State) (full : Bool) : State :=
  let code := (s.reg Page.frz Reg.FRZ_REC_CAUSE).toNat
  let ms := min 65535 ((s.elapsed - s.fault.recoverAt) / 1000000)
  let area := if code = 0x040D then none else s.dumpArea
  let flags := if full then 2 ^ 31 + (if area.isSome then 2 ^ 30 else 0) else 2 ^ 29
  let header := ({ s with elapsed := s.fault.recoverAt }).dumpHeader code s.fault.recoverUnit flags
  let body := if code = 0x040D then [] else if full then s.dumpBody else freeBytes s.fresh 3 0x1BF000
  let dram := if full then s.dumpDram else freeBytes s.fresh 4 0x4000000
  let s := (s.setBytes (Base.dump + 0x40000) header).setBytes (Base.dump + 0x41000) body
  let s := match area with
    | some a => s.setBytes (Base.dram + a) dram
    | none => s
  (s.useFresh).setReg Page.frz Reg.FRZ_DUMP_STAT (BitVec.ofNat 32 (flags + ms))

/-- A write to `FRZ_DUMP_BASE` (R590). -/
def State.dumpBaseWrite (s : State) (v : Nat) : State :=
  let a := bitsOf v 35 20 * 2 ^ 20
  let meets (lo hi : Nat) : Bool := decide (lo < hi ∧ lo < a + 0x4000000 ∧ a < hi)
  let ck := bitsOf (s.reg64 Page.lrn Reg.LRN_CKPT_BASE) 35 20 * 2 ^ 20
  if Nat.testBit v 63 && (decide (dramBytes s.grade < a + 0x4000000) || meets ck (ck + 2 * ckptBytes)
      || meets (s.reg64 (Page.die 0) Reg.DRM_SYN_BASE) (s.reg64 (Page.die 0) Reg.DRM_SYN_LIMIT)) then s.setErr Page.frz 1
  else s.setReg64 Page.frz Reg.FRZ_DUMP_BASE (a + (if Nat.testBit v 63 then 2 ^ 63 else 0))

/-! ## Recovery (R584–R586) -/

/-- COLLECT ends and KILL begins: LEAVE on every tree port, then every compute domain resets. -/
def State.kill (s : State) : State :=
  let s := ((s.setFrz Frz.run).leaveGroup.flushCtrl).setFrz Frz.kill
  let src := s.bootSrc
  let s := s.resetCompute .recovery
  let s := s.setReg Page.chp Reg.CHP_BOOT_STAT (BitVec.ofNat 32 (2 ^ 28 + src * 64 + 2))
  s.setReg Page.chp Reg.CHP_RESET_CAUSE 0x20

/-- COLLECT_DONE: the dump is complete. -/
def execCollectDone (s : State) : Host.Outcome State Fault Refusal :=
  if s.frzState = Frz.collect then .next (s.writeDump true).kill else .next s

/-- COLLECT_TIMEOUT: 300 ms have passed. -/
def execCollectTimeout (s : State) : Host.Outcome State Fault Refusal :=
  if s.frzState = Frz.collect ∧ s.fault.recoverAt + 300000000 ≤ s.elapsed then .next (s.writeDump false).kill else .next s

/-- KILL_DONE: RETRAIN begins, and every present port trains as for the first time. After a thermal shutdown the hottest
junction must read below 95.0 °C (R618). -/
def execKillDone (tj : Fin 2048) (s : State) : Host.Outcome State Fault Refusal :=
  if s.frzState ≠ Frz.kill then .next s
  else
    let s := s.noteTemp tj
    if s.reg Page.frz Reg.FRZ_REC_CAUSE = 0x040D ∧ 760 ≤ tj.val then .next s
    else
      let s := (s.setFrz Frz.retrain).setBoot { s.boot with released := s.elapsed }
      .next ((List.range s.grade.trvs).foldl (fun s p => s.startTraining p false) s)

/-- RECOVERY_RETRAIN_DONE: 0 where PLLs and DRAM have trained and every beat has been read, 1 where a PLL does not lock, 2
where DRAM does not train (R585). -/
def execRecoveryRetrainDone (fail : Fin 3) (s : State) : Host.Outcome State Fault Refusal :=
  if s.frzState ≠ Frz.retrain then .next s
  else
    let s := s.setBoot { s.boot with path := .warm }
    if fail.val ≠ 0 then .next ((s.setFrz Frz.run).halt (if fail.val = 1 then 3 else 4))
    else
      let s := ((s.lockPlls.allSlices 0).takeOtp.setReg Page.bdr Reg.BDR_TRNG_STAT (bitWord 30)).setFld Page.pwr Reg.PWR_VID 31 31 1
      .next ((s.setFrz Frz.reload).setStage 7)

/-- The chip is back: READY_RECOVERED (R584, R585). -/
def State.recovered (s : State) : State :=
  let ms := min 65535 ((s.elapsed - s.fault.recoverAt) / 1000000)
  let n := min 65535 (s.regFld Page.frz Reg.FRZ_REC_CNT 15 0 + 1)
  let s := (s.setReg Page.frz Reg.FRZ_REC_CNT (BitVec.ofNat 32 n)).setReg Page.frz Reg.FRZ_REC_MS (BitVec.ofNat 32 ms)
  (s.declareReady.setFrz Frz.run).setInt Page.frz 1

/-- RELOAD_DONE: the image store is checked and its segments reloaded, and the firmware has started. A mismatch follows
R565, and RELOAD ends once an image and the known-answer run have passed. -/
def execReloadDone (s : State) : Host.Outcome State Fault Refusal :=
  if s.frzState ≠ Frz.reload then .next s
  else
    let s := if s.bootStage = 7 ∧ s.bootFail = 0 ∧ s.boot.size = 0 then s.checkStore else s
    if s.bootStage = 8 ∧ s.boot.proven then .next s.recovered else .next s

/-! ## Freeze (R591–R594) -/

/-- FREEZE_N_LOW. -/
def execFreezeNLow (s : State) : Host.Outcome State Fault Refusal :=
  if bit (s.reg Page.frz Reg.FRZ_CTRL) 2 then .next (s.freeze 1 s.chipId) else .next s

/-- FREEZE: a write of 1 to `FRZ_CTRL.FREEZE`. -/
def execFreeze (req : Requester) (s : State) : Host.Outcome State Fault Refusal :=
  .next (s.ifAdmitWord req Page.frz Reg.FRZ_CTRL 0x20 (fun s _ => s.freeze 2 s.chipId))

/-- What the readout engine writes by itself: the freeze record, then the header and the summit section into the Cairn spare
area (R594). -/
def State.autoReadout (s : State) : State :=
  let cause := s.regFld Page.frz Reg.FRZ_STAT 27 24
  let origin := s.regFld Page.frz Reg.FRZ_STAT 11 0
  let s := s.record { level := 3, cls := if cause = 3 then 3 else 1, esc := false, inj := false, code := 0x040E
                      unit := pageId Page.frz, addr := origin + cause * 2 ^ 16 }
  (s.setBytes (Base.rfg + 0x1B0000) (s.dumpHeader 0 (pageId Page.frz) 0 ++ freeBytes s.fresh 0 0xF000)).useFresh

/-- FREEZE_STOPPED: FREEZE has left on every UP port, DRAM is in self-refresh, and every domain stands. (DEDUCED, log 80) -/
def execFreezeStopped (s : State) : Host.Outcome State Fault Refusal :=
  if s.frzState ≠ Frz.stopping then .next s
  else
    let s := s.sendFreeze (s.regFld Page.frz Reg.FRZ_STAT 11 0) (s.regFld Page.frz Reg.FRZ_STAT 27 24)
    let s := (List.range s.grade.trvs).foldl (fun s p => if s.trvUsable p then s.setTrvState p 6 else s) s
    let s := (s.allSlices 2).setFrz Frz.frozen
    .next (if bit (s.reg Page.frz Reg.FRZ_CTRL) 4 then s.autoReadout else s)

/-! ## Resume (R596, R597) -/

/-- Resume, unless it is refused. -/
def State.resume (s : State) : State :=
  if s.frzState ≠ Frz.frozen ∨ bit (s.reg Page.frz Reg.FRZ_STAT) 15 ∨ bit (s.reg Page.frz Reg.FRZ_STAT) 22 then
    s.setErr Page.frz 0
  else s.setFrz Frz.resuming

/-- RESUME: a write of 1 to `FRZ_RESUME.GO`. -/
def execResume (req : Requester) (s : State) : Host.Outcome State Fault Refusal :=
  .next (s.ifAdmitWo req Page.frz Reg.FRZ_RESUME (fun s => s.resume))

/-- FREEZE_N_RISE: a resume where `PIN_RESUME` is 1; no freeze, nothing to end. -/
def execFreezeNRise (s : State) : Host.Outcome State Fault Refusal :=
  if bit (s.reg Page.frz Reg.FRZ_CTRL) 3 ∧ s.frzState ≠ Frz.run then .next s.resume else .next s

/-- Recovery from FROZEN, after DRAM has left self-refresh; no FATAL code begins it, so the code is free (R596). -/
def State.recoverNow (s : State) : State :=
  if s.frzState = Frz.frozen then
    (s.allSlices 0).useFresh.beginRecovery (Config.num s.fresh) (pageId Page.frz)
  else s

/-- RECOVER: a write of 1 to `FRZ_CTRL.RECOVER`. -/
def execRecover (req : Requester) (s : State) : Host.Outcome State Fault Refusal :=
  .next (s.ifAdmitWord req Page.frz Reg.FRZ_CTRL 0x40 (fun s _ => s.recoverNow))

/-- Times that units of the stopped domains count from move on by the frozen time. -/
def State.shiftTimes (s : State) (d : Nat) : State :=
  { s with
    step := { s.step with leadDue := s.step.leadDue.map (· + d), flywheel := s.step.flywheel.map (· + d) }
    proc := { s.proc with
      crests := s.proc.crests.map (fun x => (x.1, { x.2 with began := x.2.began + d }))
      refuges := s.proc.refuges.map (fun x => (x.1, { x.2 with
        lastKick := x.2.lastKick + d, began := x.2.began + d, autos := x.2.autos.map (· + d) })) }
    engines := s.engines.map (fun x => (x.1, { x.2 with
      out := x.2.out.map (fun o => { o with sentAt := o.sentAt + d, backoff := o.backoff.map (· + d) }) }))
    trv := { s.trv with remote := s.trv.remote.map (fun r => { r with sentAt := r.sentAt + d })
                        tree := { s.trv.tree with reqAt := s.trv.tree.reqAt + d } }
    eth := { s.eth with lastReq := s.eth.lastReq + d
                        notifies := s.eth.notifies.map (fun n => { n with sentAt := n.sentAt + d }) } }

/-- RESUME_COMPLETE: DRAM is ACTIVE, and every domain restarts on one cycle. -/
def execResumeComplete (s : State) : Host.Outcome State Fault Refusal :=
  if s.frzState ≠ Frz.resuming then .next s
  else
    let d := s.elapsed - s.reg64 Page.frz Reg.FRZ_ENTRY_NS
    let s := ((s.allSlices 0).setFrz Frz.run).setInt Page.frz 0
    let s := (s.count Page.stp Reg.STP_OVERRUNS 1).setReg64 Page.stp Reg.STP_STRETCH_NS (s.reg64 Page.stp Reg.STP_STRETCH_NS + d)
    let s := (s.setReg64 Page.frz Reg.FRZ_LAST_NS d).shiftTimes d
    let s := (List.range s.grade.trvs).foldl (fun s p => if s.trvState p = 6 then s.startTraining p true else s) s
    .next s.encResume.releaseLatches

end Sys2Proof.Machine
end

