-- ==== Sys2Proof/Machine/StepTime.lean ====
section
/-! DEFINITION. The step timer, the tick and its sources, the quiescence reports, the summit and its actions, the watchdog,
the elapsed counter, fences, and the writes of the numeric block (R37–R81, R98, R104). -/
namespace Sys2Proof.Machine
open Sys2Proof

def State.setStep (s : State) (x : StepState) : State := { s with step := x }

/-- A step is open on this chip: its tick has come and its summit has not (R675). -/
def State.stepOpen (s : State) : Bool := s.stepNo != 0 && !s.step.summited

/-- The source of the tick (R42, R77): 0 the local timer, 1 TICK packets, 2 `TICK_IN`. -/
def State.tickSource (s : State) : Nat :=
  let v := s.reg Page.stp Reg.STP_TICK_SRC
  if bit v 8 ∨ fld v 1 0 = 3 then 0 else fld v 1 0

/-- This chip is the tick master (R42). -/
def State.tickMaster (s : State) : Bool := bit (s.reg Page.stp Reg.STP_TICK_SRC) 8

/-- The step timer runs on a running timebase. -/
def State.ticking (s : State) : Bool := s.running && s.timebase

/-! ## Posted writes and the summit actions of each unit (R54, R137, R675) -/

/-- A summit, true or forced, in the numeric block of a page: its window and a seed that waits (R98, R104). -/
def State.numericSummit (s : State) (page : Nat) : State := (s.windowSummit page).applySeed page

/-- What a summit, true or forced, does at a chip unit. -/
def State.chipPosted (s : State) : State :=
  let s := s.applyRules.encSummit.trvSwapSummit.flushSummit
  let s := (List.range 16).foldl (fun s i => s.swapSummit (0x20 + i)) (s.applyRoutes 8)
  (((List.range 4).map Page.plt ++ (List.range 64).map Page.enc).filter (presentIn s.grade)).foldl
    (fun s p => s.numericSummit p) s

/-- What a summit, true or forced, does in a region once its gates have latched. -/
def State.regionPosted (s : State) (r : Nat) : State :=
  (((s.applyRoutes r).bankSummit r).applySyn r).numericSummit (Page.region r)

/-- What a summit, true or forced, does in a block: at last its fenced cells begin to migrate (R577). -/
def State.blockPosted (s : State) (b : Nat) : State :=
  let s := (blockCells b).foldl (fun s c => ((s.applyCellPosts c).applyQueues c).numericSummit (Page.cell c)) s
  let s := s.swapSummit (Page.block b + 2)
  s.setMigrations (s.fault.migrations.map (fun m =>
    if m.1 = b ∧ m.2.copying = false then (m.1, { m.2 with copying := true, fenced := s.elapsed }) else m))

/-- Packets of a step that a list of units has counted in one of the two counts (R52). -/
def State.unitSum (s : State) (m : Store Nat) (units : List Nat) : W32 :=
  BitVec.ofNat 32 ((units.map (fun u => numAt m (u * 4 + s.step.relStep % 4))).sum)

/-- `PG_SNAP` of a page (R54). -/
def State.snapPage (s : State) (p : Nat) : State := s.setReg p Reg.PG_SNAP (BitVec.ofNat 32 s.step.relStep)

/-- The snapshot registers of a region (R54, R295). -/
def State.regionSnap (s : State) (r : Nat) : State :=
  let p := Page.region r
  let units := (128 + r) :: (List.range 16).map (fun i => 16 * r + i)
  ((s.setReg p Reg.RGN_SNAP_INJ (s.unitSum s.step.inj units)).setReg p Reg.RGN_SNAP_CONS (s.unitSum s.step.cons units)).snapPage p

/-- The times of a region in the step that ends (R295). -/
def State.regionTimes (s : State) (r : Nat) (forced : Bool) : State :=
  let p := Page.region r
  let s := if s.step.rgnUpd.contains r then s.setReg p Reg.RGN_UPD_NS (BitVec.ofNat 32 (numAt s.step.rgnTimes r)) else s
  s.setReg p Reg.RGN_QUI_NS (if forced then 0 else BitVec.ofNat 32 (numAt s.step.rgnTimes (8 + r)))

/-- The snapshot registers of a logical cell. -/
def State.cellSnap (s : State) (c : Nat) : State :=
  if s.cells.mapped && !(s.offline c) then
    let p := Page.cell c
    let s := s.setReg p Reg.CEL_SNAP_SPIKES (BitVec.ofNat 32 (numAt s.cells.spikes c))
    let s := (s.setReg p Reg.CEL_SNAP_ACTIVE (BitVec.ofNat 32 (s.activeCount c))).setReg p Reg.CEL_SNAP_POOL
      (BitVec.ofNat 32 (s.poolCount c))
    s.snapPage (Page.site (s.siteOf c))
  else s

/-- The snapshot registers of a block and of its cells. -/
def State.blockSnap (s : State) (b : Nat) : State :=
  let s := (blockCells b).foldl (fun s c => s.cellSnap c) s
  let p := Page.block b + 1
  let cells := (blockCells b).filter (fun c => !(s.offline c))
  let s := (s.setReg p Reg.BLK_SNAP_INJ (s.unitSum s.step.inj [b])).setReg p Reg.BLK_SNAP_CONS (s.unitSum s.step.cons [b])
  let s := s.setReg p Reg.BLK_SNAP_SPIKES (BitVec.ofNat 32 ((cells.map (fun c => numAt s.cells.spikes c)).sum))
  (s.setReg p Reg.BLK_SNAP_ACTIVE (BitVec.ofNat 32 ((cells.map (fun c => s.activeCount c)).sum))).snapPage p

/-- Summit action 4 of R54. -/
def State.addCounts (s : State) : State :=
  let t := s.step
  let s := (s.count Page.stp Reg.STP_LATE_EVT t.late).count Page.stp Reg.STP_SHED_EVT t.shed
  let s := s.count Page.sum Reg.SUM_DROP_ABSENT t.absent
  s.setStep { s.step with late := 0, shed := 0, absent := 0 }

/-- The release of a true summit reaches a unit: 136 the chip, 128 + r a region, else a block (R54, R676). -/
def State.unitSummit (s : State) (u : Nat) : State :=
  let s := s.setStep { s.step with release := s.step.release.filter (· != u) }
  let s :=
    if u = 136 then
      let s := s.learnSummit.addCounts
      let s := (((s.chipPosted.seSummit s.step.relStep false).applyTree).tmrSource 17)
      s.setStep { s.step with phase := .wait }
    else if 128 ≤ u then
      let r := u - 128
      (((s.gatesSummit r).regionSnap r).regionTimes r false).regionPosted r
    else (s.blockSnap u).blockPosted u
  if s.step.release.isEmpty then s.setStep { s.step with posters := [] } else s

/-- Units in the order in which the release reaches them (R54). -/
def releaseOrder : List Nat := 136 :: (List.range 8).map (128 + ·) ++ List.range 128

/-- What the release has not reached before the tick is done at the tick (R55). -/
def State.finishRelease (s : State) : State :=
  releaseOrder.foldl (fun s u => if s.step.release.contains u then s.unitSummit u else s) s

/-- The forced summit of the open step (R59, R675). -/
def State.forcedSummit (s : State) : State :=
  let s := (s.orReg Page.stp Reg.STP_STAT (bitWord 8)).setStep { s.step with summited := true, relStep := s.stepNo }
  let s := (s.agePasses.chipPosted.seSummit s.stepNo true).tmrSource 17
  let s := (List.range 8).foldl (fun s r => ((s.gatesSummit r).regionTimes r true).regionPosted r) s
  let s := (List.range 128).foldl (fun s b => s.blockPosted b) s
  s.setStep { s.step with posters := [] }

/-! ## The tick (R40, R55–R65) -/

/-- A region that has not reported QUIESCENT for the open step (R295). -/
def State.quiLate (s : State) : State :=
  (List.range 8).foldl (fun s r => if s.step.rgnQui.contains r then s else s.setInt (Page.region r) 0) s

/-- The overrun of the open step, counted once (R58). -/
def State.countOverrun (s : State) : State :=
  if s.step.overrun then s
  else
    let s := (s.count Page.stp Reg.STP_OVERRUNS 1).setInt Page.stp 2
    let s := if s.stepOpen then s.quiLate else s
    s.setStep { s.step with overrun := true }

/-- Slack of the step that ends (R56). (DEDUCED, log 36) -/
def State.noteSlack (s : State) : State :=
  let slack : W32 := if s.step.overrun then 0
    else BitVec.ofNat 32 (min 0xFFFFFFFF (s.elapsed - s.reg64 Page.stp Reg.STP_SUMMIT_NS))
  let s := s.setReg Page.stp Reg.STP_SLACK_LAST slack
  if slack < s.reg Page.stp Reg.STP_SLACK_MIN then s.setReg Page.stp Reg.STP_SLACK_MIN slack else s

/-- Length of the step that ends, and its stretch over a period under STRETCH (R64). -/
def State.noteLength (s : State) (period : Nat) : State :=
  let len := s.elapsed - s.reg64 Page.stp Reg.STP_TICK_NS
  let s := s.setReg Page.stp Reg.STP_LAST_LEN_NS (BitVec.ofNat 32 (min 0xFFFFFFFF len))
  if s.policy = 2 then
    s.setReg64 Page.stp Reg.STP_STRETCH_NS (s.reg64 Page.stp Reg.STP_STRETCH_NS + (len - period))
  else s

/-- A packet of events of a closed step travels on marked late (R61). -/
def State.agePacket (s : State) (p : Packet) : Packet :=
  if p.isEvent && !p.late && p.par == (s.stepNo + 3) % 4 then p.markLate else p

/-- The step n − 1 ended with work undone: what waits in cells and on the way is marked late, or shed (R61–R63). Entries
and items of a migration are integrated in step n whatever the policy (R578). -/
def State.ageEvents (s : State) : State :=
  let shed (due : Nat) (kept : Bool) : Bool := s.tooOld due && !kept
  let old (e : PoolEntry) : Bool := decide (e.due < s.stepNo)
  let pool := s.cells.pool.filter (fun e => !(shed e.due e.forced))
  let items := s.cells.items.filter (fun i => !(shed i.entry.due i.resumed))
  let gone := (s.cells.pool.length - pool.length) + (s.cells.items.length - items.length)
  let mark (e : PoolEntry) : PoolEntry := if old e then { e with late := true, forced := false } else e
  let fl (f : Flit) : Flit := { f with pkt := s.agePacket f.pkt }
  let pk (x : Nat × Packet) : Nat × Packet := (x.1, s.agePacket x.2)
  let s : State := { s with
    cells := { s.cells with pool := pool.map mark
                            items := items.map (fun i => { i with entry := mark i.entry }) }
    fabric := { s.fabric with links := s.fabric.links.map fl, bufs := s.fabric.bufs.map fl
                              blockIn := s.fabric.blockIn.map pk, opened := s.fabric.opened.map pk
                              trvTx := s.fabric.trvTx.map pk } }
  let s := ((s.cells.items.filter (fun i => i.stage == .held)).map (·.cell)).eraseDups.foldl State.wakeHeld s
  s.countShed gone

/-- Packets of a parity that are on the chip. -/
def State.packetsOf (s : State) (par : Nat) : Nat :=
  let n (l : List Flit) : Nat := (l.filter (fun f => f.pkt.par == par)).length
  let m (l : List (Nat × Packet)) : Nat := (l.filter (fun x => x.2.par == par)).length
  n s.fabric.links + n s.fabric.bufs + m s.fabric.blockIn + m s.fabric.opened + m s.fabric.unitIn + m s.fabric.trvTx

/-- The counts of a parity begin anew, for the step that will use it; packets that still carry it are counted in (R52). (DEDUCED, log 37) -/
def State.freshCounts (s : State) (par : Nat) : State :=
  let keep (m : Store Nat) : Store Nat := m.filter (fun x => x.1 % 4 != par)
  s.setStep { s.step with inj := setNum (keep s.step.inj) (136 * 4 + par) (s.packetsOf par), cons := keep s.step.cons }

/-- Step `stepNo` begins in every unit. -/
def State.beginStep (s : State) : State :=
  let t := s.step
  let s := s.setStep { t with
    phase := .update, summited := false, overrun := false, heldTick := false, heldEdge := false, leadDue := none
    flywheel := none, leadSent := false, blkUpd := [], blkQui := [], rgnUpd := [], rgnQui := [], rgnTimes := []
    wave := none, agreed := false, quietAt := 0 }
  let s : State := { s with
    cells := { s.cells with updated := [], updPos := [], quiet := [], spikes := [] }
    learn := { s.learn with waited := false } }
  let s := (s.ageEvents.freshCounts ((s.stepNo + 1) % 4)).restartWindows
  let s := (((s.encTick).trvTickSlots).treeTick).tmrSource 16
  (List.range 4).foldl (fun s k => s.pltTick k) s

/-- The tick is raised (R40): it closes the step that is open, or finds its release or a migration under way (R55, R578),
and begins the next one; a summit whose release it finishes may have stopped the timer (R290). `period` is the one in
force during the step that ends. -/
def State.doTick (s : State) (period : Nat) : State :=
  let n := s.stepNo
  let undone := s.stepOpen
  let s := if undone || !s.step.release.isEmpty || s.fault.migrations.any (fun m => m.2.copying) then s.countOverrun else s
  let s := if undone then s.forcedSummit else s.finishRelease
  if s.running = false then s else
  let s := if undone ∧ s.policy = 1 then s.setInt Page.stp 3 else s
  let s := if s.reg64 Page.stp Reg.STP_TICK_NS = 0 then s else s.noteSlack.noteLength period
  let s := if s.tickMaster && !s.step.leadSent then s.sendTick s.elapsed (n + 1) none else s
  let s := ((s.setReg64 Page.stp Reg.STP_COUNT (n + 1)).setReg64 Page.stp Reg.STP_TICK_NS s.elapsed).setInt Page.stp 0
  ((List.range 4).foldl (fun s k => s.pltLate k) s).beginStep

/-- The value that a reload takes: a write of `STP_PERIOD` in its own cycle comes too late for it (R39). -/
def State.reloadValue (s : State) : W32 :=
  match s.step.written with
  | some (t, v) => if t = s.elapsed then v else s.reg Page.stp Reg.STP_PERIOD
  | none => s.reg Page.stp Reg.STP_PERIOD

/-- The timer reloads (R39). -/
def State.reload (s : State) : State :=
  let p := s.reloadValue
  (s.setReg Page.stp Reg.STP_PERIOD_ACT p).setStep { s.step with remaining := p.toNat }

/-- The timer reloads and the tick is raised. -/
def State.tickNow (s : State) : State :=
  let period := (s.reg Page.stp Reg.STP_PERIOD_ACT).toNat
  s.reload.doTick period

/-- Under STRETCH the timer goes on counting while its tick is held, for the watchdog (R57). -/
def State.countOn (s : State) : State :=
  s.setStep { s.step with remaining := (s.reg Page.stp Reg.STP_PERIOD_ACT).toNat }

/-- The tick is held until the summit (R64). (DEDUCED, log 32) -/
def State.holdTick (s : State) : State := s.setStep { s.step with heldTick := true }

/-- `SUM_WDOG_CNT` counts a step-timer expiry (R57). -/
def State.countWatchdog (s : State) : State :=
  s.setReg Page.sum Reg.SUM_WDOG_CNT (BitVec.ofNat 32 (min 0xFFFF ((s.reg Page.sum Reg.SUM_WDOG_CNT).toNat + 1)))

/-- The root holds its next tick until 5,000 ns after a grant (R389). -/
def State.joinHolds (s : State) : Bool :=
  match s.trv.tree.grantAt with
  | some t => s.policy == 2 && decide (s.elapsed < t + 5000)
  | none => false

/-- TICK: the step timer reaches zero. It raises the tick where it is the source; else the flywheel waits 1,000 ns for
the source, but under STRETCH (R40, R45, R58, R64). -/
def execTick (s : State) : Host.Outcome State Fault Refusal :=
  if s.ticking = false ∨ s.step.remaining ≠ 0 then .next s
  else
    let s := s.countWatchdog
    if s.tickSource = 0 then
      if s.policy = 2 ∧ (s.stepOpen ∨ s.joinHolds ∨ s.step.heldTick) then
        .next ((if s.stepOpen then s.countOverrun else s).holdTick).countOn
      else .next s.tickNow
    else if s.policy = 2 then .next s.countOn
    else
      let s := s.reload
      .next (if s.step.flywheel.isSome then s else s.setStep { s.step with flywheel := some s.elapsed })

/-- STEP_TIMER_START: a write that sets EN (R41). -/
def State.timerOn (s : State) : State := if s.running then s else s.startTimer

def execStepTimerStart (req : Requester) (s : State) : Host.Outcome State Fault Refusal :=
  .next (s.ifAdmit req Page.stp Reg.PG_CTRL State.timerOn)

/-- Posted writes take effect at once while the step timer is stopped: what waits when it stops, too (R98, R130, R137,
R215, R226, R342). -/
def State.applyPosted (s : State) : State :=
  let s := s.applyRules.encSummit.trvSwapSummit.flushSummit
  let s := (List.range 16).foldl (fun s i => s.swapSummit (0x20 + i)) s
  let s := (List.range 9).foldl (fun s r => s.applyRoutes r) s
  let s := (List.range 8).foldl (fun s r => s.applySyn r) s
  let s := (List.range 128).foldl (fun s b => s.swapSummit (Page.block b + 2)) s
  let s := (List.range 2048).foldl (fun s c => (s.applyCellPosts c).applyQueues c) s
  let s := s.cells.seeds.foldl (fun s x => s.applySeed x.1) s
  s.setStep { s.step with posters := [] }

/-- The timer stops: it raises no tick, and what was held is lost (R41). -/
def State.timerOff (s : State) : State :=
  if s.running = false then s
  else
    let s := s.stopTimer
    (s.setStep { s.step with heldTick := false, heldEdge := false, leadDue := none, flywheel := none, leadSent := false }).applyPosted

/-- STEP_TIMER_STOP. (DEDUCED, log 35) -/
def execStepTimerStop (req : Requester) (s : State) : Host.Outcome State Fault Refusal :=
  .next (s.ifAdmit req Page.stp Reg.PG_CTRL State.timerOff)

/-- A write to `STP_PERIOD` (R38, R39). -/
def State.periodWrite (s : State) (v : W32) : State :=
  if 10000 ≤ v.toNat ∧ v.toNat ≤ 100000000 then
    (s.setStep { s.step with written := some (s.elapsed, s.reloadValue) }).setReg Page.stp Reg.STP_PERIOD v
  else s.setErr Page.stp 0

/-- STP_PERIOD_WRITE. -/
def execStpPeriodWrite (req : Requester) (v : W32) (s : State) : Host.Outcome State Fault Refusal :=
  .next (s.ifAdmit req Page.stp Reg.STP_PERIOD (fun s => s.periodWrite v))

/-! ## Tick sources (R42–R46, R65, R401, R402) -/

/-- A tick of the selected source: it realigns the timer; under STRETCH it is held while the step is open (R45, R64). -/
def State.sourceTick (s : State) : State := if s.policy = 2 ∧ s.stepOpen then s.holdTick else s.tickNow

/-- TICK_PACKET_SEND: the master's coming tick is `STP_TICK_LEAD` away or less. Under STRETCH the tick is not known before
the summit (R42, R64). (DEDUCED, log 33) -/
def execTickPacketSend (s : State) : Host.Outcome State Fault Refusal :=
  if s.ticking && s.tickMaster && !s.step.leadSent && !(s.policy == 2 && (s.stepOpen || s.step.heldTick || s.joinHolds))
      && decide (s.step.remaining ≤ (s.reg Page.stp Reg.STP_TICK_LEAD).toNat) then
    .next ((s.sendTick (s.elapsed + s.step.remaining) (s.stepNo + 1) none).setStep { s.step with leadSent := true })
  else .next s

/-- TICK_PACKET_RECEIVE: the lead that remains runs from the packet's arrival, less the latency of its link; a member whose
source is MASTER takes its tick from it, and every member sends it on (R42, R43, R401). -/
def execTickPacketReceive (port : Fin 16) (s : State) : Host.Outcome State Fault Refusal :=
  match s.takeSummit port (fun k => k.ty == 0xB) with
  | (none, s) => .next s
  | (some (at_, k), s) =>
    let lat := (s.reg (Page.trv port) Reg.TRV_LAT_NS).toNat
    let lead := toSigned 32 (k.word 1).toNat - lat
    let due := (Int.ofNat at_ + lead).toNat
    let s := if s.isTreePort port then s.sendTick due (k.word 2).toNat (some port.val) else s
    if s.ticking = false ∨ s.tickSource ≠ 1 then .next s
    else
      let near : Bool := s.partner port == s.regFld Page.trvc Reg.TRV_MASTER_ID 11 0
      let path := if near then lat else Config.num s.fresh
      let s := ((if near then s else s.useFresh).setReg Page.stp Reg.STP_TICK_LAT_NS (BitVec.ofNat 32 path))
      if lead < 0 then .next (((s.count Page.stp Reg.STP_TICK_LATE 1).setErr Page.stp 1).sourceTick)
      else .next (s.setStep { s.step with leadDue := some due })

/-- TICK_LEAD_EXPIRY (R42). -/
def execTickLeadExpiry (s : State) : Host.Outcome State Fault Refusal :=
  match s.step.leadDue with
  | some t =>
    if s.ticking && s.tickSource == 1 && decide (t ≤ s.elapsed) then
      .next (s.setStep { s.step with leadDue := none }).sourceTick
    else .next s
  | none => .next s

/-- FLYWHEEL_TICK (R45). -/
def execFlywheelTick (s : State) : Host.Outcome State Fault Refusal :=
  match s.step.flywheel with
  | some t =>
    if s.ticking && s.tickSource != 0 && s.policy != 2 && decide (t + 1000 ≤ s.elapsed) then
      .next (((s.count Page.stp Reg.STP_TICK_MISS 1).setInt Page.stp 4).doTick (s.reg Page.stp Reg.STP_PERIOD_ACT).toNat)
    else .next s
  | none => .next s

/-- TICK_IN_EDGE (R46, R58, R65). (DEDUCED, log 34) -/
def execTickInEdge (s : State) : Host.Outcome State Fault Refusal :=
  if s.ticking = false ∨ s.tickSource ≠ 2 then .next s
  else
    let soon : Bool := match s.step.lastEdge with
      | some t => decide (s.elapsed < t + 10000)
      | none => false
    let held := s.policy = 2 ∧ s.stepOpen
    if soon ∨ (held ∧ s.step.heldEdge) then .next (s.count Page.stp Reg.STP_TICK_MISS 1)
    else
      let s := s.setStep { s.step with lastEdge := some s.elapsed }
      if held then .next (s.countOverrun.setStep { s.countOverrun.step with heldEdge := true }) else .next s.tickNow

/-- HELD_TICK_RELEASE: the tick is raised on the cycle after the summit (R64, R65, R389). -/
def execHeldTickRelease (s : State) : Host.Outcome State Fault Refusal :=
  if s.ticking && (s.step.heldTick || s.step.heldEdge) && !s.stepOpen && !s.joinHolds then .next s.tickNow else .next s

/-! ## Reports of the phases (R28, R49, R51, R52, R676) -/

/-- BLOCK_UPDATE_DONE: every cell in service has finished its update, and no migration is under way (R49, R578). -/
def execBlockUpdateDone (block : Fin 128) (s : State) : Host.Outcome State Fault Refusal :=
  if s.updating && !(s.blockCopies block)
      && (blockCells block).all (fun c => s.cells.updated.contains c || !(s.live c)) then
    .next (s.setStep { s.step with blkUpd := setIns s.step.blkUpd block })
  else .next s

/-- REGION_UPDATE_DONE: jobs that wait for the region may start; with the last region the chip is in DELIVER (R28, R676). -/
def execRegionUpdateDone (region : Fin 8) (s : State) : Host.Outcome State Fault Refusal :=
  if s.updating && !(s.step.rgnUpd.contains region)
      && (List.range 16).all (fun i => s.step.blkUpd.contains (16 * region + i)) then
    let done := setIns s.step.rgnUpd region
    .next (s.setStep { s.step with
      rgnUpd := done, rgnTimes := setNum s.step.rgnTimes region (s.elapsed - s.reg64 Page.stp Reg.STP_TICK_NS)
      phase := if done.length = 8 then .deliver else s.step.phase }).pltStartAll
  else .next s

/-- What a block has handed to its routers has left their input (R52). -/
def State.outputEmpty (s : State) (b : Nat) : Bool :=
  let here (f : Flit) : Bool := f.router % 136 == b && f.port == 4
  !(s.fabric.links.any here) && !(s.fabric.bufs.any here)

/-- BLOCK_QUIESCENT: all its cells are quiescent and its output is empty; the report may be made again (R51, R52). -/
def execBlockQuiescent (block : Fin 128) (s : State) : Host.Outcome State Fault Refusal :=
  if s.timebase && s.stepOpen && s.step.blkUpd.contains block.val && s.outputEmpty block
      && (blockCells block).all (fun c => s.cellQuiescent c && (s.cells.quiet.contains c || !(s.live c))) then
    .next (s.setStep { s.step with blkQui := setIns s.step.blkQui block })
  else .next s

/-- No packet of the open step's parity is in the routers of a region, and its route engine follows no chain. -/
def State.regionClear (s : State) (r : Nat) : Bool :=
  let here (f : Flit) : Bool :=
    f.pkt.par == s.stepNo % 4 && decide (f.router % 136 < 128) && decide (f.router % 136 / 16 = r)
  !(s.fabric.links.any here) && !(s.fabric.bufs.any here) && (s.chainsOf r).isEmpty

/-- The summit of the step is delayed by a sweeper (R282). -/
def State.sweepWait (s : State) : State :=
  if s.learn.waited then s
  else
    let s := (s.count Page.lrn Reg.LRN_SWEEP_WAITS 1).setInt Page.lrn 1
    { s with learn := { s.learn with waited := true } }

/-- REGION_QUIESCENT (R52, R282, R295). -/
def execRegionQuiescent (region : Fin 8) (s : State) : Host.Outcome State Fault Refusal :=
  if s.timebase && s.stepOpen && s.step.rgnUpd.contains region.val && s.regionClear region
      && (List.range 16).all (fun i => s.step.blkQui.contains (16 * region + i))
      && (List.range 256).all (fun i => s.cellQuiescent (256 * region + i)) then
    if s.sweepLate region then .next s.sweepWait
    else
      let qui := setIns s.step.rgnQui region
      let s := s.setStep { s.step with
        rgnQui := qui
        rgnTimes := setNum s.step.rgnTimes (8 + region) (s.elapsed - s.reg64 Page.stp Reg.STP_TICK_NS) }
      .next (if (List.range 8).all (fun r => !(s.sweepLate r) || qui.contains r)
             then { s with learn := { s.learn with waited := false } } else s)
  else .next s

/-- CUT: external sources stamp the next step from now on (R50, R676). -/
def execCut (s : State) : Host.Outcome State Fault Refusal :=
  if s.ticking && s.stepOpen && s.step.phase == .deliver && decide (s.step.rgnQui.length = 8) && s.pltsDone then
    .next (s.setStep { s.step with phase := .cut })
  else .next s

/-! ## Collections and the summit (R53, R54, R400) -/

/-- The chip becomes quiescent for its step: the first wave may start (R676). -/
def State.beginWaves (s : State) : State :=
  if s.step.phase = .cut ∧ s.quietNow then s.setStep { s.step with phase := .summitWait, quietAt := s.elapsed } else s

/-- The root has a wave in progress, or starts one. -/
def State.ensureWave (s : State) : State :=
  if s.trv.tree.probe = some (s.trv.tree.wave, s.stepLow) then s else s.startWave

/-- COLLECTION_WAVE: the root closes its wave once it is quiescent and holds every token; another member answers its probe
(R53, R400). -/
def execCollectionWave (s : State) : Host.Outcome State Fault Refusal :=
  if s.ticking && s.stepOpen && !s.step.agreed then
    let s := s.beginWaves
    if s.localQuiet = false then .next s
    else if s.isRoot then
      let s := s.ensureWave
      .next (if s.tokensIn then s.closeWave else s)
    else .next s.tryToken
  else .next s

/-- SUMMIT: the root has two equal waves. Declarations, grants and the release go down the tree (R53, R389, R390, R394,
R400). -/
def execSummit (s : State) : Host.Outcome State Fault Refusal :=
  if s.ticking && s.stepOpen && s.isRoot && s.step.agreed then
    let closes := s.wouldClose
    let s := s.trv.tree.notices.foldl (fun s c => s.sendDown 6 0 c 0 s.stepLow) s
    let s := s.grantAtSummit closes
    .next (s.sendDown 2 0 0 0 s.stepLow).reachSummit
  else .next s

/-- The release goes from the chip to the regions and from a region to its blocks. -/
def State.releaseReaches (s : State) (u : Nat) : Bool :=
  s.step.release.contains u
  && (if u = 136 then true
      else if 128 ≤ u then !(s.step.release.contains 136)
      else !(s.step.release.contains 136) && !(s.step.release.contains (128 + u / 16)))

/-- SUMMIT_RELEASE (R54, R593). -/
def execSummitRelease (unit : Fin 137) (s : State) : Host.Outcome State Fault Refusal :=
  if s.timebase && s.releaseReaches unit then .next (s.unitSummit unit) else .next s

/-! ## The watchdog and the elapsed counter (R57, R74, R80) -/

/-- The limit of the watchdog (R80). -/
def State.watchdogLimit (s : State) : Nat :=
  let l := s.regFld Page.sum Reg.SUM_WDOG_TICKS 15 0
  if l ≤ s.absentTicks then s.absentTicks + 1 else l

/-- SUMMIT_WATCHDOG_EXPIRY. -/
def execSummitWatchdogExpiry (s : State) : Host.Outcome State Fault Refusal :=
  if s.ticking && decide (s.watchdogLimit ≤ s.regFld Page.sum Reg.SUM_WDOG_CNT 15 0) then
    .next ((s.setInt Page.sum 1).fatal 0x040A (pageId Page.sum) s.stepLow false)
  else .next s

/-- ELAPSED_WRAP: powered time keeps its value (R74, R622). -/
def execElapsedWrap (s : State) : Host.Outcome State Fault Refusal :=
  if 2 ^ 64 ≤ s.elapsed then
    let s : State := { s with elapsed := s.elapsed - 2 ^ 64, scree := { s.scree with base := s.scree.base + 2 ^ 64 } }
    .next ((s.orReg Page.stp Reg.STP_ELAPSED_WRAP 1).setInt Page.stp 5)
  else .next s

/-! ## Fences (R71) -/

/-- Every earlier write of the requester has taken effect: none waits for a summit, in a slice, at a bank, or for its
completion from another chip. (DEDUCED, log 30) -/
def State.writesDone (s : State) (r : Requester) : Bool :=
  !(s.step.posters.contains r) && s.dram.posts.all (fun p => p.req != some r) && s.dram.held.all (fun p => p.req != some r)
  && s.tarn.held.all (fun a => a.req != r) && s.trv.remote.all (fun x => x.req != r || !x.write)

/-- A write of 1 to `CHP_FENCE.FENCE`. -/
def State.fenceWrite (s : State) (r : Requester) : State :=
  if s.step.fences.contains r then s else s.setStep { s.step with fences := r :: s.step.fences }

/-- FENCE. -/
def execFence (req : Requester) (s : State) : Host.Outcome State Fault Refusal :=
  .next (s.ifAdmitWo req Page.chp Reg.CHP_FENCE (fun s => s.fenceWrite req))

/-- FENCE_COMPLETE. -/
def execFenceComplete (req : Requester) (s : State) : Host.Outcome State Fault Refusal :=
  if s.clocked && s.writesDone req then
    .next (s.setStep { s.step with fences := s.step.fences.filter (· != req) })
  else .next s

/-! ## The numeric block (R98, R104) -/

/-- A page with a numeric block (R111). -/
def numericPage (p : Nat) : Bool :=
  match pageKind p with
  | .cel | .rgn | .plt | .enc => true
  | _ => false

/-- A write to `SAT_WIN` or `SAT_LIMIT` begins a new window (R104). -/
def State.satWrite (s : State) (page off : Nat) (v : W32) : State :=
  match s.viewPage page off with
  | some q => (s.setReg q off (if off = Reg.SAT_WIN then v &&& 0xFFFF else v)).newWindow q
  | none => s

/-- SAT_WINDOW_WRITE: the write is to `SAT_LIMIT` or to `SAT_WIN`. -/
def execSatWindowWrite (req : Requester) (page : Nat) (limit : Bool) (v : W32) (s : State) : Host.Outcome State Fault Refusal :=
  let off := if limit then Reg.SAT_LIMIT else Reg.SAT_WIN
  if numericPage page ∧ page < 0x20000 then .next (s.ifAdmit req page off (fun s => s.satWrite page off v)) else .next s

/-- A completed write of `SR_SEED` (R98). -/
def State.seedWrite (s : State) (page : Nat) (v : W64) : State :=
  match s.viewPage page Reg.SR_SEED with
  | none => s
  | some q =>
    if s.running then { s with cells := { s.cells with seeds := Store.put s.cells.seeds q v } } else s.reseed q v

/-- SR_SEED_WRITE. -/
def execSrSeedWrite (req : Requester) (page : Nat) (v : W64) (s : State) : Host.Outcome State Fault Refusal :=
  if numericPage page ∧ page < 0x20000 then .next (s.ifAdmitWo req page Reg.SR_SEED (fun s => s.seedWrite page v)) else .next s

end Sys2Proof.Machine
end

