-- ==== Sys2Proof/Machine/SoftReset.lean ====
section
/-! DEFINITION. The soft reset of a page (R76, R324, R533, R569, R677) and the injection of errors (R535, R574, R580). -/
namespace Sys2Proof.Machine
open Sys2Proof

/-! ## Registers that a soft reset keeps -/

/-- The register of the page is kept: the header but for `PG_ERR` and `PG_INT`; what R76 and R677 keep; and registers of
the always-on domain that only show what other state holds. (DEDUCED, log 24) -/
def softKeeps (p off : Nat) : Bool :=
  if off < 0x40 then off != Reg.PG_ERR && off != Reg.PG_INT
  else match pageKind p with
    | .chp => decide (0x58 ≤ off)
    | .stp => stpKept .warm off
    | .pwr => off == Reg.PWR_STAT || off == Reg.PWR_TJ
    | .frz => off == Reg.FRZ_STAT
    | .rfgCommon => fwReg off
    | .chnEngine => !(decide (Reg.CHN_HMASK0 ≤ off ∧ off < Reg.CHN_HMASK0 + 24))
    | .picPend | .cel => true
    | _ => false

/-- The registers of a logical cell that its site page's soft reset keeps: the profiles, and what the last summit showed. -/
def cellKeeps (off : Nat) : Bool :=
  decide ((Reg.CEL_PROF ≤ off ∧ off < 0x900) ∨ (Reg.CEL_SNAP_SPIKES ≤ off ∧ off ≤ Reg.CEL_SNAP_POOL))

/-! ## State outside the registers -/

/-- A soft reset of a cell site page with a logical cell (R677): neurons at rest, the pool freed and counted, no item in the
pipeline. -/
def State.softCell (s : State) (c : Nat) : State :=
  let held := s.poolCount c
  let s := s.resetRegs (fun q => q == Page.cell c) (fun k => cellKeeps (k % 4096))
  let s : State := { s with cells := { s.cells with
    neurons := s.cells.neurons.filter (fun e => e.1 / 8192 != c), pool := s.cells.pool.filter (fun e => e.cell != c)
    items := s.cells.items.filter (fun i => i.cell != c), satWin := Store.erase s.cells.satWin (Page.cell c) } }
  (s.cellDrop c Reg.CEL_DROP_RESET held).seedPage (Page.cell c)

/-- A soft reset of a block page: the tables that the block holds for its cells, and its remap table (R112, R558, R600). -/
def State.softBlock (s : State) (b : Nat) : State :=
  let mine (c : Nat) : Bool := c / 16 == b
  let s := s.resetRegs (fun q => decide (0x100000 ≤ q) && mine (q - 0x100000))
    (fun k => !(decide (Reg.CEL_PROF ≤ k % 4096 ∧ k % 4096 < 0x900)))
  let s : State := { s with
    cells := { s.cells with qdesc := s.cells.qdesc.filter (fun e => !(mine (e.1 / 2048)))
                            axon := s.cells.axon.filter (fun e => !(mine (e.1 / 8192)))
                            qreq := s.cells.qreq.filter (fun e => !(mine (e.1 / 512)))
                            map := s.cells.map.filter (fun e => !(mine e.1)) }
    fabric := { s.fabric with blockIn := s.fabric.blockIn.filter (fun x => x.1 != b)
                              opened := s.fabric.opened.filter (fun x => x.1 != b) }
    fault := { s.fault with migrations := s.fault.migrations.filter (fun m => m.1 != b) }
    step := { s.step with blkUpd := setDel s.step.blkUpd b, blkQui := setDel s.step.blkQui b } }
  if s.cells.mapped then s.mapBlock b else s

/-- Claims are completed: those of the sources that `f` names; the running levels follow (R482, R677). -/
def State.dropClaims (s : State) (f : Nat → Bool) : State :=
  { s with pic := { s.pic with claims := s.pic.claims.filter (fun c => !(f c.2.1)) } }

/-- Posted writes into the windows of a page go. -/
def State.dropRoutePosts (s : State) (p : Nat) : State :=
  { s with fabric := { s.fabric with posts := s.fabric.posts.filter (fun x =>
      match x.2 with
      | .word key _ => owningPage (key / 4096) != p
      | .release r _ => Page.region r + 0x08 != p
      | .gate key _ => owningPage (key / 4096) != p
      | .entry key _ _ _ => owningPage (key / 4096) != p) } }

/-- A soft reset of a DRAM slice page: contents, poison and the remap list stay. -/
def State.softSlice (s : State) (slice : Nat) : State :=
  let other (k : Nat) : Bool := k / 4096 != slice
  { s with dram := { s.dram with
      wins := Store.erase s.dram.wins slice, turn := Store.erase s.dram.turn slice
      used := s.dram.used.filter (fun e => other e.1), waits := s.dram.waits.filter (fun e => other e.1)
      bytes := s.dram.bytes.filter (fun e => other e.1), reqs := s.dram.reqs.filter (fun q => q.slice != slice)
      posts := s.dram.posts.filter (fun q => q.slice != slice), held := s.dram.held.filter (fun q => q.slice != slice)
      refresh := setDel s.dram.refresh slice, copies := s.dram.copies.filter (fun q => q.slice != slice)
      ceCount := s.dram.ceCount.filter (fun e => e.1 / 2 ^ 18 != slice), scrubPos := Store.erase s.dram.scrubPos slice
      failedBanks := s.dram.failedBanks.filter (fun x => x / 16 != slice) } }

/-- A soft reset of an ingress page (R331, R340, R349–R353). -/
def State.softIngress (s : State) (p : Nat) : State :=
  let g := s.ingress
  match pageKind p with
  | .ing => { s with ingress := { g with lemc := [] } }
  | .enc => { s with ingress := { g with enc := Store.erase g.enc (p - 0x80) } }
  | .evcRx => { s with ingress := { g with anchors := g.anchors.filter (fun e => e.1 / 16 != p - 0x54)
                                           events := g.events.filter (fun e => e.src != p - 0x54) } }
  | .evcMap => { s with ingress := { g with misses := [], cache := [] } }
  | _ => { s with ingress := { g with aer := g.aer.filter (fun w => w.port != p - 0x5A)
                                      aerHeld := g.aerHeld.filter (fun w => w.port != p - 0x5A)
                                      aerAck := setDel g.aerAck (p - 0x5A) } }

/-- A soft reset of a timer page: its eight timers (R506, R520). -/
def State.softTimers (s : State) (g : Nat) : State :=
  let t := s.tmr
  { s with tmr := { presc := t.presc.filter (fun e => e.1 / 8 != g), due := t.due.filter (fun e => e / 64 != g)
                    acts := t.acts.filter (fun e => e.1 / 8 != g), second := t.second.filter (fun e => e.1 / 32 != g)
                    edges := t.edges.filter (fun e => e.1 / 32 != g), outs := t.outs.filter (fun e => e / 32 != g)
                    used := t.used.filter (fun e => e / 8 != g) } }

/-- The waves of the summit tree end (R394); who has joined stays with the TRV common page. -/
def State.softSum (s : State) : State :=
  let t := s.trv.tree
  { s with trv := { s.trv with tree := { t with
      wave := 0, probe := none, tokens := [], missed := [], heard := false, silent := 0, fallen := 0, notices := []
      relaxed := false } } }

/-- A soft reset of a page of the route tables or of the channel table: its tables are lost. -/
def State.softTables (s : State) (p : Nat) : State :=
  let s := s.dropRoutePosts p
  if pageKind p = .rteRegion then
    let r := (p - 0x100) / 0x100
    { s with fabric := { s.fabric with
        taken := s.fabric.taken.filter (fun x => x / 2 ^ 18 != r), chains := s.fabric.chains.filter (fun x => x.region != r)
        spikes := s.fabric.spikes.filter (fun x => x.cell / 256 != r) } }
  else s

/-- State that a unit holds outside its registers returns to its warm-reset state (R533). (DESIGN CHOICE, log 25) -/
def State.softUnit (s : State) (p : Nat) : State :=
  let r := (p - 0x100) / 0x100
  match pageKind p with
  | .stp => let s := s.timerOff; s.setStep { s.step with summited := true, remaining := 0 }
  | .sum => s.softSum
  | .lrnChip => { s with learn := { sweepers := s.learn.sweepers } }
  | .lrnRegion => { s with learn := { s.learn with sweepers := Store.erase s.learn.sweepers r } }
  | .drmSlice => s.softSlice (16 * r + ((p - 0x100) % 0x100 - 0x20))
  | .fabNode | .fabBlock => { s with fabric := { s.fabric with bufs := s.fabric.bufs.filter (fun f => routerPage f.router != p) } }
  | .rteRegion | .rteChip | .gat | .chnRegion => s.softTables p
  | .chnEngine => s.setEngine (p - 0x60) {}
  | .crsCore =>
    let s := s.crsReset (p - 0x30)
    { s with proc := { s.proc with crests := Store.erase s.proc.crests (p - 0x30) } }
  | .rfgCore => { s with proc := { s.proc with refuges := Store.erase s.proc.refuges (p - 0x48) } }
  | .crn => { s with proc := { s.proc with pushes := [], lost := [] } }
  | .plt => (s.pltDrop (p - 0x40)).seedPage p
  | .ing | .enc | .evcRx | .evcMap | .aer => s.softIngress p
  | .tmr => s.softTimers (p - 0x74)
  | .trvPort => s.fallDown (p - 0xC0)
  | .trvCommon => { s with trv := { s.trv with tree := {}, remote := [] } }
  | .ethPort =>
    let n := p - 0xE0
    { s with eth := { s.eth with ports := Store.erase s.eth.ports n
                                 engines := s.eth.engines.filter (fun e => e.1 / 8 != n) } }
  | .ethUmh => s.endOwner
  | .picSrc =>
    let mine (n : Nat) : Bool := n / 512 == p - 0xE8
    let s := s.dropClaims mine
    { s with pic := { s.pic with pend := s.pic.pend.filter (fun n => !(mine n)), soft := s.pic.soft.filter (fun n => !(mine n))
                                 bypass := s.pic.bypass.filter (fun n => !(mine n))
                                 lastClaim := s.pic.lastClaim.filter (fun e => !(mine e.1)) } }
  | .picCtl => s.dropClaims (fun _ => true)
  | .tar =>
    let b := 16 * r + ((p - 0x100) % 0x100 - 0x40)
    (s.zeroBank b).setBank b {}
  | .rgn => (s.setStep { s.step with rgnUpd := setDel s.step.rgnUpd r, rgnQui := setDel s.step.rgnQui r }).seedPage p
  | .blk => s.softBlock ((p - 0x1000) / 16)
  | .cel =>
    (match s.cellAt (p - 0x10000) with
     | some c => s.softCell c
     | none => s)
  | .clk => s.setPower { s.power with domains := [] }
  | .dbg => s.setSec { s.sec with token := [], challenge := false }
  | .bdr => s.setSec { s.sec with verify := none, drange := none, strikes := 0 }
  | .otp => s.setSec { s.sec with otp := none }
  | .chp | .pwr | .scr | .frz | .drmDie | .crsCluster | .rfgCommon | .tmrCommon | .crc | .col | .picPend | .blkSnap
  | .memberWindow | .routeWindow | .chipRouteWindow | .gateWindow | .channelWindow | .reserved => s

/-- `PG_CTRL.SOFT_RESET` of a page (R533). -/
def State.softReset (s : State) (p : Nat) : State :=
  let unlocked := decide (pageKind p = .dbg) && s.debugLevel != 0
  let drops := if pageKind p = .cel then (s.cellAt (p - 0x10000)).map (fun c => s.poolCount c) else none
  let s := s.softUnit p
  let s := s.resetRegs (fun q => q == p || owningPage q == p) (fun k => k / 4096 == p && softKeeps p (k % 4096))
  let s := if drops.getD 0 = 0 then s else s.setInt p 0
  let s : State := if numericPage p then { s with cells := { s.cells with satWin := Store.erase s.cells.satWin p
                                                                          seeds := Store.erase s.cells.seeds p } } else s
  let s := if pageKind p = .drmSlice ∨ pageKind p = .drmDie then s.showRemaps else s
  if unlocked then s.setInt p 0 else s

/-! ## Error injection (R535) -/

/-- The record that an injected error writes; a part of ADDR that only a detected error has is a free value (R574, R580). -/
def State.injRecord (s : State) (p b : Nat) : Option ErrRecord :=
  let x := Config.num s.fresh
  let r := (p - 0x100) / 0x100
  let rec' (level cls code addr : Nat) : Option ErrRecord :=
    some { level := level, cls := cls, esc := false, inj := true, code := code, unit := pageId p, addr := addr }
  match pageKind p with
  | .cel =>
    let site := p - 0x10000
    if 2 < b ∨ s.cellAt site = none then none
    else some { level := 0, cls := 0, esc := true, inj := true, code := 0x0102 + b, unit := pageId p
                addr := (if b = 0 then x % 2 ^ 16 else x % 8) * 2 ^ 16 + site }
  | .blk => if b = 0 then rec' 1 2 0x0205 0 else none
  | .drmSlice =>
    if b = 0 then rec' 2 2 0x0303 (x % 2 ^ 36) else rec' 2 2 0x0304 (16 * r + ((p - 0x100) % 0x100 - 0x20))
  | .fabNode | .fabBlock =>
    if b = 2 then rec' 2 2 0x0305 p else if b = 1 then rec' 2 2 0x0306 (p + x % 16 * 2 ^ 24) else none
  | .tar => if b = 4 then rec' 2 2 0x0307 (x % 2 ^ 19 + (16 * r + ((p - 0x100) % 0x100 - 0x40)) * 2 ^ 20) else none
  | .trvPort =>
    let lanes := lanesOf (s.regFld p Reg.TRV_STAT 19 15)
    let spare := (lanesOf (s.regFld p Reg.TRV_STAT 24 20)).any (fun i => !(lanes.contains i))
    if b = 0 then rec' 3 (if spare then 1 else 2) (if spare then 0x0401 else 0x0402) ((p - 0xC0) * 2 ^ 8 + x % 5) else none
  | .plt => if b = 1 then rec' 3 2 0x0405 (x % 2 ^ 24 + (p - 0x40) * 2 ^ 24) else none
  | .crsCore => if b = 0 then rec' 3 2 0x0406 (p - 0x30) else none
  | .crsCluster => rec' 3 2 0x0406 0xF
  | .rfgCore => rec' 3 3 0x0409 (p - 0x48)
  | _ => none

/-- The `PG_INT` bit that the detected error would set (R143, R175, R196, R239, R600). -/
def State.injInterrupt (s : State) (p b : Nat) : State :=
  match pageKind p with
  | .cel => if b ≤ 2 ∧ (s.cellAt (p - 0x10000)).isSome ∧ s.errOn p b then s.setInt (Page.block ((p - 0x10000) / 17)) 2 else s
  | .drmSlice => s.setInt p (1 + b)
  | .tar => if b = 4 then s.setInt p 2 else if b = 0 then s.setInt p 1 else s
  | .fabNode | .fabBlock => if b = 2 then s.setInt p 1 else s
  | _ => s

/-- One bit of `PG_ERR_SET`: the error escalates as a detected one does, and nothing is taken out of service. (DESIGN CHOICE, log 26; DESIGN CHOICE, log 92) -/
def State.injectBit (s : State) (p b : Nat) : State :=
  let s := (s.setErr p b).injInterrupt p b
  match s.injRecord p b with
  | none => s
  | some r =>
    if r.cls = 3 ∧ r.esc = false then s.useFresh.fatal r.code r.unit r.addr true
    else if s.errOn p b then s.useFresh.record r
    else s

/-- A write to `PG_ERR_SET` (R535): bits that the unit's chapter does not define have no effect. -/
def State.injectErr (s : State) (p : Nat) (v : W32) : State :=
  (List.range 32).foldl (fun s b => if bit v b && bit (errBits (pageKind p)) b then s.injectBit p b else s) s

end Sys2Proof.Machine
end

