-- ==== Sys2Proof/Machine/Bus.lean ====
section
/-! DEFINITION. Reads and writes of any address by any requester: the header, every register by its type code, 64-bit
registers in halves, the windows, the memory ranges, and the JTAG port (R6–R10, R66–R72, R443, R452–R455, R525–R540, R594,
R595, R647). -/
namespace Sys2Proof.Machine
open Sys2Proof

/-- The state after a command on a register; every one of them has a next state. -/
def after (s : State) : Host.Outcome State Fault Refusal → State
  | .next t => t
  | _ => s

/-! ## Writes of the header (R531–R540) -/

/-- A page that carries the common header, by a number that an address can name. -/
def hasHeader (p : Nat) : Bool := decide (p < 0x100000) && !(pageKind p).window

/-- A write to `PG_CTRL` (R532, R533): EN of the STP page runs the step timer (R41), EN of an array lets it take jobs
(R322). (DEDUCED, log 29) -/
def State.ctrlWrite (s : State) (p : Nat) (v : W32) : State :=
  let s :=
    if p = Page.stp then
      let s := if bit v 0 ∧ bit v 1 = false then s.timerOn else s.timerOff
      s.setFld p Reg.PG_CTRL 31 16 (fld v 31 16)
    else s.setReg p Reg.PG_CTRL (v &&& 0xFFFF0001)
  if bit v 1 then s.softReset p else if pageKind p = .plt then s.pltStart (p - 0x40) else s

/-- A write to `PG_SEC` (R188, R491, R538). (DESIGN CHOICE, log 27) -/
def State.secWrite (s : State) (p : Nat) (v : W32) : State :=
  if pageKind p = .col then s
  else
    let opens := bit (s.reg p Reg.PG_SEC) 31 && !(bit v 31)
    let s := s.setReg p Reg.PG_SEC (v &&& 0x8000001F)
    let b := 16 * ((p - 0x100) / 0x100) + ((p - 0x100) % 0x100 - 0x40)
    if pageKind p = .tar ∧ opens ∧ (s.bank b).power ≠ 0 then s.beginClear b else s

/-- A write to a header register. -/
def State.headerWrite (s : State) (r : Requester) (p off : Nat) (v : W32) : State :=
  s.ifAdmitWord r p off v (fun s v =>
    if off = Reg.PG_CTRL then s.ctrlWrite p v
    else if off = Reg.PG_ERR ∨ off = Reg.PG_INT then s.clrReg p off v
    else if off = Reg.PG_ERR_EN then s.setReg p off (v &&& errBits (pageKind p))
    else if off = Reg.PG_ERR_SET then s.injectErr p v
    else if off = Reg.PG_INT_EN ∨ off = Reg.PG_SCRATCH then s.setReg p off v
    else if off = Reg.PG_INT_SET then s.orReg p Reg.PG_INT (v &&& intBits (pageKind p))
    else if off = Reg.PG_SEC then s.secWrite p v
    else if off = Reg.PG_LOCK then s.orReg p off (v &&& 1)
    else s)

/-! ## Writes of the other registers -/

/-- Bits of a register that a write stores: `SAT_CTRL` offers the sites of its unit (R111). -/
def storeMask (p off : Nat) (row : RegRow) : W32 :=
  if off = Reg.SAT_CTRL ∧ numericPage p then
    match pageKind p with
    | .cel => 0x1307F
    | .rgn => 0x10607
    | .plt => 0x1001F
    | _ => 0x10007
  else BitVec.ofNat 32 row.mask

/-- A write acts as the type code gives (R10). A cell site page writes its logical cell's registers (R110, R113). -/
def State.storeReg (s : State) (p off : Nat) (row : RegRow) (v : W32) : State :=
  match s.viewPage p off with
  | none => s
  | some q =>
    let m := storeMask p off row
    match row.access with
    | .plain => s.setReg q off ((s.reg q off &&& ~~~ m) ||| (v &&& m))
    | .w1c => s.clrReg q off (v &&& m)
    | .w1s => s.orReg q off (v &&& m)
    | .wo => if pageKind p = .ethPort then s.setReg p off v else s
    | .rc => s

/-- Registers of the chip, of the always-on units and of Bedrock whose writes do more than store. -/
def State.writeChip (s : State) (r : Requester) (p off : Nat) (v : W32) : Option State :=
  match pageKind p with
  | .chp =>
    if off = Reg.CHP_FENCE then some (if bit v 0 then s.fenceWrite r else s)
    else if off = Reg.CHP_BOOT_IMG then some (s.bootImg v)
    else if off = Reg.CHP_RESET then some (s.resetWrite v)
    else none
  | .pwr => s.pwrWrite off v
  | .clk => s.clkWrite off v
  | .scr => s.scrWrite off v
  | .frz =>
    if off = Reg.FRZ_CTRL then
      let s := s.setReg p off (v &&& 0x1D)
      let s := if bit v 5 then s.freeze 2 s.chipId else s
      some (if bit v 6 then s.recoverNow else s)
    else if off = Reg.FRZ_RESUME then some (if bit v 0 then s.resume else s)
    else none
  | .bdr => s.bdrWrite off v
  | .dbg => s.dbgWrite off v
  | .otp => if off = Reg.OTP_CMD then some (s.otpWrite r v) else none
  | _ => none

/-- Registers of the step timer, the summit, learning, DRAM and the banks whose writes do more than store. -/
def State.writeStep (s : State) (r : Requester) (p off : Nat) (v : W32) : Option State :=
  match pageKind p with
  | .stp =>
    if off = Reg.STP_PERIOD then some (s.periodWrite v)
    else if off = Reg.STP_TICK_LEAD ∧ (v.toNat < 200 ∨ 20000 < v.toNat) then some (s.setErr p 2)
    else if off = Reg.STP_TICK_SRC then some (s.roleWrite p off (v &&& 0x103))
    else none
  | .sum =>
    if off = Reg.SUM_GROUP then some (s.roleWrite p off (v &&& 0xFFFF)) else
    if off = Reg.SUM_WDOG_TICKS ∧ fld v 15 0 ≤ max 1 (s.regFld p Reg.SUM_ABSENT_TICKS 7 0) then
      some ((s.setReg p off (v &&& 0xFFFF)).setErr p 0)
    else none
  | .lrnChip => if Reg.LRN_RULESET ≤ off ∧ off < Reg.LRN_RULESET + 256 then some (after s (execRulesetWrite r off v s)) else none
  | .drmDie =>
    if off = Reg.DRM_REMAP_ADD then some (after s (execDrmRemapAdd r (Fin.ofNat 2 (p - 0x18)) v s))
    else if off = Reg.DRM_WIN_NS ∧ p = Page.die 1 then some s
    else none
  | .tar =>
    let b := Fin.ofNat 128 (16 * ((p - 0x100) / 0x100) + ((p - 0x100) % 0x100 - 0x40))
    if off = Reg.TAR_OWNER then some (after s (execTarOwnerWrite r b v s))
    else if off = Reg.TAR_PWR then some (after s (execTarPwrWrite r b v s))
    else none
  | .blk =>
    let b := (p - 0x1000) / 16
    if off = Reg.BLK_CTRL then
      let s := s.setReg p off (v &&& 1)
      some (if bit v 1 then s.restoreWrite b else s)
    else if off = Reg.BLK_MIGRATE then some (s.migrateWrite b v)
    else none
  | .fabNode | .fabBlock => if off = Reg.FAB_SWAP then some (if bit v 0 then after s (execFabSwap r p s) else s) else none
  | .rteRegion =>
    if off = Reg.RTE_RELEASE then some (after s (execRteRelease r (Fin.ofNat 8 ((p - 0x100) / 0x100)) v s)) else none
  | _ => none

/-- A register of a cell site page beyond the plain ones (R127, R137, R141). -/
def State.writeCell (s : State) (r : Requester) (p off : Nat) (v : W32) : Option State :=
  let site := p - 0x10000
  if Reg.CEL_QDESC0 ≤ off ∧ off < Reg.CEL_QDESC0 + 16 then some (s.qdescApply r site ((off - Reg.CEL_QDESC0) / 4) v)
  else if (s.cellPostAt 0 off v).isSome then some (s.cellPostWrite r site off v)
  else none

/-- Registers of the cores, arrays, messages and interrupts whose writes do more than store. -/
def State.writeUnit (s : State) (r : Requester) (p off : Nat) (v : W32) : Option State :=
  match pageKind p with
  | .crsCore => s.crsWrite (p - 0x30) off v
  | .crsCluster =>
    if off = Reg.CRS_L3_FLUSH then some (if bit v 0 then s.setReg p off 1 else s) else none
  | .plt => s.pltWrite (p - 0x40) off v
  | .rfgCommon =>
    if off = Reg.RFG_RESTART then some (s.useFresh.restartWrite v (Config.word s.fresh)) else none
  | .rfgCore => s.rfgWrite r (p - 0x48) off v
  | .crn =>
    if 0x100 ≤ off ∧ off < 0x180 ∧ off % 0x20 = 0x10 then
      some (after s (execCrnPush r (Fin.ofNat 4 ((off - 0x100) / 0x20)) v s))
    else s.crnWrite r off
  | .chnEngine =>
    let e := Fin.ofNat 20 (p - 0x60)
    if off = Reg.CHN_TX_GO then some (after s (execChnTxGo r e v s))
    else if off = Reg.CHN_RX_NEXT then some (after s (execChnRxNext r e v s))
    else none
  | .tmr => s.tmrWrite p off v
  | .tmrCommon => if off = Reg.TMR_GSTART then some (s.gstart v) else none
  | .crc => s.crcWrite off v
  | .col =>
    if off < 0x100 ∨ 0x900 ≤ off then none
    else
      let c := 16 * (p - 0x7C) + (off - 0x100) / 0x80
      if (off - 0x100) % 0x80 = 0x44 then some (after s (execColSend r (Fin.ofNat 64 c) v s))
      else if s.colFull c then some (s.setErr p 0)
      else none
  | .picSrc => if Reg.PIC_SRC ≤ off then some (s.srcWrite (512 * (p - 0xE8) + (off - Reg.PIC_SRC) / 4) v) else none
  | .picCtl =>
    if 0x100 ≤ off ∧ off < 0x250 ∧ off % 16 = 8 then
      some (after s (execPicComplete r (Fin.ofNat 21 ((off - 0x100) / 16)) v s))
    else if Reg.PIC_WAKE_SELn ≤ off ∧ off < Reg.PIC_WAKE_SELn + 256 then
      some (s.wakeSelWrite ((off - Reg.PIC_WAKE_SELn) / 4) v)
    else none
  | .picPend =>
    if Reg.PIC_PEND_SET ≤ off ∧ off < Reg.PIC_PEND_SET + 512 then
      some (after s (execPicPendSet r (Fin.ofNat 128 ((off - Reg.PIC_PEND_SET) / 4)) v s))
    else if Reg.PIC_PEND_CLR ≤ off ∧ off < Reg.PIC_PEND_CLR + 512 then
      some (after s (execPicPendClr r (Fin.ofNat 128 ((off - Reg.PIC_PEND_CLR) / 4)) v s))
    else none
  | _ => none

/-- The offset lies in a shadow copy that `swap` of the page copies: writes while a swap is waited for are ignored (R215, R235,
R379). -/
def State.swapBars (s : State) (p off : Nat) : Bool :=
  match pageKind p with
  | .fabBlock => bit (s.reg p Reg.FAB_SWAP) 0 && decide (Reg.FAB_SHADOW ≤ off ∧ off < Reg.FAB_TABLE)
  | .fabNode =>
    bit (s.reg p Reg.FAB_SWAP) 0
      && decide ((Reg.FAB_SHADOW ≤ off ∧ off < Reg.FAB_TABLE) ∨ (Reg.FAB_LOCAL_SHADOW ≤ off ∧ off < Reg.FAB_LOCAL))
  | .trvPort => bit (s.reg p Reg.TRV_SWAP) 0 && decide (Reg.TRV_SHADOW ≤ off ∧ off < Reg.TRV_PLAN)
  | _ => false

/-- Registers of the inputs, the links and the Ethernet ports whose writes do more than store. -/
def State.writeIo (s : State) (r : Requester) (p off : Nat) (v : W32) : Option State :=
  match pageKind p with
  | .ing => if 0x80 ≤ off ∧ off < 0x100 ∧ off % 0x20 = 0 then some (s.linkWrite ((off - 0x80) / 0x20) v) else none
  | .enc => s.encWrite r (p - 0x80) off v
  | .evcRx =>
    if Reg.EVC_TPL ≤ off ∧ off < Reg.EVC_TPL + 128 then some (s.tplWrite (p - 0x54) ((off - Reg.EVC_TPL) / 4) v) else none
  | .evcMap =>
    if off = Reg.EVC_MAP_FLUSH then some (if bit v 0 then after s (execEvcMapFlush r s) else s) else s.evcMapWrite off v
  | .trvPort =>
    let n := p - 0xC0
    if off = Reg.TRV_CFG then some (s.trvCfgWrite n v)
    else if off = Reg.TRV_ASSIGN then some (s.assignWrite n v)
    else if off = Reg.TRV_SWAP then some (if bit v 0 then after s (execTrvSwap r (Fin.ofNat 16 n) s) else s)
    else none
  | .trvCommon =>
    if off = Reg.TRV_CHIP_ID then some (after s (execTrvChipId r v s))
    else if off = Reg.TRV_JOIN then some (s.joinWrite v)
    else none
  | .ethPort =>
    if off = Reg.ETH_RAW_TX_PTR then some (after s (execRawTx r (Fin.ofNat 4 (p - 0xE0)) v s)) else s.ethWrite (p - 0xE0) off v
  | .ethUmh => if off = Reg.ETH_UMH_CTRL then some (s.umhCtrlWrite v) else none
  | _ => none

/-- Every register whose write does more than store: what the write does. -/
def State.writeActs (s : State) (r : Requester) (p off : Nat) (v : W32) : Option State :=
  if numericPage p ∧ (off = Reg.SAT_WIN ∨ off = Reg.SAT_LIMIT) then some (s.satWrite p off v)
  else if pageKind p = .cel then s.writeCell r p off v
  else match s.writeChip r p off v with
    | some t => some t
    | none => match s.writeStep r p off v with
      | some t => some t
      | none => match s.writeUnit r p off v with
        | some t => some t
        | none => if s.swapBars p off then some s else s.writeIo r p off v

/-- A 32-bit register is written by an admitted requester. -/
def State.writeReg (s : State) (r : Requester) (p off : Nat) (row : RegRow) (v : W32) : State :=
  (s.writeActs r p off v).getD (s.storeReg p off row v)

/-- Both words of a 64-bit register are stored, each as its row gives. -/
def State.storeBoth (s : State) (p off v : Nat) : State :=
  let word (s : State) (o x : Nat) : State :=
    match regRow p o with
    | some row => s.storeReg p o row (BitVec.ofNat 32 x)
    | none => s
  word (word s off v) (off + 4) (v / 2 ^ 32)

/-- A 64-bit register is written by an admitted requester; `off` is its low word's (R527). -/
def State.writeReg64 (s : State) (r : Requester) (p off v : Nat) : State :=
  let w : W64 := BitVec.ofNat 64 v
  let c := p - 0x30
  if numericPage p ∧ off = Reg.SR_SEED then s.seedWrite p w
  else match pageKind p with
    | .pwr => if off = Reg.PWR_WAKE_AT_NS then s.wakeAtWrite v else s.storeBoth p off v
    | .frz => if off = Reg.FRZ_DUMP_BASE then s.dumpBaseWrite v else s.storeBoth p off v
    | .bdr =>
      if Reg.BDR_DRANGEi_BASE ≤ off ∧ off < Reg.BDR_DRANGEi_BASE + 128 then
        s.drangeWrite ((off - Reg.BDR_DRANGEi_BASE) / 16) (off % 16 == 8) v
      else s.storeBoth p off v
    | .lrnChip => if off = Reg.LRN_CKPT_BASE then after s (execCkptBaseWrite r w s) else s.storeBoth p off v
    | .enc => if off = Reg.ENC_UP ∨ off = Reg.ENC_DOWN then s.encPost r (p - 0x80) off w else s.storeBoth p off v
    | .crsCore =>
      if off = Reg.CRS_MTIMECMP then (s.storeBoth p off v).followTimer c
      else (s.crsWrite c off w.toNat).getD (s.storeBoth p off v)
    | .rfgCore => (s.rfgWrite r (p - 0x48) off 0).getD (s.storeBoth p off v)
    | .crc =>
      if 0x100 ≤ off ∧ off < 0x500 ∧ (off - 0x100) % 0x80 = 0x20 then s.setCrcState ((off - 0x100) / 0x80) v
      else s.storeBoth p off v
    | _ => s.storeBoth p off v

/-! ## Low words held and high words latched (R527, R72, R501) -/

/-- The low word that a requester has written and not completed. (DESIGN CHOICE, log 18) -/
def State.heldWord (s : State) (r : Requester) (key : Nat) : Option W32 :=
  (s.heldLow.find? (fun q => q.1 == r && q.2.1 == key)).map (·.2.2)

def State.dropHeld (s : State) (r : Requester) (key : Nat) : State :=
  { s with heldLow := s.heldLow.filter (fun q => !(q.1 == r && q.2.1 == key)) }

/-- Hold a low word for its requester. -/
def State.holdLow (s : State) (r : Requester) (key : Nat) (v : W32) : State :=
  { s.dropHeld r key with heldLow := (s.dropHeld r key).heldLow ++ [(r, key, v)] }

/-- The write of a high word completes the register with the low word that its requester holds; without one the low word
stays, or is zero in a WO register. -/
def State.highWrite (s : State) (r : Requester) (p off : Nat) (row : RegRow) (v : W32) : State :=
  let lo := off - 4
  let key := p * 4096 + lo
  let old : W32 := if row.access = .wo then 0
    else match s.viewPage p lo with
      | some q => s.reg q lo
      | none => 0
  let low := (s.heldWord r key).getD old
  (s.dropHeld r key).writeReg64 r p lo (join64 low v)

/-! ## A write of 32 or 64 bits to a page -/

/-- A 32-bit write. An offset that no register occupies ignores it (R529); so does every RO and RC register (R10). -/
def State.write32 (s : State) (r : Requester) (p off : Nat) (v : W32) : State :=
  if (pageKind p).window then
    s.ifAdmit r p off (fun s => if postedWindow p then s.windowWrite r p off v else s)
  else if off < 0x40 then s.headerWrite r p off v
  else match regRow p off with
    | none => (s.admitWith false r p off).2
    | some row =>
      match row.half with
      | .single => s.ifAdmitWord r p off v (fun s v => s.writeReg r p off row v)
      | .low => s.ifAdmitWord r p off v (fun s v => s.holdLow r (p * 4096 + off) v)
      | .high => s.ifAdmitWord r p off v (fun s v => s.highWrite r p off row v)

/-- A 64-bit register begins at an offset. -/
def is64 (p off : Nat) : Bool :=
  !(pageKind p).window && decide (0x40 ≤ off) && (regRow p off).any (fun row => row.half == .low)

/-- A 64-bit write: both words of a 64-bit register in one access, else two accesses, lower offset first (R527). -/
def State.write64 (s : State) (r : Requester) (p off v : Nat) : State :=
  if is64 p off then s.ifAdmit r p off (fun s => (s.dropHeld r (p * 4096 + off)).writeReg64 r p off v)
  else (s.write32 r p off (BitVec.ofNat 32 v)).write32 r p (off + 4) (BitVec.ofNat 32 (v / 2 ^ 32))

/-! ## Reads of a page -/

/-- Clear what a read of an RC register clears (R10). -/
def State.clearRc (s : State) (p off : Nat) : State :=
  if pageKind p = .drmSlice ∧ (off = Reg.DRM_RES_WAITS ∨ off = Reg.DRM_RES_BYTES) then
    let slice := 16 * ((p - 0x100) / 0x100) + ((p - 0x100) % 0x100 - 0x20)
    let key := slice * 4096 + s.regFld p Reg.DRM_RES_SEL 11 0
    if off = Reg.DRM_RES_WAITS then { s with dram := { s.dram with waits := setNum s.dram.waits key 0 } }
    else { s with dram := { s.dram with bytes := setNum s.dram.bytes key 0 } }
  else match s.viewPage p off with
    | some q => s.setReg q off 0
    | none => s

/-- The read is of an RC register. -/
def isRc (p off : Nat) : Bool :=
  !(pageKind p).window && (off == Reg.PG_ERRCNT || (decide (0x40 ≤ off) && (regRow p off).any (fun row => row.access == .rc)))

/-- A register that reads zero whatever it holds: WO, and the W1S and W1C registers that act on another (R10). -/
def readsZero (p off : Nat) : Bool :=
  !(pageKind p).window && (off == Reg.PG_ERR_SET || off == Reg.PG_INT_SET
    || (decide (0x40 ≤ off) && (regRow p off).any (fun row => row.access == .wo)))

/-- The low half of a 64-bit register's read latches the high half (R527). -/
def State.latchRead (s : State) (r : Requester) (p off : Nat) : State :=
  if is64 p off then s.latchHigh r (p * 4096 + off) (s.view p (off + 4)) else s

/-- Reads that do more than return a value and clear it (R227, R258, R420, R481, R494, R515, R652). -/
def State.readActs (s : State) (r : Requester) (p off : Nat) : Option State :=
  match pageKind p with
  | .chnEngine =>
    if off = Reg.CHN_CQ_POP then some (after s (execChnCqPop r (Fin.ofNat 20 (p - 0x60)) s)) else none
  | .picCtl =>
    if 0x100 ≤ off ∧ off < 0x250 ∧ off % 16 = 4 then some (after s (execPicClaim r (Fin.ofNat 21 ((off - 0x100) / 16)) s)) else none
  | .rteRegion =>
    if off = Reg.RTE_ALLOC then
      some (after s.useFresh (execRteAlloc r (Fin.ofNat 8 ((p - 0x100) / 0x100)) (Config.num s.fresh) s.useFresh))
    else none
  | .col =>
    let c := 16 * (p - 0x7C) + (off - 0x100) / 0x80
    let last := fld (s.col c 0x40) 4 0
    if 0x100 ≤ off ∧ off < 0x900 ∧ 1 ≤ last ∧ last ≤ 16 ∧ (off - 0x100) % 0x80 = 4 * (last - 1) then
      some (after s (execColLastWordRead r (Fin.ofNat 64 c) s))
    else none
  | .tmr =>
    let t := 8 * (p - 0x74) + (off - 0x100) / 0x100
    if 0x100 ≤ off ∧ off < 0x900 ∧ 0x58 ≤ off % 0x100 ∧ off % 0x20 = 0x18 ∧ off % 0x100 < 0xC0 then
      some (after s (execCaptureRead r (Fin.ofNat 32 t) (Fin.ofNat 4 ((off % 0x100 - 0x58) / 0x20)) s))
    else none
  | .bdr => if off = Reg.BDR_TRNG_DATA then some (after s (execBdrTrngData r 0 s)) else none
  | .ethPort => if off = Reg.ETH_TS_TX_ID then some (after s (execEthTsTxId r (Fin.ofNat 4 (p - 0xE0)) s)) else none
  | _ => none

/-- The read of a high word returns what the requester's read of the low word latched (R527). -/
def State.highRead (s : State) (r : Requester) (p off : Nat) : State :=
  let key := p * 4096 + off - 4
  match s.latchedHigh.find? (fun q => q.1 == r && q.2.1 == key) with
  | some q => { s with latchedHigh := s.latchedHigh.filter (fun x => !(x.1 == r && x.2.1 == key)) }.answer q.2.2.toNat false
  | none => s.answer (s.view p off).toNat false

/-- A 32-bit read. -/
def State.read32 (s : State) (r : Requester) (p off : Nat) : State :=
  if s.mayRead r p off = false then s.denyRead r p off
  else match s.readActs r p off with
    | some t => t
    | none =>
      if readsZero p off then s.answer 0 false
      else if !(pageKind p).window && decide (0x40 ≤ off) && (regRow p off).any (fun row => row.half == .high) then s.highRead r p off
      else
        let s := (s.latchRead r p off).answer (s.view p off).toNat false
        if isRc p off then s.clearRc p off else s

/-- A 64-bit read: both words of a 64-bit register in one access, else two accesses, lower offset first (R527). -/
def State.read64 (s : State) (r : Requester) (p off : Nat) : State :=
  let lo := s.read32 r p off
  let hi := lo.read32 r p (off + 4)
  hi.answer (lo.rdata % 2 ^ 32 + hi.rdata % 2 ^ 32 * 2 ^ 32) (lo.rpoison || hi.rpoison)

/-! ## Memory ranges (R443, R452–R455, R525) -/

/-- The owner code under which a requester reaches a Tarn bank (R180). -/
def tarnOwner (r : Requester) : Nat :=
  match r.who with
  | .crs _ => 8
  | _ => 0

/-- A write to the Refuge SRAM: no core but its own reaches a private SRAM; the image store and the Cairn areas drop every
write; the kernel data takes those of secure Refuge cores; JTAG writes as the readout engine does. -/
def State.rfgSramWrite (s : State) (r : Requester) (a : Nat) (l : List Byte) : State :=
  let o := a - Base.rfg
  if o < 0x100000 then
    (if refugeOf r = some (o / 0x40000) ∨ (r.who = .jtag ∧ s.isSecure r) then s.setBytes a l else s)
  else if o < 0x1A0000 ∨ 0x1B0000 ≤ o then s.setErr Page.rfgc 0
  else if ((refugeOf r).isSome ∨ r.who = .jtag) ∧ s.isSecure r then s.setBytes a l
  else s

/-- A read of the Refuge SRAM. -/
def State.rfgSramRead (s : State) (r : Requester) (a n : Nat) : State :=
  let o := a - Base.rfg
  let open' : Bool :=
    if o < 0x100000 then decide (refugeOf r = some (o / 0x40000)) || (r.who == .jtag && s.isSecure r)
    else if o < 0x1B0000 then s.isSecure r
    else true
  s.answer (if open' then s.num a n else 0) false

/-- The boot ROM is read by the Refuge cores and by JTAG; its bytes are free values. (DESIGN CHOICE, log 20) -/
def State.romRead (s : State) (r : Requester) (n : Nat) : State :=
  match r.who with
  | .crs _ => s.answer 0 false
  | _ => s.useFresh.answer (Config.num s.fresh % 2 ^ (8 * n)) false

/-- A write of up to 64 bytes to memory. (DEDUCED, log 19) -/
def State.memWrite (s : State) (r : Requester) (a : Nat) (l : List Byte) : State :=
  match addrRegion a with
  | .rom | .pages => s
  | .rfgSram => s.rfgSramWrite r a l
  | .dump => if (refugeOf r).isSome ∨ r.who = .jtag then s.setBytes a l else s
  | .tarn =>
    let b := (a - Base.tarn) / bankBytes
    s.tarnPort b (tarnOwner r) r (.store ((a - Base.tarn) % bankBytes) l)
  | .pltSram => (s.pltSide ((a - Base.plt) / 0x1000000) (.store ((a - Base.plt) % 0x1000000) l)).2
  | .dram =>
    if s.clearingAny (a - Base.dram) l.length then s
    else (s.chargeReq r (a - Base.dram) l.length).dramWrite (some r) (s.isSecure r) (a - Base.dram) l
  | .remote => after s (execRemoteAccess r a l.length (some l) s)
  | .unmapped => s.unmappedAcc

/-- A read of up to 64 bytes of memory. -/
def State.memRead (s : State) (r : Requester) (a n : Nat) : State :=
  match addrRegion a with
  | .pages => s
  | .rom => s.romRead r n
  | .rfgSram => s.rfgSramRead r a n
  | .dump => s.answer (s.num a n) false
  | .tarn =>
    let b := (a - Base.tarn) / bankBytes
    s.tarnPort b (tarnOwner r) r (.load ((a - Base.tarn) % bankBytes) n)
  | .pltSram =>
    let x := s.pltSide ((a - Base.plt) / 0x1000000) (.load ((a - Base.plt) % 0x1000000) n)
    x.2.answer x.1.1 x.1.2
  | .dram =>
    if s.clearingAny (a - Base.dram) n then s
    else
      let x := (s.chargeReq r (a - Base.dram) n).dramRead (s.isSecure r) (a - Base.dram) n
      x.2.answer x.1.1 x.1.2
  | .remote => after s (execRemoteAccess r a n none s)
  | .unmapped => s.unmappedAcc.answer 0 false

/-! ## Any address -/

/-- Page and offset of an address in the register range. -/
def pageAt (a : Nat) : Nat × Nat := ((a - Base.pages) / 4096, (a - Base.pages) % 4096)

/-- The access is naturally aligned, and register pages take it (R527). -/
def regSize (a n : Nat) : Bool := (n == 4 || n == 8) && a % n == 0

/-- Sizes that memory takes: naturally aligned, up to 64 bytes. -/
def memSize (a n : Nat) : Bool := sideAligned a n

/-- A write by a requester. While its own fence is outstanding, or while the clocks stand, the access waits (R71, R592). -/
def State.busWrite (s : State) (r : Requester) (a n v : Nat) : State :=
  if addrRegion a = .pages then
    (if regSize a n = false then (if s.serves r then s.unmappedAcc else s)
     else if n = 8 then s.write64 r (pageAt a).1 (pageAt a).2 v
     else s.write32 r (pageAt a).1 (pageAt a).2 (BitVec.ofNat 32 v))
  else if s.serves r = false then s
  else if memSize a n then s.memWrite r a (leBytes n v)
  else s.unmappedAcc

/-- A read by a requester. -/
def State.busRead (s : State) (r : Requester) (a n : Nat) : State :=
  if addrRegion a = .pages then
    (if regSize a n = false then (if s.serves r then s.unmappedAcc.answer 0 false else s)
     else if n = 8 then s.read64 r (pageAt a).1 (pageAt a).2
     else s.read32 r (pageAt a).1 (pageAt a).2)
  else if s.serves r = false then s
  else if memSize a n then s.memRead r a n
  else s.unmappedAcc.answer 0 false

/-! ## The commands -/

/-- REGISTER_WRITE: a write of `bytes` bytes of `v` at a physical address (R6, R10, R526, R527, R539, R540). -/
def execRegisterWrite (req : Requester) (addr bytes : Nat) (v : W64) (s : State) : Host.Outcome State Fault Refusal :=
  .next (s.busWrite req addr bytes v.toNat)

/-- RC_READ: a read of `bytes` bytes at a physical address; an RC register clears (R10). -/
def execRcRead (req : Requester) (addr bytes : Nat) (s : State) : Host.Outcome State Fault Refusal :=
  .next (s.busRead req addr bytes)

/-- LOW_WORD_READ: a 32-bit read; of the low word of a 64-bit register, it latches the high word (R72, R527). -/
def execLowWordRead (req : Requester) (addr : Nat) (s : State) : Host.Outcome State Fault Refusal :=
  .next (s.busRead req addr 4)

/-- SOFT_RESET: a write of 1 to `PG_CTRL.SOFT_RESET` (R533). -/
def execSoftReset (req : Requester) (page : Nat) (s : State) : Host.Outcome State Fault Refusal :=
  if hasHeader page then
    .next (s.ifAdmitWord req page Reg.PG_CTRL 2 (fun s _ =>
      (if page = Page.stp then s.timerOff else s).softReset page))
  else .next s

/-- ERROR_INJECT: a write to `PG_ERR_SET` (R535). -/
def execErrorInject (req : Requester) (page : Nat) (v : W32) (s : State) : Host.Outcome State Fault Refusal :=
  if hasHeader page then .next (s.headerWrite req page Reg.PG_ERR_SET v) else .next s

/-- PG_INT_SET (R536). -/
def execPgIntSet (req : Requester) (page : Nat) (v : W32) (s : State) : Host.Outcome State Fault Refusal :=
  if hasHeader page then .next (s.headerWrite req page Reg.PG_INT_SET v) else .next s

/-- PG_LOCK (R540). -/
def execPgLock (req : Requester) (page : Nat) (v : W32) (s : State) : Host.Outcome State Fault Refusal :=
  if hasHeader page then .next (s.headerWrite req page Reg.PG_LOCK v) else .next s

/-- PG_SEC_WRITE (R188, R538, R539). -/
def execPgSecWrite (req : Requester) (page : Nat) (v : W32) (s : State) : Host.Outcome State Fault Refusal :=
  if hasHeader page then .next (s.headerWrite req page Reg.PG_SEC v) else .next s

/-! ## The JTAG port (R594, R595, R647) -/

/-- The readout engine's requests. -/
def jtagReq : Requester := { who := .jtag, mmode := false }

/-- The always-on pages that stay reachable in a freeze. -/
def frozenPage (a : Nat) : Bool :=
  addrRegion a == .pages && ((pageAt a).1 == Page.frz || (pageAt a).1 == Page.dbg)

/-- The frozen-state window (R594). -/
def frozenWindow (a : Nat) : Bool := decide (0x300000000 ≤ a ∧ a < 0x304000000)

/-- The readout engine's attribute reaches a word of Tarn, of local SRAM or of DRAM, whoever owns it (R594, R647). -/
def State.readoutReaches (s : State) (a : Nat) : Bool :=
  memSize a 4 && match addrRegion a with
  | .tarn => s.isSecure jtagReq || !(s.bankSecure ((a - Base.tarn) / bankBytes))
  | .pltSram =>
    let p := Page.plt ((a - Base.plt) / 0x1000000)
    presentIn s.grade p && (s.isSecure jtagReq || !(bit (s.reg p Reg.PG_SEC) 31))
  | .dram =>
    let d := a - Base.dram
    decide (d + 4 ≤ dramBytes s.grade) && (s.isSecure jtagReq || !(s.rangeSecure d 4)) && !(s.clearingAny d 4)
  | _ => false

/-- What the readout engine reads of a frozen chip: registers and memory as they stand, and free values in the window. -/
def State.frozenRead (s : State) (a : Nat) : State :=
  if frozenWindow a then
    (if s.debugLevel = 2 then s.useFresh.answer (Config.word s.fresh).toNat false else s.answer 0 false)
  else if addrRegion a = .pages then
    let p := (pageAt a).1
    let off := (pageAt a).2
    let open' := presentIn s.grade p && (!(s.secBars jtagReq p off) || openHeader p off) && !(readsZero p off)
    s.answer (if open' then (s.view p off).toNat else 0) false
  else if s.readoutReaches a then
    s.answer (s.num a 4) (s.isPoison (a / 8 * 8) || (addrRegion a == .dram && s.beatPoison (a - Base.dram)))
  else s.memRead jtagReq a 4

/-- A JTAG write to a frozen chip outside its always-on pages: stored without any further effect, and marked. -/
def State.frozenWrite (s : State) (a : Nat) (v : W32) : State :=
  let s := s.orReg Page.frz Reg.FRZ_STAT (bitWord 15)
  if addrRegion a = .pages then
    let p := (pageAt a).1
    let off := (pageAt a).2
    if presentIn s.grade p && !(s.secBars jtagReq p off) && !(frozenWindow a) then
      match regRow p off with
      | some row => s.storeReg p off row v
      | none => s
    else s
  else if frozenWindow a then s
  else s.memWrite jtagReq a (leBytes 4 v.toNat)

/-- JTAG_ACCESS: a 32-bit read, or a write. (DEDUCED, log 28) -/
def execJtagAccess (addr : Nat) (write : Option W32) (s : State) : Host.Outcome State Fault Refusal :=
  if addr % 4 ≠ 0 then .next s.unmappedAcc
  else if s.frzState = Frz.frozen ∧ frozenPage addr = false then
    if s.debugLevel = 0 then .next (if write.isNone then s.answer 0 false else s)
    else match write with
      | none => .next (s.frozenRead addr)
      | some v => .next (s.frozenWrite addr v)
  else if addrRegion addr ≠ .pages ∧ s.debugLevel = 0 then .next (if write.isNone then s.answer 0 false else s)
  else match write with
    | none => .next (s.busRead jtagReq addr 4)
    | some v => .next (s.busWrite jtagReq addr 4 v.toNat)

end Sys2Proof.Machine
end

