-- ==== Sys2Proof/Machine/HostOps.lean ====
section
/-! DEFINITION. Requests that RFG1, or the boot ROM in its place, serves for the host: HELLO, ATTEST, REG_READ and REG_WRITE
(R422–R430, R553, R642). -/
namespace Sys2Proof.Machine
open Sys2Proof

/-- Requests of the host are served: by RFG1 in RUN, or by the boot ROM (R429, R553). (DEDUCED, log 72) -/
def State.servesHost (s : State) : Bool := (s.hostServed && s.clocked) || s.hostBoot

/-- Serve the oldest request of a port where it is of an operation and `p` holds of it. -/
def State.onHost (s : State) (port : Nat) (p : UmhReq → Bool) (f : State → UmhReq → State) : State :=
  if s.servesHost then
    match s.takeReq port p with
    | (some q, s) => f s q
    | (none, s) => s
  else s

/-! ## HELLO (R423, R425, R426) -/

/-- Response data of a HELLO; a requester that is not the owner reads SESSION 0. (DEDUCED, log 70) -/
def State.helloData (s : State) (port : Nat) (peer : UmhPeer) : List Byte :=
  leBytes 4 s.chipId ++ leBytes 4 s.grade.caps.toNat ++ leBytes 4 (s.view Page.chp Reg.PG_REV).toNat
    ++ leBytes 4 (s.reg Page.rfgc Reg.RFG_FW_VERSION).toNat ++ leBytes 4 (if s.eth.owner = some peer then s.session else 0)
    ++ leBytes 4 (s.reg (Page.eth port) Reg.ETH_MTU).toNat

/-- Answer a HELLO. -/
def State.helloAnswer (s : State) (port : Nat) (q : UmhReq) : State := s.umhAnswer port q 0 0 6 false (s.helloData port q.peer)

/-- UMHOMA_HELLO: without CLAIM or RELEASE. -/
def execUmhomaHello (port : Fin 4) (s : State) : Host.Outcome State Fault Refusal :=
  .next (s.onHost port (fun q => q.op == 1 && fld (q.pay 0) 1 0 == 0) (fun s q => s.helloAnswer port q))

/-- HELLO_CLAIM: the requester becomes the owner, or the owner takes a new SESSION; else OWNED. -/
def execHelloClaim (port : Fin 4) (s : State) : Host.Outcome State Fault Refusal :=
  .next (s.onHost port (fun q => q.op == 1 && bit (q.pay 0) 0) (fun s q =>
    if s.eth.owner = none ∨ s.eth.owner = some q.peer then (s.newOwnerUmh port q.peer).helloAnswer port q
    else s.umhStatus port q 3 0))

/-- HELLO_RELEASE: ends the ownership of the owner. -/
def execHelloRelease (port : Fin 4) (s : State) : Host.Outcome State Fault Refusal :=
  .next (s.onHost port (fun q => q.op == 1 && fld (q.pay 0) 1 0 == 2) (fun s q =>
    (if s.eth.owner = some q.peer then s.endOwner else s).helloAnswer port q))

/-! ## ATTEST (R642) -/

/-- The identity certificate, as the OTP array holds it (R635, R641). -/
def State.certificate (s : State) : List Byte := ((List.range 1024).map (fun k => leBytes 4 (s.otpWord k).toNat)).flatten

/-- A register as four bytes. -/
def State.regBytes (s : State) (p off : Nat) : List Byte := leBytes 4 (s.reg p off).toNat

/-- The part of the report that both signatures cover. -/
def State.reportBody (s : State) (nonce : List Byte) : List Byte :=
  let run := s.boot.running.getD (0, 0)
  let flags := (if s.debugLevel ≠ 0 then 1 else 0) + (if bit (s.reg Page.bdr Reg.BDR_TRNG_STAT) 29 then 2 else 0)
    + (if s.sec.yunasil then 4 else 0)
  leBytes 4 0xA77E0001 ++ leBytes 4 1 ++ leBytes 4 9709 ++ leBytes 4 flags ++ nonce ++ identityBytes
    ++ ((List.range 16).map (fun i => s.regBytes Page.rfgc (Reg.RFG_FW_DIGEST0 + 4 * i))).flatten
    ++ ((List.range 16).map (fun i => s.regBytes Page.bdr (Reg.BDR_YUN_DIGEST0 + 4 * i))).flatten
    ++ leBytes 4 s.grade.caps.toNat ++ leBytes 4 (s.view Page.chp Reg.PG_REV).toNat ++ s.regBytes Page.rfgc Reg.RFG_FW_VERSION
    ++ leBytes 4 (run.1 * 2 ^ 16 + run.2 * 2 ^ 8 + s.otpArb) ++ leBytes 4 s.otpSlots.toNat ++ leBytes 4 s.otpConfig.toNat
    ++ leBytes 8 s.elapsed ++ leBytes 8 s.stepNo ++ leBytes 4 (s.reg Page.chp Reg.CHP_RESET_CAUSE).toNat
    ++ leBytes 4 s.debugLevel ++ (List.range 1984).map Config.idKey ++ s.certificate

/-- The attestation report: 9,709 bytes. -/
def State.report (s : State) (nonce : List Byte) : List Byte :=
  let m := s.reportBody nonce
  m ++ s.identitySign 0 64 m ++ s.identitySign 1 3309 m

/-- ATTEST: served for every requester. -/
def execAttest (port : Fin 4) (s : State) : Host.Outcome State Fault Refusal :=
  .next (s.onHost port (fun q => q.op == 2) (fun s q =>
    (s.umhAnswer port q 0 0 1 false (s.report (q.payload.take 32))).useFresh))

/-! ## REG_READ and REG_WRITE (R427, R428) -/

/-- Page and offset of a register-space offset. -/
def itemAt (o : W32) : Nat × Nat := (o.toNat / 4096, o.toNat % 4096)

/-- Status of a read item that RFG1 refuses (R424, R427). (DEDUCED, log 71) -/
def State.readStatus (s : State) (p off : Nat) : Nat :=
  if off % 4 ≠ 0 then 5 else if presentIn s.grade p && bit (s.reg (owningPage p) Reg.PG_SEC) 31 then 4 else 0

/-- Status of a write item that RFG1 refuses (R424, R427, R539, R540). -/
def State.writeStatus (s : State) (p off : Nat) : Nat :=
  if off % 4 ≠ 0 then 5
  else if presentIn s.grade p = false then 0
  else if s.secBars hostReq p off || !(ownerAdmits (s.regFld (owningPage p) Reg.PG_SEC 4 0) hostReq) then 4
  else if bit (s.reg (owningPage p) Reg.PG_LOCK) 0 && lockable p off then 10
  else 0

/-- The write item asks for a warm reset, which begins only after the answer (R567). -/
def asksReset (p off : Nat) (v : W32) : Bool := p == Page.chp && off == Reg.CHP_RESET && fld v 31 16 == 0xB007 && bit v 0

/-- Apply up to `n` items of a REG_READ: the first refusal's status, the request with its progress, and the chip. A fence of
the host's own holds the items after it (R71). -/
def State.readItems : Nat → UmhReq → State → Nat × UmhReq × State
  | 0, q, s => (0, q, s)
  | n + 1, q, s =>
    let x := itemAt (q.pay q.done)
    let st := s.readStatus x.1 x.2
    if s.step.fences.contains hostReq then (0, q, s)
    else if st ≠ 0 then (st, q, if st = 5 then s.unmappedAcc else s)
    else
      let s := s.read32 hostReq x.1 x.2
      State.readItems n { q with done := q.done + 1, data := q.data ++ leBytes 4 s.rdata } s

/-- Apply up to `n` items of a REG_WRITE. A refused write is counted where it is refused. -/
def State.writeItems : Nat → UmhReq → State → Nat × UmhReq × State
  | 0, q, s => (0, q, s)
  | n + 1, q, s =>
    let x := itemAt (q.pay (2 * q.done))
    let v := q.pay (2 * q.done + 1)
    let st := s.writeStatus x.1 x.2
    if s.step.fences.contains hostReq then (0, q, s)
    else if st = 5 then (5, q, s.unmappedAcc)
    else
      let t := if st = 0 ∧ asksReset x.1 x.2 v then s else s.write32 hostReq x.1 x.2 v
      if st ≠ 0 then (st, q, t) else State.writeItems n { q with done := q.done + 1 } t

/-- Put a request back at the head of a port's requests. -/
def State.putReq (s : State) (port : Nat) (q : UmhReq) : State :=
  let x := s.ethPort port
  s.setEthPort port { x with reqs := q :: x.reqs }

/-- A request waits for its items, or is answered with the count of those applied. -/
def State.itemsEnd (s : State) (port st : Nat) (q : UmhReq) (data : List Byte) : State :=
  if st = 0 ∧ q.done < q.count then s.putReq port q
  else s.umhAnswer port q st q.done (data.length / 4) false data

/-- REG_READ. -/
def execRegRead (port : Fin 4) (s : State) : Host.Outcome State Fault Refusal :=
  .next (s.onHost port (fun q => q.op == 3) (fun s q =>
    let r := State.readItems (q.count - q.done) q s
    r.2.2.itemsEnd port r.1 r.2.1 r.2.1.data))

/-- A warm reset that an applied item of a REG_WRITE asks for. -/
def UmhReq.resetAsked (q : UmhReq) : Bool :=
  (List.range q.done).any (fun i => asksReset (itemAt (q.pay (2 * i))).1 (itemAt (q.pay (2 * i))).2 (q.pay (2 * i + 1)))

/-- REG_WRITE: with FENCE, and every item applied, RFG1 writes `CHP_FENCE` before it answers (R428). -/
def execRegWrite (port : Fin 4) (s : State) : Host.Outcome State Fault Refusal :=
  .next (s.onHost port (fun q => q.op == 4) (fun s q =>
    let r := State.writeItems (q.count - q.done) q s
    let q := r.2.1
    let whole := r.1 == 0 && q.done == q.count
    let s := if whole && bit (q.word 0) 25 then r.2.2.fenceWrite hostReq else r.2.2
    let s := s.itemsEnd port r.1 q []
    if (whole || r.1 != 0) && q.resetAsked then s.warmReset 4 else s))

end Sys2Proof.Machine
end

