-- ==== Sys2Proof/Machine/Loader.lean ====
section
/-! DEFINITION. The Yunasil loader: the checks of R542 in the order of their codes, and what an accepted image leaves in the
device (R21, R84, R119, R127, R148, R152, R161, R174, R226, R241, R277, R634, R678). -/
namespace Sys2Proof
open Sys2Proof.Machine

/-- Index of the first item of a list that fails. -/
def firstBad {α : Type} (p : α → Bool) : Nat → List α → Option Nat
  | _, [] => none
  | i, x :: l => if p x then some i else firstBad p (i + 1) l

/-! ## The checks -/

/-- A requester that the grade does not have, or a reserved index (R161). -/
def requesterAbsent (g : Grade) (who : Nat) : Bool :=
  if who < 2048 then false
  else if who < 2052 then decide (g.plts ≤ who - 2048)
  else if who < 2068 then decide (g.crests ≤ who - 2052)
  else if who < 2084 then decide (g.trvs ≤ who - 2068)
  else if who = 2085 then !g.ingress
  else decide (2088 ≤ who)

/-- The first requester at which the sum passes the 64 GB/s of a slice (R21). -/
def overSum : Nat → Nat → List (Nat × Nat) → Option Nat
  | _, _, [] => none
  | i, n, x :: l => if 4096000 < n + x.2 then some i else overSum (i + 1) (n + x.2) l

/-- RESERVATION. -/
def Image.badRate (m : Image) (g : Grade) : Option Nat :=
  match firstBad (fun x => requesterAbsent g x.1 && decide (x.2 ≠ 0)) 0 m.rates with
  | some i => some i
  | none => overSum 0 0 m.rates

/-- ROUTE_FULL: the region. -/
def Image.fullRegion (m : Image) : Option Nat := firstBad (fun n => decide (262144 < n)) 0 m.routeNeed

/-- Two rows share a byte and belong to different cells. -/
def rowsClash (x y : ImageRow) : Bool :=
  x.cell != y.cell && decide (x.base < y.base + y.bytes.length ∧ y.base < x.base + x.bytes.length)

/-- ROW_OVERLAP: the first row that meets an earlier one (R148). -/
def overlapAt (seen : List ImageRow) : Nat → List ImageRow → Option Nat
  | _, [] => none
  | i, x :: l => if seen.any (rowsClash x) then some i else overlapAt (x :: seen) (i + 1) l

/-- Word k of a row of an image, its header at 0 and 1. -/
def ImageRow.word (r : ImageRow) (k : Nat) : W32 := BitVec.ofNat 32 (leNat ((r.bytes.drop (4 * k)).take 4))

/-- A byte of DRAM as the image leaves it, where the image gives it. -/
def Image.byteAt (m : Image) (d : Nat) : Option Byte := (m.tables.find? (fun x => x.1 == d)).map (·.2)

/-- The row table entry at an offset, where the image gives it whole. -/
def Image.entryAt (m : Image) (d : Nat) : Option Nat :=
  if (List.range 8).all (fun i => (m.byteAt (d + i)).isSome) then
    some (leNat ((List.range 8).map (fun i => (m.byteAt (d + i)).getD 0)))
  else none

/-- The header of a row names a format that R149 does not allow (R84). -/
def ImageRow.badFormat (r : ImageRow) : Bool := !(rowFormats (fld (r.word 0) 31 28) (fld (r.word 0) 27 24))

/-- A queue that the image describes. -/
def queueWord (q : Nat × List W32) (w : Nat) : W32 := q.2.getD w 0

/-- An entry of the queue's row table disagrees with its row in RFMT (R147). -/
def Image.badEntries (m : Image) (q : Nat × List W32) : Bool :=
  let rowt := fld (queueWord q 2) 3 0 * 2 ^ 32 + fld (queueWord q 3) 31 3 * 8
  (List.range (fld (queueWord q 2) 31 20 + 1)).any (fun r =>
    match m.entryAt (rowt + 8 * r) with
    | none => false
    | some e => Entry.valid e && m.rows.any (fun x => x.base == Entry.addr e && fld (x.word 0) 31 28 != Entry.rfmt e))

/-- A queue that a handler reads which may not (R678), or whose rows are formed wrongly. -/
def Image.badQueue (m : Image) (q : Nat × List W32) : Bool :=
  (bit (queueWord q 0) 22 && !(decide (fld (queueWord q 0) 21 16 = 0x05 ∨ fld (queueWord q 0) 21 16 = 0x06
    ∨ fld (queueWord q 0) 21 16 = 0x09))) || m.badEntries q

/-- FORMAT: a row, then a queue. -/
def Image.badForm (m : Image) : Option Nat :=
  match firstBad ImageRow.badFormat 0 m.rows with
  | some i => some i
  | none => firstBad m.badQueue 0 m.queues

/-- PROFILE (R119). -/
def Image.badProfile (m : Image) : Option Nat :=
  firstBad (fun p => !((profileOf (fun i => p.2.getD i 0)).ok)) 0 m.profiles

/-- KIND: a sparse row with a synapse of KIND 3 (R152). -/
def ImageRow.kind3 (r : ImageRow) : Bool :=
  decide (fld (r.word 0) 31 28 < 2)
  && (List.range (r.bytes.length / 4 - 2)).any (fun j => Syn.kind (r.word (j + 2)) == 3)

def Image.badKind (m : Image) : Option Nat := firstBad ImageRow.kind3 0 m.rows

/-- The image sets a `PG_SEC`, a secure DRAM range, a secure bank or a secure channel (R634). -/
def Image.secure (m : Image) : Bool :=
  m.channels.any (fun x => bit x.2.2 30)
  || m.regs.any (fun x => x.1 % 4096 == Reg.PG_SEC
      || (x.1 / 4096 == Page.bdr && decide (Reg.BDR_DRANGEi_BASE ≤ x.1 % 4096 ∧ x.1 % 4096 < Reg.BDR_DRANGEi_BASE + 128)))

end Sys2Proof

namespace Sys2Proof.Machine
open Sys2Proof

/-- Sum of the CAP values of a cell with the image's descriptors in place (R127). -/
def State.imageCaps (s : State) (m : Image) (c : Nat) : Nat :=
  ((List.range 512).map (fun q =>
    match m.queues.find? (fun x => x.1 == 512 * c + q) with
    | some x => fld (queueWord x 0) 10 0
    | none => s.qcap c q)).sum

/-- QUEUE_CAP. -/
def State.badCap (s : State) (m : Image) : Option Nat :=
  firstBad (fun x => decide (2048 < s.imageCaps m (x.1 / 512))) 0 m.queues

/-- CHANNEL (R241): a software handler counts where it is one of this chip. -/
def State.badChannel (s : State) (m : Image) : Option Nat :=
  firstBad (fun x =>
    let hi := x.2.2
    let h := fld hi 26 19
    fld hi 29 28 == 3 || decide (0x0D ≤ h ∧ h ≤ 0x3F)
    || (decide (0x40 ≤ h) && (bit hi 27 || fld hi 18 7 == s.chipId) && decide (s.grade.crests ≤ fld x.2.1 3 0))) 0 m.channels

/-- Code and index of the refusal of an image (R542). (DEDUCED, log 84) -/
def State.loadRefusal (s : State) (m : Image) : Option (Nat × Nat) :=
  let code (n : Nat) (o : Option Nat) : Option (Nat × Nat) := o.map (fun i => (n, i))
  (code 1 (m.badRate s.grade)) <|> (code 2 m.fullRegion) <|> (code 3 (overlapAt [] 0 m.rows)) <|> (code 4 m.badForm)
  <|> (code 5 m.badProfile) <|> (code 6 (s.badCap m)) <|> (code 7 (s.badChannel m)) <|> (code 8 m.badKind)
  <|> (if m.secure && !(s.verifies m.raw 1) then some (9, 0) else none)

/-! ## Loading -/

/-- The loader writes as secure firmware. -/
def loaderReq : Requester := { who := .rfg 0, mmode := true }

/-- A configuration register takes its value from the image. -/
def State.loadReg (s : State) (x : Nat × W32) : State :=
  let p := x.1 / 4096
  let off := x.1 % 4096
  if presentIn s.grade p = false then s.absentAcc
  else if (pageKind p).window then (if postedWindow p then s.applyRoutePost (.word x.1 x.2) else s)
  else if off = Reg.PG_SEC then s.secWrite p x.2
  else if off = Reg.PG_CTRL then s.ctrlWrite p (x.2 &&& 0xFFFFFFFD)
  else if off = Reg.PG_ERR_EN then s.setReg p off (x.2 &&& errBits (pageKind p))
  else if off = Reg.PG_INT_EN ∨ off = Reg.PG_SCRATCH then s.setReg p off x.2
  else match regRow p off with
    | none => s
    | some row =>
      match row.half with
      | .single => s.writeReg loaderReq p off row x.2
      | .low => s.holdLow loaderReq (p * 4096 + off) x.2
      | .high => s.highWrite loaderReq p off row x.2

/-- Rows and tables go to DRAM. -/
def State.loadDram (s : State) (m : Image) : State :=
  let put (s : State) (d : Nat) (l : List Byte) : State := if d + l.length ≤ dramBytes s.grade then s.dramStore d l else s
  m.tables.foldl (fun s x => put s x.1 [x.2]) (m.rows.foldl (fun s r => put s r.base r.bytes) s)

/-- Profiles, descriptors, axons and neurons go to their cells. A queue that the image does not open is CLOSED. -/
def State.loadCells (s : State) (m : Image) : State :=
  let s := m.profiles.foldl (fun s x => s.applyCellPost (x.1 / 64) (.profile (x.1 % 64) 0 (x.2.take 6))) s
  let s := m.queues.foldl (fun s x =>
    (List.range 4).foldl (fun s w =>
      let v := queueWord x w &&& qdescMask w
      s.setQword (x.1 / 512) (x.1 % 512) w (if w = 0 ∧ fld v 31 30 ≠ 0 then withFld v 31 30 1 else v)) s) s
  let s := m.axons.foldl (fun s x => s.applyCellPost (x.1 / 8192) (.axon (x.1 % 8192) x.2)) s
  m.neurons.foldl (fun s x => s.applyCellPost (x.1 / 8192) (.neuron (x.1 % 8192) x.2.1 x.2.2)) s

/-- Route entries and channels; the free list is built anew from the VALID bits (R226). -/
def State.loadRoutes (s : State) (m : Image) : State :=
  let s := m.routes.foldl (fun s x =>
    let k := routeKey (x.1 / 2 ^ 18) (x.1 % 2 ^ 18)
    (List.range 3).foldl (fun s w => s.applyRoutePost (.word (k.1 * 4096 + k.2 + 4 * w) (x.2.getD w 0))) s) s
  let s := m.channels.foldl (fun s x =>
    let k := channelKey x.1
    (s.applyRoutePost (.word (k.1 * 4096 + k.2) x.2.1)).applyRoutePost (.word (k.1 * 4096 + k.2 + 4) x.2.2)) s
  { s with fabric := { s.fabric with taken := [] } }

/-- Every post-trace and modulator clears (R277). -/
def State.clearTraces (s : State) : State :=
  let s : State := { s with cells := { s.cells with
    neurons := (s.cells.neurons.map (fun n => (n.1, { n.2 with post := 0 }))).filter (fun n => n.2 != Neuron.zero) } }
  (List.range 2048).foldl (fun s c =>
    [Reg.CEL_MOD, Reg.CEL_MODL0, Reg.CEL_MODL0 + 4, Reg.CEL_MODL0 + 8, Reg.CEL_MODL0 + 12].foldl
      (fun s off => s.setReg (Page.cell c) off 0) s) s

/-- `BDR_YUN_DIGEST0`–`BDR_YUN_DIGEST15` (R634). -/
def State.loadDigest (s : State) (m : Image) : State :=
  let d := Config.sha512 m.raw
  let s := (List.range 16).foldl (fun s i =>
    s.setReg Page.bdr (Reg.BDR_YUN_DIGEST0 + 4 * i) (BitVec.ofNat 32 (d.toNat / 2 ^ (32 * i)))) s
  s.setSec { s.sec with yunasil := true }

/-- An accepted image. -/
def State.takeYunasil (s : State) (m : Image) : State :=
  let s : State := { s with dram := { s.dram with rates := some (m.rates.foldl (fun t x => setNum t x.1 (x.2 % 2 ^ 22)) []) } }
  let s := (s.setReg64 (Page.die 0) Reg.DRM_SYN_BASE m.synBase).setReg64 (Page.die 0) Reg.DRM_SYN_LIMIT m.synLimit
  let s := ((s.loadDram m).clearTraces.loadCells m).loadRoutes m
  (m.regs.foldl State.loadReg s).loadDigest m

/-- YUNASIL_LOAD. A refused image changes nothing but `CHP_LOAD_ERR` (R542). -/
def execYunasilLoad (image : Image) (s : State) : Host.Outcome State Fault Refusal :=
  if (s.atReady && s.clocked) = false then .next s
  else match s.loadRefusal image with
    | some x => .next (s.setReg Page.chp Reg.CHP_LOAD_ERR (BitVec.ofNat 32 (x.1 * 2 ^ 24 + x.2 % 2 ^ 24)))
    | none => .next (s.takeYunasil image)

end Sys2Proof.Machine
end

