-- ==== Sys2Proof/Machine/Clock.lean ====
section
/-! DEFINITION. One cycle in which no command waits: a nanosecond of the 1 GHz timebase, or one cycle of the always-on
oscillator while the timebase is stopped (R37, R73, R341, R431, R463, R502, R603, R617). -/
namespace Sys2Proof.Machine
open Sys2Proof

/-- The step timer counts down to zero; TICK takes it from there (R37, R41). -/
def State.timerCycle (s : State) : State :=
  if s.ticking then s.setStep { s.step with remaining := s.step.remaining - 1 } else s

/-- Everything that moves on the timebase in one nanosecond. -/
def State.unitCycle (s : State) : State :=
  s.timerCycle.tmrCycle.encDrain.injectDrain.trvCycle.cairnDrain

/-- One cycle: 1 ns on the timebase, 5 ns on the oscillator. (DESIGN CHOICE, log 2; DESIGN CHOICE, log 31) -/
def State.idleCycle (s : State) : State :=
  if s.timebase then
    let t : State := { s with elapsed := s.elapsed + 1 }
    (if s.clocked then t.unitCycle else t).powerCycle
  else { s with elapsed := s.elapsed + 5 }.powerCycle

end Sys2Proof.Machine
end

