-- ==== Sys2Proof/Machine/Dispatch.lean ====
section
/-! DEFINITION. One arm for each command: the meaning that it calls. -/
namespace Sys2Proof.Machine

/-- The effect of a command on everything but the queue. (DESIGN CHOICE, log 3) -/
def exec (i : Instr) (s : State) : Host.Outcome State Fault Refusal :=
  match i with
  | .registerWrite req addr bytes v => Sys2Proof.Machine.execRegisterWrite req addr bytes v s
  | .rcRead req addr bytes => Sys2Proof.Machine.execRcRead req addr bytes s
  | .lowWordRead req addr => Sys2Proof.Machine.execLowWordRead req addr s
  | .yunasilLoad image => Sys2Proof.Machine.execYunasilLoad image s
  | .tick => Sys2Proof.Machine.execTick s
  | .stepTimerStart req => Sys2Proof.Machine.execStepTimerStart req s
  | .stepTimerStop req => Sys2Proof.Machine.execStepTimerStop req s
  | .stpPeriodWrite req v => Sys2Proof.Machine.execStpPeriodWrite req v s
  | .tickPacketSend => Sys2Proof.Machine.execTickPacketSend s
  | .tickPacketReceive port => Sys2Proof.Machine.execTickPacketReceive port s
  | .tickLeadExpiry => Sys2Proof.Machine.execTickLeadExpiry s
  | .flywheelTick => Sys2Proof.Machine.execFlywheelTick s
  | .tickInEdge => Sys2Proof.Machine.execTickInEdge s
  | .heldTickRelease => Sys2Proof.Machine.execHeldTickRelease s
  | .neuronUpdate cell => Sys2Proof.Machine.execNeuronUpdate cell s
  | .cellUpdateDone cell => Sys2Proof.Machine.execCellUpdateDone cell s
  | .blockUpdateDone block => Sys2Proof.Machine.execBlockUpdateDone block s
  | .regionUpdateDone region => Sys2Proof.Machine.execRegionUpdateDone region s
  | .cellQuiescent cell => Sys2Proof.Machine.execCellQuiescent cell s
  | .blockQuiescent block => Sys2Proof.Machine.execBlockQuiescent block s
  | .regionQuiescent region => Sys2Proof.Machine.execRegionQuiescent region s
  | .cut => Sys2Proof.Machine.execCut s
  | .collectionWave => Sys2Proof.Machine.execCollectionWave s
  | .summit => Sys2Proof.Machine.execSummit s
  | .summitRelease unit => Sys2Proof.Machine.execSummitRelease unit s
  | .summitWatchdogExpiry => Sys2Proof.Machine.execSummitWatchdogExpiry s
  | .elapsedWrap => Sys2Proof.Machine.execElapsedWrap s
  | .fence req => Sys2Proof.Machine.execFence req s
  | .fenceComplete req => Sys2Proof.Machine.execFenceComplete req s
  | .satWindowWrite req page limit v => Sys2Proof.Machine.execSatWindowWrite req page limit v s
  | .srSeedWrite req page v => Sys2Proof.Machine.execSrSeedWrite req page v s
  | .postedCellWrite req site off v => Sys2Proof.Machine.execPostedCellWrite req site off v s
  | .qdescWrite req site word v => Sys2Proof.Machine.execQdescWrite req site word v s
  | .queueResetDone cell queue => Sys2Proof.Machine.execQueueResetDone cell queue s
  | .eventEnqueue block => Sys2Proof.Machine.execEventEnqueue block s
  | .queueHeadTake cell => Sys2Proof.Machine.execQueueHeadTake cell s
  | .rowTableReadComplete item => Sys2Proof.Machine.execRowTableReadComplete item s
  | .rowFetchComplete item => Sys2Proof.Machine.execRowFetchComplete item s
  | .writeBackComplete cell row => Sys2Proof.Machine.execWriteBackComplete cell row s
  | .handshakeStall site boundary => Sys2Proof.Machine.execHandshakeStall site boundary s
  | .dramRequestServe slice pick symbols => Sys2Proof.Machine.execDramRequestServe slice pick symbols s
  | .reservationWindow slice => Sys2Proof.Machine.execReservationWindow slice s
  | .postedSynapseWrite req addr bytes => Sys2Proof.Machine.execPostedSynapseWrite req addr bytes s
  | .postedWriteAdmit slice => Sys2Proof.Machine.execPostedWriteAdmit slice s
  | .refreshChange slice temp => Sys2Proof.Machine.execRefreshChange slice temp s
  | .rowRemapComplete slice => Sys2Proof.Machine.execRowRemapComplete slice s
  | .patrolScrub slice symbols => Sys2Proof.Machine.execPatrolScrub slice symbols s
  | .drmRemapAdd req die v => Sys2Proof.Machine.execDrmRemapAdd req die v s
  | .slicePowerDown slice => Sys2Proof.Machine.execSlicePowerDown slice s
  | .tarnAccess bank owner req atomic dma loadStore => Sys2Proof.Machine.execTarnAccess bank owner req atomic dma loadStore s
  | .addS32 bank owner req offset operand => Sys2Proof.Machine.execAddS32 bank owner req offset operand s
  | .addFp32 bank owner req offset operand => Sys2Proof.Machine.execAddFp32 bank owner req offset operand s
  | .swap bank owner req offset operand => Sys2Proof.Machine.execSwap bank owner req offset operand s
  | .tarOwnerWrite req bank v => Sys2Proof.Machine.execTarOwnerWrite req bank v s
  | .handoverDrainDone bank => Sys2Proof.Machine.execHandoverDrainDone bank s
  | .bankClearDone bank => Sys2Proof.Machine.execBankClearDone bank s
  | .tarPwrWrite req bank v => Sys2Proof.Machine.execTarPwrWrite req bank v s
  | .bankPowerChange bank => Sys2Proof.Machine.execBankPowerChange bank s
  | .sidePortAccess bank req op waited busy => Sys2Proof.Machine.execSidePortAccess bank req op waited busy s
  | .packetReceive router port ok => Sys2Proof.Machine.execPacketReceive router port ok s
  | .packetForward router out slot => Sys2Proof.Machine.execPacketForward router out slot s
  | .slotFrameEnd router => Sys2Proof.Machine.execSlotFrameEnd router s
  | .starvation router => Sys2Proof.Machine.execStarvation router s
  | .fabSwap req page => Sys2Proof.Machine.execFabSwap req page s
  | .routeTableWrite req page off v => Sys2Proof.Machine.execRouteTableWrite req page off v s
  | .rteAlloc req region pick => Sys2Proof.Machine.execRteAlloc req region pick s
  | .rteRelease req region v => Sys2Proof.Machine.execRteRelease req region v s
  | .spikeRecordTake region => Sys2Proof.Machine.execSpikeRecordTake region s
  | .routeEntryFollow region chain => Sys2Proof.Machine.execRouteEntryFollow region chain s
  | .chnTxGo req engine v => Sys2Proof.Machine.execChnTxGo req engine v s
  | .ping node => Sys2Proof.Machine.execPing node s
  | .inject block => Sys2Proof.Machine.execInject block s
  | .readState block => Sys2Proof.Machine.execReadState block s
  | .writeState block => Sys2Proof.Machine.execWriteState block s
  | .setProfile block => Sys2Proof.Machine.execSetProfile block s
  | .openQueue block => Sys2Proof.Machine.execOpenQueue block s
  | .closeQueue block => Sys2Proof.Machine.execCloseQueue block s
  | .readRow block => Sys2Proof.Machine.execReadRow block s
  | .writeRow block => Sys2Proof.Machine.execWriteRow block s
  | .rowApply block => Sys2Proof.Machine.execRowApply block s
  | .routeInsert region pick => Sys2Proof.Machine.execRouteInsert region pick s
  | .routeRelease region => Sys2Proof.Machine.execRouteRelease region s
  | .gateSet region => Sys2Proof.Machine.execGateSet region s
  | .softwareHandler => Sys2Proof.Machine.execSoftwareHandler s
  | .answer node => Sys2Proof.Machine.execAnswer node s
  | .retry engine => Sys2Proof.Machine.execRetry engine s
  | .messageTimeout engine => Sys2Proof.Machine.execMessageTimeout engine s
  | .chnCqPop req engine => Sys2Proof.Machine.execChnCqPop req engine s
  | .chnRxNext req engine v => Sys2Proof.Machine.execChnRxNext req engine v s
  | .sweeperRow region => Sys2Proof.Machine.execSweeperRow region s
  | .sweeperPassDone region => Sys2Proof.Machine.execSweeperPassDone region s
  | .checkpointComplete => Sys2Proof.Machine.execCheckpointComplete s
  | .rulesetWrite req off v => Sys2Proof.Machine.execRulesetWrite req off v s
  | .ckptBaseWrite req v => Sys2Proof.Machine.execCkptBaseWrite req v s
  | .nop plt => Sys2Proof.Machine.execNop plt s
  | .gemm plt order => Sys2Proof.Machine.execGemm plt order s
  | .gemmAcc plt order => Sys2Proof.Machine.execGemmAcc plt order s
  | .conv1d plt order => Sys2Proof.Machine.execConv1d plt order s
  | .fft plt => Sys2Proof.Machine.execFft plt s
  | .elt plt => Sys2Proof.Machine.execElt plt s
  | .reduce plt order => Sys2Proof.Machine.execReduce plt order s
  | .expNorm plt order => Sys2Proof.Machine.execExpNorm plt order s
  | .quant plt => Sys2Proof.Machine.execQuant plt s
  | .dequant plt => Sys2Proof.Machine.execDequant plt s
  | .spkGather plt => Sys2Proof.Machine.execSpkGather plt s
  | .spkEmit plt => Sys2Proof.Machine.execSpkEmit plt s
  | .sgdUpdate plt => Sys2Proof.Machine.execSgdUpdate plt s
  | .surrogate plt => Sys2Proof.Machine.execSurrogate plt s
  | .jobEnd plt cycles => Sys2Proof.Machine.execJobEnd plt cycles s
  | .pltDtTail req plt v => Sys2Proof.Machine.execPltDtTail req plt v s
  | .detachedPreempt plt => Sys2Proof.Machine.execDetachedPreempt plt s
  | .abortDt req plt v => Sys2Proof.Machine.execAbortDt req plt v s
  | .pltSideAccess req plt op waited busy => Sys2Proof.Machine.execPltSideAccess req plt op waited busy s
  | .linkEnable req link v => Sys2Proof.Machine.execLinkEnable req link v s
  | .jesdSyncLock link => Sys2Proof.Machine.execJesdSyncLock link s
  | .jesdEmbLock link => Sys2Proof.Machine.execJesdEmbLock link s
  | .jesdAligned link jitter => Sys2Proof.Machine.execJesdAligned link jitter s
  | .jesdLinkLoss link lane => Sys2Proof.Machine.execJesdLinkLoss link lane s
  | .sysrefEdge off => Sys2Proof.Machine.execSysrefEdge off s
  | .jesdMultiblock link ok frames => Sys2Proof.Machine.execJesdMultiblock link ok frames s
  | .channelStart req chan v => Sys2Proof.Machine.execChannelStart req chan v s
  | .channelStop req chan v => Sys2Proof.Machine.execChannelStop req chan v s
  | .encPostedWrite req chan off v => Sys2Proof.Machine.execEncPostedWrite req chan off v s
  | .level chan => Sys2Proof.Machine.execLevel chan s
  | .delta chan => Sys2Proof.Machine.execDelta chan s
  | .zc chan => Sys2Proof.Machine.execZc chan s
  | .peak chan => Sys2Proof.Machine.execPeak chan s
  | .latency chan => Sys2Proof.Machine.execLatency chan s
  | .block chan => Sys2Proof.Machine.execBlock chan s
  | .blockComplete chan => Sys2Proof.Machine.execBlockComplete chan s
  | .csi2FrameStart rx vc ecc => Sys2Proof.Machine.execCsi2FrameStart rx vc ecc s
  | .csi2LongPacket rx vc dt ecc crcOk payload => Sys2Proof.Machine.execCsi2LongPacket rx vc dt ecc crcOk payload s
  | .templateWrite req rx word v => Sys2Proof.Machine.execTemplateWrite req rx word v s
  | .aerWord port word => Sys2Proof.Machine.execAerWord port word s
  | .aerAckRelease port => Sys2Proof.Machine.execAerAckRelease port s
  | .mapLookup src => Sys2Proof.Machine.execMapLookup src s
  | .mapMissFill miss => Sys2Proof.Machine.execMapMissFill miss s
  | .evcMapFlush req => Sys2Proof.Machine.execEvcMapFlush req s
  | .portTrainingStart port => Sys2Proof.Machine.execPortTrainingStart port s
  | .detectRetry port => Sys2Proof.Machine.execDetectRetry port s
  | .detectDone port => Sys2Proof.Machine.execDetectDone port s
  | .eqDone port => Sys2Proof.Machine.execEqDone port s
  | .laneTestDone port good => Sys2Proof.Machine.execLaneTestDone port good s
  | .widthAgreed port partner => Sys2Proof.Machine.execWidthAgreed port partner s
  | .laneFail port lane => Sys2Proof.Machine.execLaneFail port lane s
  | .degradeWindow port => Sys2Proof.Machine.execDegradeWindow port s
  | .portDown port => Sys2Proof.Machine.execPortDown port s
  | .linkFrame port frame => Sys2Proof.Machine.execLinkFrame port frame s
  | .replayRequestTimeout port => Sys2Proof.Machine.execReplayRequestTimeout port s
  | .hello port frame => Sys2Proof.Machine.execHello port frame s
  | .latencyMeasure port => Sys2Proof.Machine.execLatencyMeasure port s
  | .latProbe port frame => Sys2Proof.Machine.execLatProbe port frame s
  | .latEcho port frame => Sys2Proof.Machine.execLatEcho port frame s
  | .trvAssign req port v => Sys2Proof.Machine.execTrvAssign req port v s
  | .assign port frame => Sys2Proof.Machine.execAssign port frame s
  | .trvChipId req v => Sys2Proof.Machine.execTrvChipId req v s
  | .joinRequest req v => Sys2Proof.Machine.execJoinRequest req v s
  | .joinReq port frame => Sys2Proof.Machine.execJoinReq port frame s
  | .summitJoinReq port => Sys2Proof.Machine.execSummitJoinReq port s
  | .joinGrant port => Sys2Proof.Machine.execJoinGrant port s
  | .summitJoinRefuse port => Sys2Proof.Machine.execSummitJoinRefuse port s
  | .joinRefuse port frame => Sys2Proof.Machine.execJoinRefuse port frame s
  | .joinAck port frame => Sys2Proof.Machine.execJoinAck port frame s
  | .mtable port frame => Sys2Proof.Machine.execMtable port frame s
  | .joinTimeout => Sys2Proof.Machine.execJoinTimeout s
  | .leaveRequest req v => Sys2Proof.Machine.execLeaveRequest req v s
  | .leave port frame => Sys2Proof.Machine.execLeave port frame s
  | .absentDeclare port => Sys2Proof.Machine.execAbsentDeclare port s
  | .absent port => Sys2Proof.Machine.execAbsent port s
  | .orphan => Sys2Proof.Machine.execOrphan s
  | .probe port => Sys2Proof.Machine.execProbe port s
  | .token port => Sys2Proof.Machine.execToken port s
  | .release port => Sys2Proof.Machine.execRelease port s
  | .freezePacket port => Sys2Proof.Machine.execFreezePacket port s
  | .retrain req port v => Sys2Proof.Machine.execRetrain req port v s
  | .trvSwap req port => Sys2Proof.Machine.execTrvSwap req port s
  | .remoteAccess req addr bytes data => Sys2Proof.Machine.execRemoteAccess req addr bytes data s
  | .readReq port => Sys2Proof.Machine.execReadReq port s
  | .write port => Sys2Proof.Machine.execWrite port s
  | .readRsp => Sys2Proof.Machine.execReadRsp s
  | .completion => Sys2Proof.Machine.execCompletion s
  | .remoteTimeout => Sys2Proof.Machine.execRemoteTimeout s
  | .ethFrameReceive port frame => Sys2Proof.Machine.execEthFrameReceive port frame s
  | .ethLinkChange port link speed => Sys2Proof.Machine.execEthLinkChange port link speed s
  | .umhomaHello port => Sys2Proof.Machine.execUmhomaHello port s
  | .helloClaim port => Sys2Proof.Machine.execHelloClaim port s
  | .helloRelease port => Sys2Proof.Machine.execHelloRelease port s
  | .attest port => Sys2Proof.Machine.execAttest port s
  | .regRead port => Sys2Proof.Machine.execRegRead port s
  | .regWrite port => Sys2Proof.Machine.execRegWrite port s
  | .bulkRead port => Sys2Proof.Machine.execBulkRead port s
  | .bulkWrite port => Sys2Proof.Machine.execBulkWrite port s
  | .eventInject port => Sys2Proof.Machine.execEventInject port s
  | .notify => Sys2Proof.Machine.execNotify s
  | .notifyAck port => Sys2Proof.Machine.execNotifyAck port s
  | .notifyResend => Sys2Proof.Machine.execNotifyResend s
  | .ownerIdleTimeout => Sys2Proof.Machine.execOwnerIdleTimeout s
  | .dropOwner req v => Sys2Proof.Machine.execDropOwner req v s
  | .streamBufferSend port engine => Sys2Proof.Machine.execStreamBufferSend port engine s
  | .ethSeTail req port engine v => Sys2Proof.Machine.execEthSeTail req port engine v s
  | .streamRingSend port engine => Sys2Proof.Machine.execStreamRingSend port engine s
  | .rawTx req port v => Sys2Proof.Machine.execRawTx req port v s
  | .ethTsTxId req port => Sys2Proof.Machine.execEthTsTxId req port s
  | .coreRun req core => Sys2Proof.Machine.execCoreRun req core s
  | .coreReset req core => Sys2Proof.Machine.execCoreReset req core s
  | .machineTimer core => Sys2Proof.Machine.execMachineTimer core s
  | .crestWdogExpiry core => Sys2Proof.Machine.execCrestWdogExpiry core s
  | .crsWdogKick req core => Sys2Proof.Machine.execCrsWdogKick req core s
  | .l3Flush req => Sys2Proof.Machine.execL3Flush req s
  | .l3FlushDone => Sys2Proof.Machine.execL3FlushDone s
  | .heartbeatMiss core pc => Sys2Proof.Machine.execHeartbeatMiss core pc s
  | .rfgRestart req v pc => Sys2Proof.Machine.execRfgRestart req v pc s
  | .restartCopyDone core => Sys2Proof.Machine.execRestartCopyDone core s
  | .restartDigestDone core ok => Sys2Proof.Machine.execRestartDigestDone core ok s
  | .rfgHbKick req core => Sys2Proof.Machine.execRfgHbKick req core s
  | .restartTimeout core pc => Sys2Proof.Machine.execRestartTimeout core pc s
  | .crnPush req core v => Sys2Proof.Machine.execCrnPush req core v s
  | .sourceAssert src => Sys2Proof.Machine.execSourceAssert src s
  | .moderationExpiry src => Sys2Proof.Machine.execModerationExpiry src s
  | .wfiEntry ctx => Sys2Proof.Machine.execWfiEntry ctx s
  | .picClaim req ctx => Sys2Proof.Machine.execPicClaim req ctx s
  | .picComplete req ctx v => Sys2Proof.Machine.execPicComplete req ctx v s
  | .picPendSet req word v => Sys2Proof.Machine.execPicPendSet req word v s
  | .picPendClr req word v => Sys2Proof.Machine.execPicPendClr req word v s
  | .wakeLatchEdge latch => Sys2Proof.Machine.execWakeLatchEdge latch s
  | .colSend req chan v => Sys2Proof.Machine.execColSend req chan v s
  | .colLastWordRead req chan => Sys2Proof.Machine.execColLastWordRead req chan s
  | .timerWrap timer => Sys2Proof.Machine.execTimerWrap timer s
  | .compareMatch timer channel => Sys2Proof.Machine.execCompareMatch timer channel s
  | .timerStart req timer => Sys2Proof.Machine.execTimerStart req timer s
  | .timerStop req timer => Sys2Proof.Machine.execTimerStop req timer s
  | .loadNow req timer => Sys2Proof.Machine.execLoadNow req timer s
  | .tmrPeriodWrite req timer v => Sys2Proof.Machine.execTmrPeriodWrite req timer v s
  | .tmrGstart req v => Sys2Proof.Machine.execTmrGstart req v s
  | .captureEdge pin rising => Sys2Proof.Machine.execCaptureEdge pin rising s
  | .captureRead req timer channel => Sys2Proof.Machine.execCaptureRead req timer channel s
  | .crcInit req crcUnit => Sys2Proof.Machine.execCrcInit req crcUnit s
  | .crcData8 req crcUnit v => Sys2Proof.Machine.execCrcData8 req crcUnit v s
  | .crcData16 req crcUnit v => Sys2Proof.Machine.execCrcData16 req crcUnit v s
  | .crcData32 req crcUnit v => Sys2Proof.Machine.execCrcData32 req crcUnit v s
  | .softReset req page => Sys2Proof.Machine.execSoftReset req page s
  | .errorInject req page v => Sys2Proof.Machine.execErrorInject req page v s
  | .pgIntSet req page v => Sys2Proof.Machine.execPgIntSet req page v s
  | .pgLock req page v => Sys2Proof.Machine.execPgLock req page v s
  | .pgSecWrite req page v => Sys2Proof.Machine.execPgSecWrite req page v s
  | .errorRecordWrite => Sys2Proof.Machine.execErrorRecordWrite s
  | .powerOn src => Sys2Proof.Machine.execPowerOn src s
  | .otpStage supplyOk unlocked => Sys2Proof.Machine.execOtpStage supplyOk unlocked s
  | .dramTrain ok => Sys2Proof.Machine.execDramTrain ok s
  | .dramRowTest rows => Sys2Proof.Machine.execDramRowTest rows s
  | .bootLaneTest bad => Sys2Proof.Machine.execBootLaneTest bad s
  | .imageFetch answers image => Sys2Proof.Machine.execImageFetch answers image s
  | .imageVerify => Sys2Proof.Machine.execImageVerify s
  | .chpBootImg req v => Sys2Proof.Machine.execChpBootImg req v s
  | .knownAnswerRun sites engines => Sys2Proof.Machine.execKnownAnswerRun sites engines s
  | .ready => Sys2Proof.Machine.execReady s
  | .warmN => Sys2Proof.Machine.execWarmN s
  | .chpReset req v => Sys2Proof.Machine.execChpReset req v s
  | .warmPathDigest => Sys2Proof.Machine.execWarmPathDigest s
  | .migrationComplete block bad badTrace badPool => Sys2Proof.Machine.execMigrationComplete block bad badTrace badPool s
  | .blkMigrate req block v => Sys2Proof.Machine.execBlkMigrate req block v s
  | .blkRestore req block => Sys2Proof.Machine.execBlkRestore req block s
  | .restoreDone block => Sys2Proof.Machine.execRestoreDone block s
  | .fabricProgressExpiry page => Sys2Proof.Machine.execFabricProgressExpiry page s
  | .collectDone => Sys2Proof.Machine.execCollectDone s
  | .collectTimeout => Sys2Proof.Machine.execCollectTimeout s
  | .killDone tj => Sys2Proof.Machine.execKillDone tj s
  | .recoveryRetrainDone fail => Sys2Proof.Machine.execRecoveryRetrainDone fail s
  | .reloadDone => Sys2Proof.Machine.execReloadDone s
  | .freezeNLow => Sys2Proof.Machine.execFreezeNLow s
  | .freeze req => Sys2Proof.Machine.execFreeze req s
  | .freezeStopped => Sys2Proof.Machine.execFreezeStopped s
  | .resume req => Sys2Proof.Machine.execResume req s
  | .freezeNRise => Sys2Proof.Machine.execFreezeNRise s
  | .recover req => Sys2Proof.Machine.execRecover req s
  | .resumeComplete => Sys2Proof.Machine.execResumeComplete s
  | .jtagAccess addr write => Sys2Proof.Machine.execJtagAccess addr write s
  | .pwrReqNap req => Sys2Proof.Machine.execPwrReqNap req s
  | .pwrReqSleep req => Sys2Proof.Machine.execPwrReqSleep req s
  | .pwrReqRun req => Sys2Proof.Machine.execPwrReqRun req s
  | .entryComplete => Sys2Proof.Machine.execEntryComplete s
  | .wake pins => Sys2Proof.Machine.execWake pins s
  | .aonTimerExpiry => Sys2Proof.Machine.execAonTimerExpiry s
  | .energyDetect port => Sys2Proof.Machine.execEnergyDetect port s
  | .pllEnable req pll v => Sys2Proof.Machine.execPllEnable req pll v s
  | .pllLock pll => Sys2Proof.Machine.execPllLock pll s
  | .pllUnlock pll => Sys2Proof.Machine.execPllUnlock pll s
  | .clkDsrc req v => Sys2Proof.Machine.execClkDsrc req v s
  | .throttleRaise tj => Sys2Proof.Machine.execThrottleRaise tj s
  | .throttleLower tj => Sys2Proof.Machine.execThrottleLower tj s
  | .thermalShutdown tj sensor => Sys2Proof.Machine.execThermalShutdown tj sensor s
  | .screeSample ds => Sys2Proof.Machine.execScreeSample ds s
  | .epochFuseBurn => Sys2Proof.Machine.execEpochFuseBurn s
  | .ledgerExport req => Sys2Proof.Machine.execLedgerExport req s
  | .ledgerRestore req => Sys2Proof.Machine.execLedgerRestore req s
  | .brownOut => Sys2Proof.Machine.execBrownOut s
  | .pgMainRise => Sys2Proof.Machine.execPgMainRise s
  | .pwrVidWrite req v => Sys2Proof.Machine.execPwrVidWrite req v s
  | .vidStep => Sys2Proof.Machine.execVidStep s
  | .bdrVerify req v => Sys2Proof.Machine.execBdrVerify req v s
  | .verifyDone => Sys2Proof.Machine.execVerifyDone s
  | .slot req arg => Sys2Proof.Machine.execSlot req arg s
  | .revoke req arg => Sys2Proof.Machine.execRevoke req arg s
  | .arb req arg => Sys2Proof.Machine.execArb req arg s
  | .config req arg => Sys2Proof.Machine.execConfig req arg s
  | .epoch req => Sys2Proof.Machine.execEpoch req s
  | .otpCmdDone good => Sys2Proof.Machine.execOtpCmdDone good s
  | .drangeWrite req range isLimit v => Sys2Proof.Machine.execDrangeWrite req range isLimit v s
  | .drangeClearDone => Sys2Proof.Machine.execDrangeClearDone s
  | .newChallenge req => Sys2Proof.Machine.execNewChallenge req s
  | .relock req => Sys2Proof.Machine.execRelock req s
  | .dbgToken req v => Sys2Proof.Machine.execDbgToken req v s
  | .tokenCheckDone => Sys2Proof.Machine.execTokenCheckDone s
  | .trngTestFail again => Sys2Proof.Machine.execTrngTestFail again s
  | .bdrTrngData req got => Sys2Proof.Machine.execBdrTrngData req got s
  | .jesdCdrLock link => Sys2Proof.Machine.execJesdCdrLock link s
  | .csi2LockChange rx locked => Sys2Proof.Machine.execCsi2LockChange rx locked s
  | .aerReqFall port => Sys2Proof.Machine.execAerReqFall port s
  | .crestCacheError core cache line => Sys2Proof.Machine.execCrestCacheError core cache line s

end Sys2Proof.Machine
end

