-- ==== Sys2Proof/Machine/Step.lean ====
section
/-! DEFINITION. One step: the command at the front of the queue, or one idle cycle where none waits. -/
namespace Sys2Proof.Machine
open Sys2Proof

/-- Take the front command and run it with the queue's rest; on an empty queue, one cycle passes. (DESIGN CHOICE, log 1) -/
def step (s : State) : Host.Outcome State Fault Refusal :=
  match s.pending with
  | [] => .next s.idleCycle
  | c :: rest => exec c { s with pending := rest }

/-- The command that a word of the table spells goes to the front of the queue; the table spells none, as no row has bits. -/
def State.withFetchWord (s : State) (nbits w : Nat) : State :=
  match decodeTableWord nbits w with
  | some c => { s with pending := c :: s.pending }
  | none => s

end Sys2Proof.Machine
end

