-- ==== Sys2Proof/Safety.lean ====
section
/-! DEFINITION. What a sound state, a safe step and the frame of a command are. -/
namespace Sys2Proof.Machine
open Sys2Proof

/-- Memory is in canonical form: addresses strictly rising, and no byte listed that reads as an unlisted one. -/
def Memory.wf (m : List Host.Cell) : Bool := Store.wf memDefault m

/-- The registers are in canonical form: no register listed at its reset value. -/
def Registers.wf (m : Store W32) : Bool := Store.wf regDefault m

/-- A state whose memory and registers are in canonical form, so that equal contents are equal data. -/
def State.Sound (s : State) : Prop := Registers.wf s.regs = true ∧ Memory.wf s.mem = true

/-- The step answers a next state. -/
def State.Runs (s : State) : Prop := ∃ t, Sys2Proof.Machine.step s = .next t

/-! ## Frames -/

/-- The parts of the state, each a field of its own; `read` is what the last read returned, `halves` the held and latched
halves of 64-bit registers. -/
inductive Part where
  | grade | queue | elapsed | fresh | regs | mem | poison | read | halves | step | cells | dram | tarn | fabric | engines
  | learn | pic | plts | ingress | trv | eth | proc | tmr | fault | boot | power | scree | sec
deriving DecidableEq, Repr

/-- A part is the same in two states. -/
def Part.same (x : Part) (s t : State) : Prop :=
  match x with
  | .grade => t.grade = s.grade
  | .queue => t.pending = s.pending
  | .elapsed => t.elapsed = s.elapsed
  | .fresh => t.fresh = s.fresh
  | .regs => t.regs = s.regs
  | .mem => t.mem = s.mem
  | .poison => t.poison = s.poison
  | .read => t.rdata = s.rdata ∧ t.rpoison = s.rpoison
  | .halves => t.heldLow = s.heldLow ∧ t.latchedHigh = s.latchedHigh
  | .step => t.step = s.step
  | .cells => t.cells = s.cells
  | .dram => t.dram = s.dram
  | .tarn => t.tarn = s.tarn
  | .fabric => t.fabric = s.fabric
  | .engines => t.engines = s.engines
  | .learn => t.learn = s.learn
  | .pic => t.pic = s.pic
  | .plts => t.plts = s.plts
  | .ingress => t.ingress = s.ingress
  | .trv => t.trv = s.trv
  | .eth => t.eth = s.eth
  | .proc => t.proc = s.proc
  | .tmr => t.tmr = s.tmr
  | .fault => t.fault = s.fault
  | .boot => t.boot = s.boot
  | .power => t.power = s.power
  | .scree => t.scree = s.scree
  | .sec => t.sec = s.sec

/-- Every part but the listed ones is the same. -/
def State.only (s t : State) (changed : List Part) : Prop := ∀ x, x ∉ changed → x.same s t

/-- Every register but the listed ones, given as page and offset, is the same. -/
def State.regsBut (s t : State) (changed : List (Nat × Nat)) : Prop :=
  ∀ p off, off < 4096 → (p, off) ∉ changed → t.reg p off = s.reg p off

/-- Every byte of memory outside [a, a + n) reads as before. -/
def State.bytesBut (s t : State) (a n : Nat) : Prop := ∀ x, x < a ∨ a + n ≤ x → t.byte x = s.byte x

/-- The register has counted n more; a counter stops at 0xFFFF_FFFF. -/
def State.counted (s t : State) (p off n : Nat) : Prop :=
  (t.reg p off).toNat = min 0xFFFFFFFF ((s.reg p off).toNat + n)

/-- The command completes, and the next state is as `p` says. -/
def State.does (s : State) (c : Instr) (p : State → Prop) : Prop := ∃ t, exec c s = .next t ∧ p t

/-- A write of the requester to the register is taken: the page is present, its attribute and owner admit the requester, no
lock bars the write, and no fence of the requester is outstanding (R6, R71, R539, R540). -/
def State.takes (s : State) (r : Requester) (p off : Nat) : Prop := (s.judgeWrite r p off).1 = true

/-- The same for the bits of a register that a lock does not bar: WO and W1S (R540). -/
def State.takesWo (s : State) (r : Requester) (p off : Nat) : Prop := (s.admitWith false r p off).1 = true

/-- A Traverse port takes a frame of a type: its FEC and CRC hold, and a DATA or CTRL frame is the one expected (R374–R377). -/
def State.takesFrame (s : State) (p : Nat) (f : LinkRx) (ty : Nat) : Prop :=
  s.clocked = true ∧ s.trvUsable p = true ∧ f.uncorrectable = 0
  ∧ frameCrc f.words (frameCtl f.words) = frameCtl f.words % 2 ^ 32 ∧ bitsOf (frameCtl f.words) 63 62 = ty
  ∧ (ty = 1 ∨ ty = 3 ∨ bitsOf (frameCtl f.words) 60 49 = (s.trvPort p).rxSeq)

/-- The oldest packet of a port's SUMMIT channel is a SUMMIT packet of a kind (R399). -/
def State.summitHead (s : State) (p kind : Nat) (k : Packet) : Prop :=
  s.clocked = true ∧ (s.trvPort p).summitIn.head?.map (·.2) = some k ∧ summitKind kind k = true

end Sys2Proof.Machine
end

