-- ==== Sys2Proof/WellFormed.lean ====
section
/-! DEFINITION. Commands whose operands are ones that a sender can send: addresses of 52 bits, accesses of a size that the
buses know, offsets within a page, frames of 64 words (R361, R443, R525, R527). The meanings are total and do not rest on
it. -/
namespace Sys2Proof

/-- A physical address (R525). -/
def addrOk (a : Nat) : Bool := decide (a < 2 ^ 52)

/-- A size of an access: a power of two up to 64 bytes (R443). -/
def sizeOk (n : Nat) : Bool := [1, 2, 4, 8, 16, 32, 64].contains n

/-- A page number and an offset within a page (R528). -/
def pageOk (p : Nat) : Bool := decide (p < 0x100000)
def offOk (o : Nat) : Bool := decide (o < 4096) && o % 4 == 0

/-- A word of a Tarn bank (R176). -/
def bankWord (o : Nat) : Bool := decide (o < 0x80000) && o % 4 == 0

/-- An access within `n` bytes of SRAM (R181, R189). -/
def TarnOp.within (n : Nat) : TarnOp → Bool
  | .load o b => sizeOk b && decide (o + b ≤ n)
  | .store o l => sizeOk l.length && decide (o + l.length ≤ n)
  | .atomic _ o _ => decide (o + 4 ≤ n) && o % 4 == 0

/-- An access to a Tarn bank, and to the local SRAM of an array. -/
def TarnOp.wf (op : TarnOp) : Bool := op.within 0x80000
def TarnOp.wfPlt (op : TarnOp) : Bool := op.within 0x1000000

/-- A link frame: 64 words on five lanes (R361). -/
def LinkRx.wf (f : LinkRx) : Bool := decide (f.words.length = 64 ∧ f.symbols.length ≤ 5)

/-- An image: its rows hold a header and whole words at 16-byte boundaries, and its keys lie in their tables. -/
def Image.wf (m : Image) : Bool :=
  m.rates.all (fun x => decide (x.1 < 4096 ∧ x.2 < 2 ^ 22))
  && m.rows.all (fun r => decide (r.cell < 2048 ∧ 8 ≤ r.bytes.length) && r.bytes.length % 4 == 0 && r.base % 16 == 0)
  && m.profiles.all (fun x => decide (x.1 < 2048 * 64 ∧ x.2.length = 8))
  && m.queues.all (fun x => decide (x.1 < 2048 * 512 ∧ x.2.length = 4))
  && m.axons.all (fun x => decide (x.1 < 2 ^ 24)) && m.neurons.all (fun x => decide (x.1 < 2 ^ 24))
  && m.routes.all (fun x => decide (x.1 < 2 ^ 21 ∧ x.2.length = 4)) && decide (m.routeNeed.length ≤ 8)
  && m.channels.all (fun x => decide (x.1 < 2 ^ 15)) && m.regs.all (fun x => pageOk (x.1 / 4096) && offOk (x.1 % 4096))

/-- The command is well formed. -/
def Instr.wf : Instr → Bool
  | .registerWrite _ addr bytes v => addrOk addr && decide (bytes ≤ 8 ∧ v.toNat < 2 ^ (8 * bytes)) && sizeOk bytes
  | .rcRead _ addr bytes => addrOk addr && sizeOk bytes
  | .lowWordRead _ addr => addrOk addr
  | .yunasilLoad image => image.wf
  | .tick => true
  | .stepTimerStart _ => true
  | .stepTimerStop _ => true
  | .stpPeriodWrite _ _ => true
  | .tickPacketSend => true
  | .tickPacketReceive _ => true
  | .tickLeadExpiry => true
  | .flywheelTick => true
  | .tickInEdge => true
  | .heldTickRelease => true
  | .neuronUpdate _ => true
  | .cellUpdateDone _ => true
  | .blockUpdateDone _ => true
  | .regionUpdateDone _ => true
  | .cellQuiescent _ => true
  | .blockQuiescent _ => true
  | .regionQuiescent _ => true
  | .cut => true
  | .collectionWave => true
  | .summit => true
  | .summitRelease _ => true
  | .summitWatchdogExpiry => true
  | .elapsedWrap => true
  | .fence _ => true
  | .fenceComplete _ => true
  | .satWindowWrite _ page _ _ => pageOk page
  | .srSeedWrite _ page _ => pageOk page
  | .postedCellWrite _ _ off _ => offOk off
  | .qdescWrite _ _ _ _ => true
  | .queueResetDone _ _ => true
  | .eventEnqueue _ => true
  | .queueHeadTake _ => true
  | .rowTableReadComplete _ => true
  | .rowFetchComplete _ => true
  | .writeBackComplete _ _ => true
  | .handshakeStall _ _ => true
  | .dramRequestServe _ _ _ => true
  | .reservationWindow _ => true
  | .postedSynapseWrite _ addr bytes => addrOk addr && sizeOk bytes.length
  | .postedWriteAdmit _ => true
  | .refreshChange _ _ => true
  | .rowRemapComplete _ => true
  | .patrolScrub _ _ => true
  | .drmRemapAdd _ _ _ => true
  | .slicePowerDown _ => true
  | .tarnAccess _ owner _ atomic dma loadStore => decide (owner < 9) && atomic.all TarnOp.wf && dma.all TarnOp.wf && loadStore.all TarnOp.wf
  | .addS32 _ owner _ offset _ => decide (owner < 9) && bankWord offset
  | .addFp32 _ owner _ offset _ => decide (owner < 9) && bankWord offset
  | .swap _ owner _ offset _ => decide (owner < 9) && bankWord offset
  | .tarOwnerWrite _ _ _ => true
  | .handoverDrainDone _ => true
  | .bankClearDone _ => true
  | .tarPwrWrite _ _ _ => true
  | .bankPowerChange _ => true
  | .sidePortAccess _ _ op _ _ => op.wf
  | .packetReceive _ _ _ => true
  | .packetForward _ _ _ => true
  | .slotFrameEnd _ => true
  | .starvation _ => true
  | .fabSwap _ page => pageOk page
  | .routeTableWrite _ page off _ => pageOk page && offOk off
  | .rteAlloc _ _ _ => true
  | .rteRelease _ _ _ => true
  | .spikeRecordTake _ => true
  | .routeEntryFollow _ _ => true
  | .chnTxGo _ _ _ => true
  | .ping _ => true
  | .inject _ => true
  | .readState _ => true
  | .writeState _ => true
  | .setProfile _ => true
  | .openQueue _ => true
  | .closeQueue _ => true
  | .readRow _ => true
  | .writeRow _ => true
  | .rowApply _ => true
  | .routeInsert _ _ => true
  | .routeRelease _ => true
  | .gateSet _ => true
  | .softwareHandler => true
  | .answer _ => true
  | .retry _ => true
  | .messageTimeout _ => true
  | .chnCqPop _ _ => true
  | .chnRxNext _ _ _ => true
  | .sweeperRow _ => true
  | .sweeperPassDone _ => true
  | .checkpointComplete => true
  | .rulesetWrite _ off _ => offOk off
  | .ckptBaseWrite _ _ => true
  | .nop _ => true
  | .gemm _ _ => true
  | .gemmAcc _ _ => true
  | .conv1d _ _ => true
  | .fft _ => true
  | .elt _ => true
  | .reduce _ _ => true
  | .expNorm _ _ => true
  | .quant _ => true
  | .dequant _ => true
  | .spkGather _ => true
  | .spkEmit _ => true
  | .sgdUpdate _ => true
  | .surrogate _ => true
  | .jobEnd _ _ => true
  | .pltDtTail _ _ _ => true
  | .detachedPreempt _ => true
  | .abortDt _ _ _ => true
  | .pltSideAccess _ _ op _ _ => op.wfPlt
  | .linkEnable _ _ _ => true
  | .jesdSyncLock _ => true
  | .jesdEmbLock _ => true
  | .jesdAligned _ _ => true
  | .jesdLinkLoss _ _ => true
  | .sysrefEdge _ => true
  | .jesdMultiblock _ _ _ => true
  | .channelStart _ _ _ => true
  | .channelStop _ _ _ => true
  | .encPostedWrite _ _ off _ => offOk off
  | .level _ => true
  | .delta _ => true
  | .zc _ => true
  | .peak _ => true
  | .latency _ => true
  | .block _ => true
  | .blockComplete _ => true
  | .csi2FrameStart _ _ _ => true
  | .csi2LongPacket _ _ _ _ _ payload => decide (payload.length < 65536)
  | .templateWrite _ _ _ _ => true
  | .aerWord _ _ => true
  | .aerAckRelease _ => true
  | .mapLookup _ => true
  | .mapMissFill _ => true
  | .evcMapFlush _ => true
  | .portTrainingStart _ => true
  | .detectRetry _ => true
  | .detectDone _ => true
  | .eqDone _ => true
  | .laneTestDone _ _ => true
  | .widthAgreed _ _ => true
  | .laneFail _ _ => true
  | .degradeWindow _ => true
  | .portDown _ => true
  | .linkFrame _ frame => frame.wf
  | .replayRequestTimeout _ => true
  | .hello _ frame => frame.wf
  | .latencyMeasure _ => true
  | .latProbe _ frame => frame.wf
  | .latEcho _ frame => frame.wf
  | .trvAssign _ _ _ => true
  | .assign _ frame => frame.wf
  | .trvChipId _ _ => true
  | .joinRequest _ _ => true
  | .joinReq _ frame => frame.wf
  | .summitJoinReq _ => true
  | .joinGrant _ => true
  | .summitJoinRefuse _ => true
  | .joinRefuse _ frame => frame.wf
  | .joinAck _ frame => frame.wf
  | .mtable _ frame => frame.wf
  | .joinTimeout => true
  | .leaveRequest _ _ => true
  | .leave _ frame => frame.wf
  | .absentDeclare _ => true
  | .absent _ => true
  | .orphan => true
  | .probe _ => true
  | .token _ => true
  | .release _ => true
  | .freezePacket _ => true
  | .retrain _ _ _ => true
  | .trvSwap _ _ => true
  | .remoteAccess _ addr bytes data => addrOk addr && sizeOk bytes && data.all (fun l => decide (l.length = bytes))
  | .readReq _ => true
  | .write _ => true
  | .readRsp => true
  | .completion => true
  | .remoteTimeout => true
  | .ethFrameReceive _ frame => decide (14 ≤ frame.length)
  | .ethLinkChange _ _ _ => true
  | .umhomaHello _ => true
  | .helloClaim _ => true
  | .helloRelease _ => true
  | .attest _ => true
  | .regRead _ => true
  | .regWrite _ => true
  | .bulkRead _ => true
  | .bulkWrite _ => true
  | .eventInject _ => true
  | .notify => true
  | .notifyAck _ => true
  | .notifyResend => true
  | .ownerIdleTimeout => true
  | .dropOwner _ _ => true
  | .streamBufferSend _ _ => true
  | .ethSeTail _ _ _ _ => true
  | .streamRingSend _ _ => true
  | .rawTx _ _ _ => true
  | .ethTsTxId _ _ => true
  | .coreRun _ _ => true
  | .coreReset _ _ => true
  | .machineTimer _ => true
  | .crestWdogExpiry _ => true
  | .crsWdogKick _ _ => true
  | .l3Flush _ => true
  | .l3FlushDone => true
  | .heartbeatMiss _ _ => true
  | .rfgRestart _ _ _ => true
  | .restartCopyDone _ => true
  | .restartDigestDone _ _ => true
  | .rfgHbKick _ _ => true
  | .restartTimeout _ _ => true
  | .crnPush _ _ _ => true
  | .sourceAssert _ => true
  | .moderationExpiry _ => true
  | .wfiEntry _ => true
  | .picClaim _ _ => true
  | .picComplete _ _ _ => true
  | .picPendSet _ _ _ => true
  | .picPendClr _ _ _ => true
  | .wakeLatchEdge _ => true
  | .colSend _ _ _ => true
  | .colLastWordRead _ _ => true
  | .timerWrap _ => true
  | .compareMatch _ _ => true
  | .timerStart _ _ => true
  | .timerStop _ _ => true
  | .loadNow _ _ => true
  | .tmrPeriodWrite _ _ _ => true
  | .tmrGstart _ _ => true
  | .captureEdge _ _ => true
  | .captureRead _ _ _ => true
  | .crcInit _ _ => true
  | .crcData8 _ _ _ => true
  | .crcData16 _ _ _ => true
  | .crcData32 _ _ _ => true
  | .softReset _ page => pageOk page
  | .errorInject _ page _ => pageOk page
  | .pgIntSet _ page _ => pageOk page
  | .pgLock _ page _ => pageOk page
  | .pgSecWrite _ page _ => pageOk page
  | .errorRecordWrite => true
  | .powerOn _ => true
  | .otpStage _ _ => true
  | .dramTrain _ => true
  | .dramRowTest rows => rows.all (fun r => decide (r.1 < 128 ∧ r.2.1 < 16 ∧ r.2.2 < 16384))
  | .bootLaneTest _ => true
  | .imageFetch _ image => decide (image.length ≤ 655360)
  | .imageVerify => true
  | .chpBootImg _ _ => true
  | .knownAnswerRun _ _ => true
  | .ready => true
  | .warmN => true
  | .chpReset _ _ => true
  | .warmPathDigest => true
  | .migrationComplete _ _ _ _ => true
  | .blkMigrate _ _ _ => true
  | .blkRestore _ _ => true
  | .restoreDone _ => true
  | .fabricProgressExpiry page => pageOk page
  | .collectDone => true
  | .collectTimeout => true
  | .killDone _ => true
  | .recoveryRetrainDone _ => true
  | .reloadDone => true
  | .freezeNLow => true
  | .freeze _ => true
  | .freezeStopped => true
  | .resume _ => true
  | .freezeNRise => true
  | .recover _ => true
  | .resumeComplete => true
  | .jtagAccess addr _ => addrOk addr
  | .pwrReqNap _ => true
  | .pwrReqSleep _ => true
  | .pwrReqRun _ => true
  | .entryComplete => true
  | .wake _ => true
  | .aonTimerExpiry => true
  | .energyDetect _ => true
  | .pllEnable _ _ _ => true
  | .pllLock _ => true
  | .pllUnlock _ => true
  | .clkDsrc _ _ => true
  | .throttleRaise _ => true
  | .throttleLower _ => true
  | .thermalShutdown _ _ => true
  | .screeSample ds => decide (ds.length = 297)
  | .epochFuseBurn => true
  | .ledgerExport _ => true
  | .ledgerRestore _ => true
  | .brownOut => true
  | .pgMainRise => true
  | .pwrVidWrite _ _ => true
  | .vidStep => true
  | .bdrVerify _ _ => true
  | .verifyDone => true
  | .slot _ _ => true
  | .revoke _ _ => true
  | .arb _ _ => true
  | .config _ _ => true
  | .epoch _ => true
  | .otpCmdDone _ => true
  | .drangeWrite _ _ _ _ => true
  | .drangeClearDone => true
  | .newChallenge _ => true
  | .relock _ => true
  | .dbgToken _ _ => true
  | .tokenCheckDone => true
  | .trngTestFail _ => true
  | .bdrTrngData _ _ => true
  | .jesdCdrLock _ => true
  | .csi2LockChange _ _ => true
  | .aerReqFall _ => true
  | .crestCacheError _ _ line => addrOk line

end Sys2Proof
end

