-- ==== Sys2Proof/Certificates/Slice0/Obligations.lean ====
section
/-! DEFINITION. The statements for the provers. Each says what commands of a family do to the state, under hypotheses on the
state and the operands alone, and what they leave unchanged. -/
open Sys2Proof Sys2Proof.Machine

/-- A step takes the command at the front of the queue and runs it with the queue's rest. -/
def Obligations.StepRunsFront : Prop :=
  ∀ (c : Instr) (rest : List Instr) (s : State),
    step { s with pending := c :: rest } = exec c { s with pending := rest }

/-- On an empty queue one cycle passes: 1 ns of the timebase, or 5 ns of the always-on oscillator (R73); that a step is a
cycle is the model's choice. -/
def Obligations.EmptyQueuePassesTime : Prop :=
  ∀ s : State, s.pending = [] →
    ∃ t, step s = .next t ∧ t.elapsed = s.elapsed + (if s.timebase then 1 else 5) ∧ t.pending = [] ∧ t.grade = s.grade

/-- The state out of reset is sound, and no command waits in it. -/
def Obligations.ResetIsSound : Prop := State.reset.Sound ∧ State.reset.pending = []

/-- The canonical form of registers and memory is an invariant of every step. -/
def Obligations.StepKeepsSound : Prop :=
  ∀ s t : State, s.Sound → step s = .next t → t.Sound

/-- Every command of the table completes in every state, and leaves the queue and the grade as they were. -/
def Obligations.EveryCommandCompletes : Prop :=
  ∀ (c : Instr) (s : State), s.does c (fun t => t.pending = s.pending ∧ t.grade = s.grade)

/-- No command but a power-on, a brown-out and the wrap changes `STP_ELAPSED_NS` (R73, R76). -/
def Obligations.ElapsedTimeIsKept : Prop :=
  ∀ (c : Instr) (s t : State), (∀ src, c ≠ .powerOn src) → c ≠ .brownOut → c ≠ .elapsedWrap →
    exec c s = .next t → t.elapsed = s.elapsed

/-- REGISTER_WRITE to a register whose write only stores, by its type code (R10). -/
def Obligations.RegisterWriteActsByType : Prop :=
  ∀ (s : State) (req : Requester) (p off : Nat) (row : RegRow) (v : W32),
    p < 0x100000 → 0x40 ≤ off → off < 4096 → off % 4 = 0 → (pageKind p).window = false →
    regRow p off = some row → row.half = .single → s.viewPage p off = some p →
    s.writeActs req p off v = none → s.takes req p off → row.access ≠ .wo →
    s.does (.registerWrite req (regAddr p off) 4 (v.setWidth 64)) (fun t =>
      let m := storeMask p off row
      let x := s.reg p off
      t.reg p off = (match row.access with
        | .plain => (x &&& ~~~ m) ||| (v &&& m)
        | .w1c => x &&& ~~~ (v &&& m)
        | .w1s => x ||| (v &&& m)
        | _ => x)
      ∧ s.only t [.regs] ∧ s.regsBut t [(p, off)])

/-- RC_READ: the read returns the counter and clears it (R10). -/
def Obligations.RcReadClears : Prop :=
  ∀ (s : State) (req : Requester) (p off : Nat) (row : RegRow),
    p < 0x100000 → 0x40 ≤ off → off < 4096 → off % 4 = 0 → (pageKind p).window = false →
    regRow p off = some row → row.half = .single → row.access = .rc → pageKind p ≠ .drmSlice →
    s.viewPage p off = some p → s.readActs req p off = none → s.mayRead req p off = true →
    s.does (.rcRead req (regAddr p off) 4) (fun t =>
      t.rdata = (s.view p off).toNat ∧ t.rpoison = false ∧ t.reg p off = 0
      ∧ s.only t [.regs, .read] ∧ s.regsBut t [(p, off)])

/-- LOW_WORD_READ: the high word is latched for the reading requester (R72, R527). -/
def Obligations.LowWordReadLatchesHigh : Prop :=
  ∀ (s : State) (req : Requester) (p off : Nat),
    p < 0x100000 → off < 4092 → off % 4 = 0 → is64 p off = true → isRc p off = false → readsZero p off = false →
    s.readActs req p off = none → s.mayRead req p off = true →
    s.does (.lowWordRead req (regAddr p off)) (fun t =>
      t.rdata = (s.view p off).toNat
      ∧ (∀ u : State, u.latchedHigh = t.latchedHigh → (u.highRead req p (off + 4)).rdata = (s.view p (off + 4)).toNat)
      ∧ s.only t [.read, .halves] ∧ t.heldLow = s.heldLow)

/-- REGISTER_WRITE refused: only the refusal is counted (R6, R526, R539, R540). -/
def Obligations.RefusedWritesAreOnlyCounted : Prop :=
  ∀ (s : State) (req : Requester) (p off : Nat) (v : W32), s.clocked = true → s.step.fences.contains req = false →
    p < 0x100000 → off < 4096 → off % 4 = 0 →
    let counted (t : State) (reg : Nat) (ints : List (Nat × Nat)) : Prop :=
      (t.reg Page.chp reg).toNat = min 0xFFFFFFFF ((s.reg Page.chp reg).toNat + 1)
      ∧ s.only t [.regs] ∧ s.regsBut t ((Page.chp, reg) :: ints)
    let c := Instr.registerWrite req (regAddr p off) 4 (v.setWidth 64)
    (∀ a, addrRegion a = .unmapped → a % 4 = 0 →
      s.does (.registerWrite req a 4 (v.setWidth 64)) (fun t =>
        counted t Reg.CHP_UNMAPPED [(Page.chp, Reg.PG_INT)] ∧ bit (t.reg Page.chp Reg.PG_INT) 1 = true))
    ∧ (presentIn s.grade p = false →
        s.does c (fun t => counted t Reg.CHP_ABSENT_ACC [(Page.chp, Reg.PG_INT)] ∧ bit (t.reg Page.chp Reg.PG_INT) 0 = true))
    ∧ (presentIn s.grade p = true → pageKind p ≠ .col →
        (s.secBars req p off = true ∨ ownerAdmits (s.regFld (owningPage p) Reg.PG_SEC 4 0) req = false) →
        s.does c (fun t => counted t Reg.CHP_SEC_REFUSED [(Page.chp, Reg.PG_INT)] ∧ bit (t.reg Page.chp Reg.PG_INT) 2 = true))
    ∧ (presentIn s.grade p = true → s.secBars req p off = false →
        ownerAdmits (s.regFld (owningPage p) Reg.PG_SEC 4 0) req = true →
        bit (s.reg (owningPage p) Reg.PG_LOCK) 0 = true → lockable p off = true → actBits p off = 0 →
        s.does c (fun t => counted t Reg.CHP_LOCK_REFUSED []))

/-- PG_INT_SET, PG_LOCK and PG_SEC_WRITE (R536, R538, R540). -/
def Obligations.HeaderWritesActAlone : Prop :=
  ∀ (s : State) (req : Requester) (p : Nat) (v : W32), hasHeader p = true →
    (s.takesWo req p Reg.PG_INT_SET → s.takes req p Reg.PG_INT_SET →
      s.does (.pgIntSet req p v) (fun t =>
        t.reg p Reg.PG_INT = s.reg p Reg.PG_INT ||| (v &&& intBits (pageKind p))
        ∧ s.only t [.regs] ∧ s.regsBut t [(p, Reg.PG_INT)]))
    ∧ (s.takes req p Reg.PG_LOCK →
      s.does (.pgLock req p v) (fun t =>
        t.reg p Reg.PG_LOCK = s.reg p Reg.PG_LOCK ||| (v &&& 1) ∧ s.only t [.regs] ∧ s.regsBut t [(p, Reg.PG_LOCK)]))
    ∧ (s.takes req p Reg.PG_SEC → pageKind p ≠ .col → pageKind p ≠ .tar →
      s.does (.pgSecWrite req p v) (fun t =>
        t.reg p Reg.PG_SEC = v &&& 0x8000001F ∧ s.only t [.regs] ∧ s.regsBut t [(p, Reg.PG_SEC)]))

/-- SOFT_RESET and ERROR_INJECT (R533, R535). -/
def Obligations.SoftResetAndInjection : Prop :=
  ∀ (s : State) (req : Requester) (p : Nat) (v : W32), hasHeader p = true →
    (s.takes req p Reg.PG_CTRL → pageKind p ∉ [.cel, .drmSlice, .drmDie, .dbg] →
      s.does (.softReset req p) (fun t =>
        (∀ off, off < 4096 → softKeeps p off = false → t.reg p off = pageReset p off)
        ∧ t.elapsed = s.elapsed ∧ t.pending = s.pending ∧ t.heldLow = s.heldLow))
    ∧ (s.takesWo req p Reg.PG_ERR_SET → pageKind p ≠ .rfgCore → p ≠ Page.chp →
      s.does (.errorInject req p v) (fun t =>
        (∀ b, b < 32 → bit v b = true → bit (errBits (pageKind p)) b = true → bit (t.reg p Reg.PG_ERR) b = true)
        ∧ t.elapsed = s.elapsed ∧ t.mem = s.mem))

/-- YUNASIL_LOAD: the sum of the reservations (R21). -/
def Obligations.ImageReservationsFit : Prop :=
  ∀ (s : State) (m : Image), s.atReady = true → s.clocked = true →
    (4096000 < (m.rates.map (·.2)).sum →
      s.does (.yunasilLoad m) (fun t =>
        fld (t.reg Page.chp Reg.CHP_LOAD_ERR) 31 24 = 1 ∧ s.only t [.regs] ∧ s.regsBut t [(Page.chp, Reg.CHP_LOAD_ERR)]))
    ∧ (s.loadRefusal m = none → s.does (.yunasilLoad m) (fun t =>
        (m.rates.map (·.2)).sum ≤ 4096000 ∧ t.dram.rates.isSome = true ∧ t.sec.yunasil = true))

/-- JTAG_ACCESS (R594, R595, R647). -/
def Obligations.JtagAccessByLevel : Prop :=
  ∀ (s : State) (a : Nat) (v : W32), a % 4 = 0 →
    (s.frzState ≠ Frz.frozen → s.debugLevel ≠ 0 →
      s.does (.jtagAccess a none) (fun t => t = s.busRead jtagReq a 4)
      ∧ s.does (.jtagAccess a (some v)) (fun t => t = s.busWrite jtagReq a 4 v.toNat))
    ∧ (s.frzState = Frz.frozen → frozenPage a = false → s.debugLevel = 0 →
      s.does (.jtagAccess a none) (fun t => t.rdata = 0 ∧ s.only t [.read])
      ∧ s.does (.jtagAccess a (some v)) (fun t => t = s))
    ∧ (s.frzState = Frz.frozen → frozenPage a = false → s.debugLevel ≠ 0 → addrRegion a = .dump →
      s.does (.jtagAccess a (some v)) (fun t =>
        bit (t.reg Page.frz Reg.FRZ_STAT) 15 = true ∧ t.bytes a 4 = leBytes 4 v.toNat ∧ s.bytesBut t a 4
        ∧ s.only t [.regs, .mem] ∧ s.regsBut t [(Page.frz, Reg.FRZ_STAT)]))

/-- TICK (R39–R41, R64). -/
def Obligations.TickBeginsOrHolds : Prop :=
  ∀ s : State, s.tickSource = 0 →
    (s.ticking = true → s.step.remaining = 0 → s.stepOpen = false → s.step.release = [] → s.joinHolds = false →
      s.step.heldTick = false →
      s.does .tick (fun t => t.stepNo = (s.stepNo + 1) % 2 ^ 64 ∧ t.reg64 Page.stp Reg.STP_TICK_NS = s.elapsed % 2 ^ 64
        ∧ t.step.phase = .update ∧ t.step.summited = false ∧ bit (t.reg Page.stp Reg.PG_INT) 0 = true
        ∧ ((∀ w, s.step.written = some w → w.1 ≠ s.elapsed) → t.step.remaining = (s.reg Page.stp Reg.STP_PERIOD).toNat)
        ∧ (∀ v, s.step.written = some (s.elapsed, v) → t.step.remaining = v.toNat)
        ∧ s.only t [.regs, .step, .cells, .fabric, .trv, .ingress, .plts, .tmr, .learn, .dram, .fresh]))
    ∧ (s.ticking = true → s.step.remaining = 0 → s.policy = 2 → s.stepOpen = true →
      s.does .tick (fun t => t.step.heldTick = true ∧ t.stepNo = s.stepNo ∧ t.step.phase = s.step.phase
        ∧ s.only t [.regs, .step]))
    ∧ ((s.ticking = false ∨ s.step.remaining ≠ 0) → s.does .tick (fun t => t = s))

/-- TICK with the step open: the forced summit (R58, R59, R675). -/
def Obligations.OverrunForcesTheSummit : Prop :=
  ∀ s : State, s.tickSource = 0 → s.ticking = true → s.step.remaining = 0 → s.policy ≠ 2 → s.stepOpen = true →
    s.step.overrun = false →
    s.does .tick (fun t => t.stepNo = (s.stepNo + 1) % 2 ^ 64 ∧ t.step.phase = .update
      ∧ (t.reg Page.stp Reg.STP_OVERRUNS).toNat = min 0xFFFFFFFF ((s.reg Page.stp Reg.STP_OVERRUNS).toNat + 1)
      ∧ bit (t.reg Page.stp Reg.PG_INT) 2 = true ∧ bit (t.reg Page.stp Reg.STP_STAT) 8 = true
      ∧ s.only t [.regs, .mem, .poison, .step, .cells, .fabric, .trv, .ingress, .plts, .tmr, .learn, .dram, .tarn, .eth, .fault, .fresh])

/-- STEP_TIMER_START and STEP_TIMER_STOP (R41). -/
def Obligations.TimerStartsAndStops : Prop :=
  ∀ (s : State) (req : Requester), s.takes req Page.stp Reg.PG_CTRL →
    (s.running = false → s.does (.stepTimerStart req) (fun t =>
      t.running = true ∧ t.step.remaining = (s.reg Page.stp Reg.STP_PERIOD).toNat
      ∧ t.reg Page.stp Reg.STP_PERIOD_ACT = s.reg Page.stp Reg.STP_PERIOD
      ∧ s.only t [.regs, .step] ∧ s.regsBut t [(Page.stp, Reg.PG_CTRL), (Page.stp, Reg.STP_PERIOD_ACT)]))
    ∧ (s.running = true → s.does (.stepTimerStop req) (fun t =>
      t.running = false ∧ t.step.remaining = s.step.remaining ∧ t.stepNo = s.stepNo ∧ t.step.heldTick = false
      ∧ t.step.heldEdge = false ∧ t.step.leadDue = none
      ∧ s.only t [.regs, .mem, .poison, .step, .cells, .fabric, .ingress, .learn, .dram]))

/-- STP_PERIOD_WRITE (R38). -/
def Obligations.PeriodWriteIsRanged : Prop :=
  ∀ (s : State) (req : Requester) (v : W32), s.takes req Page.stp Reg.STP_PERIOD →
    (10000 ≤ v.toNat ∧ v.toNat ≤ 100000000 → s.does (.stpPeriodWrite req v) (fun t =>
      t.reg Page.stp Reg.STP_PERIOD = v ∧ t.step.remaining = s.step.remaining ∧ t.reloadValue = s.reloadValue
      ∧ s.only t [.regs, .step] ∧ s.regsBut t [(Page.stp, Reg.STP_PERIOD)]))
    ∧ (v.toNat < 10000 ∨ 100000000 < v.toNat → s.does (.stpPeriodWrite req v) (fun t =>
      t.reg Page.stp Reg.STP_PERIOD = s.reg Page.stp Reg.STP_PERIOD ∧ bit (t.reg Page.stp Reg.PG_ERR) 0 = true
      ∧ s.only t [.regs] ∧ s.regsBut t [(Page.stp, Reg.PG_ERR)]))

/-- TICK_PACKET_SEND, TICK_PACKET_RECEIVE, TICK_LEAD_EXPIRY, FLYWHEEL_TICK, TICK_IN_EDGE and HELD_TICK_RELEASE (R42, R43,
R45, R46, R64, R65). -/
def Obligations.TickSources : Prop :=
  ∀ s : State, s.ticking = true →
    let begins (t : State) : Prop := t.stepNo = (s.stepNo + 1) % 2 ^ 64 ∧ t.step.phase = .update ∧ t.step.heldTick = false
      ∧ t.step.leadDue = none ∧ t.step.flywheel = none
      ∧ s.only t [.regs, .step, .cells, .fabric, .trv, .ingress, .plts, .tmr, .learn, .dram, .fresh]
    (s.tickMaster = true → s.policy ≠ 2 → s.step.leadSent = false →
      s.step.remaining ≤ (s.reg Page.stp Reg.STP_TICK_LEAD).toNat →
      s.does .tickPacketSend (fun t => t.step.leadSent = true ∧ t.step.remaining = s.step.remaining ∧ s.only t [.step, .fabric]))
    ∧ (∀ (port : Fin 16) (at_ : Nat) (k : Packet) (l : List (Nat × Packet)), s.clocked = true →
      (s.trvPort port).summitIn = (at_, k) :: l → k.ty = 0xB → s.tickSource = 1 →
      (s.reg (Page.trv port) Reg.TRV_LAT_NS).toNat ≤ (k.word 1).toNat → (k.word 1).toNat < 2 ^ 31 →
      s.does (.tickPacketReceive port) (fun t =>
        t.step.leadDue = some (at_ + (k.word 1).toNat - (s.reg (Page.trv port) Reg.TRV_LAT_NS).toNat)
        ∧ (t.trvPort port).summitIn = l ∧ t.stepNo = s.stepNo ∧ s.only t [.regs, .step, .fabric, .trv, .fresh]
        ∧ s.regsBut t [(Page.stp, Reg.STP_TICK_LAT_NS)]))
    ∧ (s.stepOpen = false → s.step.release = [] →
      (∀ due, s.step.leadDue = some due → due ≤ s.elapsed → s.tickSource = 1 → s.does .tickLeadExpiry begins)
      ∧ (∀ since, s.step.flywheel = some since → since + 1000 ≤ s.elapsed → s.tickSource ≠ 0 → s.policy ≠ 2 →
        s.does .flywheelTick (fun t => begins t ∧ t.step.remaining = s.step.remaining))
      ∧ (s.step.lastEdge = none → s.tickSource = 2 →
        s.does .tickInEdge (fun t => begins t ∧ t.step.lastEdge = some s.elapsed
          ∧ t.step.remaining = s.reloadValue.toNat))
      ∧ (s.step.heldTick = true → s.joinHolds = false → s.does .heldTickRelease begins))
    ∧ (∀ last, s.step.lastEdge = some last → s.elapsed < last + 10000 → s.tickSource = 2 →
      s.does .tickInEdge (fun t => s.only t [.regs] ∧ s.regsBut t [(Page.stp, Reg.STP_TICK_MISS)]
        ∧ (t.reg Page.stp Reg.STP_TICK_MISS).toNat = min 0xFFFFFFFF ((s.reg Page.stp Reg.STP_TICK_MISS).toNat + 1)))

/-- The reports of a step (R28, R49, R51, R52, R676). -/
def Obligations.ReportsOfAStep : Prop :=
  ∀ s : State,
    (∀ cell : Fin 2048, s.mustUpdate cell = true → s.nextActive cell = none →
      s.does (.cellUpdateDone cell) (fun t => cell.val ∈ t.cells.updated ∧ s.only t [.cells]
        ∧ t.cells.neurons = s.cells.neurons ∧ t.cells.pool = s.cells.pool))
    ∧ (∀ block : Fin 128, s.updating = true → s.blockCopies block = false →
      (∀ c ∈ blockCells block, c ∈ s.cells.updated) →
      s.does (.blockUpdateDone block) (fun t => block.val ∈ t.step.blkUpd ∧ t.step.phase = s.step.phase ∧ s.only t [.step]))
    ∧ (∀ region : Fin 8, s.updating = true → region.val ∉ s.step.rgnUpd →
      (∀ i, i < 16 → 16 * region.val + i ∈ s.step.blkUpd) →
      s.does (.regionUpdateDone region) (fun t => region.val ∈ t.step.rgnUpd
        ∧ (t.step.rgnUpd.length = 8 → t.step.phase = .deliver) ∧ s.only t [.step, .plts, .regs, .fresh]))
    ∧ (∀ cell : Fin 2048, s.runs (11 + cell.val / 16) = true → s.cellQuiescent cell = true →
      s.does (.cellQuiescent cell) (fun t => cell.val ∈ t.cells.quiet ∧ t.cells.pool = s.cells.pool ∧ s.only t [.cells]))
    ∧ (∀ block : Fin 128, s.timebase = true → s.stepOpen = true → block.val ∈ s.step.blkUpd → s.outputEmpty block = true →
      (∀ c ∈ blockCells block, s.cellQuiescent c = true ∧ c ∈ s.cells.quiet) →
      s.does (.blockQuiescent block) (fun t => block.val ∈ t.step.blkQui ∧ t.step.phase = s.step.phase ∧ s.only t [.step]))
    ∧ (∀ region : Fin 8, s.timebase = true → s.stepOpen = true → region.val ∈ s.step.rgnUpd → s.regionClear region = true →
      (∀ i, i < 16 → 16 * region.val + i ∈ s.step.blkQui) → (∀ i, i < 256 → s.cellQuiescent (256 * region + i) = true) →
      s.sweepLate region = false →
      s.does (.regionQuiescent region) (fun t => region.val ∈ t.step.rgnQui ∧ s.only t [.step, .learn]))
    ∧ (s.ticking = true → s.stepOpen = true → s.step.phase = .deliver → s.step.rgnQui.length = 8 → s.pltsDone = true →
      s.does .cut (fun t => t.step.phase = .cut ∧ s.only t [.step]))

/-- COLLECTION_WAVE, SUMMIT, SUMMIT_RELEASE, SUMMIT_WATCHDOG_EXPIRY and ELAPSED_WRAP (R53, R54, R57, R74, R676). -/
def Obligations.SummitAndRelease : Prop :=
  ∀ s : State,
    (s.localQuiet = false → s.quietNow = false → s.does .collectionWave (fun t => t = s))
    ∧ (s.ticking = true → s.stepOpen = true → s.step.agreed = false → s.step.phase = .summitWait → s.localQuiet = true →
      s.isRoot = true → s.childMask = 0 → s.trv.tree.tokens = [] → s.does .collectionWave (fun t =>
        let w := (s.ownCounts.1 % 2 ^ 48, s.ownCounts.2 % 2 ^ 48)
        t.step.wave = some w
        ∧ (t.step.agreed = true ↔ s.step.wave = some w ∧ (w.1 = w.2 ∨ s.trv.tree.relaxed = true))
        ∧ s.only t [.step, .trv, .regs] ∧ s.regsBut t [(Page.sum, Reg.SUM_STAT)]))
    ∧ (s.ticking = true → s.stepOpen = true → s.isRoot = true → s.step.agreed = true →
      s.does .summit (fun t => t.step.summited = true ∧ 136 ∈ t.step.release ∧ t.stepNo = s.stepNo
        ∧ t.reg64 Page.stp Reg.STP_SUMMIT_NS = s.elapsed % 2 ^ 64 ∧ bit (t.reg Page.stp Reg.PG_INT) 1 = true
        ∧ s.only t [.regs, .step, .fabric, .trv]))
    ∧ (∀ unit : Fin 137, s.timebase = true → s.releaseReaches unit = true →
      s.does (.summitRelease unit) (fun t => unit.val ∉ t.step.release ∧ (unit.val = 136 → t.step.phase = .wait)
        ∧ s.only t [.regs, .mem, .poison, .step, .cells, .fabric, .trv, .ingress, .tmr, .learn, .dram, .tarn, .eth, .fault]))
    ∧ (s.ticking = true → s.watchdogLimit ≤ s.regFld Page.sum Reg.SUM_WDOG_CNT 15 0 →
      s.does .summitWatchdogExpiry (fun t => bit (t.reg Page.sum Reg.PG_INT) 1 = true ∧ t.stepNo = s.stepNo
        ∧ t.mem = s.mem ∧ t.cells = s.cells))
    ∧ (2 ^ 64 ≤ s.elapsed → s.does .elapsedWrap (fun t =>
        t.elapsed = s.elapsed - 2 ^ 64 ∧ bit (t.reg Page.stp Reg.STP_ELAPSED_WRAP) 0 = true
        ∧ bit (t.reg Page.stp Reg.PG_INT) 5 = true ∧ t.poweredNs = s.poweredNs
        ∧ s.only t [.elapsed, .regs, .scree]
        ∧ s.regsBut t [(Page.stp, Reg.STP_ELAPSED_WRAP), (Page.stp, Reg.PG_INT)]))

/-- FENCE and FENCE_COMPLETE (R71). -/
def Obligations.FenceOrders : Prop :=
  ∀ (s : State) (req : Requester),
    (s.takesWo req Page.chp Reg.CHP_FENCE →
      s.does (.fence req) (fun t => req ∈ t.step.fences ∧ s.only t [.step]
        ∧ (∀ r, r ≠ req → (r ∈ t.step.fences ↔ r ∈ s.step.fences))))
    ∧ (req ∈ s.step.fences → ∀ (p off : Nat) (v : W32), p < 0x100000 → off < 4096 → off % 4 = 0 →
      s.does (.registerWrite req (regAddr p off) 4 (v.setWidth 64)) (fun t => t = s))
    ∧ (s.clocked = true → s.writesDone req = true →
      s.does (.fenceComplete req) (fun t => req ∉ t.step.fences ∧ s.only t [.step]
        ∧ (∀ r, r ≠ req → (r ∈ t.step.fences ↔ r ∈ s.step.fences))))
    ∧ (s.writesDone req = false → s.does (.fenceComplete req) (fun t => t = s))

/-- SAT_WINDOW_WRITE and SR_SEED_WRITE (R97, R98, R104). -/
def Obligations.NumericBlockWrites : Prop :=
  ∀ (s : State) (req : Requester) (page q : Nat), numericPage page = true → page < 0x20000 →
    (∀ v : W32, s.viewPage page Reg.SAT_LIMIT = some q → s.takes req page Reg.SAT_LIMIT →
      s.does (.satWindowWrite req page true v) (fun t =>
        t.reg q Reg.SAT_LIMIT = v ∧ (∀ n, n < 8 → t.reg q (Reg.SAT_CNTn + 4 * n) = 0) ∧ numAt t.cells.satWin q = 0
        ∧ t.cells.neurons = s.cells.neurons ∧ s.only t [.regs, .cells]
        ∧ s.regsBut t ((q, Reg.SAT_LIMIT) :: (List.range 8).map (fun n => (q, Reg.SAT_CNTn + 4 * n)))))
    ∧ (∀ v : W64, s.viewPage page Reg.SR_SEED = some q → s.takesWo req page Reg.SR_SEED →
      s.does (.srSeedWrite req page v) (fun t =>
        (s.running = false → ∀ n ∈ srSites q, t.lfsr q n = seedOf (v ^^^ BitVec.ofNat 64 n))
        ∧ (s.running = true → t.cells.lfsr = s.cells.lfsr ∧ Store.find t.cells.seeds q = some v)
        ∧ t.cells.neurons = s.cells.neurons ∧ s.only t [.cells]))

/-- NEURON_UPDATE (R121, R122). -/
def Obligations.NeuronUpdateLaw : Prop :=
  ∀ (s : State) (cell : Fin 2048) (i : Nat), s.mustUpdate cell = true → s.nextActive cell = some i →
    (s.fabric.spikes.filter (fun k => k.cell / 16 == cell.val / 16)).length < 256 →
    let n := s.neuron cell i
    let p := s.profile cell n.prof
    let v1 := p.leak (s16 n.v) p.dv + scaleIn (toSigned 32 n.acc.toNat) p.inShift
    let lif := p.model = Model.lif ∧ p.perEvent = false ∧ n.refr = 0 ∧ -32768 ≤ v1 ∧ v1 ≤ 32767
    s.does (.neuronUpdate cell) (fun t =>
      (t.neuron cell i).acc = 0 ∧ numAt t.cells.updPos cell = i + 1
      ∧ (∀ c j, j < 8192 → (c ≠ cell.val ∨ j ≠ i) → t.neuron c j = s.neuron c j)
      ∧ (lif → v1 < p.thr + s16 n.a → t.fabric.spikes = s.fabric.spikes
          ∧ ((t.neuron cell i).v = u16 v1 ∨ ((t.neuron cell i).v = u16 p.vrest ∧ (t.neuron cell i).active = false)))
      ∧ (lif → p.thr + s16 n.a ≤ v1 →
          (t.neuron cell i).spk = true ∧ (p.resetMode = 0 → (t.neuron cell i).v = u16 p.vreset)
          ∧ (p.outMode = 3 → t.fabric.spikes = s.fabric.spikes)
          ∧ (p.outMode ≠ 3 → ∃ r, t.fabric.spikes = s.fabric.spikes ++ [r] ∧ r.cell = cell.val ∧ r.step = s.stepNo))
      ∧ t.cells.pool = s.cells.pool ∧ s.only t [.cells, .fabric, .regs])

/-- EVENT_ENQUEUE (R128, R131, R205). -/
def Obligations.EventsAreQueuedOrDropped : Prop :=
  ∀ (s : State) (block : Fin 128) (p : Packet) (rest : List (Nat × Packet)), s.runs (11 + block) = true →
    s.fabric.opened = (block.val, p) :: rest → p.ty = 1 →
    let w := p.word 1
    let c := eventCell w
    let q := eventQueue w
    let step := s.stepOfPar p.par p.late
    s.tooOld step = false → s.offline c = false → s.fenced c = false →
    (s.judge c q (eventRow w) = .placed → s.does (.eventEnqueue block) (fun t =>
      (∃ e, t.cells.pool = s.cells.pool ++ [e] ∧ e.cell = c ∧ e.queue = q ∧ e.row = eventRow w
        ∧ e.due = step + s.qdelay c q ∧ e.graded = none)
      ∧ (p.events ≤ 1 → t.fabric.opened = rest)
      ∧ t.cells.neurons = s.cells.neurons ∧ s.only t [.cells, .fabric, .step]))
    ∧ (s.judge c q (eventRow w) = .full → s.does (.eventEnqueue block) (fun t =>
      (t.reg (Page.cell c) Reg.CEL_DROP_FULL).toNat = min 0xFFFFFFFF ((s.reg (Page.cell c) Reg.CEL_DROP_FULL).toNat + 1)
      ∧ t.cells = s.cells ∧ s.only t [.fabric, .step, .regs]))

/-- QUEUE_HEAD_TAKE (R129). -/
def Obligations.QueueHeadIsTheFirstDue : Prop :=
  ∀ (s : State) (cell : Fin 2048), s.mayTake cell = true → (s.cells.items.filter (fun i => i.cell == cell.val)).length < 16 →
    (s.headOf cell = none → s.does (.queueHeadTake cell) (fun t => t = s))
    ∧ (∀ e, s.headOf cell = some e → s.qreader e.cell e.queue = none →
      s.cells.tblCache.contains (s.siteOf e.cell, s.qrowt e.cell e.queue + 8 * e.row) = false →
      s.does (.queueHeadTake cell) (fun t =>
        e ∈ s.cells.pool ∧ e.cell = cell.val ∧ e.due ≤ s.stepNo
        ∧ (∀ x ∈ s.cells.pool, x.cell = cell.val → x.due ≤ s.stepNo → s.before x e = false)
        ∧ t.cells.pool = eraseFirst e s.cells.pool
        ∧ (∃ it, t.cells.items = s.cells.items ++ [it] ∧ it.entry = e ∧ it.stage = .table)
        ∧ (t.reg (Page.cell cell) Reg.CEL_EVENTS).toNat = min 0xFFFFFFFF ((s.reg (Page.cell cell) Reg.CEL_EVENTS).toNat + 1)
        ∧ t.cells.neurons = s.cells.neurons ∧ s.only t [.cells, .dram, .fresh, .regs, .step]
        ∧ s.regsBut t [(Page.cell cell, Reg.CEL_EVENTS)]))

/-- ROW_TABLE_READ_COMPLETE, ROW_FETCH_COMPLETE and WRITE_BACK_COMPLETE (R101, R146, R147, R155, R160). -/
def Obligations.RowsReachTheNeurons : Prop :=
  ∀ s : State,
    (∀ (item : Nat) (it : Item), s.cells.items.find? (fun i => i.id == item) = some it → s.reqsDone item = true →
      let e := s.entryAt it.tbl
      (it.stage = .table → s.runs (11 + it.cell / 16) = true →
        ((s.beatPoison it.tbl = true ∨ Entry.valid e = false) → s.does (.rowTableReadComplete item) (fun t =>
          (∀ i ∈ t.cells.items, i.id ≠ item) ∧ t.cells.neurons = s.cells.neurons ∧ s.only t [.cells, .dram, .regs]))
        ∧ (s.beatPoison it.tbl = false → Entry.valid e = true → s.rowHeld it.cell (Entry.addr e) = false →
          Entry.plastic e = false → cacheable e = false → s.does (.rowTableReadComplete item) (fun t =>
            (∃ i, t.cells.items.find? (fun i => i.id == item) = some i ∧ i.stage = .row ∧ i.word = e ∧ i.entry = it.entry)
            ∧ t.cells.neurons = s.cells.neurons ∧ t.cells.pool = s.cells.pool ∧ s.only t [.cells, .dram])))
      ∧ (it.stage = .row → s.mayTake it.cell = true → s.does (.rowFetchComplete item) (fun t =>
          (∀ i ∈ t.cells.items, i.id ≠ item) ∧ t.cells.pool = s.cells.pool
          ∧ (∀ w : W32, s.rowRefused it.tbl it.word = false → Entry.plastic it.word = false → Entry.rfmt it.word < 2 →
              (s.loadRow it.cell it.tbl it.word).words = [(w, false)] → Syn.kind w = 0 →
              let tgt := Syn.tgt w
              let q1 := s.qword it.entry.cell it.entry.queue 1
              tgt < 8192 → fld q1 31 19 ≤ tgt → tgt < fld q1 31 19 + fld q1 18 5 →
              (s.profile it.cell (s.neuron it.cell tgt).prof).perEvent = false →
              let r := s.loadRow it.cell it.tbl it.word
              let x := (s.contribute r (if r.rfmt = 1 then fld w 15 0 else Syn.weight w) it.entry).1
              (t.neuron it.cell tgt).acc = BitVec.ofNat 32 (satInt 32 (toSigned 32 (s.neuron it.cell tgt).acc.toNat + x)).code
              ∧ (∀ c j, j < 8192 → (c ≠ it.cell ∨ j ≠ tgt) → t.neuron c j = s.neuron c j))
          ∧ s.only t [.cells, .dram, .fresh, .regs])))
    ∧ (∀ (cell : Fin 2048) (row : Nat) (w : WriteBack),
      s.cells.writeBacks.find? (fun w => w.cell == cell.val && w.row == row) = some w → s.runs (11 + cell.val / 16) = true →
      s.reqsDone w.id = true → s.poison = [] → (w.bytes.map (·.1)).Nodup →
      s.does (.writeBackComplete cell row) (fun t =>
        (∀ b ∈ w.bytes, t.byte b.1 = b.2) ∧ (∀ a, a ∉ w.bytes.map (·.1) → t.byte a = s.byte a)
        ∧ t.cells.writeBacks = eraseFirst w s.cells.writeBacks ∧ t.cells.neurons = s.cells.neurons
        ∧ s.only t [.cells, .dram, .mem, .regs]))

/-- POSTED_CELL_WRITE, QDESC_WRITE, QUEUE_RESET_DONE and HANDSHAKE_STALL (R115, R130, R132, R137). -/
def Obligations.CellRegisterWrites : Prop :=
  ∀ (s : State) (req : Requester) (site : Fin 2176) (c : Nat), s.cellAt site = some c →
    (∀ (off : Nat) (v : W32) (p : CellPost), s.takes req (Page.site site) off → s.cellPostAt c off v = some p →
      (off < Reg.CEL_PROF ∨ 0x900 ≤ off) →
      (s.running = true → (s.postsOf c).length < 64 → s.does (.postedCellWrite req site off v) (fun t =>
        t.cells.posts = s.cells.posts ++ [(c, p)] ∧ req ∈ t.step.posters ∧ t.cells.neurons = s.cells.neurons
        ∧ s.only t [.cells, .step]))
      ∧ (s.running = true → 64 ≤ (s.postsOf c).length → s.does (.postedCellWrite req site off v) (fun t =>
        bit (t.reg (Page.site site) Reg.PG_ERR) 5 = true ∧ s.only t [.regs] ∧ s.regsBut t [(Page.site site, Reg.PG_ERR)]))
      ∧ (s.running = false → off = Reg.CEL_NDATA0 → s.does (.postedCellWrite req site off v) (fun t =>
        let i := s.regFld (Page.cell c) Reg.CEL_NSEL 12 0
        (t.neuron c i).u = BitVec.ofNat 16 (fld v 31 16) ∧ (t.neuron c i).v = BitVec.ofNat 16 (fld v 15 0)
        ∧ (t.neuron c i).active = true ∧ (∀ j, j < 8192 → j ≠ i → t.neuron c j = s.neuron c j) ∧ s.only t [.cells])))
    ∧ (∀ (word : Fin 4) (v : W32), s.takes req (Page.site site) (Reg.CEL_QDESC0 + 4 * word.val) →
      let q := s.regFld (Page.cell c) Reg.CEL_QSEL 8 0
      (0 < word.val → s.qstate c q = 1 → s.does (.qdescWrite req site word v) (fun t =>
        t.qword c q word.val = v &&& qdescMask word.val ∧ t.qstate c q = 1 ∧ t.cells.pool = s.cells.pool ∧ s.only t [.cells]))
      ∧ (0 < word.val → s.qstate c q ≠ 1 → v &&& qdescMask word.val ≠ s.qword c q word.val →
        s.does (.qdescWrite req site word v) (fun t =>
          bit (t.reg (Page.site site) Reg.PG_ERR) 3 = true ∧ s.only t [.regs] ∧ s.regsBut t [(Page.site site, Reg.PG_ERR)]))
      ∧ (word.val = 0 → s.qstate c q = 0 → fld v 31 30 = 2 →
        withFld v 31 30 0 = withFld (s.qword c q 0) 31 30 0 → s.does (.qdescWrite req site word v) (fun t =>
          t.qstate c q = 2 ∧ t.qheld c q = 0 ∧ t.cells.neurons = s.cells.neurons ∧ s.only t [.cells, .regs])))
    ∧ (∀ (cell : Fin 2048) (queue : Fin 512), s.qstate cell queue = 2 → s.qheld cell queue = 0 →
      s.does (.queueResetDone cell queue) (fun t => t.qstate cell queue = 1 ∧ t.cells.pool = s.cells.pool ∧ s.only t [.cells]))
    ∧ (∀ boundary : Fin 8, s.runs (11 + site.val / 17) = true → s.does (.handshakeStall site boundary) (fun t =>
        bit (t.reg (Page.site site) Reg.PG_ERR) 2 = true
        ∧ (s.errOn (Page.site site) 2 = false → s.only t [.regs] ∧ s.regsBut t [(Page.site site, Reg.PG_ERR)])
        ∧ t.cells.pool = s.cells.pool ∧ s.only t [.cells, .fabric, .fault, .regs, .step]))

/-- DRAM_REQUEST_SERVE, RESERVATION_WINDOW, PATROL_SCRUB and SLICE_POWER_DOWN (R158, R161, R167, R168, R171). -/
def Obligations.DramSlicesServe : Prop :=
  ∀ (s : State) (slice : Fin 128),
    (∀ (pick symbols : Nat) (q : DramReq), (s.reqsAt slice)[pick]? = some q → s.sliceServes slice = true →
      s.mayServe slice q = true → s.dram.copies = [] →
      s.does (.dramRequestServe slice pick symbols) (fun t =>
        t.dram.reqs = eraseFirst q s.dram.reqs
        ∧ numAt t.dram.used (slice.val * 4096 + q.who) = numAt s.dram.used (slice.val * 4096 + q.who) + q.bytes
        ∧ t.slicePower slice = 0
        ∧ (symbols = 0 → s.only t [.dram, .regs])
        ∧ (symbols = 1 → numAt t.dram.ceCount (rowKey (dramPlace q.addr)) = numAt s.dram.ceCount (rowKey (dramPlace q.addr)) + 1
            ∧ t.poison = s.poison)
        ∧ (2 ≤ symbols → t.isPoison (Base.dram + q.addr / 64 * 64) = true
            ∧ (t.reg (Page.slice (dramPlace q.addr).slice) Reg.DRM_UE).toNat
                = min 0xFFFFFFFF ((s.reg (Page.slice (dramPlace q.addr).slice) Reg.DRM_UE).toNat + 1))
        ∧ s.only t [.dram, .regs, .poison, .fault]))
    ∧ (s.runs (sliceDomain slice) = true → presentIn s.grade (Page.slice slice) = true →
      let k := numAt s.dram.wins slice
      let due := s.reg64 Page.stp Reg.STP_TICK_NS + k * s.winNs
        + winLength s.winNs (s.reg Page.stp Reg.STP_PERIOD_ACT).toNat k
      (due ≤ s.elapsed → Store.wf (fun _ => 0) s.dram.used = true → s.does (.reservationWindow slice) (fun t =>
        numAt t.dram.wins slice = k + 1
        ∧ (∀ who, who < 4096 → numAt t.dram.used (slice.val * 4096 + who)
            = numAt s.dram.used (slice.val * 4096 + who) - s.fullCredit slice who)
        ∧ t.dram.reqs = s.dram.reqs ∧ s.only t [.dram, .regs]))
      ∧ (s.elapsed < due → s.does (.reservationWindow slice) (fun t => t = s)))
    ∧ (s.sliceServes slice = true → s.reg (Page.die (slice.val % 16 / 8)) Reg.DRM_SCRUB_S ≠ 0 → s.reqsAt slice = [] →
      s.does (.patrolScrub slice 0) (fun t =>
        numAt t.dram.scrubPos slice = (numAt s.dram.scrubPos slice + 1) % 6291456 ∧ s.only t [.dram, .regs]
        ∧ s.regsBut t [(Page.slice slice, Reg.DRM_SLICE_STAT)]))
    ∧ (s.runs (sliceDomain slice) = true → presentIn s.grade (Page.slice slice) = true → s.slicePower slice = 0 →
      s.regFld (Page.slice slice) Reg.DRM_PD_NS 15 0 ≠ 0 → s.reqsAt slice = [] →
      numAt s.dram.lastAccess slice + s.regFld (Page.slice slice) Reg.DRM_PD_NS 15 0 ≤ s.elapsed →
      s.does (.slicePowerDown slice) (fun t => t.slicePower slice = 1 ∧ s.only t [.regs]
        ∧ s.regsBut t [(Page.slice slice, Reg.DRM_SLICE_STAT)]))

/-- POSTED_SYNAPSE_WRITE, POSTED_WRITE_ADMIT, REFRESH_CHANGE, ROW_REMAP_COMPLETE and DRM_REMAP_ADD (R162, R165, R169,
R170). -/
def Obligations.SynapseWritesAndRemaps : Prop :=
  ∀ s : State,
    (∀ (req : Requester) (d : Nat) (l : List Byte), s.serves req = true → s.inSynapseStore d = true → l ≠ [] →
      d % 64 + l.length ≤ 64 → d + l.length ≤ dramBytes s.grade → s.clearingAny d l.length = false →
      (s.isSecure req = true ∨ s.rangeSecure d l.length = false) →
      let c := Instr.postedSynapseWrite req (Base.dram + d) l
      let slice := (dramPlace d).slice
      (s.running = true → s.postedAt slice < 128 → (∀ h ∈ s.dram.held, h.slice ≠ slice) → s.does c (fun t =>
        t.dram.posts = s.dram.posts ++ [{ slice := slice, req := some req, addr := d, bytes := l }]
        ∧ req ∈ t.step.posters ∧ s.only t [.dram, .step]))
      ∧ (s.running = true → 128 ≤ s.postedAt slice → s.does c (fun t =>
        t.dram.held = s.dram.held ++ [{ slice := slice, req := some req, addr := d, bytes := l }]
        ∧ req ∈ t.step.posters ∧ s.only t [.dram, .step]))
      ∧ (s.running = false → s.does c (fun t =>
        t.bytes (Base.dram + d) l.length = l ∧ s.bytesBut t (Base.dram + d) l.length ∧ s.only t [.mem, .poison, .cells, .dram, .regs])))
    ∧ (∀ (slice : Fin 128) (h : SynPost), s.dram.held.find? (fun h => h.slice == slice.val) = some h →
      s.runs (sliceDomain slice) = true → s.postedAt slice < 128 → s.does (.postedWriteAdmit slice) (fun t =>
        t.dram.posts = s.dram.posts ++ [h] ∧ t.dram.held = eraseFirst h s.dram.held ∧ s.only t [.dram]))
    ∧ (∀ (slice : Fin 128) (temp : Nat), temp < 2048 → presentIn s.grade (Page.slice slice) = true →
      let p := Page.slice slice
      let cur := s.regFld p Reg.DRM_SLICE_STAT 25 24
      s.does (.refreshChange slice temp) (fun t =>
        let new := t.regFld p Reg.DRM_SLICE_STAT 25 24
        t.regFld p Reg.DRM_TEMP 10 0 = temp
        ∧ (760 < temp → new = 2) ∧ (temp < 656 → new = 0) ∧ (cur = 0 → 680 < temp → temp ≤ 760 → new = 1)
        ∧ (cur = 1 → 656 ≤ temp → temp ≤ 760 → new = 1)
        ∧ (new ≠ cur → bit (t.reg p Reg.PG_INT) 3 = true ∧ slice.val ∈ t.dram.refresh)
        ∧ s.only t [.regs, .dram] ∧ s.regsBut t [(p, Reg.DRM_TEMP), (p, Reg.DRM_SLICE_STAT), (p, Reg.PG_INT)]))
    ∧ (∀ (slice : Fin 128) (c : RemapReq), s.dram.copies.find? (fun c => c.slice == slice.val) = some c →
      c.bank < 16 → c.row < 2 ^ 14 → s.sliceServes slice = true → s.does (.rowRemapComplete slice) (fun t =>
        t.dram.copies = eraseFirst c s.dram.copies ∧ t.dram.remap.length = s.dram.remap.length + 1
        ∧ t.rowListed slice c.bank c.row = true ∧ bit (t.reg (Page.slice slice) Reg.PG_INT) 0 = true
        ∧ s.only t [.dram, .fault, .regs]))
    ∧ (∀ (req : Requester) (die : Fin 2) (v : W32), s.takes req (Page.die die) Reg.DRM_REMAP_ADD →
      let slice := fld v 28 26 * 16 + 8 * die.val + fld v 25 23
      let bank := fld v 22 19
      let row := fld v 18 5
      ((12287 < row ∨ s.rowListed slice bank row = true) → s.does (.drmRemapAdd req die v) (fun t =>
        bit (t.reg (Page.die die) Reg.PG_ERR) 0 = true ∧ s.only t [.regs] ∧ s.regsBut t [(Page.die die, Reg.PG_ERR)]))
      ∧ (row ≤ 12287 → s.rowListed slice bank row = false → s.sparesUsed slice bank < 4 →
        s.does (.drmRemapAdd req die v) (fun t =>
          t.dram.copies = s.dram.copies ++ [⟨slice, bank, row, 3⟩] ∧ s.only t [.dram])))

/-- TARN_ACCESS, ADD_S32, ADD_FP32 and SWAP (R177, R181–R184). -/
def Obligations.TarnAccessesByTheOwner : Prop :=
  ∀ (s : State) (bank : Fin 128) (owner : Nat) (req : Requester), s.runs (3 + bank / 16) = true → owner ≠ 0 →
    s.tarnHolds bank owner = false →
    let base := bankAddr bank
    let frame (t : State) : Prop := t.tarn.banks = s.tarn.banks ∧ t.tarn.held = s.tarn.held
      ∧ s.only t [.mem, .poison, .read, .regs, .tarn]
    (s.tarnTakes bank owner req = true →
      (∀ (o : Nat) (l : List Byte), o + l.length ≤ 0x80000 → l.length ≤ 64 →
        s.does (.tarnAccess bank owner req none none (some (.store o l))) (fun t =>
          t.bytes (base + o) l.length = l ∧ s.bytesBut t (base + o) l.length ∧ frame t)
        ∧ s.does (.tarnAccess bank owner req none none (some (.load o l.length))) (fun t =>
          t.rdata = s.num (base + o) l.length ∧ t.mem = s.mem ∧ t.poison = s.poison ∧ frame t)
        ∧ s.does (.tarnAccess bank owner req none (some (.store o l)) (some (.load o l.length))) (fun t =>
          t.rdata = leNat l ∧ s.bytesBut t (base + o) l.length
          ∧ (t.reg (Page.bank bank) Reg.TAR_CONFLICTS).toNat
              = min 0xFFFFFFFF ((s.reg (Page.bank bank) Reg.TAR_CONFLICTS).toNat + 1) ∧ frame t))
      ∧ (∀ (o : Nat) (x : W32), o % 4 = 0 → o + 4 ≤ 0x80000 → s.poisonWords (base + o) 4 = [] →
        let old := s.word (base + o)
        let done (t : State) : Prop := t.rdata = old.toNat ∧ t.rpoison = false ∧ s.bytesBut t (base + o) 4 ∧ frame t
        let sum := toSigned 32 old.toNat + toSigned 32 x.toNat
        s.does (.addS32 bank owner req o x) (fun t => done t
          ∧ toSigned 32 (t.word (base + o)).toNat = max (-2 ^ 31) (min (2 ^ 31 - 1) sum)
          ∧ ((sum < -2 ^ 31 ∨ 2 ^ 31 - 1 < sum) → (t.reg (Page.bank bank) Reg.TAR_ATOM_SAT).toNat
              = min 0xFFFFFFFF ((s.reg (Page.bank bank) Reg.TAR_ATOM_SAT).toNat + 1)))
        ∧ s.does (.addFp32 bank owner req o x) (fun t => done t
          ∧ (t.word (base + o)).toNat
              = (encodeNum 9 false ((decodeNum 9 old.toNat).add (decodeNum 9 x.toNat)) none).code % 2 ^ 32)
        ∧ s.does (.swap bank owner req o x) (fun t => done t ∧ t.word (base + o) = x)))
    ∧ (owner ≠ s.owner bank → ∀ (o : Nat) (x : W32),
      let refused (t : State) : Prop := t.rpoison = true ∧ t.mem = s.mem ∧ bit (t.reg (Page.bank bank) Reg.PG_ERR) 0 = true
        ∧ (t.reg (Page.bank bank) Reg.TAR_REFUSED).toNat
            = min 0xFFFFFFFF ((s.reg (Page.bank bank) Reg.TAR_REFUSED).toNat + 1)
        ∧ s.only t [.read, .regs, .tarn]
      s.does (.addS32 bank owner req o x) refused ∧ s.does (.swap bank owner req o x) refused)

/-- SIDE_PORT_ACCESS, TAR_OWNER_WRITE, HANDOVER_DRAIN_DONE, BANK_CLEAR_DONE, TAR_PWR_WRITE and BANK_POWER_CHANGE (R186–R193,
R195). -/
def Obligations.TarnSidePortAndHandover : Prop :=
  ∀ (s : State) (bank : Fin 128) (req : Requester),
    let base := bankAddr bank
    let page := Page.bank bank
    (∀ (op : TarnOp) (waited : Nat) (busy : Bool),
      (busy = true → waited < 64 → s.does (.sidePortAccess bank req op waited busy) (fun t => t = s))
      ∧ (s.runs (3 + bank / 16) = true → (busy = false ∨ 64 ≤ waited) →
        (s.sideAdmits bank req op = false → s.does (.sidePortAccess bank req op waited busy) (fun t =>
          t.rpoison = true ∧ (t.reg page Reg.TAR_REFUSED).toNat = min 0xFFFFFFFF ((s.reg page Reg.TAR_REFUSED).toNat + 1)
          ∧ s.only t [.read, .regs]))
        ∧ (∀ o l, op = .store o l → s.sideAdmits bank req op = true → o + l.length ≤ 0x80000 →
          s.does (.sidePortAccess bank req op waited busy) (fun t =>
            t.bytes (base + o) l.length = l ∧ s.bytesBut t (base + o) l.length ∧ s.only t [.mem, .poison, .read]))
        ∧ (∀ o n, op = .load o n → s.sideAdmits bank req op = true → o + n ≤ 0x80000 →
          s.does (.sidePortAccess bank req op waited busy) (fun t => t.rdata = s.num (base + o) n ∧ s.only t [.read]))))
    ∧ (∀ v : W32, s.takes req page Reg.TAR_OWNER →
      (s.handover bank = true → s.does (.tarOwnerWrite req bank v) (fun t =>
        bit (t.reg page Reg.PG_ERR) 1 = true ∧ s.only t [.regs] ∧ s.regsBut t [(page, Reg.PG_ERR)]))
      ∧ (s.handover bank = false → ownerPresent s.grade (fld v 3 0) = true → s.faulted page = false →
        fld v 3 0 ≠ s.owner bank → s.does (.tarOwnerWrite req bank v) (fun t =>
          t.handover bank = true ∧ t.newOwner bank = fld v 3 0 ∧ t.owner bank = s.owner bank ∧ s.only t [.regs, .tarn])))
    ∧ (s.runs (3 + bank / 16) = true → s.handover bank = true → (s.bank bank).draining = true → (s.bank bank).clearing = false →
      bit (s.reg page Reg.TAR_OWNER) 31 = false → s.tarn.held = [] → s.does (.handoverDrainDone bank) (fun t =>
        t.owner bank = s.newOwner bank ∧ t.handover bank = false ∧ bit (t.reg page Reg.PG_INT) 0 = true
        ∧ s.only t [.regs, .tarn]))
    ∧ (s.runs (3 + bank / 16) = true → (s.bank bank).clearing = true → s.tarn.held = [] → s.does (.bankClearDone bank) (fun t =>
        (∀ x, base ≤ x → x < base + 0x80000 → t.byte x = 0 ∧ t.isPoison x = false) ∧ s.bytesBut t base 0x80000
        ∧ (t.bank bank).clearing = false ∧ s.only t [.mem, .poison, .regs, .tarn]))
    ∧ (∀ v : W32, s.takes req page Reg.TAR_PWR → powerCode (fld v 1 0) ≠ (s.bank bank).power →
      s.does (.tarPwrWrite req bank v) (fun t =>
        (t.bank bank).powerReq = some (powerCode (fld v 1 0)) ∧ (t.bank bank).power = (s.bank bank).power
        ∧ s.only t [.regs, .tarn] ∧ s.regsBut t [(page, Reg.TAR_PWR)]))
    ∧ (∀ x, (s.bank bank).powerReq = some x → x < 2 → s.runs (3 + bank / 16) = true → (s.bank bank).clearing = false →
      s.does (.bankPowerChange bank) (fun t =>
        (t.bank bank).power = x ∧ (t.bank bank).powerReq = none ∧ s.bytesBut t base 0x80000
        ∧ (x = 0 → ∀ a, base ≤ a → a < base + 0x80000 → t.byte a = 0) ∧ (x = 1 → t.mem = s.mem)
        ∧ s.only t [.mem, .poison, .regs, .tarn]))

/-- PACKET_RECEIVE, PACKET_FORWARD, SLOT_FRAME_END, STARVATION and FAB_SWAP (R208–R218). -/
def Obligations.RoutersMovePackets : Prop :=
  ∀ s : State,
    (∀ (router : Fin 272) (port : Fin 13) (ok : Bool) (f : Flit),
      s.fabric.links.find? (fun f => f.router == router.val && f.port == port.val) = some f →
      s.runs (routerDomain router) = true → s.bufCount router port f.pkt.vc < bufPlaces f.pkt.vc →
      (ok = true → f.pkt.headerOk = true → malformed f.pkt = false → f.pkt.chip = s.chipId →
        s.stepOfPar f.pkt.par f.pkt.late = s.stepNo → s.tooOld s.stepNo = false →
        s.does (.packetReceive router port ok) (fun t =>
          t.fabric.bufs = s.fabric.bufs ++ [{ f with tries := 0, wait := 0 }]
          ∧ t.fabric.links = eraseFirst f s.fabric.links ∧ s.only t [.fabric]))
      ∧ (ok = false → f.tries = 0 → s.does (.packetReceive router port ok) (fun t =>
          t.fabric.links.length = s.fabric.links.length ∧ t.fabric.bufs = s.fabric.bufs
          ∧ (t.reg (routerPage f.fromRouter) Reg.FAB_RETRY).toNat
              = min 0xFFFFFFFF ((s.reg (routerPage f.fromRouter) Reg.FAB_RETRY).toNat + 1) ∧ s.only t [.fabric, .regs]))
      ∧ (ok = false → f.tries ≠ 0 → s.does (.packetReceive router port ok) (fun t =>
          t.fabric.links = eraseFirst f s.fabric.links ∧ t.fabric.bufs = s.fabric.bufs
          ∧ bit (t.reg (routerPage router) Reg.PG_ERR) 2 = true
          ∧ numAt t.step.cons (countUnit router * 4 + f.pkt.par % 4) = numAt s.step.cons (countUnit router * 4 + f.pkt.par % 4) + 1
          ∧ (t.reg (routerPage router) Reg.FAB_DROP_HDR).toNat
              = min 0xFFFFFFFF ((s.reg (routerPage router) Reg.FAB_DROP_HDR).toNat + 1)
          ∧ s.only t [.fabric, .regs, .fault, .step])))
    ∧ (∀ (router : Fin 272) (out : Fin 12) (slot : Fin 64) (f : Flit) (n : Nat × Nat), s.runs (routerDomain router) = true →
      s.slotChoice router out slot = some (f, false) → nextRouter router out = some n →
      s.does (.packetForward router out slot) (fun t =>
        t.fabric.bufs = eraseFirst f s.fabric.bufs
        ∧ t.fabric.links = s.fabric.links ++ [{ f with router := n.1, port := n.2, fromRouter := router, fromPort := f.port }]
        ∧ (t.reg (routerPage router) Reg.FAB_PKTS).toNat
            = min 0xFFFFFFFF ((s.reg (routerPage router) Reg.FAB_PKTS).toNat + 1)
        ∧ s.only t [.fabric, .regs]))
    ∧ (∀ router : Fin 272, s.runs (routerDomain router) = true → s.does (.slotFrameEnd router) (fun t =>
        t.fabric.bufs.map (·.pkt) = s.fabric.bufs.map (·.pkt)
        ∧ (∀ f ∈ s.fabric.bufs, f.router = router.val → { f with wait := f.wait + 1 } ∈ t.fabric.bufs)
        ∧ (∀ f ∈ s.fabric.bufs, f.router ≠ router.val → f ∈ t.fabric.bufs)
        ∧ s.only t [.fabric, .regs] ∧ s.regsBut t [(routerPage router, Reg.FAB_BACKLOG)]))
    ∧ (∀ (router : Fin 272) (f : Flit), f ∈ s.fabric.bufs → f.router = router.val → f.pkt.vc = 1 →
      max 1 (s.regFld (routerPage router) Reg.FAB_STARVE 15 0) ≤ f.wait → s.runs (routerDomain router) = true →
      s.does (.starvation router) (fun t =>
        bit (t.reg (routerPage router) Reg.PG_ERR) 1 = true ∧ t.fabric = s.fabric ∧ s.only t [.regs, .fault]))
    ∧ (∀ (req : Requester) (page : Nat), (pageKind page = .fabBlock ∨ pageKind page = .fabNode) →
      s.takes req page Reg.FAB_SWAP →
      (s.swapOk page = false → s.does (.fabSwap req page) (fun t =>
        bit (t.reg page Reg.PG_ERR) 0 = true ∧ s.only t [.regs] ∧ s.regsBut t [(page, Reg.PG_ERR)]))
      ∧ (s.swapOk page = true → s.running = true → s.does (.fabSwap req page) (fun t =>
        t.reg page Reg.FAB_SWAP = 1 ∧ s.only t [.regs] ∧ s.regsBut t [(page, Reg.FAB_SWAP)]))
      ∧ (s.swapOk page = true → s.running = false → s.does (.fabSwap req page) (fun t =>
        (∀ k, k < 384 → t.reg page (Reg.FAB_TABLE + 4 * k) = s.reg page (Reg.FAB_SHADOW + 4 * k))
        ∧ t.reg page Reg.FAB_SWAP = 0 ∧ s.only t [.regs])))
    ∧ (∀ (req : Requester) (page off : Nat) (v : W32), page < 0x100000 →
      (pageKind page = .fabBlock ∨ pageKind page = .fabNode) → bit (s.reg page Reg.FAB_SWAP) 0 = true →
      Reg.FAB_SHADOW ≤ off → off < Reg.FAB_TABLE → off % 4 = 0 → s.takes req page off →
      s.does (.registerWrite req (regAddr page off) 4 (v.setWidth 64)) (fun t => t = s))

/-- ROUTE_TABLE_WRITE, RTE_ALLOC, RTE_RELEASE, SPIKE_RECORD_TAKE and ROUTE_ENTRY_FOLLOW (R222–R227, R241). -/
def Obligations.RouteTablesAndEngines : Prop :=
  ∀ s : State,
    (∀ (req : Requester) (page off : Nat) (v : W32), postedWindow page = true → off % 4 = 0 → off < 4096 →
      s.takes req page off →
      let r := windowRegion page
      (s.running = true → s.routePosts r < 256 → s.does (.routeTableWrite req page off v) (fun t =>
        t.fabric.posts = s.fabric.posts ++ [(r, .word (page * 4096 + off) v)] ∧ req ∈ t.step.posters
        ∧ s.only t [.fabric, .step]))
      ∧ (s.running = true → 256 ≤ s.routePosts r → s.does (.routeTableWrite req page off v) (fun t =>
        let p := if r = 8 then Page.rteChip else Page.region r + 0x08
        bit (t.reg p Reg.PG_ERR) 0 = true ∧ s.only t [.regs] ∧ s.regsBut t [(p, Reg.PG_ERR)]))
      ∧ (s.running = false → s.does (.routeTableWrite req page off v) (fun t =>
        let m := windowMask s.grade page off
        t.reg page off = (s.reg page off &&& ~~~ m) ||| (v &&& m) ∧ s.only t [.regs, .fabric] ∧ s.regsBut t [(page, off)])))
    ∧ (∀ (req : Requester) (region : Fin 8) (pick : Nat), s.mayRead req (Page.region region + 0x08) Reg.RTE_ALLOC = true →
      (s.routeFree region pick = true → s.does (.rteAlloc req region pick) (fun t =>
        t.rdata = pick ∧ t.routeFree region pick = false ∧ (∀ i, i < 262144 → i ≠ pick → t.routeFree region i = s.routeFree region i)
        ∧ s.only t [.fabric, .read]))
      ∧ ((∀ i, i < 262144 → s.routeFree region i = false) → s.does (.rteAlloc req region pick) (fun t =>
        t.rdata = 0x80000000 ∧ bit (t.reg (Page.region region + 0x08) Reg.PG_INT) 1 = true ∧ s.only t [.regs, .read])))
    ∧ (∀ (req : Requester) (region : Fin 8) (v : W32), s.takes req (Page.region region + 0x08) Reg.RTE_RELEASE →
      s.running = true → s.routePosts region < 256 → s.does (.rteRelease req region v) (fun t =>
        t.fabric.posts = s.fabric.posts ++ [(region.val, .release region (fld v 17 0))] ∧ req ∈ t.step.posters
        ∧ s.only t [.fabric, .step]))
    ∧ (∀ (region : Fin 8) (k : Spike), s.fabric.spikes.find? (fun k => k.cell / 256 == region.val) = some k →
      s.runs (3 + region) = true → (s.chainsOf region).length < 4 → s.does (.spikeRecordTake region) (fun t =>
        t.fabric.spikes = eraseFirst k s.fabric.spikes ∧ t.fabric.links = s.fabric.links
        ∧ (k.count = 0 → t.fabric.chains = s.fabric.chains)
        ∧ (k.count ≠ 0 → ∃ c, t.fabric.chains = s.fabric.chains ++ [c] ∧ c.region = region.val ∧ c.next = k.first
            ∧ c.left = k.count ∧ c.step = k.step ∧ c.words = [])
        ∧ s.only t [.fabric, .regs] ∧ s.regsBut t [(Page.region region + 0x08, Reg.RTE_SPIKES)]))
    ∧ (∀ (region : Fin 8) (chain : Fin 4) (c : Chain), (s.chainsOf region)[chain.val]? = some c → s.runs (3 + region) = true →
      c.words = [] →
      let pg := Page.region region + 0x08
      let w0 := s.routeWord region c.next 0
      let w1 := s.routeWord region c.next 1
      let w2 := s.routeWord region c.next 2
      let k := gateKey region (fld w2 27 16)
      (bit w2 31 = false → s.does (.routeEntryFollow region chain) (fun t =>
        t.fabric.chains = eraseFirst c s.fabric.chains ∧ t.fabric.links = s.fabric.links
        ∧ (t.reg pg Reg.RTE_CHAIN_ERR).toNat = min 0xFFFFFFFF ((s.reg pg Reg.RTE_CHAIN_ERR).toNat + 1)
        ∧ s.only t [.fabric, .regs]))
      ∧ (bit w2 31 = true → fld w2 30 28 = 0 → c.left = 1 → c.graded = none → s.tooOld c.step = false →
        s.does (.routeEntryFollow region chain) (fun t =>
          t.fabric.chains = eraseFirst c s.fabric.chains
          ∧ (∃ f, t.fabric.links = s.fabric.links ++ [f] ∧ f.router = 128 + region.val ∧ f.pkt.ty = 1 ∧ f.pkt.count = 1
              ∧ f.pkt.chip = fld w1 29 18 ∧ f.pkt.par = c.step % 4
              ∧ f.pkt.word 1 = BitVec.ofNat 32 ((fld w1 17 0 * 4 + fld w0 31 30) * 4096 + fld w0 29 18))
          ∧ s.only t [.fabric, .regs, .step]))
      ∧ (bit w2 31 = true → fld w2 30 28 ≠ 0 → fld w2 30 28 ≠ s.regFld k.1 k.2 2 0 → c.left = 1 →
        s.does (.routeEntryFollow region chain) (fun t =>
          t.fabric.chains = eraseFirst c s.fabric.chains ∧ t.fabric.links = s.fabric.links
          ∧ (t.reg pg Reg.RTE_GATED).toNat = min 0xFFFFFFFF ((s.reg pg Reg.RTE_GATED).toNat + 1) ∧ s.only t [.fabric, .regs]))
      ∧ (bit w2 31 = true → fld w2 30 28 ≠ 0 → fld w2 30 28 ≠ s.regFld k.1 k.2 2 0 → 1 < c.left →
        s.does (.routeEntryFollow region chain) (fun t =>
          t.fabric.chains
            = replaceFirst c { c with next := fld w2 15 0 * 4 + fld w1 31 30, left := c.left - 1 } s.fabric.chains
          ∧ t.fabric.links = s.fabric.links
          ∧ (t.reg pg Reg.RTE_GATED).toNat = min 0xFFFFFFFF ((s.reg pg Reg.RTE_GATED).toNat + 1) ∧ s.only t [.fabric, .regs])))

/-- INJECT, READ_STATE, WRITE_STATE, SET_PROFILE, OPEN_QUEUE and CLOSE_QUEUE (R252–R254). -/
def Obligations.CellHandlersAnswer : Prop :=
  ∀ (s : State) (block : Fin 128) (x : Nat × Packet), s.blockMsg block = some x → s.runs (11 + block) = true →
    let p := x.2
    let c := msgCell p
    let q := msgQueue p
    let i := fld (msgArg p 0) 12 0
    s.offline c = false → s.fenced c = false →
    (msgSec p = true ∨ bit (s.reg (Page.site (s.siteOf c)) Reg.PG_SEC) 31 = false) → s.msgLate p = false →
    let answered (t : State) (code : Nat) (data : List W32) : Prop :=
      t.fabric.blockIn = eraseFirst x s.fabric.blockIn
      ∧ (∃ f, t.fabric.links = s.fabric.links ++ [f] ∧ f.router = 136 + block.val ∧ f.pkt = s.answerPacket p code data)
    (msgHandler p = 0x01 →
      (s.judge c q (fld (msgArg p 0) 11 0) = .placed → s.does (.inject block) (fun t => answered t Code.done []
        ∧ (∃ e, t.cells.pool = s.cells.pool ++ [e] ∧ e.cell = c ∧ e.queue = q ∧ e.row = fld (msgArg p 0) 11 0)
        ∧ s.only t [.cells, .fabric, .regs, .step]))
      ∧ (s.judge c q (fld (msgArg p 0) 11 0) = .full → s.does (.inject block) (fun t => answered t Code.queueFull []
        ∧ s.only t [.fabric, .regs, .step])))
    ∧ (msgHandler p = 0x02 → s.does (.readState block) (fun t =>
        let n := s.neuron c i
        answered t Code.done [n.u ++ n.v, n.f ++ n.a, n.acc] ∧ s.only t [.fabric, .regs, .step]))
    ∧ (msgHandler p = 0x03 → s.running = true → (s.postsOf c).length < 64 → s.does (.writeState block) (fun t =>
        answered t Code.done [] ∧ t.cells.posts = s.cells.posts ++ [(c, .neuron i (msgArg p 1) (msgArg p 2))]
        ∧ t.cells.neurons = s.cells.neurons ∧ s.only t [.cells, .fabric, .regs, .step]))
    ∧ (msgHandler p = 0x04 →
      let k := fld (msgArg p 0) 5 0
      let w := 3 * fld (msgArg p 0) 8 8
      let vals := [msgArg p 1, msgArg p 2, msgArg p 3]
      (s.profileOk c k w vals = false → s.does (.setProfile block) (fun t => answered t Code.refused []
        ∧ bit (t.reg (Page.site (s.siteOf c)) Reg.PG_ERR) 4 = true ∧ s.only t [.fabric, .regs, .step]))
      ∧ (s.profileOk c k w vals = true → s.running = true → (s.postsOf c).length < 64 → s.does (.setProfile block) (fun t =>
        answered t Code.done [] ∧ t.cells.posts = s.cells.posts ++ [(c, .profile k w vals)]
        ∧ s.only t [.cells, .fabric, .regs, .step])))
    ∧ (∀ (h want : Nat) (m : Instr), (h, want, m) = (0x05, 0, .openQueue block) ∨ (h, want, m) = (0x06, 1, .closeQueue block) →
      msgHandler p = h →
      (s.qstate c q = 2 → s.does m (fun t => answered t Code.queueReset [] ∧ s.only t [.fabric, .regs, .step]))
      ∧ (s.qstate c q ≠ 2 → s.running = true → s.does m (fun t => answered t Code.done []
        ∧ Store.find t.cells.qreq (512 * c + q) = some want ∧ t.qstate c q = s.qstate c q
        ∧ s.only t [.cells, .fabric, .regs, .step])))

/-- READ_ROW, WRITE_ROW, ROW_APPLY, ROUTE_INSERT, ROUTE_RELEASE, GATE_SET, PING, SOFTWARE_HANDLER and CHN_RX_NEXT (R226,
R227, R252, R255, R256, R284). -/
def Obligations.OtherHandlersAnswer : Prop :=
  ∀ s : State,
    let sent (t : State) (router : Nat) (k : Packet) : Prop := ∃ f, t.fabric.links = s.fabric.links ++ [f] ∧ f.router = router ∧ f.pkt = k
    (∀ (block : Fin 128) (x : Nat × Packet), s.blockMsg block = some x → s.runs (11 + block) = true →
      let p := x.2
      let c := msgCell p
      let e := s.msgEntry c p
      let off := fld (msgArg p 0) 31 16
      let d := Entry.addr e + 4 * off
      s.offline c = false → s.fenced c = false → msgSec p = true → s.msgLate p = false → s.rowArgBad c p = none →
      Entry.plastic e = false →
      (msgHandler p = 0x07 → off < Entry.len e + 2 →
        let n := min 5 (Entry.len e + 2 - off)
        d + 4 * n ≤ dramBytes s.grade → s.poison = [] → s.does (.readRow block) (fun t =>
          sent t (136 + block.val) (s.answerPacket p Code.done ((List.range n).map (fun i => s.dramWord (d + 4 * i))))
          ∧ s.only t [.dram, .fabric, .regs, .step]))
      ∧ (msgHandler p = 0x08 → msgArgs p = 2 → off < Entry.len e + 2 → 2 ≤ Entry.rfmt e → d + 4 ≤ dramBytes s.grade →
        d % 64 + 4 ≤ 64 → s.running = false → s.does (.writeRow block) (fun t =>
          sent t (136 + block.val) (s.answerPacket p Code.done [])
          ∧ t.num (Base.dram + d) 4 = (msgArg p 1).toNat ∧ s.bytesBut t (Base.dram + d) 4
          ∧ s.only t [.mem, .dram, .cells, .fabric, .regs, .step]))
      ∧ (msgHandler p = 0x09 → s.does (.rowApply block) (fun t =>
          sent t (136 + block.val) (s.answerPacket p Code.done []) ∧ s.only t [.fabric, .regs, .step])))
    ∧ (∀ (region : Fin 8) (x : Nat × Packet), s.regionMsg region = some x → s.runs (3 + region) = true →
      let p := x.2
      msgSec p = true → s.msgLate p = false → s.running = true →
      (∀ pick, msgHandler p = 0x0A → s.routeFree region pick = true → s.lowestFree region ≠ none → s.routePosts region < 256 →
        s.does (.routeInsert region pick) (fun t =>
          sent t (264 + region.val) (s.answerPacket p Code.done [BitVec.ofNat 32 pick])
          ∧ (let k := routeKey region pick
             t.fabric.posts = s.fabric.posts
               ++ [(region.val, .entry (k.1 * 4096 + k.2) (msgArg p 0) (msgArg p 1) (msgArg p 2))])
          ∧ t.routeFree region pick = false
          ∧ s.only t [.fabric, .regs, .step]))
      ∧ (msgHandler p = 0x0B → s.routePosts region < 256 → s.does (.routeRelease region) (fun t =>
          sent t (264 + region.val) (s.answerPacket p Code.done [])
          ∧ t.fabric.posts = s.fabric.posts ++ [(region.val, .release region (fld (msgArg p 0) 17 0))]
          ∧ s.only t [.fabric, .regs, .step]))
      ∧ (msgHandler p = 0x0C → s.routePosts region < 256 → s.does (.gateSet region) (fun t =>
          let k := gateKey region (fld (msgArg p 0) 11 0)
          sent t (264 + region.val) (s.answerPacket p Code.done [])
          ∧ t.fabric.posts = s.fabric.posts ++ [(region.val, .gate (k.1 * 4096 + k.2) (msgArg p 1))]
          ∧ s.only t [.fabric, .regs, .step])))
    ∧ (∀ (node : Fin 8) (p : Packet) (rest : List (Nat × Packet)), s.fabric.unitIn = (node.val, p) :: rest → p.ty = 3 →
      s.clocked = true → s.msgLate p = false →
      (msgHandler p = 0 → s.does (.ping node) (fun t =>
        sent t (264 + node.val) (s.answerPacket p Code.done [BitVec.ofNat 32 s.chipId, BitVec.ofNat 32 s.stepNo])
        ∧ t.fabric.unitIn = rest ∧ s.only t [.fabric, .step]))
      ∧ (node.val = 4 → 0x40 ≤ msgHandler p →
        let c := msgDest p % 16
        c < s.grade.crests → s.handlerOn c (msgHandler p) = true → msgSec p = true → (s.engine c).rx.length < 256 →
        s.does .softwareHandler (fun t =>
          sent t 268 (s.answerPacket p Code.done []) ∧ (t.engine c).rx = (s.engine c).rx ++ [p]
          ∧ s.only t [.engines, .fabric, .regs, .step])))
    ∧ (∀ (req : Requester) (engine : Fin 20) (v : W32), s.takes req (Page.engine engine) Reg.CHN_RX_NEXT → bit v 0 = true →
      engine.val < 16 → s.does (.chnRxNext req engine v) (fun t =>
        (t.engine engine).rx = (s.engine engine).rx.drop 1 ∧ (t.engine engine).out = (s.engine engine).out
        ∧ (t.engine engine).cq = (s.engine engine).cq ∧ s.only t [.engines]))

/-- CHN_TX_GO, ANSWER, RETRY, MESSAGE_TIMEOUT and CHN_CQ_POP (R240, R245–R249, R258). -/
def Obligations.SendEnginesComplete : Prop :=
  ∀ (s : State) (engine : Fin 20),
    let pg := Page.engine engine
    let g := s.engine engine
    (∀ (req : Requester) (v : W32), s.takes req pg Reg.CHN_TX_GO →
      let ch := s.channel (s.regFld pg Reg.CHN_TX_CHAN 14 0)
      (g.credits = 0 → s.does (.chnTxGo req engine v) (fun t =>
        (t.reg pg Reg.CHN_TX_REFUSED).toNat = min 0xFFFFFFFF ((s.reg pg Reg.CHN_TX_REFUSED).toNat + 1)
        ∧ bit (t.reg pg Reg.CHN_TX_STAT) 0 = true ∧ s.only t [.regs]
        ∧ s.regsBut t [(pg, Reg.CHN_TX_REFUSED), (pg, Reg.CHN_TX_STAT)]))
      ∧ (g.credits ≠ 0 → bit ch.2 31 = true → bit ch.2 30 = false → fld ch.2 29 28 = 0 →
        s.does (.chnTxGo req engine v) (fun t =>
          (∃ o f, (t.engine engine).out = g.out ++ [o] ∧ t.fabric.links = s.fabric.links ++ [f] ∧ o.packet = f.pkt
            ∧ f.pkt.ty = 3 ∧ f.pkt.chip = (if bit ch.2 27 then s.chipId else fld ch.2 18 7)
            ∧ o.handler = fld ch.2 26 19 ∧ o.dest = fld ch.1 19 0 ∧ o.tries = 0)
          ∧ (t.engine engine).cq = g.cq ∧ s.only t [.engines, .fabric, .regs, .step]))
      ∧ (g.credits ≠ 0 → bit ch.2 31 = false → s.does (.chnTxGo req engine v) (fun t =>
          (∃ x, (t.engine engine).cq = g.cq ++ [x] ∧ fld x.hi 30 27 = Code.noRoute ∧ bit x.hi 31 = true)
          ∧ (t.engine engine).out = g.out ∧ s.only t [.engines, .regs])))
    ∧ (∀ (node : Fin 8) (p : Packet) (rest : List (Nat × Packet)), s.fabric.unitIn = (node.val, p) :: rest → p.ty = 4 →
      s.clocked = true → fld (p.word 1) 19 12 = engine.val →
      (∀ o, g.out.find? (fun o => o.awaits p) = some o → fld (p.word 2) 23 20 = Code.done → p.count = 2 → o.notify = false →
        s.does (.answer node) (fun t => (t.engine engine).out = eraseFirst o g.out ∧ (t.engine engine).cq = g.cq
          ∧ t.fabric.unitIn = rest ∧ s.only t [.engines, .fabric, .step]))
      ∧ (g.out.find? (fun o => o.awaits p) = none → s.does (.answer node) (fun t =>
          (t.reg pg Reg.CHN_LATE_ANS).toNat = min 0xFFFFFFFF ((s.reg pg Reg.CHN_LATE_ANS).toNat + 1)
          ∧ t.fabric.unitIn = rest ∧ s.only t [.fabric, .regs, .step])))
    ∧ (∀ (o : Outstanding) (rest : List Outstanding), g.out = o :: rest → s.clocked = true →
      (∀ due, o.backoff = some due → due ≤ s.elapsed → s.does (.retry engine) (fun t =>
        (∃ f, t.fabric.links = s.fabric.links ++ [f] ∧ f.pkt = o.packet)
        ∧ (∃ n ∈ (t.engine engine).out, n.packet = o.packet ∧ n.tries = o.tries + 1 ∧ n.backoff = none)
        ∧ s.only t [.engines, .fabric, .regs, .step]))
      ∧ (o.backoff = none → o.sentAt + s.msgTimeout engine ≤ s.elapsed → s.does (.messageTimeout engine) (fun t =>
        (t.engine engine).out = rest
        ∧ (∃ x, (t.engine engine).cq = g.cq ++ [x] ∧ fld x.hi 30 27 = Code.timeout)
        ∧ s.only t [.engines, .regs])))
    ∧ (∀ req : Requester, s.mayRead req pg Reg.CHN_CQ_POP = true →
      (g.cq = [] → s.does (.chnCqPop req engine) (fun t => t.rdata = 0 ∧ s.only t [.read, .halves]))
      ∧ (∀ x cq, g.cq = x :: cq → s.does (.chnCqPop req engine) (fun t =>
        t.rdata = x.lo.toNat ∧ (t.engine engine).cq = cq ∧ (t.engine engine).out = g.out
        ∧ (∀ i, i < 5 → t.reg pg (Reg.CHN_CQ_DATA0 + 4 * i) = x.data.getD i 0)
        ∧ s.only t [.read, .halves, .engines, .regs])))

/-- SWEEPER_ROW, SWEEPER_PASS_DONE, CHECKPOINT_COMPLETE, RULESET_WRITE and CKPT_BASE_WRITE (R269, R279–R283, R287–R289). -/
def Obligations.LearningEnginesAct : Prop :=
  ∀ s : State,
    (∀ region : Fin 8, s.runs (3 + region) = true →
      let x := s.sweeper region
      x.busy = true →
      (x.entry < s.sweepCount region →
        let i := s.sweepQueue region x.entry
        let c := bitsOf i 19 9
        let q := bitsOf i 8 0
        let tbl := s.qrowt c q + 8 * x.row
        let e := s.entryAt tbl
        (s.qrowsM1 c q < x.row → s.does (.sweeperRow region) (fun t =>
          (t.sweeper region).entry = x.entry + 1 ∧ (t.sweeper region).row = 0 ∧ s.only t [.learn]))
        ∧ (s.offline c = false → c / 256 = region.val → x.row ≤ s.qrowsM1 c q → s.rowRefused tbl e = false →
          Entry.plastic e = true →
          (s.rowBusy c (Entry.addr e) = true → s.does (.sweeperRow region) (fun t => t = s))
          ∧ (s.rowBusy c (Entry.addr e) = false → (s.loadRow c tbl e).stamp = s.epoch % 4 →
            (s.stepNo + 128 - (s.loadRow c tbl e).age) % 128 < 64 → s.does (.sweeperRow region) (fun t =>
              (t.sweeper region).row = x.row + 1 ∧ (t.sweeper region).entry = x.entry ∧ s.only t [.learn, .dram]))))
      ∧ (s.sweepCount region ≤ x.entry → x.due = false → s.does (.sweeperPassDone region) (fun t =>
        (t.sweeper region).busy = false ∧ (t.sweeper region).done = x.epoch + 1
        ∧ (t.reg (Page.lrnRegion region) Reg.LRN_RSW_PASS_STEPS).toNat = min 65535 (s.stepNo - x.began)
        ∧ bit (t.reg (Page.lrnRegion region) Reg.PG_INT) 0 = true
        ∧ (x.epoch = s.epoch → bit (t.reg Page.lrn Reg.LRN_SWEEP_DONE) region = true)
        ∧ s.only t [.learn, .regs])))
    ∧ (∀ k : Checkpoint, s.learn.ckpt = some k → k.buf < 2 → s.clocked = true → s.does .checkpointComplete (fun t =>
        t.learn.ckpt = none ∧ t.reg64 Page.lrn Reg.LRN_CKPT_LAST = 2 ^ 63 + k.buf * 2 ^ 56 + k.epoch % 2 ^ 48
        ∧ bit (t.reg Page.lrn Reg.PG_INT) 3 = true
        ∧ (let a := Base.dram + bitsOf (s.reg64 Page.lrn Reg.LRN_CKPT_BASE) 35 20 * 2 ^ 20
           s.bytesBut t a (2 * 0xE000000))
        ∧ t.cells.neurons = s.cells.neurons ∧ s.only t [.learn, .regs, .mem, .poison, .cells, .dram]))
    ∧ (∀ (req : Requester) (off : Nat) (v : W32), Reg.LRN_RULESET ≤ off → off < Reg.LRN_RULESET + 0x100 → off % 4 = 0 →
      s.takes req Page.lrn off →
      let bad := (off / 4 % 4 = 1 ∧ fld v 10 9 = 3) ∨ (off / 4 % 4 = 2 ∧ bit v 15 = true)
      (bad → s.does (.rulesetWrite req off v) (fun t =>
        bit (t.reg Page.lrn Reg.PG_ERR) 0 = true ∧ s.only t [.regs] ∧ s.regsBut t [(Page.lrn, Reg.PG_ERR)]))
      ∧ (¬ bad → s.running = false → s.does (.rulesetWrite req off v) (fun t =>
        t.reg Page.lrn off = v &&& ruleMask (off / 4 % 4) ∧ s.only t [.regs] ∧ s.regsBut t [(Page.lrn, off)]))
      ∧ (¬ bad → s.running = true → s.does (.rulesetWrite req off v) (fun t =>
        t.learn.posts = s.learn.posts ++ [(off, v &&& ruleMask (off / 4 % 4))] ∧ req ∈ t.step.posters
        ∧ s.only t [.learn, .step])))
    ∧ (∀ (req : Requester) (v : W64), s.takes req Page.lrn Reg.LRN_CKPT_BASE →
      let b := bitsOf v.toNat 35 20 * 2 ^ 20
      (dramBytes s.grade < b + 2 * 0xE000000 → s.does (.ckptBaseWrite req v) (fun t =>
        bit (t.reg Page.lrn Reg.PG_ERR) 1 = true ∧ s.only t [.regs] ∧ s.regsBut t [(Page.lrn, Reg.PG_ERR)]))
      ∧ (b + 2 * 0xE000000 ≤ dramBytes s.grade → s.reg64 (Page.die 0) Reg.DRM_SYN_LIMIT ≤ s.reg64 (Page.die 0) Reg.DRM_SYN_BASE →
        s.does (.ckptBaseWrite req v) (fun t => t.reg64 Page.lrn Reg.LRN_CKPT_BASE = b ∧ s.only t [.regs]
          ∧ s.regsBut t [(Page.lrn, Reg.LRN_CKPT_BASE), (Page.lrn, Reg.LRN_CKPT_BASE + 4)])))

/-- NOP, GEMM, GEMM_ACC, CONV1D, FFT, ELT, REDUCE, EXP_NORM, QUANT, DEQUANT, SPK_GATHER, SPK_EMIT, SGD_UPDATE and SURROGATE
(R305, R309). -/
def Obligations.PlateauOperationsRun : Prop :=
  ∀ (s : State) (plt : Fin 4) (order : List Nat) (m : Instr) (op : Nat)
    (go : Nat → PltJob → PltIn → State → PltResult × State) (j : PltJob),
    (op = 0x00 ∧ m = .nop plt ∧ go = (fun _ _ _ s => ((0, none), s)))
      ∨ (op = 0x01 ∧ m = .gemm plt order ∧ go = pltGemm order) ∨ (op = 0x02 ∧ m = .gemmAcc plt order ∧ go = pltGemmAcc order)
      ∨ (op = 0x03 ∧ m = .conv1d plt order ∧ go = pltConv1d order) ∨ (op = 0x04 ∧ m = .fft plt ∧ go = pltFft)
      ∨ (op = 0x05 ∧ m = .elt plt ∧ go = pltElt) ∨ (op = 0x06 ∧ m = .reduce plt order ∧ go = pltReduce order)
      ∨ (op = 0x07 ∧ m = .expNorm plt order ∧ go = pltExpNorm order) ∨ (op = 0x08 ∧ m = .quant plt ∧ go = pltRequant 1)
      ∨ (op = 0x09 ∧ m = .dequant plt ∧ go = pltRequant 2) ∨ (op = 0x10 ∧ m = .spkGather plt ∧ go = pltGather)
      ∨ (op = 0x11 ∧ m = .spkEmit plt ∧ go = pltEmit) ∨ (op = 0x18 ∧ m = .sgdUpdate plt ∧ go = pltSgd)
      ∨ (op = 0x19 ∧ m = .surrogate plt ∧ go = pltSurrogate) →
    (s.plt plt).job = some j → j.op = op → j.status = none → s.runs (139 + plt) = true → s.enabled (Page.plt plt) = true →
    s.pltHeld j = false →
    let x := j.operands
    (j.formatOk = false → s.does m (fun t =>
      (t.plt plt).job = some { j with status := some 1 } ∧ (t.plt plt).program = (s.plt plt).program ∧ s.only t [.plts]))
    ∧ (j.formatOk = true → j.shapeOk = true → s.poison = [] →
      (∀ y ∈ x.all, pltSram plt ≤ y.addr ∧ y.addr + max 1 y.bytes ≤ pltSram plt + 0x1000000) →
      let codes (y : Option PltOperand) : List Nat := match y with
        | some y => s.readElems y
        | none => []
      let r := (go plt j { a := codes x.a, b := codes x.b, o := if x.readO then codes x.o else [] } s).1
      s.does m (fun t =>
        (t.plt plt).job = some { j with status := some r.1 } ∧ (r.1 = 0 ∨ r.1 = 3)
        ∧ (∀ y l, x.o = some y → r.2 = some l → l.length = y.count → (∀ c ∈ l, c < 2 ^ y.width) →
            t.readElems y = l ∧ s.bytesBut t y.addr y.bytes)
        ∧ (x.o = none → t.mem = s.mem)
        ∧ s.only t [.plts, .mem, .cells, .fabric, .fresh, .regs, .step]))

/-- GEMM on integers (R309, R310). -/
def Obligations.IntegerGemmIsExact : Prop :=
  ∀ (s : State) (plt : Fin 4) (order : List Nat) (j : PltJob), (s.plt plt).job = some j → j.op = 0x01 → j.status = none →
    s.runs (139 + plt) = true → s.enabled (Page.plt plt) = true → s.poison = [] → j.formatOk = true → j.shapeOk = true →
    j.fmtA = 2 → j.fmtB = 2 → j.fmtO = 4 → j.fp32Acc = false → (∀ i, i < 3 → j.mult i = 1 ∧ j.exp i = 0) →
    (∀ y ∈ j.operands.all, pltSram plt ≤ y.addr ∧ y.addr + max 1 y.bytes ≤ pltSram plt + 0x1000000) →
    ∀ a b o, j.operands.a = some a → j.operands.b = some b → j.operands.o = some o →
    let va := (s.readElems a).map (toSigned 8)
    let vb := (s.readElems b).map (toSigned 8)
    let sum (e : Nat) : Int := ((List.range j.k).map (fun t => va.getD (e / j.n * j.k + t) 0 * vb.getD (t * j.n + e % j.n) 0)).sum
    s.does (.gemm plt order) (fun t =>
      t.readElems o = (List.range (j.m * j.n)).map (fun e => ofSigned 32 (max (-2 ^ 31) (min (2 ^ 31 - 1) (sum e))))
      ∧ (t.plt plt).job = some { j with status := some 0 } ∧ s.bytesBut t o.addr o.bytes)

/-- JOB_END, DETACHED_PREEMPT, ABORT_DT, PLT_DT_TAIL and PLT_SIDE_ACCESS (R297, R298, R301, R303, R305). -/
def Obligations.PlateauJobsEndAndYield : Prop :=
  ∀ (s : State) (plt : Fin 4),
    let p := s.plt plt
    let pg := Page.plt plt
    (∀ (j : PltJob) (st cycles : Nat), p.job = some j → j.status = some st → s.runs (139 + plt) = true → s.dram.reqs = [] →
      p.program = [] → bit (s.reg pg Reg.PLT_CTRL) 1 = false →
      (j.ring = false → j.irq = false → st = 0 → s.does (.jobEnd plt cycles) (fun t =>
        (t.plt plt).job = none ∧ (t.reg pg Reg.PLT_SB_DONE).toNat = min 0xFFFFFFFF ((s.reg pg Reg.PLT_SB_DONE).toNat + 1)
        ∧ s.only t [.plts, .dram, .regs]))
      ∧ (j.ring = true → s.does (.jobEnd plt cycles) (fun t =>
        (t.plt plt).job = none ∧ (t.plt plt).ended = p.ended + 1
        ∧ (t.reg pg Reg.PLT_DT_DONE).toNat = min 0xFFFFFFFF ((s.reg pg Reg.PLT_DT_DONE).toNat + 1)
        ∧ t.regFld pg Reg.PLT_DT_HEAD 11 0
            = (s.regFld pg Reg.PLT_DT_HEAD 11 0 + 1) % 2 ^ s.regFld pg Reg.PLT_DT_SIZE 3 0 % 4096
        ∧ s.only t [.plts, .dram, .regs, .mem, .poison])))
    ∧ (∀ j r, p.job = some j → j.ring = true → p.abort = false → s.runs (139 + plt) = true → s.pltReady plt = true →
      p.program.head? = some r → presentIn s.grade pg = true → s.enabled pg = true → s.faulted pg = false →
      s.does (.detachedPreempt plt) (fun t =>
        (t.plt plt).held = some j ∧ (t.plt plt).job = some r ∧ (t.plt plt).program = p.program.drop 1
        ∧ (t.reg pg Reg.PLT_PREEMPT).toNat = min 0xFFFFFFFF ((s.reg pg Reg.PLT_PREEMPT).toNat + 1)
        ∧ s.only t [.plts, .regs] ∧ s.regsBut t [(pg, Reg.PLT_PREEMPT)]))
    ∧ (∀ (req : Requester) (v : W32) (j : PltJob), s.takes req pg Reg.PLT_CTRL → s.takesWo req pg Reg.PLT_CTRL →
      p.job = some j → j.ring = true → s.does (.abortDt req plt v) (fun t =>
        (t.plt plt).abort = true ∧ (t.plt plt).job = some j ∧ s.only t [.plts, .regs] ∧ s.regsBut t [(pg, Reg.PLT_CTRL)]))
    ∧ (∀ (req : Requester) (v : W32), s.takes req pg Reg.PLT_DT_TAIL → bit (s.reg pg Reg.PLT_CTRL) 1 = false → p.program = [] →
      s.does (.pltDtTail req plt v) (fun t =>
        t.reg pg Reg.PLT_DT_TAIL = v &&& 0xFFF ∧ s.only t [.regs] ∧ s.regsBut t [(pg, Reg.PLT_DT_TAIL)]))
    ∧ (∀ (req : Requester) (waited : Nat) (o : Nat) (l : List Byte), s.serves req = true → presentIn s.grade pg = true →
      sideAligned o l.length = true → o + l.length ≤ 0x1000000 →
      (bit (s.reg pg Reg.PLT_CTRL) 2 = true → s.does (.pltSideAccess req plt (.load o l.length) waited false) (fun t =>
        t.rdata = s.num (pltSram plt + o) l.length ∧ s.only t [.read]))
      ∧ (bit (s.reg pg Reg.PLT_CTRL) 2 = true → bit (s.reg pg Reg.PLT_CTRL) 3 = true →
        s.does (.pltSideAccess req plt (.store o l) waited false) (fun t =>
          t.bytes (pltSram plt + o) l.length = l ∧ s.bytesBut t (pltSram plt + o) l.length ∧ s.only t [.mem, .poison, .read]))
      ∧ (bit (s.reg pg Reg.PLT_CTRL) 2 = false → s.does (.pltSideAccess req plt (.store o l) waited false) (fun t =>
          t.rpoison = true ∧ s.only t [.read])))

/-- LINK_ENABLE, JESD_CDR_LOCK, JESD_SYNC_LOCK, JESD_EMB_LOCK, JESD_ALIGNED, JESD_LINK_LOSS, SYSREF_EDGE and JESD_MULTIBLOCK
(R328–R334). -/
def Obligations.JesdLinksCarrySamples : Prop :=
  ∀ (s : State) (k : Fin 4),
    let cfg := Reg.ING_LCFGk + 0x20 * k.val
    let stat := Reg.ING_LSTATk + 0x20 * k.val
    (∀ (req : Requester) (v : W32), s.takes req Page.ing cfg → s.linkOn k = false →
      let w : W32 := (v ||| 1) &&& 0xFFFFFFC3
      (s.linkRefused k w = true → s.does (.linkEnable req k v) (fun t =>
        bit (t.reg Page.ing cfg) 0 = false ∧ bit (t.reg Page.ing Reg.PG_ERR) 0 = true
        ∧ s.only t [.regs] ∧ s.regsBut t [(Page.ing, cfg), (Page.ing, Reg.PG_ERR)]))
      ∧ (s.linkRefused k w = false → s.does (.linkEnable req k v) (fun t =>
        t.reg Page.ing cfg = w ∧ t.linkState k = 0 ∧ fld (t.reg Page.ing stat) 7 0 = 0
        ∧ s.only t [.regs, .ingress] ∧ s.regsBut t [(Page.ing, cfg), (Page.ing, stat)])))
    ∧ (s.clocked = true → s.linkOn k = true →
      let locked := (2 ^ fld (s.reg Page.ing cfg) 27 24 - 1) % 256
      (s.linkState k = 0 → s.does (.jesdCdrLock k) (fun t =>
        t.linkState k = 1 ∧ s.only t [.regs] ∧ s.regsBut t [(Page.ing, stat)]))
      ∧ (s.linkState k = 1 → s.does (.jesdSyncLock k) (fun t =>
        t.linkState k = 2 ∧ fld (t.reg Page.ing stat) 7 0 = locked ∧ s.only t [.regs] ∧ s.regsBut t [(Page.ing, stat)]))
      ∧ (s.linkState k = 2 → s.does (.jesdEmbLock k) (fun t =>
        t.linkState k = 3 ∧ fld (t.reg Page.ing stat) 7 0 = locked ∧ s.only t [.regs] ∧ s.regsBut t [(Page.ing, stat)]))
      ∧ (s.linkState k = 3 → k.val ∈ s.ingress.lemc → ∀ jitter : Bool, s.does (.jesdAligned k jitter) (fun t =>
        t.linkState k = 4
        ∧ (∀ c, c < 64 → t.encState c
            = if s.encRunning c = true ∧ s.encLink c = k.val then { s.encState c with first := true } else s.encState c)
        ∧ s.only t [.regs, .ingress] ∧ s.regsBut t [(Page.ing, stat), (Page.ing, Reg.ING_LAT_NSk + 0x20 * k.val)]))
      ∧ (s.linkState k = 4 →
        (∀ lane : Fin 8, s.does (.jesdLinkLoss k lane) (fun t =>
          t.linkState k = 2 ∧ bit (t.reg Page.ing stat) lane = false
          ∧ s.counted t Page.ing (Reg.ING_LOSSk + 0x20 * k.val) 1 ∧ bit (t.reg Page.ing Reg.PG_INT) 0 = true
          ∧ k.val ∉ t.ingress.lemc
          ∧ (∀ c, c < 64 → s.encRunning c = true → s.encLink c = k.val → bit (t.reg (Page.enc c) Reg.PG_INT) 0 = true)
          ∧ t.ingress.enc = s.ingress.enc ∧ s.only t [.regs, .ingress]))
        ∧ (∀ (ok : Bool) (frame : List Nat),
          let good := ok || !(bit (s.reg Page.ing cfg) 1)
          s.does (.jesdMultiblock k ok [frame]) (fun t =>
            (∀ c, c < 64 →
              if s.encRunning c = true ∧ s.encLink c = k.val then
                let src := s.reg (Page.enc c) Reg.ENC_SRC
                let m := fld src 3 0
                (good = true → (t.encState c).last
                  = (s.converter k frame m, if bit src 31 then s.converter k frame (m + 1) else 0))
                ∧ (good = false → (t.encState c).last = (s.encState c).last ∧ s.counted t (Page.enc c) Reg.ENC_INVALID 1)
              else t.encState c = s.encState c)
            ∧ (good = false → s.counted t Page.ing (Reg.ING_CRC_ERRk + 0x20 * k.val) 1)
            ∧ s.only t [.ingress, .regs, .fresh]))))
    ∧ (s.clocked = true → s.grade.ingress = true → s.regFld Page.ing Reg.ING_SYSREF_CTRL 1 0 = 1 →
      s.does (.sysrefEdge false) (fun t =>
        t.reg64 Page.ing Reg.ING_SYSREF_NS = s.elapsed % 2 ^ 64 ∧ s.counted t Page.ing Reg.ING_SYSREF_CNT 1
        ∧ t.regFld Page.ing Reg.ING_SYSREF_CTRL 1 0 = 0
        ∧ (∀ j, j < 4 → s.linkOn j = true → s.linkState j ≠ 4 → j ∈ t.ingress.lemc)
        ∧ s.only t [.regs, .ingress, .tmr]))

/-- CHANNEL_START, CHANNEL_STOP, ENC_POSTED_WRITE, LEVEL, DELTA, ZC, PEAK, LATENCY, BLOCK and BLOCK_COMPLETE (R334–R346). -/
def Obligations.EncoderChannelsEncode : Prop :=
  ∀ (s : State) (c : Fin 64),
    let pg := Page.enc c
    let e := s.encState c
    (∀ (req : Requester) (v : W32), s.takes req pg Reg.ENC_CFG →
      (fld v 31 29 ≠ 0 → fld v 31 29 ≠ 7 → s.encRunning c = false → s.faulted pg = false →
        let w : W32 := v &&& 0xEFFFC000
        (s.encStartOk c w = true → s.does (.channelStart req c v) (fun t =>
          t.encRunning c = true ∧ t.reg pg Reg.ENC_CFG = w
          ∧ (t.encState c).events = [] ∧ (t.encState c).samples = [] ∧ (t.encState c).posts = []
          ∧ (t.encState c).first = true ∧ (t.encState c).phase = (s.reg pg Reg.ENC_NCO_PHASE).toNat
          ∧ s.only t [.regs, .ingress, .fresh]
          ∧ s.regsBut t [(pg, Reg.ENC_CFG), (pg, Reg.ENC_RATE_KSPS), (pg, Reg.ENC_GDLY_NS), (pg, Reg.PG_INT)]))
        ∧ (s.encStartOk c w = false → s.does (.channelStart req c v) (fun t =>
          t.encRunning c = false ∧ bit (t.reg pg Reg.PG_ERR) 0 = true ∧ s.only t [.regs]
          ∧ s.regsBut t [(pg, Reg.ENC_CFG), (pg, Reg.PG_ERR)])))
      ∧ (s.encRunning c = true → s.does (.channelStop req c v) (fun t =>
          t.encRunning c = false ∧ t.encState c = {} ∧ s.only t [.regs, .ingress] ∧ s.regsBut t [(pg, Reg.ENC_CFG)])))
    ∧ (∀ (req : Requester) (v : W64), s.takes req pg Reg.ENC_PARAM → s.encRunning c = true → s.encMode c = 2 →
      let w : W32 := v.truncate 32
      let good := 1 ≤ fld w 15 0 ∧ fld w 15 0 ≤ 32767
      (¬ good → s.does (.encPostedWrite req c Reg.ENC_PARAM v) (fun t =>
        bit (t.reg pg Reg.PG_ERR) 0 = true ∧ s.only t [.regs] ∧ s.regsBut t [(pg, Reg.PG_ERR)]))
      ∧ (good → s.running = true → s.does (.encPostedWrite req c Reg.ENC_PARAM v) (fun t =>
        t.encState c = { e with posts := e.posts ++ [(Reg.ENC_PARAM, w)] } ∧ req ∈ t.step.posters
        ∧ s.only t [.ingress, .step]))
      ∧ (good → s.running = false → s.does (.encPostedWrite req c Reg.ENC_PARAM v) (fun t =>
        t.reg pg Reg.ENC_PARAM = w ∧ s.only t [.regs] ∧ s.regsBut t [(pg, Reg.ENC_PARAM)])))
    ∧ (∀ (d : DecSample) (l : List DecSample), s.encClock = true → s.encRunning c = true → e.samples = d :: l →
      let p := s.reg pg Reg.ENC_PARAM
      let thr := fun i => encThr (s.reg pg) i
      let lo : Int := fld p 15 0
      let n := fld p 31 16
      let up := s.reg64 pg Reg.ENC_UP
      let down := s.reg64 pg Reg.ENC_DOWN
      let word := fun (m i : Nat) => BitVec.ofNat 32 (m + i)
      let after (t : State) (ws : List W32) : Prop :=
        (t.encState c).samples = l ∧ (t.encState c).group = e.group + 1
        ∧ (t.encState c).events.map (fun x => x.word) = e.events.map (fun x => x.word) ++ ws ∧ s.only t [.ingress]
      (e.first = false → s.regFld pg Reg.ENC_CFG 27 26 = 0 → s.node7Credit = false → e.events.length + 16 ≤ 256 →
        emitValid up = true → emitKind up = 0 → emitValid down = true → emitKind down = 0 →
        (s.encMode c = 1 → e.lvl ≤ n → n ≤ 16 → (∀ i, i + 1 < n → thr i < thr (i + 1)) →
          (∀ m, 0 < m → e.lvl + m ≤ n → (∀ i, e.lvl ≤ i → i < e.lvl + m → thr i ≤ d.i) →
            (e.lvl + m < n → d.i < thr (e.lvl + m)) → s.does (.level c) (fun t =>
              (t.encState c).lvl = e.lvl + m ∧ after t ((List.range m).map (fun i => word up (e.lvl + i)))))
          ∧ (∀ m, 0 < m → m ≤ e.lvl → (∀ i, e.lvl - m ≤ i → i < e.lvl → d.i < thr i - lo) →
            (m < e.lvl → thr (e.lvl - m - 1) - lo ≤ d.i) → s.does (.level c) (fun t =>
              (t.encState c).lvl = e.lvl - m ∧ after t ((List.range m).map (fun i => word down (e.lvl - 1 - i))))))
        ∧ (s.encMode c = 2 → 0 < lo →
          (lo ≤ d.i - e.ref → s.does (.delta c) (fun t =>
            (t.encState c).ref = e.ref + (d.i - e.ref) / lo * lo ∧ after t [word up 0]))
          ∧ (lo ≤ e.ref - d.i → s.does (.delta c) (fun t =>
            (t.encState c).ref = e.ref - (e.ref - d.i) / lo * lo ∧ after t [word down 0]))
          ∧ (d.i - e.ref < lo → e.ref - d.i < lo → s.does (.delta c) (fun t => (t.encState c).ref = e.ref ∧ after t [])))
        ∧ (s.encMode c = 3 →
          (e.pos = false → lo < d.i → s.does (.zc c) (fun t => (t.encState c).pos = true ∧ after t [word up 0]))
          ∧ (e.pos = true → d.i < -lo → s.does (.zc c) (fun t => (t.encState c).pos = false ∧ after t [word down 0])))
        ∧ (s.encMode c = 4 →
          let shift (t : State) : Prop := (t.encState c).x1 = d.i ∧ (t.encState c).x2 = e.x1
          (e.hold = 0 → toSigned 16 (fld p 15 0) ≤ e.x1 → e.x2 < e.x1 → d.i ≤ e.x1 → s.does (.peak c) (fun t =>
            (t.encState c).hold = n ∧ shift t ∧ after t [word up 0]))
          ∧ (0 < e.hold → s.does (.peak c) (fun t => (t.encState c).hold = e.hold - 1 ∧ shift t ∧ after t [])))
        ∧ (s.encMode c = 5 →
          (e.armed = true → toSigned 16 (fld p 15 0) ≤ d.i → s.does (.latency c) (fun t =>
            (t.encState c).armed = false ∧ after t [word up 0]))
          ∧ (e.armed = false → s.does (.latency c) (fun t => (t.encState c).armed = false ∧ after t []))))
      ∧ (s.encMode c = 6 → e.blkPos < 2 ^ s.blkLog c →
        let a := s.slotAddr c e.blkSeq
        let f := if bit (s.reg pg Reg.ENC_BLK_CFG) 12 then 7 else 8
        let code := fun x : Int => (encodeNum f false (Num.ofInt x) none).code % 65536
        let stored (t : State) : Prop := t.num (a + 64 + 4 * e.blkPos) 2 = code d.i
          ∧ t.num (a + 64 + 4 * e.blkPos + 2) 2 = code d.q ∧ (t.encState c).samples = l
          ∧ s.only t [.ingress, .mem, .poison]
        (s.blkAdmits c = true → e.blkPos + 1 < 2 ^ s.blkLog c → s.does (.block c) (fun t =>
          stored t ∧ s.bytesBut t (a + 64 + 4 * e.blkPos) 4 ∧ (t.encState c).blkPos = e.blkPos + 1
          ∧ (t.encState c).blkSeq = e.blkSeq))
        ∧ (s.blkAdmits c = true → e.blkPos + 1 = 2 ^ s.blkLog c → s.does (.block c) (fun t =>
          stored t ∧ s.bytesBut t a (64 + 4 * 2 ^ s.blkLog c) ∧ t.num a 4 = e.blkSeq % 2 ^ 32
          ∧ (t.encState c).blkPos = 0 ∧ (t.encState c).blkSeq = (e.blkSeq + 1) % 2 ^ 32
          ∧ (t.encState c).done = e.done ++ [e.blkSeq]))
        ∧ (s.blkAdmits c = false → s.does (.block c) (fun t =>
          s.counted t pg Reg.ENC_BLK_DROP 1 ∧ bit (t.reg pg Reg.PG_INT) 2 = true
          ∧ (t.encState c).blkSeq = (e.blkSeq + 1) % 2 ^ 32 ∧ s.only t [.ingress, .regs]))))
    ∧ (∀ (n : Nat) (l : List Nat), e.done = n :: l → s.clocked = true → s.blkCount c = 0 →
        s.does (.blockComplete c) (fun t => t.reg pg Reg.ENC_BLK_SEQ = BitVec.ofNat 32 n
          ∧ t.encState c = { e with done := l } ∧ s.only t [.ingress, .regs] ∧ s.regsBut t [(pg, Reg.ENC_BLK_SEQ)]))

/-- CSI2_LOCK_CHANGE, CSI2_FRAME_START, CSI2_LONG_PACKET, TEMPLATE_WRITE, AER_WORD, AER_ACK_RELEASE, AER_REQ_FALL, MAP_LOOKUP,
MAP_MISS_FILL and EVC_MAP_FLUSH (R347–R354, R357, R360). -/
def Obligations.SensorsReachTheMap : Prop :=
  ∀ s : State,
    (∀ rx : Fin 4,
      let pg := Page.evc rx
      (s.clocked = true →
        (bit (s.reg pg Reg.EVC_CTRL) 0 = true → s.does (.csi2LockChange rx true) (fun t =>
          bit (t.reg pg Reg.EVC_STAT) 31 = true ∧ s.only t [.regs] ∧ s.regsBut t [(pg, Reg.EVC_STAT)]))
        ∧ (bit (s.reg pg Reg.EVC_STAT) 31 = true → s.does (.csi2LockChange rx false) (fun t =>
          bit (t.reg pg Reg.EVC_STAT) 31 = false ∧ bit (t.reg pg Reg.PG_INT) 1 = true ∧ s.only t [.regs]
          ∧ s.regsBut t [(pg, Reg.EVC_STAT), (pg, Reg.PG_INT)])))
      ∧ (s.evcTakes rx = true → ∀ vc : Fin 16,
        s.does (.csi2FrameStart rx vc 0) (fun t =>
          (t.anchor rx vc).start = some s.elapsed ∧ (t.anchor rx vc).ts0 = none
          ∧ (t.anchor rx vc).timeHi = (s.anchor rx vc).timeHi ∧ bit (t.reg pg Reg.EVC_STAT) vc = true
          ∧ s.only t [.ingress, .regs] ∧ s.regsBut t [(pg, Reg.EVC_STAT)])
        ∧ s.does (.csi2FrameStart rx vc 2) (fun t => s.counted t pg Reg.EVC_ECC_ERR 1
          ∧ bit (t.reg pg Reg.PG_INT) 1 = true ∧ s.only t [.regs])
        ∧ (∀ (dt : Fin 64) (payload : List Byte),
          s.does (.csi2LongPacket rx vc dt 0 false payload) (fun t => s.counted t pg Reg.EVC_CRC_ERR 1
            ∧ bit (t.reg pg Reg.PG_INT) 1 = true ∧ s.only t [.regs]
            ∧ s.regsBut t [(pg, Reg.EVC_CRC_ERR), (pg, Reg.PG_INT)])
          ∧ (let serves := fun i => bit (s.tpl rx i 0) 31 && fld (s.tpl rx i 0) 30 27 == vc.val && fld (s.tpl rx i 0) 26 21 == dt.val
             ((∀ i, i < 8 → serves i = false) → s.does (.csi2LongPacket rx vc dt 0 true payload) (fun t =>
               s.counted t pg Reg.EVC_DT_OTHER 1 ∧ s.only t [.regs] ∧ s.regsBut t [(pg, Reg.EVC_DT_OTHER)]))
             ∧ (∀ i, i < 8 → serves i = true → (∀ j, j < i → serves j = false) →
               let w0 := s.tpl rx i 0
               let w1 := s.tpl rx i 1
               let w2 := s.tpl rx i 2
               let x := leNat payload
               payload.length = tplSize w0 / 8 → fld w0 12 10 = 0 → fld w2 31 27 = 0 → s.sensorCount rx < 4096 →
               s.does (.csi2LongPacket rx vc dt 0 true payload) (fun t =>
                 t.ingress.events = s.ingress.events ++ [{
                   src := rx, map := fld (s.tpl rx i 3) 2 0
                   x := x / 2 ^ fld w1 31 26 % 2 ^ fld w1 25 22, y := x / 2 ^ fld w1 21 16 % 2 ^ fld w1 15 12
                   p := if bit w2 26 then x / 2 ^ fld w1 11 6 % 2 else 0
                   t := some ((s.elapsed : Int) - s.regFld pg Reg.EVC_TOFF_NS 15 0) }]
                 ∧ s.counted t pg Reg.EVC_EVENTS 1 ∧ s.only t [.ingress, .regs] ∧ s.regsBut t [(pg, Reg.EVC_EVENTS)])))))
      ∧ (∀ (req : Requester) (word : Fin 32) (v : W32), s.takes req pg (Reg.EVC_TPL + 4 * word.val) →
        let n := word.val % 4
        let w := fun k => if k = n then v &&& tplMask n else s.tpl rx (word / 4) k
        (tplRefused n (w 0) (w 1) (w 2) = true → s.does (.templateWrite req rx word v) (fun t =>
          bit (t.reg pg Reg.PG_ERR) 0 = true ∧ s.only t [.regs] ∧ s.regsBut t [(pg, Reg.PG_ERR)]))
        ∧ (tplRefused n (w 0) (w 1) (w 2) = false → s.does (.templateWrite req rx word v) (fun t =>
          t.reg pg (Reg.EVC_TPL + 4 * word.val) = v &&& tplMask n ∧ s.only t [.regs]
          ∧ s.regsBut t [(pg, Reg.EVC_TPL + 4 * word.val)]))))
    ∧ (∀ (port : Fin 2) (word : W32),
      let pg := Page.aer port
      let w : AerWord := { port := port, word := word, t := s.elapsed }
      (s.runs (186 + port) = true → bit (s.reg pg Reg.AER_CTRL) 0 = true → port.val ∉ s.ingress.aerAck →
        (∀ x ∈ s.ingress.aerHeld, x.port ≠ port.val) →
        (s.aerFifo port < 1024 → s.does (.aerWord port word) (fun t =>
          t.ingress.aer = s.ingress.aer ++ [w] ∧ port.val ∈ t.ingress.aerAck ∧ s.counted t pg Reg.AER_EVENTS 1
          ∧ s.only t [.ingress, .regs] ∧ s.regsBut t [(pg, Reg.AER_EVENTS)]))
        ∧ (1024 ≤ s.aerFifo port →
          (bit (s.reg pg Reg.AER_CTRL) 1 = true → s.does (.aerWord port word) (fun t =>
            t.ingress.aer = s.ingress.aer ∧ port.val ∈ t.ingress.aerAck ∧ s.counted t pg Reg.AER_DROP 1
            ∧ bit (t.reg pg Reg.PG_INT) 0 = true ∧ s.only t [.ingress, .regs]))
          ∧ (bit (s.reg pg Reg.AER_CTRL) 1 = false → s.does (.aerWord port word) (fun t =>
            t.ingress = { s.ingress with aerHeld := s.ingress.aerHeld ++ [w] } ∧ s.only t [.ingress]))))
      ∧ (∀ x : AerWord, s.ingress.aerHeld.find? (fun y => y.port == port.val) = some x → s.runs (186 + port) = true →
        s.aerFifo port < 1024 → s.does (.aerAckRelease port) (fun t =>
          t.ingress.aer = s.ingress.aer ++ [x] ∧ t.ingress.aerHeld = eraseFirst x s.ingress.aerHeld
          ∧ port.val ∈ t.ingress.aerAck ∧ s.only t [.ingress, .regs]))
      ∧ (s.clocked = true → s.does (.aerReqFall port) (fun t => port.val ∉ t.ingress.aerAck ∧ s.only t [.ingress])))
    ∧ (∀ (src : Fin 6) (e : SensorEvent), src.val < 4 → s.ingress.events.find? (fun x => x.src == src.val) = some e →
      s.clocked = true → s.node7Credit = true → s.ingress.misses.length < 64 →
      let outside := 2 ^ s.mapX e.map ≤ e.x ∨ 2 ^ s.mapY e.map ≤ e.y
      let line := s.mapAddr e / 64 * 64
      let cached := (s.ingress.cache.take s.mapLines).find? (fun x => x.1 == line)
      (outside → s.does (.mapLookup src) (fun t => s.counted t (Page.evc src) Reg.EVC_DROP_RANGE 1
        ∧ t.ingress.events = eraseFirst e s.ingress.events ∧ s.only t [.ingress, .regs]))
      ∧ (¬ outside → cached = none → s.does (.mapLookup src) (fun t =>
        t.ingress.misses = s.ingress.misses ++ [{ id := s.fresh + 1, addr := s.mapAddr e, ev := e }]
        ∧ t.ingress.events = eraseFirst e s.ingress.events ∧ s.only t [.ingress, .fresh, .dram]))
      ∧ (¬ outside → cached.isSome = true → s.does (.mapLookup src) (fun t =>
        s.counted t Page.evcMap Reg.EVC_HITS 1 ∧ t.ingress.misses = s.ingress.misses
        ∧ t.ingress.events = eraseFirst e s.ingress.events ∧ s.only t [.ingress, .regs, .fresh, .fabric, .step])))
    ∧ (∀ (id : Nat) (m : MapMiss), s.ingress.misses.find? (fun m => m.id == id) = some m → s.clocked = true →
      s.node7Credit = true → s.reqsDone id = true → s.does (.mapMissFill id) (fun t =>
        s.counted t Page.evcMap Reg.EVC_MISSES 1 ∧ t.ingress.misses = eraseFirst m s.ingress.misses
        ∧ (0 < s.mapLines → (t.ingress.cache.head?).map (fun l => l.1) = some (m.addr / 64 * 64)) ∧ t.mem = s.mem
        ∧ s.only t [.ingress, .regs, .dram, .fresh, .fabric, .step]))
    ∧ (∀ req : Requester, s.takes req Page.evcMap Reg.EVC_MAP_FLUSH →
      (s.running = true → s.does (.evcMapFlush req) (fun t => t.reg Page.evcMap Reg.EVC_MAP_FLUSH = 1
        ∧ req ∈ t.step.posters ∧ t.ingress = s.ingress ∧ s.only t [.regs, .step]))
      ∧ (s.running = false → s.does (.evcMapFlush req) (fun t => t.ingress.cache = []
        ∧ bit (t.reg Page.evcMap Reg.PG_INT) 0 = true ∧ s.only t [.regs, .ingress])))

/-- PORT_TRAINING_START, DETECT_RETRY, DETECT_DONE, EQ_DONE, LANE_TEST_DONE, WIDTH_AGREED, LANE_FAIL, DEGRADE_WINDOW,
PORT_DOWN and RETRAIN (R365–R372). -/
def Obligations.TraversePortsTrain : Prop :=
  ∀ (s : State) (p : Fin 16),
    let pg := Page.trv p
    let x := s.trvPort p
    let others (t : State) : Prop := ∀ q, q ≠ p.val → t.trvPort q = s.trvPort q
    (s.trvRuns p = true →
      (s.trvEn p = true → s.trvState p = 0 →
        s.does (.portTrainingStart p) (fun t => t.trvState p = 1 ∧ (t.trvPort p).stage = 1
          ∧ (t.trvPort p).stored = (x.stored && x.coefs) ∧ others t ∧ s.only t [.regs, .trv])
        ∧ (x.downAt + 1000000 ≤ s.elapsed → s.does (.detectRetry p) (fun t => t.trvState p = 1
          ∧ (t.trvPort p).stage = 1 ∧ (t.trvPort p).stored = false ∧ others t ∧ s.only t [.regs, .trv])))
      ∧ (s.trvState p = 1 →
        (x.stage = 1 → s.does (.detectDone p) (fun t => t.trvPort p = { x with stage := 2 } ∧ others t ∧ s.only t [.trv]))
        ∧ (x.stage = 2 → s.does (.eqDone p) (fun t => t.trvPort p = { x with stage := 3, coefs := true } ∧ others t
          ∧ s.only t [.trv]))
        ∧ (x.stage = 3 → ∀ good : BitVec 5, s.does (.laneTestDone p good) (fun t => t.trvPort p = { x with stage := 4 }
          ∧ t.regFld pg Reg.TRV_STAT 24 20 = good.toNat ∧ others t ∧ s.only t [.regs, .trv]
          ∧ s.regsBut t [(pg, Reg.TRV_STAT)]))
        ∧ (x.stage = 4 → ∀ partner : BitVec 5,
          let n := (lanesOf (s.regFld pg Reg.TRV_STAT 24 20 &&& partner.toNat)).length
          (n = 0 → s.does (.widthAgreed p partner) (fun t => t.trvState p = 0
            ∧ t.trvPort p = { coefs := x.coefs, downAt := s.elapsed } ∧ s.only t [.regs, .trv, .step]))
          ∧ (n ≠ 0 → s.does (.widthAgreed p partner) (fun t => t.trvWidth p = widthOf n
            ∧ t.trvState p = upCode (widthOf n) ∧ (t.trvPort p).stage = 0 ∧ (t.trvPort p).coefs = x.coefs
            ∧ (x.stored = false → (t.trvPort p).ctrluQ.map (fun q => q.1) = [Kind.hello, Kind.latProbe])
            ∧ others t ∧ s.only t [.regs, .trv]))))
      ∧ (s.trvUsable p = true →
        (∀ lane : Fin 5,
          let used := lanesOf (s.regFld pg Reg.TRV_STAT 19 15)
          let spare := (setDel (lanesOf (s.regFld pg Reg.TRV_STAT 24 20)) lane).find? (fun i => !(used.contains i))
          lane.val ∈ used →
          (∀ i, spare = some i → s.does (.laneFail p lane) (fun t =>
            bit (t.reg pg Reg.TRV_STAT) (15 + i) = true ∧ bit (t.reg pg Reg.TRV_STAT) (15 + lane) = false
            ∧ bit (t.reg pg Reg.TRV_STAT) (20 + lane) = false ∧ t.trvState p = s.trvState p
            ∧ s.counted t pg Reg.TRV_LANE_FAIL 1 ∧ bit (t.reg pg Reg.PG_ERR) 0 = true ∧ s.only t [.regs, .fault]))
          ∧ (spare = none → s.does (.laneFail p lane) (fun t => t.trvState p = 1 ∧ (t.trvPort p).stage = 1
            ∧ s.counted t pg Reg.TRV_LANE_FAIL 1 ∧ bit (t.reg pg Reg.PG_ERR) 0 = true
            ∧ s.only t [.regs, .fault, .fabric, .step, .trv])))
        ∧ (s.regFld pg Reg.TRV_DEG_THR 15 0 < x.replays → s.trvState p ≠ 5 → s.does (.degradeWindow p) (fun t =>
          t.trvState p = 5 ∧ t.trvPort p = { x with replays := 0 } ∧ s.only t [.regs, .trv, .fault]))
        ∧ (x.replays ≤ s.regFld pg Reg.TRV_DEG_THR 15 0 → s.trvState p = 5 → s.does (.degradeWindow p) (fun t =>
          t.trvState p = upCode (s.trvWidth p) ∧ t.trvPort p = { x with replays := 0 } ∧ s.only t [.regs, .trv]))
        ∧ s.does (.portDown p) (fun t => t.trvState p = 0 ∧ t.trvPort p = { coefs := x.coefs, downAt := s.elapsed }
          ∧ (∀ q ∈ t.fabric.trvTx, q.1 ≠ p.val) ∧ s.only t [.regs, .trv, .fabric, .step])))
    ∧ (∀ (req : Requester) (v : W32), s.takes req pg Reg.TRV_CFG → s.trvUsable p = true → bit v 31 = true →
      s.does (.retrain req p v) (fun t => t.trvState p = 1 ∧ (t.trvPort p).stage = 1 ∧ (t.trvPort p).stored = x.coefs
        ∧ t.reg pg Reg.TRV_CFG = (v ||| bitWord 24) &&& 0xFE000000 ∧ s.only t [.regs, .trv, .fabric, .step]))

/-- LINK_FRAME, REPLAY_REQUEST_TIMEOUT, HELLO, LATENCY_MEASURE, LAT_PROBE, LAT_ECHO, TRV_ASSIGN, ASSIGN, TRV_CHIP_ID and
TRV_SWAP (R373–R385). -/
def Obligations.LinkFramesInform : Prop :=
  ∀ (s : State) (p : Fin 16),
    let pg := Page.trv p
    let x := s.trvPort p
    (∀ f : LinkRx,
      let w := fun i => f.words.getD i 0
      let masked := f.words.zipIdx.map (fun q => if q.2 % 8 = 0 then q.1 &&& 0xFFFFFF00 else q.1)
      (s.clocked = true → s.trvUsable p = true → 0 < f.uncorrectable → s.does (.linkFrame p f) (fun t =>
        (t.trvPort p).want.isSome = true ∧ (x.want = none → (t.trvPort p).want = some (s.elapsed, 1) ∧ (t.trvPort p).rplDue = true)
        ∧ (t.trvPort p).rxSeq = x.rxSeq ∧ t.fabric = s.fabric ∧ s.counted t pg Reg.TRV_FEC_UNCORR f.uncorrectable
        ∧ s.only t [.regs, .trv]))
      ∧ (s.takesFrame p f 0 →
        (framePackets masked = [] → s.does (.linkFrame p f) (fun t => (t.trvPort p).rxSeq = (x.rxSeq + 1) % 4096
          ∧ (t.trvPort p).want = none ∧ t.fabric = s.fabric ∧ s.only t [.regs, .trv]))
        ∧ (∀ k, framePackets masked = [k] → s.trvCarries p k = true → k.ty = 1 → k.chip = s.chipId →
          s.does (.linkFrame p f) (fun t => (t.trvPort p).rxSeq = (x.rxSeq + 1) % 4096
            ∧ t.fabric.links = s.fabric.links ++ [{
                router := 128 + p / 2, port := 9 + p % 2, pkt := k, fromRouter := 128 + p / 2, fromPort := 9 + p % 2 }]
            ∧ s.only t [.regs, .trv, .fabric])))
      ∧ (s.takesFrame p f 3 →
        s.does (.hello p f) (fun t =>
          t.reg pg Reg.TRV_PARTNER = BitVec.ofNat 32 (2 ^ 31 + fld (w 1) 19 16 * 2 ^ 16 + fld (w 1) 31 20)
          ∧ t.reg pg Reg.TRV_PARTNER_CAPS = w 2 ∧ t.regFld pg Reg.TRV_PARTNER_GRP 15 0 = fld (w 1) 15 0
          ∧ bit (t.reg pg Reg.TRV_STAT) 13 = true ∧ t.trv.tree = s.trv.tree ∧ s.only t [.regs, .trv])
        ∧ s.does (.latProbe p f) (fun t =>
          (t.trvPort p).ctrluQ = x.ctrluQ
            ++ [(Kind.latEcho, ctrlWords Kind.latEcho [(1, w 1), (2, w 2), (3, BitVec.ofNat 32 s.elapsed)])]
          ∧ t.trv.tree = s.trv.tree ∧ s.only t [.regs, .trv])
        ∧ s.does (.latEcho p f) (fun t =>
          (t.reg pg Reg.TRV_LAT_NS).toNat = min 65535 ((s.elapsed - join64 (w 1) (w 2) - (w 3).toNat) / 2)
          ∧ t.trv.tree = s.trv.tree ∧ s.only t [.regs, .trv]))
      ∧ (s.takesFrame p f 2 → s.chipId = 0xFFF → bit (s.reg pg Reg.TRV_CFG) 26 = true → s.partner p ≠ 0xFFF →
        s.joinState = 0 → s.does (.assign p f) (fun t => t.chipId = fld (w 1) 11 0
          ∧ t.regFld Page.trvc Reg.TRV_ROOT_ID 11 0 = fld (w 1) 11 0 ∧ s.only t [.regs, .trv])))
    ∧ (∀ since n : Nat, x.want = some (since, n) → s.clocked = true → s.trvUsable p = true → since + 1000 ≤ s.elapsed →
      (n < 8 → s.does (.replayRequestTimeout p) (fun t =>
        t.trvPort p = { x with want := some (s.elapsed, n + 1), rplDue := true } ∧ s.only t [.trv]))
      ∧ (8 ≤ n → s.does (.replayRequestTimeout p) (fun t => t.trvState p = 1 ∧ (t.trvPort p).want = none
        ∧ s.counted t pg Reg.TRV_RETRAINS 1 ∧ s.only t [.regs, .trv, .fabric, .step, .fault])))
    ∧ (s.trvRuns p = true → s.trvUsable p = true → s.does (.latencyMeasure p) (fun t =>
      t.trvPort p = { x with ctrluQ := x.ctrluQ ++ [(Kind.latProbe, ctrlWords Kind.latProbe [])] } ∧ s.only t [.trv]))
    ∧ (∀ (req : Requester) (v : W32),
      (s.takes req pg Reg.TRV_ASSIGN → bit v 12 = true → s.trvUsable p = true → s.does (.trvAssign req p v) (fun t =>
        t.trvPort p = { x with ctrlQ := x.ctrlQ ++ [ctrlWords Kind.assign [(1, v &&& 0xFFF)]] } ∧ s.only t [.trv]))
      ∧ (s.takes req Page.trvc Reg.TRV_CHIP_ID →
        (s.joinState = 0 → s.does (.trvChipId req v) (fun t => t.chipId = fld v 11 0
          ∧ t.regFld Page.trvc Reg.TRV_ROOT_ID 11 0 = fld v 11 0 ∧ s.only t [.regs, .trv]))
        ∧ (s.joinState ≠ 0 → s.does (.trvChipId req v) (fun t => bit (t.reg Page.trvc Reg.PG_ERR) 0 = true
          ∧ s.only t [.regs] ∧ s.regsBut t [(Page.trvc, Reg.PG_ERR)])))
      ∧ (s.takes req pg Reg.TRV_SWAP →
        (s.running = true → s.does (.trvSwap req p) (fun t => t.reg pg Reg.TRV_SWAP = 1 ∧ s.only t [.regs]
          ∧ s.regsBut t [(pg, Reg.TRV_SWAP)]))
        ∧ (s.running = false → s.does (.trvSwap req p) (fun t =>
          (∀ k, k < 32 → t.reg pg (Reg.TRV_PLAN + 4 * k) = s.reg pg (Reg.TRV_SHADOW + 4 * k)
            ∧ t.reg pg (Reg.TRV_SHADOW + 4 * k) = s.reg pg (Reg.TRV_SHADOW + 4 * k)) ∧ s.only t [.regs]))))

/-- JOIN_REQUEST, JOIN_REQ, SUMMIT_JOIN_REQ, JOIN_GRANT, SUMMIT_JOIN_REFUSE, JOIN_REFUSE, JOIN_ACK, MTABLE, JOIN_TIMEOUT,
LEAVE_REQUEST, LEAVE, ABSENT_DECLARE, ABSENT and ORPHAN (R386–R397). -/
def Obligations.ChipsJoinAndLeave : Prop :=
  ∀ (s : State) (p : Fin 16),
    let pg := Page.trv p
    let x := s.trvPort p
    let tree := s.trv.tree
    let code := fun t : State => t.regFld Page.trvc Reg.TRV_JOIN_STAT 27 24
    let ended (c : Nat) (t : State) : Prop := t.joinState = 0 ∧ code t = c ∧ bit (t.reg Page.trvc Reg.TRV_JOIN) 31 = false
      ∧ bit (t.reg Page.trvc Reg.PG_INT) 1 = true ∧ s.only t [.regs, .trv]
    let orphaned (t : State) : Prop := t.joinState = 3 ∧ t.isRoot = true ∧ t.parentPort = 31
      ∧ bit (t.reg Page.trvc Reg.PG_INT) 2 = true ∧ s.only t [.regs, .trv]
    let treeParts : List Part := [.regs, .trv, .fabric, .step]
    (∀ (req : Requester) (v : W32), s.takes req Page.trvc Reg.TRV_JOIN →
      let src := s.regFld Page.stp Reg.STP_TICK_SRC 1 0
      let may := s.chipId ≠ 0xFFF ∧ s.joinState = 0 ∧ s.running = false ∧ (src = 1 ∨ src = 2)
        ∧ bit (s.reg Page.stp Reg.STP_TICK_SRC) 8 = false
      (fld v 3 0 = p.val → s.trvUsable p = true → may → s.does (.joinRequest req v) (fun t => t.joinState = 1
        ∧ bit (t.reg Page.trvc Reg.TRV_JOIN) 31 = true ∧ t.regFld Page.trvc Reg.TRV_JOIN 3 0 = p
        ∧ t.trv.tree.reqAt = s.elapsed ∧ (t.trvPort p).ctrlQ.length = x.ctrlQ.length + 1
        ∧ (t.trvPort p).ctrlQ.getLast? = some (ctrlWords Kind.joinReq
            [(1, BitVec.ofNat 32 (s.chipId * 2 ^ 20 + s.regFld Page.sum Reg.SUM_GROUP 15 0)), (2, s.joinWords.1), (3, s.joinWords.2)])
        ∧ s.only t [.regs, .trv]))
      ∧ (¬ may → s.joinState ≠ 1 → s.does (.joinRequest req v) (fun t => t.joinState = s.joinState ∧ code t = 6
        ∧ bit (t.reg Page.trvc Reg.PG_INT) 1 = true ∧ t.trv = s.trv ∧ s.only t [.regs]))
      ∧ (s.joinState = 1 → s.does (.leaveRequest req v) (ended 10))
      ∧ (2 ≤ s.joinState → s.does (.leaveRequest req v) (fun t => t.joinState = 0 ∧ t.reg Page.sum Reg.SUM_CHILD_MASK = 0
        ∧ t.parentPort = 31 ∧ t.isRoot = true ∧ t.trv.tree = {}
        ∧ (s.isTreePort p = true → s.trvUsable p = true → (t.trvPort p).ctrlQ = x.ctrlQ ++ [ctrlWords Kind.leave []])
        ∧ s.only t [.regs, .trv])))
    ∧ (∀ f : LinkRx, s.takesFrame p f 2 →
      let w := fun i => f.words.getD i 0
      ((w 2, w 3) ≠ s.joinWords → s.does (.joinReq p f) (fun t =>
        (t.trvPort p).ctrlQ = x.ctrlQ ++ [ctrlWords Kind.joinRefuse [(1, 1)]] ∧ t.trv.tree.waiting = tree.waiting
        ∧ s.only t [.regs, .trv]))
      ∧ ((w 2, w 3) = s.joinWords → fld (w 1) 15 0 = s.regFld Page.sum Reg.SUM_GROUP 15 0 →
        s.regFld Page.trvc Reg.TRV_JOIN_STAT 3 0 < 8 → s.chipId ≠ 0xFFF → s.joinState ≠ 1 → bit (s.reg pg Reg.TRV_CFG) 25 = true →
        s.parentPort ≠ p → s.isRoot = true → s.running = true → s.memberHere (fld (w 1) 31 20) = false →
        s.members.length < 4095 → s.does (.joinReq p f) (fun t =>
          t.trv.tree.waiting = tree.waiting ++ [(fld (w 1) 31 20, s.chipId)] ∧ (p.val, fld (w 1) 31 20) ∈ t.trv.tree.asked
          ∧ (t.trvPort p).ctrlQ = x.ctrlQ ∧ s.only t [.regs, .trv]))
      ∧ (s.joinsOn p = true →
        s.does (.joinRefuse p f) (ended (fld (w 1) 3 0))
        ∧ (tree.mtable.length < 4096 → s.does (.joinAck p f) (fun t => t.trv.tree.ack.isSome = true ∧ t.joinState = 1
          ∧ t.trv.tree.mtable = tree.mtable ∧ s.only t [.regs, .trv]))
        ∧ (tree.ack = none → s.does (.mtable p f) (fun t =>
          t.trv.tree.mtable.length = min 4096 (tree.mtable.length + 112) ∧ t.trv.tree.ack = none ∧ s.only t [.regs, .trv]))
        ∧ (4096 ≤ tree.mtable.length → s.does (.joinAck p f) (fun t => t.joinState = 2 ∧ t.running = true
          ∧ t.parentPort = p ∧ t.isRoot = false ∧ t.stepNo = join64 (w 2) (w 3) ∧ t.trv.tree.joining = true
          ∧ bit (t.reg Page.trvc Reg.PG_INT) 0 = true ∧ s.only t [.regs, .trv, .step])))
      ∧ (p.val ∈ s.childPorts → s.isRoot = true → s.does (.leave p f) (fun t =>
        Nat.testBit t.childMask p = false ∧ t.trv.tree.notices = tree.notices ++ [s.partner p]
        ∧ t.trv.tree.relaxed = true ∧ s.only t treeParts))
      ∧ (p.val ∉ s.childPorts → s.hasParent = true → s.parentPort = p → s.does (.leave p f) orphaned))
    ∧ (∀ k : Packet, (s.summitHead p 3 k → s.isRoot = true → s.running = true → s.memberHere (summitSubj k) = false →
        s.members.length < 4095 → s.does (.summitJoinReq p) (fun t =>
          t.trv.tree.waiting = tree.waiting ++ [(summitSubj k, summitLast k)] ∧ s.only t [.trv]))
      ∧ (s.summitHead p 4 k → s.running = true → s.step.summited = false → s.does (.joinGrant p) (fun t =>
          t.trv.tree.grants = tree.grants ++ [(summitSubj k, summitLast k)] ∧ s.only t treeParts))
      ∧ (∀ q, s.summitHead p 5 k → tree.asked.find? (fun q => q.2 == summitSubj k) = some q → s.trvUsable q.1 = true →
          s.does (.summitJoinRefuse p) (fun t =>
            (t.trvPort q.1).ctrlQ = (s.trvPort q.1).ctrlQ
              ++ [ctrlWords Kind.joinRefuse [(1, BitVec.ofNat 32 (summitLast k % 16))]]
            ∧ t.trv.tree.asked = tree.asked.filter (fun a => a.1 != q.1) ∧ s.only t [.trv]))
      ∧ (s.summitHead p 6 k → s.parentPort = p → s.does (.absent p) (fun t =>
          t.trv.tree.notices = tree.notices ++ [summitSubj k] ∧ s.only t treeParts))
      ∧ (s.summitHead p 6 k → s.parentPort ≠ p → s.isRoot = true → s.does (.absent p) (fun t =>
          t.trv.tree.notices = tree.notices ++ [summitSubj k] ∧ t.trv.tree.relaxed = true ∧ s.only t [.trv])))
    ∧ (let ms := (s.reg Page.trvc Reg.TRV_JOIN_TMO_MS).toNat
       s.joinState = 1 → ms ≠ 0 → tree.reqAt + ms * 1000000 ≤ s.elapsed → s.does .joinTimeout (ended 9))
    ∧ (s.clocked = true →
      (p.val ∈ s.childPorts → s.absentTicks ≤ numAt tree.missed p → s.isRoot = true →
        s.does (.absentDeclare p) (fun t => Nat.testBit t.childMask p = false
          ∧ t.trv.tree.notices = tree.notices ++ [s.partner p] ∧ s.only t treeParts))
      ∧ (s.hasParent = true → (s.absentTicks ≤ tree.silent ∨ s.absentTicks ≤ tree.fallen) → s.does .orphan orphaned))

/-- PROBE, TOKEN, RELEASE and FREEZE_PACKET (R395, R399, R400, R403). -/
def Obligations.SummitTreePackets : Prop :=
  ∀ (s : State) (p : Fin 16) (k : Packet),
    let tree := s.trv.tree
    let parts : List Part := [.regs, .trv, .fabric, .step]
    (s.summitHead p 0 k → s.parentPort = p →
      (s.localQuiet = false → s.does (.probe p) (fun t => t.trv.tree.probe = some (summitWave k, summitStep k)
        ∧ t.trv.tree.wave = summitWave k ∧ t.trv.tree.tokens = [] ∧ t.trv.tree.heard = true ∧ s.only t parts))
      ∧ (s.localQuiet = true → tree.joining = false → s.isRoot = false → s.childMask = 0 → summitStep k = s.stepLow →
        s.trvCarries p (mkPacket 8 s.chipId 0 0 false []) = true → s.does (.probe p) (fun t =>
          t.trv.tree.probe = none
          ∧ (∃ q : Packet, t.fabric.trvTx = s.fabric.trvTx ++ [(p.val, q)] ∧ summitKind 1 q = true
              ∧ summitWave q = summitWave k ∧ summitSubj q = s.chipId ∧ summitStep q = summitStep k
              ∧ (q.word 3).toNat = s.ownCounts.1 % 2 ^ 32 ∧ (q.word 4).toNat = s.ownCounts.2 % 2 ^ 32
              ∧ (q.word 6).toNat = 1)
          ∧ s.only t [.regs, .trv, .fabric])))
    ∧ (s.summitHead p 1 k → p.val ∈ s.childPorts → tree.probe = some (summitWave k, summitStep k) →
      (s.isRoot = true ∨ s.localQuiet = false) → s.does (.token p) (fun t =>
        t.trv.tree.tokens = tree.tokens.filter (fun q => q.1 != p.val)
          ++ [(p.val, (k.word 3).toNat + fld (k.word 5) 31 16 * 2 ^ 32, (k.word 4).toNat + fld (k.word 5) 15 0 * 2 ^ 32,
            fld (k.word 6) 12 0)]
        ∧ numAt t.trv.tree.missed p = 0 ∧ t.trv.tree.probe = tree.probe ∧ s.only t [.trv]))
    ∧ (s.summitHead p 2 k → s.parentPort = p →
      (summitStep k = s.stepLow → s.step.summited = false → s.running = true → tree.joining = false →
        s.does (.release p) (fun t => t.step.summited = true ∧ t.step.release = releaseUnits
          ∧ t.reg64 Page.stp Reg.STP_SUMMIT_NS = s.elapsed % 2 ^ 64 ∧ t.reg64 Page.sum Reg.SUM_LAST_STEP = s.stepNo
          ∧ bit (t.reg Page.stp Reg.PG_INT) 1 = true ∧ t.trv.tree.probe = none ∧ s.only t parts))
      ∧ (summitStep k ≠ s.stepLow → s.does (.release p) (fun t => t.step.summited = s.step.summited
          ∧ t.step.release = s.step.release ∧ t.trv.tree.probe = none ∧ t.trv.tree.heard = true ∧ s.only t parts)))
    ∧ (s.clocked = true → (s.trvPort p).summitIn.head?.map (fun q => q.2) = some k → k.ty = 0xA →
      (bit (s.reg (Page.trv p) Reg.TRV_CFG) 27 = true → s.pwrState ≠ Pwr.nap → s.pwrState ≠ Pwr.sleep →
        s.fault.readySeen = true → s.does (.freezePacket p) (fun t => t.frzState = Frz.stopping
          ∧ t.regFld Page.frz Reg.FRZ_STAT 27 24 = 4 ∧ t.regFld Page.frz Reg.FRZ_STAT 11 0 = fld (k.word 1) 27 16
          ∧ s.counted t Page.frz Reg.FRZ_COUNT 1 ∧ s.only t [.regs, .trv]))
      ∧ (bit (s.reg (Page.trv p) Reg.TRV_CFG) 27 = false → s.does (.freezePacket p) (fun t =>
          s.counted t (Page.trv p) Reg.TRV_DROP 1 ∧ t.frzState = s.frzState ∧ s.only t [.regs, .trv])))

/-- REMOTE_ACCESS, READ_REQ, WRITE, READ_RSP, COMPLETION and REMOTE_TIMEOUT (R404–R409). -/
def Obligations.RemoteAccessesEnd : Prop :=
  ∀ s : State,
    (∀ (req : Requester) (addr n : Nat) (data : Option (List Byte)), s.serves req = true → req.who ≠ .jtag →
      Nat.testBit addr 51 = true →
      let off := addr % 2 ^ 36
      let chip := bitsOf addr 47 36
      (bitsOf addr 50 48 ≠ 0 → s.does (.remoteAccess req addr n data) (fun t => s.counted t Page.trvc Reg.TRV_RMT_ERR 1
        ∧ bit (t.reg Page.trvc Reg.PG_ERR) 1 = true ∧ (data = none → t.rpoison = true) ∧ s.only t [.regs, .read]))
      ∧ (bitsOf addr 50 48 = 0 → chip = s.chipId → off + n ≤ dramBytes s.grade → s.isSecure req = true →
        s.does (.remoteAccess req addr n none) (fun t => t.rdata = s.num (Base.dram + off) n ∧ t.mem = s.mem
          ∧ s.only t [.read, .regs, .dram]))
      ∧ (bitsOf addr 50 48 = 0 → chip ≠ s.chipId → s.trv.remote.length < 256 →
        s.does (.remoteAccess req addr n data) (fun t => t.trv.tag = (s.trv.tag + 1) % 2 ^ 16
          ∧ (∃ r f, t.trv.remote = s.trv.remote ++ [r] ∧ r.tag = s.trv.tag ∧ r.req = req ∧ r.sentAt = s.elapsed
              ∧ r.write = data.isSome ∧ t.fabric.links = s.fabric.links ++ [f]
              ∧ f.pkt.ty = (if data.isSome then 9 else 5) ∧ f.pkt.chip = chip ∧ fld (f.pkt.word 2) 15 0 = s.trv.tag % 2 ^ 16)
          ∧ t.mem = s.mem ∧ s.only t [.trv, .fabric, .step])))
    ∧ (∀ (p : Fin 16) (k : Packet) (l : List Packet), (s.trvPort p).remoteIn = k :: l → s.clocked = true →
      let d := remoteOffset k
      let n := 16 * (fld (k.word 2) 19 18 + 1)
      let answered (t : State) (st : Nat) : Prop := (t.trvPort p).remoteIn = l
        ∧ ∃ f, t.fabric.links = s.fabric.links ++ [f] ∧ f.pkt = s.remoteReply k st
      (bit (s.reg Page.trvc Reg.TRV_GCFG) 0 = false →
        (k.ty = 5 → s.does (.readReq p) (fun t => answered t 2 ∧ t.mem = s.mem ∧ s.only t [.trv, .fabric, .step]))
        ∧ (k.ty = 9 → s.does (.write p) (fun t => answered t 2 ∧ t.mem = s.mem ∧ s.only t [.trv, .fabric, .step])))
      ∧ (bit (s.reg Page.trvc Reg.TRV_GCFG) 0 = true →
        (k.ty = 5 → d + n ≤ dramBytes s.grade → (bit (k.word 2) 17 = true ∨ s.rangeSecure d n = false) →
          (s.dramRead (bit (k.word 2) 17) d n).1.2 = false → s.does (.readReq p) (fun t =>
            t.fabric.links.length = s.fabric.links.length + n / 16
            ∧ (∀ f ∈ t.fabric.links.drop s.fabric.links.length, f.pkt.ty = 6 ∧ f.pkt.chip = fld (k.word 1) 31 20)
            ∧ t.mem = s.mem ∧ s.only t [.trv, .fabric, .step, .dram, .regs]))
        ∧ (k.ty = 9 → d + 16 ≤ dramBytes s.grade → (bit (k.word 2) 17 = true ∨ s.rangeSecure d 16 = false) →
          (fld (k.word 3) 15 0 = 0 → s.does (.write p) (fun t => answered t 0 ∧ t.mem = s.mem
            ∧ s.only t [.trv, .fabric, .step, .dram]))
          ∧ (fld (k.word 3) 15 0 = 0xFFFF → s.running = false → s.does (.write p) (fun t => answered t 0
            ∧ t.num (Base.dram + d) 16 = ((List.range 4).map (fun j => (k.word (4 + j)).toNat * 2 ^ (32 * j))).sum
            ∧ s.bytesBut t (Base.dram + d) 16 ∧ s.only t [.trv, .fabric, .step, .dram, .regs, .mem, .poison, .cells])))))
    ∧ (∀ (q : Nat × Packet) (r : Remote), s.clocked = true →
      let k := q.2
      let status := fld (k.word 3) 31 28
      (s.fabric.unitIn.find? (fun q => q.1 == 0 && q.2.ty == 6) = some q →
        s.trv.remote.find? (fun r => r.tag == fld (k.word 2) 15 0 && r.write == false) = some r →
        (status = 0 → r.left = 1 → r.data = [] → fld (k.word 2) 19 18 = 0 → s.does .readRsp (fun t =>
          t.trv.remote = eraseFirst r s.trv.remote
          ∧ t.rdata = ((List.range 4).map (fun j => (k.word (4 + j)).toNat * 2 ^ (32 * j))).sum / 2 ^ (8 * r.first)
              % 2 ^ (8 * r.bytes)
          ∧ t.rpoison = false ∧ s.only t [.trv, .fabric, .step, .read]))
        ∧ (status ≠ 0 → s.does .readRsp (fun t => t.trv.remote = eraseFirst r s.trv.remote ∧ t.rpoison = true
          ∧ s.counted t Page.trvc Reg.TRV_RMT_ERR 1 ∧ s.only t [.trv, .fabric, .step, .read, .regs])))
      ∧ (s.fabric.unitIn.find? (fun q => q.1 == 0 && q.2.ty == 0xC) = some q →
        s.trv.remote.find? (fun r => r.tag == fld (k.word 2) 15 0 && r.write == true) = some r →
        status = 0 → s.does .completion (fun t => t.trv.remote = eraseFirst r s.trv.remote
          ∧ s.only t [.trv, .fabric, .step])))
    ∧ (∀ r : Remote, s.clocked = true →
      s.trv.remote.find? (fun r => decide
        (r.sentAt + max 1000 (s.reg Page.trvc Reg.TRV_RMT_TIMEOUT_NS).toNat ≤ s.elapsed)) = some r →
      s.does .remoteTimeout (fun t => t.trv.remote = eraseFirst r s.trv.remote ∧ s.counted t Page.trvc Reg.TRV_RMT_ERR 1
        ∧ (r.write = false → t.rpoison = true) ∧ s.only t [.trv, .regs, .read]))

/-- ETH_FRAME_RECEIVE, ETH_LINK_CHANGE, UMHOMA_HELLO, HELLO_CLAIM, HELLO_RELEASE, ATTEST, REG_READ, REG_WRITE, BULK_READ,
BULK_WRITE and EVENT_INJECT (R415–R432, R642). -/
def Obligations.HostRequestsAreServed : Prop :=
  ∀ (s : State) (p : Fin 4),
    let pg := Page.eth p
    let x := s.ethPort p
    (∀ frame : List Byte, s.ethUp p = true → 18 ≤ frame.length →
      (fcsGood frame = false → s.does (.ethFrameReceive p frame) (fun t => s.counted t pg Reg.ETH_RX_FRAMES 1
        ∧ s.counted t pg Reg.ETH_FCS_ERR 1 ∧ s.only t [.regs]
        ∧ s.regsBut t [(pg, Reg.ETH_RX_FRAMES), (pg, Reg.ETH_FCS_ERR)]))
      ∧ (let l := frame.take (frame.length - 4)
         let et := beAt l 12 2
         let m := l.drop 14
         let w := fun i => BitVec.ofNat 32 (leNat ((m.drop (4 * i)).take 4))
         ∀ peer : UmhPeer, fcsGood frame = true → frame.length ≤ s.regFld pg Reg.ETH_MTU 13 0 → s.macsecOn p = false →
           et = 0x88B5 → bit (s.reg pg Reg.ETH_VLAN) 31 = false → beAt l 0 6 = s.ethMac p → s.umhEn 2 = true →
           peer = { form := 0, mac := beAt l 6 6, vid := 0, addr := 0, udp := 0 } → s.eth.owner ≠ some peer →
           s.atReady = true → s.hostServed = true → 20 ≤ m.length → fld (w 0) 31 28 = 1 → fld (w 0) 23 16 = 1 →
           fld (w 0) 15 0 = 4 → s.does (.ethFrameReceive p frame) (fun t =>
             (t.ethPort p).reqs = x.reqs ++ [{
               peer := peer, words := [w 0, w 1, w 2, w 3], payload := (m.drop 16).take 4 }]
             ∧ s.counted t Page.umh Reg.ETH_UMH_REQS 1 ∧ s.only t [.regs, .eth])))
    ∧ (∀ (link : Fin 3) (speed : Fin 4), s.clocked = true → s.faulted pg = false →
      s.does (.ethLinkChange p link speed) (fun t => t.regFld pg Reg.ETH_STAT 31 30 = link
        ∧ t.regFld pg Reg.ETH_STAT 29 28 = (if link = 2 then speed.val else 0) ∧ bit (t.reg pg Reg.PG_INT) 0 = true
        ∧ s.only t [.regs] ∧ s.regsBut t [(pg, Reg.ETH_STAT), (pg, Reg.PG_STAT), (pg, Reg.PG_INT)]))
    ∧ (∀ (q : UmhReq) (l : List UmhReq), x.reqs = q :: l → s.ethUp p = true →
      (s.macsecOn p = false ∨ 0 < s.pnLeft p (s.regFld pg Reg.ETH_MACSEC_CTRL 28 27)) →
      let session := if s.eth.owner = some q.peer then s.session else fld (q.word 1) 31 16
      let room := s.umhRoom p q.peer.form 16
      let said (t : State) (ses count last : Nat) (data : List Byte) : Prop :=
        t.eth.out = [.umhoma p q.peer (umhHeader q.op data.length ses count q.id last ++ data)] ∧ (t.ethPort p).reqs = l
      let status (t : State) (st done : Nat) : Prop := said t session 0 (st * 2 ^ 24 + done) []
      let hostParts : List Part := [.eth, .regs]
      (s.servesHost = true →
        (q.op = 1 → 24 ≤ room →
          (fld (q.pay 0) 1 0 = 0 → s.does (.umhomaHello p) (fun t =>
            said t session 6 0 (s.helloData p q.peer) ∧ t.eth.owner = s.eth.owner ∧ s.only t hostParts))
          ∧ (bit (q.pay 0) 0 = true →
            (s.eth.owner = none → s.does (.helloClaim p) (fun t => t.eth.owner = some q.peer ∧ t.session ≠ 0
              ∧ t.ownerPort = p ∧ bit (t.reg Page.umh Reg.ETH_UMH_OWNER) 31 = true ∧ bit (t.reg Page.umh Reg.PG_INT) 0 = true
              ∧ (t.ethPort p).reqs = l ∧ s.only t [.eth, .regs, .fresh]))
            ∧ (s.eth.owner.isSome = true → s.eth.owner ≠ some q.peer → s.does (.helloClaim p) (fun t => status t 3 0
              ∧ t.eth.owner = s.eth.owner ∧ s.counted t Page.umh Reg.ETH_UMH_REFUSED 1 ∧ s.only t hostParts)))
          ∧ (fld (q.pay 0) 1 0 = 2 →
            (s.eth.owner = some q.peer → s.does (.helloRelease p) (fun t => t.eth.owner = none
              ∧ bit (t.reg Page.umh Reg.ETH_UMH_OWNER) 31 = false ∧ bit (t.reg Page.umh Reg.PG_INT) 0 = true
              ∧ (t.ethPort p).reqs = l ∧ s.only t hostParts))
            ∧ (s.eth.owner ≠ some q.peer → s.does (.helloRelease p) (fun t => t.eth.owner = s.eth.owner
              ∧ said t session 6 0 (s.helloData p q.peer) ∧ s.only t hostParts))))
        ∧ (q.op = 2 → s.macsecOn p = false → s.does (.attest p) (fun t =>
            t.eth.out = (responseFrames room 2 session 1 q.id 0 false (s.report (q.payload.take 32))).map (.umhoma p q.peer)
            ∧ (t.ethPort p).reqs = l ∧ s.only t [.eth, .regs, .fresh])))
      ∧ (s.hostServed = true → s.clocked = true → s.step.fences.contains hostReq = false → q.count = 1 → q.done = 0 →
        q.data = [] → bit (q.word 0) 25 = false → ∀ page off : Nat, itemAt (q.pay 0) = (page, off) →
          (q.op = 3 → 4 ≤ room → off = Reg.PG_ID → hasHeader page = true → presentIn s.grade page = true →
            bit (s.reg (owningPage page) Reg.PG_SEC) 31 = false → s.does (.regRead p) (fun t =>
              said t session 1 1 (leBytes 4 (pageId page).toNat) ∧ t.mem = s.mem ∧ s.only t [.eth, .regs, .read, .halves]))
          ∧ (q.op = 4 → off = Reg.PG_SCRATCH → hasHeader page = true → s.takes hostReq page off →
            s.does (.regWrite p) (fun t => t.reg page off = q.pay 1 ∧ status t 0 1 ∧ s.only t hostParts))
          ∧ (off % 4 ≠ 0 →
            (q.op = 3 → s.does (.regRead p) (fun t => status t 5 0 ∧ s.counted t Page.chp Reg.CHP_UNMAPPED 1
              ∧ s.only t hostParts))
            ∧ (q.op = 4 → s.does (.regWrite p) (fun t => status t 5 0 ∧ s.counted t Page.chp Reg.CHP_UNMAPPED 1
              ∧ s.only t hostParts))))
      ∧ (s.hostBoot = false → s.bulkHeld p = false →
        let a := join64 (q.pay 0) (q.pay 1) % 2 ^ 52
        let n := (q.pay 2).toNat
        let data := q.payload.drop 8
        (s.bulkEngine p = none →
          (q.op = 5 → s.does (.bulkRead p) (fun t => status t 1 0 ∧ bit (t.reg Page.umh Reg.PG_INT) 1 = true
            ∧ s.only t hostParts))
          ∧ (q.op = 6 → s.does (.bulkWrite p) (fun t => status t 1 0 ∧ bit (t.reg Page.umh Reg.PG_INT) 1 = true
            ∧ s.only t hostParts)))
        ∧ (∀ e : Nat, s.bulkEngine p = some e → addrRegion a = .dram →
          (q.op = 5 → 4 ≤ n → n ≤ 1048576 → n % 4 = 0 → s.bulkRefusal a n = none →
            (s.dramRead false (a - Base.dram) n).1.2 = false → s.macsecOn p = false → s.does (.bulkRead p) (fun t =>
              t.eth.out = (responseFrames room 5 session 1 q.id n true (s.bytes a n)).map (.umhoma p q.peer)
              ∧ s.counted t pg (seOff e Reg.ETH_SE_SENT) t.eth.out.length ∧ t.mem = s.mem ∧ s.only t [.eth, .regs, .dram]))
          ∧ (q.op = 6 → data ≠ [] → s.bulkRefusal a data.length = none → s.running = false → s.does (.bulkWrite p) (fun t =>
              t.bytes a data.length = data ∧ s.bytesBut t a data.length ∧ status t 0 data.length
              ∧ s.only t [.eth, .regs, .dram, .mem, .poison, .cells]))))
      ∧ (q.op = 7 →
        let taken (step : Option Nat) := (s.injItems q step).take (4096 - x.inject.length)
        (bit (q.word 0) 26 = false → s.does (.eventInject p) (fun t => (t.ethPort p).inject = x.inject ++ taken none
          ∧ status t 0 (taken none).length ∧ s.only t hostParts))
        ∧ (bit (q.word 0) 26 = true → (q.word 3).toNat ≠ s.stamp % 2 ^ 32 → s.does (.eventInject p) (fun t =>
          (t.ethPort p).inject = x.inject ∧ status t 7 0 ∧ s.only t hostParts))))

/-- NOTIFY, NOTIFY_ACK, NOTIFY_RESEND, OWNER_IDLE_TIMEOUT, DROP_OWNER, STREAM_BUFFER_SEND, ETH_SE_TAIL, STREAM_RING_SEND, RAW_TX
and ETH_TS_TX_ID (R420, R426, R432–R438). -/
def Obligations.NotifyStreamsAndRawFrames : Prop :=
  ∀ s : State,
    let released (t : State) : Prop := t.eth.owner = none ∧ bit (t.reg Page.umh Reg.ETH_UMH_OWNER) 31 = false
      ∧ bit (t.reg Page.umh Reg.PG_INT) 0 = true ∧ (∀ p e, p < 4 → e < 8 → (t.seState p e).due = none)
      ∧ (∀ p, (t.ethPort p).reqs = (s.ethPort p).reqs) ∧ s.only t [.eth, .regs]
    (s.clocked = true → s.hostServed = true → ∀ peer : UmhPeer, s.eth.owner = some peer →
      (s.macsecOn s.ownerPort = false
        ∨ 0 < s.pnLeft s.ownerPort (s.regFld (Page.eth s.ownerPort) Reg.ETH_MACSEC_CTRL 28 27)) →
      ((s.eth.unsent ≠ [] ∨ (s.bestSource 20).isSome = true) → s.does .notify (fun t =>
        (∃ n, t.eth.notifies = s.eth.notifies ++ [n] ∧ n.id = s.eth.notifyNum ∧ n.sentAt = s.elapsed
          ∧ 1 ≤ n.sources.length ∧ n.sources.length ≤ 16
          ∧ n.sources.take (min 16 s.eth.unsent.length) = s.eth.unsent.take 16
          ∧ (∀ i, s.eth.unsent = [] → s.bestSource 20 = some i → n.sources.head? = some i
              ∧ t.pic.claims.any (fun c => c.1 == 20 && c.2.1 == i) = true))
        ∧ t.eth.out.length = 1 ∧ t.eth.notifyNum = (s.eth.notifyNum + 1) % 2 ^ 32 ∧ s.only t [.eth, .pic, .regs]))
      ∧ (∀ n : Notify, s.eth.notifies.find? (fun n => decide
          (n.sentAt + max 1 (s.regFld Page.umh Reg.ETH_UMH_NOTIFY_MS 15 0) * 1000000 ≤ s.elapsed)) = some n →
        s.does .notifyResend (fun t => t.eth.notifies.length = s.eth.notifies.length
          ∧ { n with sentAt := s.elapsed } ∈ t.eth.notifies ∧ t.eth.out.length = 1 ∧ s.only t [.eth, .regs])))
    ∧ (s.hostServed = true → ∀ (p : Fin 4) (q : UmhReq) (l : List UmhReq) (n : Notify), (s.ethPort p).reqs = q :: l →
      s.ethUp p = true → q.op = 9 → s.eth.notifies.find? (fun n => n.id == q.id) = some n →
      s.does (.notifyAck p) (fun t => t.eth.notifies = eraseFirst n s.eth.notifies ∧ (t.ethPort p).reqs = l
        ∧ t.pic.claims = s.pic.claims.filter (fun c => !(c.1 == 20 && n.sources.contains c.2.1))
        ∧ s.only t [.eth, .pic, .regs]))
    ∧ (s.clocked = true → s.eth.owner.isSome = true →
      s.eth.lastReq + max 1 (s.regFld Page.umh Reg.ETH_UMH_IDLE_MS 15 0) * 1000000 ≤ s.elapsed →
      s.does .ownerIdleTimeout released)
    ∧ (∀ (req : Requester) (v : W32), s.takes req Page.umh Reg.ETH_UMH_CTRL → s.eth.owner.isSome = true →
      s.does (.dropOwner req v) (fun t => released t ∧ t.reg Page.umh Reg.ETH_UMH_CTRL = v &&& 0xD))
    ∧ (∀ (p : Fin 4) (e : Fin 8),
      let pg := Page.eth p
      let x := s.seState p e
      let sent (t : State) : Prop := 0 < t.eth.out.length ∧ (t.seState p e).num = x.num + t.eth.out.length
        ∧ s.counted t pg (seOff e Reg.ETH_SE_SENT) t.eth.out.length ∧ t.mem = s.mem ∧ s.only t [.eth, .regs, .dram]
      (s.ethUp p = true → s.eth.owner.isSome = true → s.macsecOn p = false → 0 < s.seLen p e →
        (∀ (step : Nat) (forced : Bool), x.due = some (step, forced) →
          addrRegion (s.seBase p e + step % (s.regFld pg (seOff e Reg.ETH_SE_CFG) 9 0 + 1) * ((s.seLen p e + 63) / 64 * 64)) = .dram →
          s.does (.streamBufferSend p e) (fun t => sent t ∧ (t.seState p e).due = none
            ∧ t.reg pg (seOff e Reg.ETH_SE_STAT) = 0))
        ∧ (let cfg := s.reg pg (seOff e Reg.ETH_SE_CFG)
           let n := ringSlots (fld cfg 19 16)
           let head := s.regFld pg (seOff e Reg.ETH_SE_HEAD) 11 0 % n
           fld cfg 31 30 = 2 → head ≠ s.regFld pg (seOff e Reg.ETH_SE_TAIL) 11 0 % n →
           addrRegion (s.seBase p e + head * s.seLen p e) = .dram → s.does (.streamRingSend p e) (fun t =>
             sent t ∧ t.reg pg (seOff e Reg.ETH_SE_HEAD) = BitVec.ofNat 32 ((head + 1) % n))))
      ∧ (∀ (req : Requester) (v : W32), s.takes req pg (seOff e Reg.ETH_SE_TAIL) → s.does (.ethSeTail req p e v) (fun t =>
          t.reg pg (seOff e Reg.ETH_SE_TAIL) = v &&& 0xFFF ∧ s.only t [.regs]
          ∧ s.regsBut t [(pg, seOff e Reg.ETH_SE_TAIL)])))
    ∧ (∀ (p : Fin 4) (req : Requester) (v : W32),
      let pg := Page.eth p
      let cfg := s.reg pg Reg.ETH_RAW_CFG
      let n := ringSlots (fld cfg 7 4)
      let head := s.regFld pg Reg.ETH_RAW_TX_PTR 27 16 % n
      let slot := bitsOf (s.reg64 pg Reg.ETH_RAW_TX_BASE) 51 6 * 64 + 10240 * head
      let len := s.num slot 4 % 2 ^ 14
      (s.takes req pg Reg.ETH_RAW_TX_PTR → s.ethUp p = true → bit cfg 31 = true → s.macsecOn p = false → 1 < n →
        fld v 11 0 % n = (head + 1) % n → Base.dram ≤ slot → slot + 32 + len ≤ Base.dram + dramBytes s.grade →
        s.rangeSecure (slot - Base.dram) 32 = false → s.rangeSecure (slot + 32 - Base.dram) len = false →
        ptpEvent (s.bytes (slot + 32) len) = none → s.does (.rawTx req p v) (fun t =>
          t.eth.out = [.raw p (s.bytes (slot + 32) len)] ∧ t.regFld pg Reg.ETH_RAW_TX_PTR 27 16 = (head + 1) % n
          ∧ t.regFld pg Reg.ETH_RAW_TX_PTR 11 0 = fld v 11 0 ∧ s.counted t pg Reg.ETH_TX_FRAMES 1 ∧ t.mem = s.mem
          ∧ s.only t [.eth, .regs, .dram]))
      ∧ (∀ (id time : Nat) (l : List (Nat × Nat)), s.mayRead req pg Reg.ETH_TS_TX_ID = true →
        (s.ethPort p).captures = (id, time) :: l → s.does (.ethTsTxId req p) (fun t => t.rdata = 2 ^ 31 + id
          ∧ t.reg64 pg Reg.ETH_TS_TX = time % 2 ^ 64 ∧ (t.ethPort p).captures = l ∧ s.only t [.eth, .regs, .read])))

/-- SOURCE_ASSERT, MODERATION_EXPIRY, WFI_ENTRY, PIC_CLAIM, PIC_COMPLETE, PIC_PEND_SET, PIC_PEND_CLR, WAKE_LATCH_EDGE, COL_SEND
and COL_LAST_WORD_READ (R475–R496). -/
def Obligations.InterruptsAndMailboxes : Prop :=
  ∀ s : State,
    let edge (t : State) (n : Nat) : Prop :=
      (s.picClock = true → n ∈ t.pic.pend ∧ t.pic.latches = s.pic.latches)
      ∧ (s.picClock = false → t.pic.pend = s.pic.pend ∧ ∀ l, l < 64 →
          bit (s.reg Page.picCtl (Reg.PIC_WAKE_SELn + 4 * l)) 31 = true →
          fld (s.reg Page.picCtl (Reg.PIC_WAKE_SELn + 4 * l)) 11 0 = n → l ∈ t.pic.latches)
      ∧ t.pic.claims = s.pic.claims ∧ s.only t [.pic, .regs]
    (∀ src : Fin 4096, assigned s.grade src = true → src.val < 3584 →
      (edgeSource src = true → s.does (.sourceAssert src) (fun t => edge t src))
      ∧ (edgeSource src = false → s.does (.sourceAssert src) (fun t => t.pic.pend = s.pic.pend
          ∧ t.pic.claims = s.pic.claims ∧ t.pic.latches = s.pic.latches ∧ s.only t [.pic, .regs])))
    ∧ (∀ latch : Fin 64, bit (s.reg Page.picCtl (Reg.PIC_WAKE_SELn + 4 * latch.val)) 31 = true →
      s.does (.wakeLatchEdge latch) (fun t => edge t (fld (s.reg Page.picCtl (Reg.PIC_WAKE_SELn + 4 * latch.val)) 11 0)))
    ∧ (∀ src : Fin 4096, s.picClock = true → s.eligible (s.srcCtx src) src = true →
      s.does (.moderationExpiry src) (fun t => coreOf (s.srcCtx src) ∉ t.pic.wfi ∧ t.pic.pend = s.pic.pend
        ∧ t.pic.claims = s.pic.claims ∧ s.only t [.pic, .regs]))
    ∧ (∀ ctx : Fin 21, s.picClock = true → contextPresent s.grade ctx = true →
      (∀ n ∈ s.ranked, coreOf (s.srcCtx n) = coreOf ctx → s.pendOf n = false) → s.does (.wfiEntry ctx) (fun t =>
        coreOf ctx ∈ t.pic.wfi ∧ t.pic.pend = s.pic.pend ∧ t.pic.claims = s.pic.claims ∧ s.only t [.pic, .regs]))
    ∧ (∀ (req : Requester) (ctx : Fin 21),
      (s.mayRead req Page.picCtl (Reg.PIC_CLAIMx + 16 * ctx.val) = true →
        (actsFor req ctx = true →
          let best := (s.wakeCore (coreOf ctx)).bestSource ctx
          (∀ n, best = some n → s.does (.picClaim req ctx) (fun t => t.rdata = n ∧ n ∉ t.pic.pend
            ∧ t.pic.claims = (ctx.val, n, s.srcPrio n) :: s.pic.claims ∧ t.runLevel ctx = s.srcPrio n
            ∧ numAt t.pic.lastClaim n = s.elapsed + 1 ∧ s.only t [.pic, .regs, .read]))
          ∧ (best = none → s.does (.picClaim req ctx) (fun t => t.rdata = 0 ∧ t.pic.claims = s.pic.claims
            ∧ s.only t [.pic, .regs, .read])))
        ∧ (actsFor req ctx = false → s.does (.picClaim req ctx) (fun t => t.rdata = 0
          ∧ bit (t.reg Page.picCtl Reg.PG_ERR) 2 = true ∧ s.only t [.regs, .read])))
      ∧ (∀ v : W32, s.takes req Page.picCtl (Reg.PIC_COMPLETEx + 16 * ctx.val) → actsFor req ctx = true →
        ∀ c, s.pic.claims.find? (fun c => c.1 == ctx.val) = some c →
          (c.2.1 = fld v 11 0 → s.does (.picComplete req ctx v) (fun t => t.pic.claims = eraseFirst c s.pic.claims
            ∧ t.pic.pend = s.pic.pend ∧ s.only t [.pic, .regs]))
          ∧ (c.2.1 ≠ fld v 11 0 → s.does (.picComplete req ctx v) (fun t => t.pic = s.pic
            ∧ bit (t.reg Page.picCtl Reg.PG_ERR) 1 = true ∧ s.only t [.regs]))))
    ∧ (∀ (req : Requester) (word : Fin 128) (v : W32),
      (s.takes req Page.picPend (Reg.PIC_PEND_SET + 4 * word.val) → s.does (.picPendSet req word v) (fun t =>
        (∀ n ∈ s.pendBits word v, if edgeSource n then n ∈ t.pic.pend else n ∈ t.pic.soft)
        ∧ t.pic.claims = s.pic.claims ∧ s.only t [.pic, .regs]))
      ∧ (s.takes req Page.picPend (Reg.PIC_PEND_CLR + 4 * word.val) → s.does (.picPendClr req word v) (fun t =>
        (∀ n ∈ s.pendBits word v, n ∉ t.pic.pend ∧ n ∉ t.pic.soft)
        ∧ (∀ n, n ∉ s.pendBits word v → (n ∈ t.pic.pend ↔ n ∈ s.pic.pend) ∧ (n ∈ t.pic.soft ↔ n ∈ s.pic.soft))
        ∧ s.only t [.pic])))
    ∧ (∀ (req : Requester) (c : Fin 64) (v : W32),
      let pg := colPage c
      let len := fld (s.col c 0x40) 4 0
      let stat := colOff c 0x48
      (s.takes req pg (colOff c 0x44) →
        (s.colFull c = true → s.does (.colSend req c v) (fun t => bit (t.reg pg Reg.PG_ERR) 0 = true ∧ s.only t [.regs]
          ∧ s.regsBut t [(pg, Reg.PG_ERR)]))
        ∧ (s.colFull c = false → bit v 0 = true →
          ((len = 0 ∨ 16 < len) → s.does (.colSend req c v) (fun t => bit (t.reg pg Reg.PG_ERR) 1 = true
            ∧ s.only t [.regs] ∧ s.regsBut t [(pg, Reg.PG_ERR)]))
          ∧ (1 ≤ len → len ≤ 16 → s.does (.colSend req c v) (fun t => t.colFull c = true
            ∧ bit (t.col c 0x48) 30 = s.coreDown (fld (s.col c 0x4C) 4 0)
            ∧ (∀ o, o < 0x48 → t.col c o = s.col c o) ∧ s.only t [.pic, .regs]))))
      ∧ (1 ≤ len → len ≤ 16 → s.mayRead req pg (colOff c (4 * (len - 1))) = true →
        s.does (.colLastWordRead req c) (fun t => t.rdata = (s.col c (4 * (len - 1))).toNat ∧ t.colFull c = false
          ∧ s.only t [.regs, .read] ∧ s.regsBut t [(pg, stat)])))

/-- CORE_RUN, CORE_RESET, MACHINE_TIMER, CREST_WDOG_EXPIRY, CRS_WDOG_KICK, L3_FLUSH, L3_FLUSH_DONE, CREST_CACHE_ERROR,
HEARTBEAT_MISS, RFG_RESTART, RESTART_COPY_DONE, RESTART_DIGEST_DONE, RFG_HB_KICK, RESTART_TIMEOUT and CRN_PUSH (R442–R470). -/
def Obligations.CrestAndRefugeCores : Prop :=
  ∀ s : State,
    (∀ c : Fin 16,
      let pg := Page.crs c
      let x := s.crest c
      (∀ req : Requester,
        (s.takes req pg Reg.CRS_CTRL → s.crsState c = 0 → s.does (.coreRun req c) (fun t => t.crsState c = 1
          ∧ s.only t [.regs] ∧ s.regsBut t [(pg, Reg.CRS_STAT)]))
        ∧ (s.takes req pg Reg.CRS_CTRL → s.crsState c ≠ 5 → s.does (.coreReset req c) (fun t => t.crsState c = 0
          ∧ c.val ∉ t.pic.wfi ∧ s.only t [.regs, .pic] ∧ s.regsBut t [(pg, Reg.CRS_STAT)]))
        ∧ (s.takes req pg Reg.CRS_WDOG_KICK → s.does (.crsWdogKick req c) (fun t =>
          t.crest c = { x with began := s.elapsed, expired := 0 } ∧ s.only t [.proc])))
      ∧ (s.runs (143 + c) = true → presentIn s.grade pg = true →
        (s.timerDue c = true → s.does (.machineTimer c) (fun t => t.crest c = { x with mtip := true }
          ∧ c.val ∉ t.pic.wfi ∧ s.only t [.proc, .pic, .regs]))
        ∧ (let us := s.regFld pg Reg.CRS_WDOG_US 23 0
           us ≠ 0 → x.began + us * 1000 ≤ s.elapsed →
           (x.expired = 0 → s.does (.crestWdogExpiry c) (fun t => t.crest c = { x with expired := 1, began := s.elapsed }
             ∧ s.counted t pg Reg.CRS_WDOG_EXP 1 ∧ bit (t.reg pg Reg.PG_INT) 0 = true ∧ s.only t [.proc, .regs]))
           ∧ (x.expired = 1 →
             (s.regFld pg Reg.CRS_WDOG_CTRL 1 0 = 1 → s.crsState c ≠ 5 → s.does (.crestWdogExpiry c) (fun t =>
               t.crest c = { x with expired := 2 } ∧ t.crsState c = 0 ∧ s.only t [.proc, .regs, .pic]))
             ∧ (s.regFld pg Reg.CRS_WDOG_CTRL 1 0 = 0 → s.does (.crestWdogExpiry c) (fun t =>
               t.crest c = { x with expired := 2 } ∧ s.only t [.proc]))))))
    ∧ (∀ req : Requester, s.takes req 0x44 Reg.CRS_L3_FLUSH → s.does (.l3Flush req) (fun t =>
        t.reg 0x44 Reg.CRS_L3_FLUSH = 1 ∧ s.only t [.regs] ∧ s.regsBut t [(0x44, Reg.CRS_L3_FLUSH)]))
    ∧ (s.runs 159 = true → s.does .l3FlushDone (fun t => t.reg 0x44 Reg.CRS_L3_FLUSH = 0 ∧ s.only t [.regs]
        ∧ s.regsBut t [(0x44, Reg.CRS_L3_FLUSH)]))
    ∧ (∀ (core : Fin 17) (line : Nat),
      let pg := if core = 16 then 0x44 else Page.crs core
      s.clocked = true → presentIn s.grade pg = true →
        s.does (.crestCacheError core .parity line) (fun t => t = s)
        ∧ s.does (.crestCacheError core .clean line) (fun t => t = s)
        ∧ s.does (.crestCacheError core .single line) (fun t => s.counted t pg Reg.PG_ERRCNT 1 ∧ s.only t [.regs])
        ∧ s.does (.crestCacheError core .dirty line) (fun t => t.isPoison (Base.dram + line / 64 * 64) = true
          ∧ t.mem = s.mem ∧ s.only t [.poison])
        ∧ s.does (.crestCacheError core .load line) (fun t => bit (t.reg pg Reg.PG_ERR) 0 = true
          ∧ s.only t [.regs, .fault]))
    ∧ (∀ k : Fin 4,
      let pg := Page.rfg k
      let x := s.refuge k
      let restarting (t : State) (pc : W32) : Prop := t.rfgState k = 2 ∧ t.reg pg Reg.RFG_LAST_PC = pc
        ∧ bit (t.reg Page.rfgc Reg.RFG_RESTART) k = true ∧ (t.refuge k).stage = 2 ∧ (t.refuge k).began = s.elapsed
        ∧ t.pic.claims = s.pic.claims.filter (fun c => c.1 != 16 + k.val)
      (∀ pc : W32, s.refugeRuns k = true →
        (s.rfgState k = 1 → x.lastKick + max 1 (s.regFld pg Reg.RFG_HB_MS 15 0) * 1000000 ≤ s.elapsed →
          (bit (s.reg pg Reg.RFG_AUTO) 0 = false → s.does (.heartbeatMiss k pc) (fun t =>
            s.counted t pg Reg.RFG_HB_MISS 1 ∧ (t.refuge k).lastKick = s.elapsed ∧ t.rfgState k = 1
            ∧ s.bytesBut t cairnBase 0x40000 ∧ s.only t [.regs, .mem, .proc]))
          ∧ (bit (s.reg pg Reg.RFG_AUTO) 0 = true → x.autos = [] → s.does (.heartbeatMiss k pc) (fun t =>
            s.counted t pg Reg.RFG_HB_MISS 1 ∧ (t.refuge k).autos = [s.elapsed] ∧ restarting t pc
            ∧ s.bytesBut t cairnBase 0x40000 ∧ s.only t [.regs, .mem, .proc, .pic, .eth])))
        ∧ (x.stage ≠ 0 → x.began + 25000000 ≤ s.elapsed → bit (s.reg pg Reg.RFG_AUTO) 0 = false →
          s.does (.restartTimeout k pc) (fun t => (t.refuge k).stage = 0 ∧ s.counted t pg Reg.RFG_HB_MISS 1
            ∧ s.bytesBut t cairnBase 0x40000 ∧ s.only t [.regs, .mem, .proc]))
        ∧ (s.Sound → x.stage = 2 → s.does (.restartCopyDone k) (fun t =>
          let h := imageStore + 0x20 + 0x50 * k.val
          let n := min 0x40000 (s.num (h + 4) 4)
          (∀ i, i < n → t.byte (privateSram k + i) = s.byte (imageStore + s.num h 4 + i))
          ∧ s.bytesBut t (privateSram k) n ∧ t.refuge k = { x with stage := 3 } ∧ s.only t [.mem, .proc]))
        ∧ (x.stage = 3 →
          s.does (.restartDigestDone k true) (fun t => t.refuge k = { x with stage := 4 } ∧ s.only t [.proc])
          ∧ s.does (.restartDigestDone k false) (fun t => (t.refuge k).stage = 0 ∧ t.rfgState k = 3
            ∧ bit (t.reg pg Reg.PG_ERR) 0 = true ∧ s.only t [.proc, .regs, .fault])))
      ∧ (∀ (req : Requester) (pc : W32), s.takes req Page.rfgc Reg.RFG_RESTART →
        (bit (s.reg Page.rfgc Reg.RFG_RESTART) k = false → s.does (.rfgRestart req (bitWord k) pc) (fun t =>
          restarting t pc ∧ s.bytesBut t cairnBase 0x40000 ∧ s.only t [.regs, .mem, .proc, .pic, .eth]))
        ∧ (bit (s.reg Page.rfgc Reg.RFG_RESTART) k = true → s.does (.rfgRestart req (bitWord k) pc) (fun t =>
          bit (t.reg Page.rfgc Reg.PG_ERR) 1 = true ∧ s.only t [.regs] ∧ s.regsBut t [(Page.rfgc, Reg.PG_ERR)])))
      ∧ (∀ req : Requester, refugeOf req = some k.val →
        (s.takes req pg Reg.RFG_HB_KICK →
          (x.stage = 4 → s.does (.rfgHbKick req k) (fun t => t.refuge k = { x with lastKick := s.elapsed, stage := 0 }
            ∧ t.rfgState k = 1 ∧ bit (t.reg Page.rfgc Reg.RFG_RESTART) k = false ∧ bit (t.reg pg Reg.PG_INT) 1 = true
            ∧ s.bytesBut t cairnBase 0x40000 ∧ s.only t [.regs, .mem, .proc]))
          ∧ (x.stage ≠ 4 → s.does (.rfgHbKick req k) (fun t => t.refuge k = { x with lastKick := s.elapsed }
            ∧ s.only t [.proc])))
        ∧ (∀ v : W32, s.takes req Page.crn (crnOff k 4) →
          bit (s.reg Page.crn (Reg.CRN_MASK0 + 4 * (fld v 9 0 / 32))) (fld v 9 0 % 32) = true →
          ((∀ p ∈ s.proc.pushes, p.1 ≠ k.val) → s.does (.crnPush req k v) (fun t =>
            t.proc = { s.proc with pushes := s.proc.pushes ++ [(k.val, fld v 9 0)] } ∧ s.only t [.proc]))
          ∧ ((∃ p ∈ s.proc.pushes, p.1 = k.val) → s.does (.crnPush req k v) (fun t =>
            numAt t.proc.lost k = numAt s.proc.lost k + 1 ∧ t.proc.pushes = s.proc.pushes
            ∧ bit (t.reg Page.crn Reg.PG_INT) 0 = true ∧ s.only t [.proc, .regs])))))

/-- TIMER_WRAP, COMPARE_MATCH, TIMER_START, TIMER_STOP, LOAD_NOW, TMR_PERIOD_WRITE, TMR_GSTART, CAPTURE_EDGE, CAPTURE_READ,
CRC_INIT, CRC_DATA8, CRC_DATA16 and CRC_DATA32 (R501–R518). -/
def Obligations.TimersAndCheckValues : Prop :=
  ∀ s : State,
    (∀ i : Fin 32,
      let pg := tmrPage i
      let ctrl := tmrOff i Reg.TMR_CTRL
      let loaded (t : State) : Prop := t.tmrNum i Reg.TMR_PERIOD_ACT = max 1 (s.tmrNum i Reg.TMR_PERIOD)
        ∧ t.tmrNum i Reg.TMR_COUNT = (if s.tmrCenter i then 0 else max 1 (s.tmrNum i Reg.TMR_PERIOD))
      (s.clocked = true → 8 * i.val + 4 ∈ s.tmr.due → s.does (.timerWrap i) (fun t => loaded t
        ∧ bit (t.tmrReg i Reg.TMR_FLAG) 4 = true ∧ 8 * i.val + 4 ∉ t.tmr.due ∧ t.tmrRun i = s.tmrRun i
        ∧ s.only t [.regs, .tmr]))
      ∧ (∀ k : Fin 4, s.clocked = true → 8 * i.val + k.val ∈ s.tmr.due → s.does (.compareMatch i k) (fun t =>
          let c := 4 * i.val + k.val
          let act := fld (s.chan i k Reg.TMR_CCFGk) 29 28
          let add := s.chanNum i k Reg.TMR_ADDk
          let cmp := s.chanNum i k Reg.TMR_CMPk
          bit (t.tmrReg i Reg.TMR_FLAG) k = true ∧ 8 * i.val + k.val ∉ t.tmr.due
          ∧ (s.tmrCenter i = false → (c ∈ t.tmr.outs ↔ (act = 1 ∨ (act = 0 ∧ c ∈ s.tmr.outs) ∨ (act = 3 ∧ c ∉ s.tmr.outs))))
          ∧ (∀ d, d ≠ c → (d ∈ t.tmr.outs ↔ d ∈ s.tmr.outs))
          ∧ (s.tmrCenter i = false → add ≠ 0 → cmp = s.tmrNum i Reg.TMR_COUNT → add < cmp →
              t.chanNum i k Reg.TMR_CMPk = (cmp - 1 - add) % s.tmrPeriod i + 1)
          ∧ (add = 0 → t.chanNum i k Reg.TMR_CMPk = cmp) ∧ s.only t [.regs, .tmr]))
      ∧ (∀ req : Requester, s.takes req pg ctrl →
        (s.tmrRun i = false → s.does (.timerStart req i) (fun t => t.tmrRun i = true ∧ numAt t.tmr.presc i = 0
          ∧ s.only t [.regs, .tmr] ∧ s.regsBut t [(pg, ctrl)]))
        ∧ (s.tmrRun i = true → s.does (.timerStart req i) (fun t => t = s))
        ∧ s.does (.timerStop req i) (fun t => t.tmrRun i = false ∧ s.only t [.regs] ∧ s.regsBut t [(pg, ctrl)])
        ∧ s.does (.loadNow req i) (fun t => loaded t ∧ t.tmrRun i = s.tmrRun i ∧ i.val ∈ t.tmr.used
          ∧ s.only t [.regs, .tmr]))
      ∧ (∀ (req : Requester) (v : W64), s.takes req pg (tmrOff i Reg.TMR_PERIOD) → s.does (.tmrPeriodWrite req i v) (fun t =>
          t.tmrNum i Reg.TMR_PERIOD = v.toNat % 2 ^ 48 ∧ s.only t [.regs]
          ∧ s.regsBut t [(pg, tmrOff i Reg.TMR_PERIOD), (pg, tmrOff i Reg.TMR_PERIOD + 4)]))
      ∧ (∀ (req : Requester) (v : W32), s.takes req 0x78 Reg.TMR_GSTART → s.does (.tmrGstart req v) (fun t =>
          t.tmrRun i = (s.tmrRun i || bit v i) ∧ s.only t [.regs, .tmr]))
      ∧ (∀ k : Fin 4,
        let st := tmrOff i Reg.TMR_CAPSTAT
        let cfg := s.chan i k Reg.TMR_CCFGk
        let c := 4 * i.val + k.val
        (∀ pin : Fin 16, s.clocked = true → bit (s.reg 0x78 Reg.TMR_IN_LEVEL) pin = false → fld cfg 31 30 = 2 →
          fld cfg 5 0 = pin.val → fld cfg 27 26 = 2 → numAt s.tmr.edges c = fld cfg 17 10 → bit (s.reg pg st) k = false →
          s.does (.captureEdge pin true) (fun t => bit (t.reg 0x78 Reg.TMR_IN_LEVEL) pin = true
            ∧ bit (t.reg pg st) k = true ∧ bit (t.tmrReg i Reg.TMR_FLAG) k = true ∧ numAt t.tmr.edges c = 0
            ∧ t.reg64 pg (chanOff i k Reg.TMR_CAPk) = (if bit cfg 9 then s.elapsed % 2 ^ 64 else s.tmrNum i Reg.TMR_COUNT)
            ∧ s.only t [.regs, .tmr]))
        ∧ (∀ req : Requester, s.mayRead req pg (chanOff i k Reg.TMR_CAPk) = true →
          s.does (.captureRead req i k) (fun t => t.rdata = (s.reg pg (chanOff i k Reg.TMR_CAPk)).toNat
            ∧ (bit (s.reg pg st) (4 + k) = false → bit (t.reg pg st) k = false)
            ∧ (bit (s.reg pg st) (4 + k) = true → bit (t.reg pg st) (4 + k) = false ∧ bit (t.reg pg st) k = bit (s.reg pg st) k
              ∧ t.reg64 pg (chanOff i k Reg.TMR_CAPk) = numAt s.tmr.second c % 2 ^ 64)
            ∧ s.only t [.regs, .read, .halves]))))
    ∧ (∀ (req : Requester) (u : Fin 8) (v : W32),
      let cfg := s.crcReg u Reg.CRC_CFG
      let fed (n : Nat) (t : State) : Prop :=
        t.crcNum u Reg.CRC_STATE = (leBytes n v.toNat).foldl
          (fun r b => crcFeedByte (s.crcWidth u) (s.crcNum u Reg.CRC_POLY) (bit cfg 8) r b.toNat) (s.crcNum u Reg.CRC_STATE)
            % 2 ^ s.crcWidth u
        ∧ s.counted t 0x79 (crcOff u Reg.CRC_BYTES) n ∧ s.only t [.regs]
        ∧ s.regsBut t [(0x79, crcOff u Reg.CRC_STATE), (0x79, crcOff u Reg.CRC_STATE + 4), (0x79, crcOff u Reg.CRC_BYTES)]
      s.crcWidth u ≤ 64 →
      (s.takes req 0x79 (crcOff u Reg.CRC_CTRL) → s.does (.crcInit req u) (fun t =>
        t.crcNum u Reg.CRC_STATE = s.crcNum u Reg.CRC_INIT ∧ s.only t [.regs]
        ∧ s.regsBut t [(0x79, crcOff u Reg.CRC_STATE), (0x79, crcOff u Reg.CRC_STATE + 4)]))
      ∧ (s.takes req 0x79 (crcOff u Reg.CRC_DATA8) → s.does (.crcData8 req u v) (fed 1))
      ∧ (s.takes req 0x79 (crcOff u Reg.CRC_DATA16) → s.does (.crcData16 req u v) (fed 2))
      ∧ (s.takes req 0x79 (crcOff u Reg.CRC_DATA32) → s.does (.crcData32 req u v) (fed 4)))

/-- POWER_ON, BROWN_OUT, OTP_STAGE, DRAM_TRAIN, DRAM_ROW_TEST, BOOT_LANE_TEST, IMAGE_FETCH, IMAGE_VERIFY, CHP_BOOT_IMG,
KNOWN_ANSWER_RUN, READY, WARM_N, CHP_RESET and WARM_PATH_DIGEST (R545–R569). -/
def Obligations.StartsGoThroughTheirStages : Prop :=
  ∀ s : State,
    let cause (t : State) : W32 := t.reg Page.chp Reg.CHP_RESET_CAUSE
    let onSlices (p off : Nat) : Prop := ∃ i : Fin 128, p = Page.slice i ∧ off = Reg.DRM_SLICE_STAT
    let fromNothing (src n : Nat) (t : State) : Prop :=
      t.boot = { path := .cold } ∧ t.bootStage = 0 ∧ t.bootSrc = src ∧ cause t = BitVec.ofNat 32 n ∧ t.mem = [] ∧ t.elapsed = 0
      ∧ (∀ p off, off < 4096 → (p, off) ∉ [(Page.chp, Reg.CHP_BOOT_STAT), (Page.chp, Reg.CHP_RESET_CAUSE)] → ¬ onSlices p off →
          t.reg p off = pageReset p off)
      ∧ (∀ i : Fin 128, presentIn s.grade (Page.slice i) = true → t.slicePower i = 3)
      ∧ t.sec = { burned := s.sec.burned } ∧ t.grade = s.grade ∧ t.pending = s.pending ∧ t.power.pins = s.power.pins
    let halted (code : Nat) (t : State) : Prop := t.bootStage = 15 ∧ t.bootFail = code ∧ s.only t [.regs, .power]
    let warmed (n : Nat) (t : State) : Prop :=
      t.bootStage = 1 ∧ t.frzState = Frz.run ∧ t.pwrState = Pwr.run ∧ cause t = BitVec.ofNat 32 n
      ∧ t.boot.path = (if s.fault.readySeen then BootPath.warm else .cold) ∧ t.boot.released = s.elapsed
      ∧ (∀ a, Base.dram ≤ a → t.byte a = s.byte a) ∧ (∀ a, a < Base.rfg → t.byte a = 0)
      ∧ (∀ (c : Fin 2048) (off : Nat), off < 4096 → t.reg (Page.cell c) off = pageReset (Page.cell c) off)
      ∧ t.cells.items = [] ∧ t.cells.pool = [] ∧ t.elapsed = s.elapsed ∧ t.pending = s.pending ∧ t.scree = s.scree
    (∀ src : Fin 4, s.does (.powerOn src) (fromNothing src 1))
    ∧ s.does .brownOut (fromNothing s.bootSrc 2)
    ∧ ((s.bootAt 0 || s.bootAt 1 || s.bootAt 2) = true → ∀ (supplyOk : Bool) (unlocked : BitVec 6),
        (s.otpCrcOk = false → s.does (.otpStage supplyOk unlocked) (halted 1))
        ∧ (s.otpCrcOk = true → supplyOk = false → s.does (.otpStage supplyOk unlocked) (halted 2))
        ∧ (s.otpCrcOk = true → supplyOk = true → unlocked ≠ 0 → s.does (.otpStage supplyOk unlocked) (halted 3))
        ∧ (s.otpCrcOk = true → supplyOk = true → unlocked = 0 → s.does (.otpStage supplyOk unlocked) (fun t =>
            t.bootStage = 3 ∧ t.trngState = 1 ∧ (∀ n : Fin 6, bit (t.reg Page.clk (pllStat n)) 31 = true)
            ∧ (s.boot.path = .cold → t.fault.siteList.length < 256 → ∀ x ∈ s.fusedSites, ∃ r ∈ t.fault.siteList, r.1 = x)
            ∧ s.only t [.regs, .fault, .power])))
    ∧ (s.bootAt 3 = true →
        s.does (.dramTrain false) (halted 4)
        ∧ s.does (.dramTrain true) (fun t => t.bootStage = (if s.boot.path = .warm then 7 else 4)
            ∧ (∀ i : Fin 128, presentIn s.grade (Page.slice i) = true → t.slicePower i = 0) ∧ s.only t [.regs]))
    ∧ (s.bootAt 4 = true →
        (∀ rows : List (Nat × Nat × Nat), s.does (.dramRowTest rows) (fun t => t.bootStage = 5
          ∧ (∀ a, Base.dram ≤ a → a < Base.dram + 2 * dieBytes → t.byte a = 0)
          ∧ (∀ a, a < Base.dram ∨ Base.dram + 2 * dieBytes ≤ a → t.byte a = s.byte a)
          ∧ s.only t [.regs, .dram, .fault, .mem, .poison]))
        ∧ (∀ (slice : Fin 128) (bank row : Nat), presentIn s.grade (Page.slice slice) = true → bank < 16 → row < 12288 →
            s.rowListed slice bank row = false → (s.bankRemaps slice bank).length < 4 →
            s.does (.dramRowTest [(slice.val, bank, row)]) (fun t => t.rowListed slice bank row = true)))
    ∧ (s.bootAt 5 = true → ∀ bad : List (Fin 16 × Fin 5), s.does (.bootLaneTest bad) (fun t => t.bootStage = 6
        ∧ (∀ x ∈ bad, x.1.val < s.grade.trvs →
            bit (t.reg Page.chp (Reg.CHP_LANE_BAD0 + 4 * (x.1.val / 4))) (8 * (x.1.val % 4) + x.2.val) = true)
        ∧ s.only t [.regs]))
    ∧ (s.bootAt 6 = true → s.bootSrc ≠ 1 → s.boot.host = false → ∀ image : List Byte,
        s.does (.imageFetch false image) (halted 5)
        ∧ ((image.isEmpty ∨ 4 ≤ s.boot.entry) →
            s.does (.imageFetch true image) (halted (if s.boot.entry = 0 then 5 else s.bootFail)))
        ∧ (¬ image.isEmpty → s.boot.entry < 4 → s.does (.imageFetch true image) (fun t => t.bootStage = 7
            ∧ t.boot = { s.boot with entry := s.boot.entry + 1, size := image.length, host := false }
            ∧ (∀ (i : Nat) (h : i < image.length), i < 0xA0000 → t.byte (Base.dram + i) = image[i])
            ∧ s.bytesBut t Base.dram 0xA0000 ∧ s.only t [.regs, .boot, .mem, .poison])))
    ∧ (s.bootAt 7 = true → s.boot.size ≠ 0 →
        let l := s.bytes Base.dram (min s.boot.size 0xA0000)
        let code := if 0xA0000 < s.boot.size then 6 else s.imageCode l
        (code ≠ 0 → s.does .imageVerify (fun t => t.bootStage = 6 ∧ t.bootFail = code ∧ t.boot = { s.boot with size := 0 }
          ∧ s.only t [.regs, .boot]))
        ∧ (code = 0 → s.does .imageVerify (fun t => t.bootStage = 8
          ∧ t.boot = { s.boot with size := 0, digest := some (Config.sha512 l)
                                   running := some (imgNum l 0x14 4 % 4, imgNum l 0x10 4 % 256) }
          ∧ t.reg Page.rfgc Reg.RFG_FW_SIZE = BitVec.ofNat 32 l.length ∧ s.only t [.regs, .boot, .mem, .poison])))
    ∧ (∀ (req : Requester) (v : W32), s.takesWo req Page.chp Reg.CHP_BOOT_IMG →
        ((s.hostBoot && s.staging && s.bootStage != 7) = true → s.does (.chpBootImg req v) (fun t => t.bootStage = 7
          ∧ t.boot.size = fld v 19 0 ∧ t.boot.host = true ∧ s.only t [.regs, .boot]
          ∧ s.regsBut t [(Page.chp, Reg.CHP_BOOT_STAT)]))
        ∧ ((s.hostBoot && s.staging && s.bootStage != 7) = false → s.does (.chpBootImg req v) (fun t => t = s)))
    ∧ (s.bootAt 8 = true → s.boot.proven = false → ∀ (sites : List (Fin 2176)) (engines : List Nat),
        s.does (.knownAnswerRun sites engines) (fun t => t.boot = { s.boot with proven := true } ∧ t.bootStage = 8
          ∧ (∀ x ∈ sites, (∃ r ∈ t.fault.siteList, r.1 = x.val) ∨ (256 ≤ t.fault.siteList.length ∧ x.val ∈ t.fault.unlisted))
          ∧ (∀ a, Base.dram ≤ a → a < Base.dram + 0x100000 → t.byte a = 0) ∧ s.bytesBut t Base.dram 0x100000
          ∧ s.only t [.regs, .boot, .mem, .poison, .fault]))
    ∧ (s.bootAt 8 = true → s.boot.proven = true → s.frzState = Frz.run → s.does .ready (fun t => t.bootStage = 9
        ∧ t.boot = { s.boot with path := .none } ∧ t.fault = { s.fault with readySeen := true } ∧ t.pwrState = Pwr.run
        ∧ t.reg Page.chp Reg.CHP_BOOT_NS = BitVec.ofNat 32 (s.elapsed - s.boot.released) ∧ (∀ k : Fin 4, t.rfgState k = 1)
        ∧ s.only t [.regs, .boot, .cells, .fault, .proc, .sec]))
    ∧ ((s.warmActs = true → s.does .warmN (warmed 8)) ∧ (s.warmActs = false → s.does .warmN (fun t => t = s)))
    ∧ (∀ (req : Requester) (v : W32), s.takesWo req Page.chp Reg.CHP_RESET →
        (fld v 31 16 = 0xB007 → bit v 0 = true → s.warmActs = true → s.does (.chpReset req v) (warmed 16))
        ∧ ((fld v 31 16 ≠ 0xB007 ∨ bit v 0 = false ∨ s.warmActs = false) → s.does (.chpReset req v) (fun t => t = s)))
    ∧ (s.bootAt 7 = true → s.boot.path = .warm → s.boot.size = 0 → s.bootFail = 0 →
        (s.storeMatches = true → s.does .warmPathDigest (fun t => t.bootStage = 8 ∧ t.boot = { s.boot with proven := true }
          ∧ s.only t [.regs, .boot, .mem]))
        ∧ (s.storeMatches = false → s.does .warmPathDigest (fun t => t.bootStage = 6 ∧ t.bootFail = 0xB ∧ s.only t [.regs])))

/-- ERROR_RECORD_WRITE, BLK_MIGRATE, MIGRATION_COMPLETE, BLK_RESTORE, RESTORE_DONE, FABRIC_PROGRESS_EXPIRY, COLLECT_DONE,
COLLECT_TIMEOUT, KILL_DONE, RECOVERY_RETRAIN_DONE and RELOAD_DONE (R571–R588, R618). -/
def Obligations.FaultsAreRecordedAndRecovered : Prop :=
  ∀ s : State,
    let recovering (code : Nat) (t : State) : Prop := t.frzState = Frz.collect
      ∧ t.reg Page.frz Reg.FRZ_REC_CAUSE = BitVec.ofNat 32 code ∧ t.fault.recoverAt = s.elapsed ∧ s.only t [.regs, .fault]
    let killed (b : Nat) (t : State) : Prop := t.frzState = Frz.kill ∧ t.bootStage = 1
      ∧ t.reg Page.chp Reg.CHP_RESET_CAUSE = 0x20 ∧ t.boot.path = BootPath.none ∧ bit (t.reg Page.frz Reg.FRZ_DUMP_STAT) b = true
      ∧ t.num (Base.dump + 0x40000) 4 = 0xD00C0019 ∧ t.elapsed = s.elapsed ∧ t.pending = s.pending ∧ t.scree = s.scree
      ∧ ((s.dumpArea = none ∨ s.reg Page.frz Reg.FRZ_REC_CAUSE = 0x040D) → ∀ a, Base.dram ≤ a → t.byte a = s.byte a)
      ∧ (∀ (c : Fin 2048) (off : Nat), off < 4096 → t.reg (Page.cell c) off = pageReset (Page.cell c) off)
    (∀ (r : ErrRecord) (l : List ErrRecord), s.fault.records = r :: l → s.pwrState ≠ Pwr.sleep →
      let seq := s.reg Page.chp Reg.CHP_ERR_SEQ
      let a := Base.dump + 32 * (seq.toNat % 8192)
      s.does .errorRecordWrite (fun t => t.fault = { s.fault with records := l }
        ∧ t.bytes a 32 = r.bytes s.stepNo s.elapsed seq.toNat ∧ s.bytesBut t a 32 ∧ t.reg Page.chp Reg.CHP_ERR_SEQ = seq + 1
        ∧ bit (t.reg Page.chp Reg.PG_INT) 3 = true ∧ s.only t [.fault, .mem, .regs]
        ∧ s.regsBut t [(Page.chp, Reg.CHP_ERR_SEQ), (Page.chp, Reg.PG_INT)]))
    ∧ (∀ b : Fin 128,
      let pg := Page.block b
      (∀ (req : Requester) (v : W32), s.takesWo req pg Reg.BLK_MIGRATE →
        let c := 16 * b.val + fld v 3 0
        (bit v 31 = false → s.does (.blkMigrate req b v) (fun t => t = s))
        ∧ (bit v 31 = true → s.cells.mapped = true → s.offline c = false → s.fenced c = false →
            bit (s.reg pg Reg.BLK_CTRL) 0 = true → (s.listSite (s.siteOf c) 2).spareFree b = true →
            (s.listSite (s.siteOf c) 2).fault.unlisted.contains (s.siteOf c) = false →
            s.does (.blkMigrate req b v) (fun t =>
              t.fault.migrations = s.fault.migrations ++ [(b.val, { cell := c, fenced := s.elapsed })]
              ∧ (∃ r ∈ t.fault.siteList, r.1 = s.siteOf c) ∧ t.faulted (Page.site (s.siteOf c)) = true
              ∧ bit (t.reg pg Reg.PG_INT) 2 = true ∧ s.only t [.fault, .regs])))
      ∧ (∀ m : Migration, s.fault.migrations.find? (fun x => x.1 == b.val && x.2.copying) = some (b.val, m) → m.buffer = [] →
          s.runs (11 + b.val) = true → ∀ bad badTrace badPool : List Nat,
          s.does (.migrationComplete b bad badTrace badPool) (fun t => t.siteOf m.cell = spareSite b
            ∧ t.offline m.cell = false ∧ (∀ x ∈ t.fault.migrations, x.2.cell ≠ m.cell) ∧ s.counted t pg Reg.BLK_MIG_CNT 1
            ∧ t.reg pg Reg.BLK_MIG_NS = BitVec.ofNat 32 (min 0xFFFFFFFF (s.elapsed - m.fenced))
            ∧ bit (t.reg pg Reg.PG_INT) 0 = true ∧ (∀ i, i ∈ badTrace → i < 8192 → (t.neuron m.cell i).post = 0)
            ∧ s.only t [.regs, .cells, .fault, .dram, .step]))
      ∧ (∀ req : Requester, s.takes req pg Reg.BLK_CTRL →
          let kept := bit (s.reg Page.lrn (Reg.LRN_CKPT_LAST + 4)) 31
          ((s.running = true ∨ kept = false) → s.does (.blkRestore req b) (fun t => bit (t.reg pg Reg.PG_ERR) 1 = true
            ∧ s.only t [.regs] ∧ s.regsBut t [(pg, Reg.PG_ERR)]))
          ∧ (s.running = false → kept = true → s.does (.blkRestore req b) (fun t => bit (t.reg pg Reg.BLK_STAT) 30 = true
            ∧ s.only t [.regs] ∧ s.regsBut t [(pg, Reg.BLK_STAT)])))
      ∧ (s.runs (11 + b.val) = true → bit (s.reg pg Reg.BLK_STAT) 30 = true → s.does (.restoreDone b) (fun t =>
          bit (t.reg pg Reg.BLK_STAT) 30 = false
          ∧ (∀ c, c / 16 = b.val → s.cells.mapped = true → s.offline c = false → ∀ i, i < 8192 →
              (∀ l, s.slotData c = some l → (t.neuron c i).v = BitVec.ofNat 16 (slotNum l (12 * i) 2)
                ∧ (t.neuron c i).acc = BitVec.ofNat 32 (slotNum l (12 * i + 8) 4)
                ∧ (t.neuron c i).post = BitVec.ofNat 8 (slotNum l (98304 + i) 1))
              ∧ (s.slotData c = none → t.neuron c i = {} ∧ bit (t.reg pg Reg.BLK_STAT) 29 = true
                ∧ bit (t.reg pg Reg.PG_ERR) 1 = true))
          ∧ (∀ c i, c / 16 ≠ b.val → i < 8192 → t.neuron c i = s.neuron c i) ∧ s.only t [.cells, .regs])))
    ∧ (∀ page : Nat, s.clocked = true → s.fabricClock page = true → s.reg Page.frz Reg.FRZ_FPW_US ≠ 0 →
      s.holdsPacket page = true →
        (bit (s.reg Page.frz Reg.FRZ_CTRL) 0 = false → s.does (.fabricProgressExpiry page) (recovering 0x040B))
        ∧ (bit (s.reg Page.frz Reg.FRZ_CTRL) 0 = true → s.fault.readySeen = true → s.pwrState ≠ Pwr.nap →
          s.pwrState ≠ Pwr.sleep → s.does (.fabricProgressExpiry page) (fun t => t.frzState = Frz.stopping
            ∧ s.regFld Page.frz Reg.FRZ_REC_CAUSE 15 0 = t.regFld Page.frz Reg.FRZ_REC_CAUSE 15 0
            ∧ t.regFld Page.frz Reg.FRZ_STAT 27 24 = 3 ∧ s.only t [.regs, .fault])))
    ∧ (s.frzState = Frz.collect → s.does .collectDone (killed 31)
        ∧ (s.fault.recoverAt + 300000000 ≤ s.elapsed → s.does .collectTimeout (killed 29)))
    ∧ (s.frzState = Frz.kill → ∀ tj : Fin 2048,
        let hot := s.reg Page.frz Reg.FRZ_REC_CAUSE = 0x040D ∧ 760 ≤ tj.val
        (hot → s.does (.killDone tj) (fun t => t.frzState = Frz.kill ∧ s.only t [.regs, .scree]))
        ∧ (¬ hot → s.does (.killDone tj) (fun t => t.frzState = Frz.retrain ∧ t.boot = { s.boot with released := s.elapsed }
            ∧ s.only t [.regs, .scree, .boot, .fabric, .step, .trv])))
    ∧ (s.frzState = Frz.retrain → ∀ fail : Fin 3,
        (fail = 0 → s.does (.recoveryRetrainDone fail) (fun t => t.frzState = Frz.reload ∧ t.bootStage = 7
          ∧ t.boot = { s.boot with path := .warm } ∧ s.only t [.regs, .boot, .fault, .power]))
        ∧ (fail ≠ 0 → s.does (.recoveryRetrainDone fail) (fun t => t.frzState = Frz.run ∧ t.bootStage = 15
          ∧ t.bootFail = (if fail = 1 then 3 else 4) ∧ s.only t [.regs, .boot])))
    ∧ (s.frzState = Frz.reload → s.bootStage = 7 → s.bootFail = 0 → s.boot.size = 0 →
        (s.storeMatches = true → s.does .reloadDone (fun t => t.frzState = Frz.run ∧ t.bootStage = 9
          ∧ t.boot = { s.boot with path := .none, proven := true } ∧ t.regFld Page.chp Reg.PG_STAT 3 0 = 9
          ∧ t.regFld Page.frz Reg.FRZ_REC_CNT 15 0 = min 65535 (s.regFld Page.frz Reg.FRZ_REC_CNT 15 0 + 1)
          ∧ bit (t.reg Page.frz Reg.PG_INT) 1 = true ∧ s.only t [.regs, .boot, .cells, .fault, .proc, .sec, .mem]))
        ∧ (s.storeMatches = false → s.does .reloadDone (fun t => t.frzState = Frz.reload ∧ t.bootStage = 6
          ∧ t.bootFail = 0xB ∧ s.only t [.regs])))

/-- FREEZE_N_LOW, FREEZE, FREEZE_STOPPED, RESUME, FREEZE_N_RISE, RECOVER, RESUME_COMPLETE, PWR_REQ_NAP, PWR_REQ_SLEEP,
PWR_REQ_RUN, ENTRY_COMPLETE, WAKE, AON_TIMER_EXPIRY, ENERGY_DETECT and PG_MAIN_RISE (R591–R610, R661). -/
def Obligations.FreezeAndPowerStates : Prop :=
  ∀ s : State,
    let frz := Page.frz
    let pwr := Page.pwr
    let ctrl := s.reg frz Reg.FRZ_CTRL
    let mayFreeze : Prop := s.pwrState ≠ Pwr.nap ∧ s.pwrState ≠ Pwr.sleep ∧ s.fault.readySeen = true
    let frozenBy (cause : Nat) (t : State) : Prop := t.frzState = Frz.stopping ∧ t.regFld frz Reg.FRZ_STAT 27 24 = cause
      ∧ t.reg64 frz Reg.FRZ_ENTRY_NS = s.elapsed % 2 ^ 64 ∧ s.counted t frz Reg.FRZ_COUNT 1 ∧ s.only t [.regs]
    let ignored (t : State) : Prop := s.counted t frz Reg.FRZ_IGNORED 1 ∧ s.only t [.regs]
      ∧ s.regsBut t [(frz, Reg.FRZ_IGNORED)]
    let mayResume : Prop := s.frzState = Frz.frozen ∧ bit (s.reg frz Reg.FRZ_STAT) 15 = false
      ∧ bit (s.reg frz Reg.FRZ_STAT) 22 = false
    let resuming (t : State) : Prop := t.frzState = Frz.resuming ∧ s.only t [.regs] ∧ s.regsBut t [(frz, Reg.FRZ_STAT)]
    let barred (t : State) : Prop := bit (t.reg frz Reg.PG_ERR) 0 = true ∧ s.only t [.regs] ∧ s.regsBut t [(frz, Reg.PG_ERR)]
    let enabled (i : Nat) : Prop := bit (s.reg pwr Reg.PWR_WAKE_EN) i = true
    let woken (i : Nat) (t : State) : Prop := bit (t.reg pwr Reg.PWR_WAKE_CAUSE) i = true ∧ t.pwrState = Pwr.waking
      ∧ bit (t.reg pwr Reg.PG_INT) 0 = true ∧ (s.pwrState = Pwr.sleep → t.power.waitMain = true)
      ∧ s.only t [.regs, .power, .pic, .proc, .boot]
    let asleep : Prop := s.pwrState = Pwr.nap ∨ s.pwrState = Pwr.sleep
    let entered (target : Nat) (t : State) : Prop := t.pwrState = Pwr.entering ∧ t.power.entry = some (target, s.elapsed)
      ∧ t.reg pwr Reg.PWR_WAKE_CAUSE = 0 ∧ t.elapsed = s.elapsed ∧ t.cells = s.cells ∧ t.fault = s.fault
    let refused (t : State) : Prop := bit (t.reg pwr Reg.PG_INT) 2 = true ∧ t.pwrState = s.pwrState ∧ s.only t [.regs]
    (bit ctrl 2 = true → s.frzState = Frz.run → mayFreeze → s.does .freezeNLow (frozenBy 1))
    ∧ (bit ctrl 2 = true → (asleep ∨ s.fault.readySeen = false) → s.does .freezeNLow ignored)
    ∧ (bit ctrl 2 = false → s.does .freezeNLow (fun t => t = s))
    ∧ (∀ req : Requester, s.takes req frz Reg.FRZ_CTRL →
        (s.frzState = Frz.run → mayFreeze → s.does (.freeze req) (frozenBy 2))
        ∧ ((asleep ∨ s.fault.readySeen = false) → s.does (.freeze req) ignored)
        ∧ (s.frzState = Frz.frozen → s.does (.recover req) (fun t => t.frzState = Frz.collect
            ∧ t.fault = { s.fault with recoverAt := s.elapsed, recoverUnit := pageId frz } ∧ s.only t [.regs, .fault, .fresh]))
        ∧ (s.frzState ≠ Frz.frozen → s.does (.recover req) (fun t => t = s)))
    ∧ (s.frzState = Frz.stopping → s.does .freezeStopped (fun t => t.frzState = Frz.frozen
        ∧ (∀ i : Fin 128, presentIn s.grade (Page.slice i) = true → t.slicePower i = 2)
        ∧ (∀ p : Fin 16, s.trvUsable p = true → t.trvState p = 6)
        ∧ (bit ctrl 4 = false → t.mem = s.mem) ∧ s.bytesBut t (Base.rfg + 0x1B0000) 0x10000
        ∧ (∀ p : Fin 16, s.trvUsable p = true → (s.trvPort p).replay.length < 1024 → numAt (s.trvPort p).used 0 < 16 →
            (t.trvPort p).txSeq = ((s.trvPort p).txSeq + 1) % 4096
            ∧ (t.trvPort p).replay.length = (s.trvPort p).replay.length + 1)
        ∧ s.only t [.regs, .trv, .fault, .mem, .fresh]))
    ∧ (∀ req : Requester, s.takesWo req frz Reg.FRZ_RESUME →
        (mayResume → s.does (.resume req) resuming) ∧ (¬ mayResume → s.does (.resume req) barred))
    ∧ (bit ctrl 3 = true → s.frzState ≠ Frz.run →
        (mayResume → s.does .freezeNRise resuming) ∧ (¬ mayResume → s.does .freezeNRise barred))
    ∧ ((bit ctrl 3 = false ∨ s.frzState = Frz.run) → s.does .freezeNRise (fun t => t = s))
    ∧ (s.frzState = Frz.resuming → s.does .resumeComplete (fun t => t.frzState = Frz.run
        ∧ bit (t.reg frz Reg.PG_INT) 0 = true ∧ s.counted t Page.stp Reg.STP_OVERRUNS 1
        ∧ t.reg64 frz Reg.FRZ_LAST_NS = (s.elapsed - s.reg64 frz Reg.FRZ_ENTRY_NS) % 2 ^ 64 ∧ t.pic.latches = []
        ∧ s.only t [.regs, .step, .engines, .eth, .fabric, .ingress, .pic, .proc, .trv]))
    ∧ (∀ req : Requester, s.takes req pwr Reg.PWR_REQ →
        (s.servesPower = true → s.pwrState = Pwr.run → s.power.entry = none → s.power.gated = false →
          (s.running = true → s.does (.pwrReqNap req) refused ∧ s.does (.pwrReqSleep req) refused)
          ∧ (s.running = false → s.does (.pwrReqNap req) (entered 1)
            ∧ (s.aonLoad ≤ 180 → s.does (.pwrReqSleep req) (entered 2))
            ∧ (180 < s.aonLoad → s.does (.pwrReqSleep req) (fun t => refused t ∧ bit (t.reg pwr Reg.PWR_STAT) 8 = true))))
        ∧ (s.servesPower = true → s.pwrState = Pwr.waking → s.power.entry = none → s.power.waitMain = false →
            s.power.gated = true → s.does (.pwrReqRun req) (fun t => t.pwrState = Pwr.run ∧ t.power.gated = false
              ∧ t.reg pwr Reg.PWR_REQ = 0 ∧ (∀ i : Fin 128, presentIn s.grade (Page.slice i) = true → t.slicePower i = 0)))
        ∧ (s.servesPower = false → s.pwrState = Pwr.run → s.power.entry = none → s.does (.pwrReqNap req) (fun t =>
            t.power = { s.power with held := some 1 } ∧ t.reg pwr Reg.PWR_REQ = 1 ∧ s.only t [.regs, .power]
            ∧ s.regsBut t [(pwr, Reg.PWR_REQ)])))
    ∧ (∀ target t0, s.power.entry = some (target, t0) → s.reg pwr Reg.PWR_WAKE_EN = 0 → s.reg pwr Reg.PWR_WAKE_CAUSE = 0 →
        s.power.held = none → s.does .entryComplete (fun t => t.pwrState = (if target = 2 then Pwr.sleep else Pwr.nap)
          ∧ t.power.entry = none ∧ t.power.gated = true ∧ s.counted t pwr Reg.PWR_ENTRIES 1
          ∧ t.reg pwr Reg.PWR_LAST_ENTRY_NS = BitVec.ofNat 32 (min 0xFFFFFFFF (s.elapsed - t0))
          ∧ (target = 2 → t.mem = []) ∧ (target ≠ 2 → t.mem = s.mem) ∧ t.elapsed = s.elapsed ∧ t.scree = s.scree))
    ∧ (∀ pins : Fin 16, s.does (.wake pins) (fun t => t.power.pins = pins.val ∧ s.only t [.regs, .power, .pic, .proc, .boot]
        ∧ (∀ i : Fin 4, Nat.testBit pins.val i = true → Nat.testBit s.power.pins i = false → enabled i → asleep → woken i t)))
    ∧ (s.power.timerHigh = false → s.reg64 pwr Reg.PWR_WAKE_AT_NS ≤ s.elapsed → s.does .aonTimerExpiry (fun t =>
        t.power.timerHigh = true ∧ (enabled 4 → asleep → woken 4 t) ∧ s.only t [.regs, .power, .pic, .proc, .boot]))
    ∧ ((s.power.timerHigh = true ∨ s.elapsed < s.reg64 pwr Reg.PWR_WAKE_AT_NS) → s.does .aonTimerExpiry (fun t => t = s))
    ∧ (∀ port : Fin 4,
        (enabled (5 + port.val) → asleep → s.does (.energyDetect port) (woken (5 + port.val)))
        ∧ (¬ enabled (5 + port.val) → s.does (.energyDetect port) (fun t => t = s)))
    ∧ (s.power.waitMain = true → s.does .pgMainRise (fun t => t.bootStage = 1 ∧ t.boot = { s.boot with path := .wake }
        ∧ t.power = { s.power with waitMain := false, gated := false } ∧ t.bootSrc = s.bootSrc
        ∧ t.reg Page.chp Reg.CHP_RESET_CAUSE = 4 ∧ t.pic.latches = [] ∧ s.only t [.regs, .boot, .power, .pic]))

/-- PLL_ENABLE, PLL_LOCK, PLL_UNLOCK, CLK_DSRC, THROTTLE_RAISE, THROTTLE_LOWER, THERMAL_SHUTDOWN, SCREE_SAMPLE,
EPOCH_FUSE_BURN, LEDGER_EXPORT, LEDGER_RESTORE, PWR_VID_WRITE and VID_STEP (R613–R628, R674). -/
def Obligations.ClocksTemperatureAndWear : Prop :=
  ∀ s : State,
    let clk := Page.clk
    let pwr := Page.pwr
    let scr := Page.scr
    let refused (p : Nat) (t : State) : Prop := bit (t.reg p Reg.PG_ERR) 0 = true ∧ s.only t [.regs]
      ∧ s.regsBut t [(p, Reg.PG_ERR)]
    (∀ n : Fin 6,
      let old := s.reg clk (pllCtrl n)
      (∀ (req : Requester) (v : W32), s.takes req clk (pllCtrl n) →
        (pllMax n < fld v 11 0 → s.does (.pllEnable req n v) (refused clk))
        ∧ (fld v 11 0 ≤ pllMax n → s.does (.pllEnable req n v) (fun t => t.reg clk (pllCtrl n) = v &&& 0x80000FFF
            ∧ (v &&& 0x80000FFF ≠ old → bit (t.reg clk (pllStat n)) 31 = false)
            ∧ (v &&& 0x80000FFF = old → t.reg clk (pllStat n) = s.reg clk (pllStat n))
            ∧ n.val ∉ t.power.pllOff ∧ t.power = { s.power with pllOff := t.power.pllOff } ∧ s.only t [.regs, .power] ∧ s.regsBut t [(clk, pllCtrl n), (clk, pllStat n)])))
      ∧ (bit old 31 = true → n.val ∉ s.power.pllOff → s.frzState = Frz.run → s.pwrState ≠ Pwr.nap → s.pwrState ≠ Pwr.sleep →
          s.does (.pllLock n) (fun t => t.reg clk (pllStat n) = bitWord 31 ||| (old &&& 0xFFF) ∧ s.only t [.regs]
            ∧ s.regsBut t [(clk, pllStat n)]))
      ∧ (bit old 31 = false ∨ n.val ∈ s.power.pllOff → s.does (.pllLock n) (fun t => t = s))
      ∧ (bit (s.reg clk (pllStat n)) 31 = true →
          (s.pwrState = Pwr.run → s.does (.pllUnlock n) (fun t => t.reg clk (pllStat n) = bitWord 30
            ∧ bit (t.reg clk Reg.PG_INT) 0 = true ∧ s.only t [.regs] ∧ s.regsBut t [(clk, pllStat n), (clk, Reg.PG_INT)]))
          ∧ (s.pwrState ≠ Pwr.run → s.does (.pllUnlock n) (fun t => t.reg clk (pllStat n) = 0 ∧ s.only t [.regs]
            ∧ s.regsBut t [(clk, pllStat n)])))
      ∧ (bit (s.reg clk (pllStat n)) 31 = false → s.does (.pllUnlock n) (fun t => t = s)))
    ∧ (∀ (req : Requester) (v : W32), s.takes req clk Reg.CLK_DSRC →
      let d := s.regFld clk Reg.CLK_DSEL 7 0
      let x := fld v 2 0
      domainPresent s.grade d = true → domainTakes d v = true →
        ((x = 0 ∨ bit (s.reg clk (pllStat (x - 1))) 31 = true) → s.does (.clkDsrc req v) (fun t => t.domain d = v &&& 0xFF07
          ∧ (∀ e, e ≠ d → t.domain e = s.domain e) ∧ s.only t [.power]))
        ∧ (x ≠ 0 → bit (s.reg clk (pllStat (x - 1))) 31 = false → s.does (.clkDsrc req v) (refused clk)))
    ∧ (∀ tj : Fin 2048,
      let read (t : State) : Prop := t.reg pwr Reg.PWR_TJ = BitVec.ofNat 32 tj.val
      (840 ≤ tj.val → s.throttle < 3 → (s.throttle = 0 ∨ s.power.raised + 100000 ≤ s.elapsed) →
        s.does (.throttleRaise tj) (fun t => read t ∧ t.throttle = s.throttle + 1 ∧ bit (t.reg pwr Reg.PG_INT) 1 = true
          ∧ t.power = { s.power with raised := s.elapsed, coolSince := none } ∧ s.only t [.regs, .power, .scree]))
      ∧ ((tj.val < 840 ∨ s.throttle = 3 ∨ (s.throttle ≠ 0 ∧ s.elapsed < s.power.raised + 100000)) →
        s.does (.throttleRaise tj) (fun t => read t ∧ t.throttle = s.throttle ∧ s.only t [.regs, .power, .scree]))
      ∧ (tj.val < 816 → ∀ t0, s.power.coolSince = some t0 → s.throttle ≠ 0 → t0 + 10000000 ≤ s.elapsed →
        s.does (.throttleLower tj) (fun t => read t ∧ t.throttle = s.throttle - 1 ∧ bit (t.reg pwr Reg.PG_INT) 1 = true
          ∧ t.power = { s.power with coolSince := some s.elapsed } ∧ s.only t [.regs, .power, .scree]))
      ∧ (816 ≤ tj.val → s.does (.throttleLower tj) (fun t => read t ∧ t.throttle = s.throttle
          ∧ t.power = { s.power with coolSince := none } ∧ s.only t [.regs, .power, .scree]))
      ∧ (∀ sensor : Fin 64, 920 ≤ tj.val → s.pwrState ≠ Pwr.sleep → s.frzState < Frz.collect →
          bit (s.reg Page.frz Reg.FRZ_CTRL) 0 = false → s.does (.thermalShutdown tj sensor) (fun t => read t
            ∧ t.frzState = Frz.collect ∧ t.reg Page.frz Reg.FRZ_REC_CAUSE = 0x040D ∧ t.fault.recoverAt = s.elapsed
            ∧ s.only t [.regs, .scree, .fault])))
    ∧ (∀ ds : List Nat, s.refugeRuns 3 = true → s.rfgState 3 = 1 →
      s.scree.sampled + max 60 (s.regFld scr Reg.SCR_SAMPLE_S 15 0) * 1000000000 ≤ s.elapsed →
      s.does (.screeSample ds) (fun t => t.scree.sampled = s.elapsed
        ∧ (∀ i : Fin 297, ((Store.find t.scree.history i).getD []).head?
            = some { time := s.poweredNs, d := min 65535 (ds.getD i 0) })
        ∧ t.scree.base = s.scree.base ∧ t.scree.exports = s.scree.exports ∧ s.only t [.scree, .regs, .fresh]))
    ∧ (∀ i, s.nextFuse = some i → s.fuseDue = true → s.otpBusy = false → s.rfgState 3 = 1 → s.does .epochFuseBurn (fun t =>
        t.otpBit (63488 + i) = true ∧ (∀ b, b ≠ 63488 + i → t.otpBit b = s.otpBit b) ∧ bit (t.reg scr Reg.PG_INT) 2 = true
        ∧ s.only t [.sec, .regs] ∧ s.regsBut t [(scr, Reg.PG_INT)]))
    ∧ (∀ req : Requester, s.takesWo req scr Reg.SCR_LEDGER_CTRL → s.reg scr Reg.SCR_LEDGER_CTRL = 0 → s.clocked = true →
      s.rfgState 3 = 1 →
        let ended (code : Nat) (t : State) : Prop := t.reg scr Reg.SCR_LEDGER_STAT = BitVec.ofNat 32 code
          ∧ t.reg scr Reg.SCR_LEDGER_CTRL = 0 ∧ bit (t.reg scr Reg.PG_INT) 1 = true
        (s.ledgerPlace = false →
          s.does (.ledgerExport req) (fun t => ended 6 t ∧ s.only t [.regs])
          ∧ s.does (.ledgerRestore req) (fun t => ended 6 t ∧ s.only t [.regs]))
        ∧ (s.ledgerPlace = true →
          s.does (.ledgerExport req) (fun t => ended 0 t ∧ t.scree = { s.scree with exports := s.scree.exports + 1 })
          ∧ (let code := s.ledgerCode (s.bytes (Base.dram + s.ledgerAt) ledgerBytes)
             (code ≠ 0 → s.does (.ledgerRestore req) (fun t => ended code t ∧ s.only t [.regs]))
             ∧ (code = 0 → s.does (.ledgerRestore req) (fun t => ended 0 t ∧ bit (t.reg scr Reg.SCR_STAT) 0 = true
                ∧ s.only t [.regs, .scree, .sec, .fresh])))))
    ∧ (∀ (req : Requester) (v : W32), s.takes req pwr Reg.PWR_VID →
      (40 < fld v 21 16 → s.does (.pwrVidWrite req v) (refused pwr))
      ∧ (fld v 21 16 ≤ 40 → s.does (.pwrVidWrite req v) (fun t => t.regFld pwr Reg.PWR_VID 21 16 = fld v 21 16
          ∧ t.regFld pwr Reg.PWR_VID 5 0 = s.regFld pwr Reg.PWR_VID 5 0 ∧ s.only t [.regs]
          ∧ s.regsBut t [(pwr, Reg.PWR_VID)])))
    ∧ (let c := s.regFld pwr Reg.PWR_VID 5 0
       let goal := s.regFld pwr Reg.PWR_VID 21 16
       (s.power.vidAt + 10000 ≤ s.elapsed → c ≠ goal → s.does .vidStep (fun t =>
          t.regFld pwr Reg.PWR_VID 5 0 = (if c < goal then c + 1 else c - 1) ∧ t.regFld pwr Reg.PWR_VID 21 16 = goal
          ∧ t.power = { s.power with vidAt := s.elapsed } ∧ s.only t [.regs, .power] ∧ s.regsBut t [(pwr, Reg.PWR_VID)]))
       ∧ ((s.elapsed < s.power.vidAt + 10000 ∨ c = goal) → s.does .vidStep (fun t => t = s)))

/-- BDR_VERIFY, VERIFY_DONE, SLOT, REVOKE, ARB, CONFIG, EPOCH, OTP_CMD_DONE, DRANGE_WRITE, DRANGE_CLEAR_DONE, NEW_CHALLENGE,
RELOCK, DBG_TOKEN, TOKEN_CHECK_DONE, TRNG_TEST_FAIL and BDR_TRNG_DATA (R633–R654). -/
def Obligations.BedrockGuardsTheChip : Prop :=
  ∀ s : State,
    let bdr := Page.bdr
    let otp := Page.otp
    let dbg := Page.dbg
    let burning (bits : List Nat) (t : State) : Prop := t.sec = { s.sec with otp := some bits } ∧ t.otpBusy = true
      ∧ s.only t [.sec, .regs] ∧ s.regsBut t [(otp, Reg.OTP_STAT)]
    let ended (code : Nat) (t : State) : Prop := t.reg otp Reg.OTP_STAT = BitVec.ofNat 32 code
      ∧ bit (t.reg otp Reg.PG_INT) 0 = true ∧ s.only t [.regs] ∧ s.regsBut t [(otp, Reg.OTP_STAT), (otp, Reg.PG_INT)]
    let busy (t : State) : Prop := t.otpBusy = true ∧ t.regFld otp Reg.OTP_STAT 3 0 = 1 ∧ s.only t [.regs]
      ∧ s.regsBut t [(otp, Reg.OTP_STAT)]
    let drange (t : State) (i : Nat) : Nat × Nat := t.drange i
    (∀ (req : Requester) (v : W32), s.takesWo req bdr Reg.BDR_VER_CTRL → bit v 31 = true →
      let a := s.reg64 bdr Reg.BDR_VER_ADDR % 2 ^ 52
      let n := s.reg64 bdr Reg.BDR_VER_SIZE % 2 ^ 40
      let done (code : Nat) (t : State) : Prop := t.reg bdr Reg.BDR_VER_STAT = BitVec.ofNat 32 code
        ∧ bit (t.reg bdr Reg.PG_INT) 1 = true ∧ s.only t [.regs]
        ∧ s.regsBut t [(bdr, Reg.BDR_VER_STAT), (bdr, Reg.PG_INT)]
      (bit (s.reg bdr Reg.BDR_VER_STAT) 31 = true → s.does (.bdrVerify req v) (fun t => bit (t.reg bdr Reg.PG_ERR) 0 = true
        ∧ s.only t [.regs] ∧ s.regsBut t [(bdr, Reg.PG_ERR)]))
      ∧ (bit (s.reg bdr Reg.BDR_VER_STAT) 31 = false →
        (n < 6080 → s.does (.bdrVerify req v) (done 1))
        ∧ (6080 ≤ n → (a < Base.dram ∨ Base.dram + dramBytes s.grade < a + n) → s.does (.bdrVerify req v) (done 4))
        ∧ (6080 ≤ n → Base.dram ≤ a → a + n ≤ Base.dram + dramBytes s.grade → s.does (.bdrVerify req v) (fun t =>
            t.sec = { s.sec with verify := some { addr := a, size := n, use := fld v 1 0, bytes := s.bytes a n } }
            ∧ bit (t.reg bdr Reg.BDR_VER_STAT) 31 = true ∧ s.only t [.sec, .regs]
            ∧ s.regsBut t [(bdr, Reg.BDR_VER_STAT)]))))
    ∧ (∀ x, s.sec.verify = some x → s.does .verifyDone (fun t => t.sec = { s.sec with verify := none }
        ∧ (s.bytes x.addr x.size = x.bytes → t.reg bdr Reg.BDR_VER_STAT = s.verdict x.bytes x.use)
        ∧ bit (t.reg bdr Reg.PG_INT) 1 = true ∧ s.only t [.sec, .regs, .fresh]
        ∧ s.regsBut t [(bdr, Reg.BDR_VER_STAT), (bdr, Reg.PG_INT)]))
    ∧ (∀ (req : Requester) (arg : Fin 256), s.takesWo req otp Reg.OTP_CMD → s.isSecure req = true →
      let k := arg.val % 4
      let raw := bitsOf arg 6 4
      (s.otpBusy = true → s.does (.slot req arg) busy ∧ s.does (.revoke req arg) busy ∧ s.does (.arb req arg) busy
        ∧ s.does (.config req arg) busy ∧ s.does (.epoch req) busy)
      ∧ (s.otpBusy = false →
        ((s.slotCtl k ≠ 0 ∨ s.slotHash k ≠ 0) → s.does (.slot req arg) (ended 2))
        ∧ (s.slotCtl k = 0 → s.slotHash k = 0 → s.does (.slot req arg) (burning (s.slotBits k raw)))
        ∧ ((∃ j, j < 4 ∧ j ≠ k ∧ s.slotOk j 0 = true) → s.does (.revoke req arg) (burning [slotCtlBit k + 7]))
        ∧ ((∀ j, j < 4 → j ≠ k → s.slotOk j 0 = false) → s.does (.revoke req arg) (ended 3))
        ∧ (arg.val ≤ s.otpArb → s.does (.arb req arg) (ended 0))
        ∧ (s.otpArb < arg.val →
            (∀ r, s.boot.running = some r → arg.val ≤ r.2 → s.does (.arb req arg) (burning (s.arbBits arg)))
            ∧ ((∀ r, s.boot.running = some r → r.2 < arg.val) → s.does (.arb req arg) (ended 4)))
        ∧ (Nat.testBit arg 0 = true → bit s.otpConfig 0 = true → s.does (.config req arg) (ended 2))
        ∧ ((Nat.testBit arg 0 = false ∨ bit s.otpConfig 0 = false) → s.does (.config req arg)
            (burning (((List.range 5).filter (fun i => Nat.testBit arg i)).map (fun i => 55840 + i))))
        ∧ (s.nextFuse = none → s.does (.epoch req) (ended 6))
        ∧ (∀ i, s.nextFuse = some i → s.fuseDue = true → s.does (.epoch req) (burning [63488 + i]))
        ∧ (∀ i, s.nextFuse = some i → s.fuseDue = false → s.does (.epoch req) (ended 2))))
    ∧ (∀ (bits : List Nat) (good : Nat), s.sec.otp = some bits → s.does (.otpCmdDone good) (fun t => t.sec.otp = none
        ∧ (∀ b ∈ bits.take good, t.otpBit b = true) ∧ (∀ b, b ∉ bits.take good → t.otpBit b = s.otpBit b)
        ∧ t.reg otp Reg.OTP_STAT = (if bits.length ≤ good then 0 else 5) ∧ bit (t.reg otp Reg.PG_INT) 0 = true
        ∧ s.only t [.sec, .regs]))
    ∧ (∀ (req : Requester) (range : Fin 8) (isLimit : Bool) (v : W64),
      s.takes req bdr ((if isLimit then Reg.BDR_DRANGEi_LIMIT else Reg.BDR_DRANGEi_BASE) + 16 * range.val) →
      s.sec.drange = none →
        let base := if isLimit then (s.drange range).1 else bitsOf v.toNat 35 20 * 2 ^ 20
        let limit := if isLimit then bitsOf v.toNat 35 20 * 2 ^ 20 + 2 ^ 63 * bitsOf v.toNat 63 63 else (s.drange range).2
        (s.removesCover range base limit = false → s.does (.drangeWrite req range isLimit v) (fun t =>
          drange t range = (base, limit) ∧ (∀ j : Fin 8, j ≠ range → drange t j = s.drange j) ∧ s.only t [.regs]))
        ∧ (s.removesCover range base limit = true → s.does (.drangeWrite req range isLimit v) (fun t =>
          t.sec = { s.sec with drange := some (range.val, base, limit) } ∧ drange t range = s.drange range
          ∧ bit (t.reg bdr Reg.BDR_DRANGE_STAT) 31 = true ∧ s.only t [.sec, .regs]
          ∧ s.regsBut t [(bdr, Reg.BDR_DRANGE_STAT)])))
    ∧ (∀ (i : Fin 8) (base limit : Nat), s.sec.drange = some (i.val, base, limit) → base < 2 ^ 64 → limit < 2 ^ 64 →
        s.does .drangeClearDone (fun t => t.sec = { s.sec with drange := none } ∧ drange t i = (base, limit)
          ∧ (∀ d, d < 2 * dieBytes → t.byte (Base.dram + d) = (if s.clearing d then 0 else s.byte (Base.dram + d)))
          ∧ (∀ a, a < Base.dram ∨ Base.dram + 2 * dieBytes ≤ a → t.byte a = s.byte a)
          ∧ t.reg bdr Reg.BDR_DRANGE_STAT = 0 ∧ s.only t [.sec, .regs, .mem, .poison]))
    ∧ (∀ req : Requester, s.takesWo req dbg Reg.DBG_CTRL →
        s.does (.newChallenge req) (fun t => t.sec = { s.sec with challenge := true, token := [] }
          ∧ (s.trngState = 2 → ∀ i : Fin 8, t.reg dbg (Reg.DBG_CHALLENGE0 + 4 * i.val) = 0) ∧ s.only t [.sec, .regs, .fresh])
        ∧ s.does (.relock req) (fun t => t.debugLevel = 0 ∧ (s.debugLevel ≠ 0 → bit (t.reg dbg Reg.PG_INT) 0 = true)
          ∧ s.only t [.regs] ∧ s.regsBut t [(dbg, Reg.DBG_STAT), (dbg, Reg.PG_INT)]))
    ∧ (∀ (req : Requester) (v : W32), s.takesWo req dbg Reg.DBG_TOKEN →
        (s.tokenBusy = true → s.does (.dbgToken req v) (fun t => t = s))
        ∧ (s.tokenBusy = false → s.does (.dbgToken req v) (fun t => t.sec = { s.sec with token := s.sec.token ++ [v] }
          ∧ t.tokenBusy = decide (s.regFld dbg Reg.DBG_TOKEN_LEN 12 0 ≤ s.sec.token.length + 1) ∧ s.only t [.sec, .regs]
          ∧ s.regsBut t [(dbg, Reg.DBG_STAT)])))
    ∧ (s.tokenBusy = true →
        let code := s.tokenCode s.sec.token
        s.does .tokenCheckDone (fun t => t.sec = { s.sec with token := [], challenge := false } ∧ t.tokenBusy = false
          ∧ t.regFld dbg Reg.DBG_STAT 3 0 = code
          ∧ t.debugLevel = (if code = 0 then tokenLevel s.sec.token else s.debugLevel) ∧ s.only t [.sec, .regs]
          ∧ s.regsBut t [(dbg, Reg.DBG_STAT), (dbg, Reg.PG_INT)]))
    ∧ (s.trngState ≠ 2 → ∀ again : Bool,
        let n := if again then s.sec.strikes + 1 else 1
        s.does (.trngTestFail again) (fun t => t.sec = { s.sec with strikes := n }
          ∧ (3 ≤ n → t.trngState = 2 ∧ s.counted t bdr Reg.BDR_TRNG_FAILS 1 ∧ bit (t.reg bdr Reg.PG_INT) 0 = true)
          ∧ (n < 3 → t.trngState = s.trngState) ∧ s.only t [.sec, .regs]))
    ∧ (∀ (req : Requester) (got : Fin 65), s.mayRead req bdr Reg.BDR_TRNG_DATA = true →
        let level := if s.trngState = 1 then min 64 (s.trngLevel + got.val) else s.trngLevel
        s.does (.bdrTrngData req got) (fun t =>
          (0 < level → t.trngLevel = level - 1 ∧ t.fresh = s.fresh + 1) ∧ (level = 0 → t.rdata = 0 ∧ t.fresh = s.fresh)
          ∧ s.only t [.regs, .read, .fresh] ∧ s.regsBut t [(bdr, Reg.BDR_TRNG_STAT)]))

/-- R505 and R513, for every timer and every admitted requester. -/
def Obligations.LoadsAndGroupStartsOfTimers : Prop :=
  ∀ (s : State) (req : Requester),
    (∀ i : Fin 32, s.takes req (tmrPage i) (tmrOff i Reg.TMR_CTRL) → s.does (.loadNow req i) (fun t =>
      t.tmrNum i Reg.TMR_PERIOD_ACT = max 1 (s.tmrNum i Reg.TMR_PERIOD)
      ∧ (s.tmrCenter i = false → t.tmrNum i Reg.TMR_COUNT = max 1 (s.tmrNum i Reg.TMR_PERIOD))
      ∧ (s.tmrCenter i = true → t.tmrNum i Reg.TMR_COUNT = 0 ∧ t.tmrDown i = false)
      ∧ t.tmr.due = s.tmr.due ∧ t.tmrReg i Reg.TMR_FLAG = s.tmrReg i Reg.TMR_FLAG ∧ t.tmrRun i = s.tmrRun i
      ∧ s.only t [.regs, .tmr]
      ∧ s.regsBut t [(tmrPage i, tmrOff i Reg.TMR_PERIOD_ACT), (tmrPage i, tmrOff i Reg.TMR_PERIOD_ACT + 4),
          (tmrPage i, tmrOff i Reg.TMR_COUNT), (tmrPage i, tmrOff i Reg.TMR_COUNT + 4), (tmrPage i, tmrOff i Reg.TMR_CTRL)]))
    ∧ (∀ v : W32, s.takes req 0x78 Reg.TMR_GSTART → s.does (.tmrGstart req v) (fun t =>
      (∀ i : Fin 32, bit v i = true → t.tmrRun i = true)
      ∧ (∀ i : Fin 32, bit v i = false ∨ s.tmrRun i = true →
          ∀ off, off < 0x100 → t.reg (tmrPage i) (tmrOff i (0x100 + off)) = s.reg (tmrPage i) (tmrOff i (0x100 + off)))
      ∧ s.only t [.regs, .tmr]))
end

