-- ==== Sys2Proof/Laws/State.lean ====
section
/-! SUPPORT. What each update of the state leaves of each field. -/
namespace Sys2Proof.Machine
open Sys2Proof

variable (s : State)

@[simp] theorem State.setReg_grade (p off : Nat) (v : W32) : (s.setReg p off v).grade = s.grade := rfl
@[simp] theorem State.setReg_pending (p off : Nat) (v : W32) : (s.setReg p off v).pending = s.pending := rfl
@[simp] theorem State.setReg_elapsed (p off : Nat) (v : W32) : (s.setReg p off v).elapsed = s.elapsed := rfl
@[simp] theorem State.setReg_fresh (p off : Nat) (v : W32) : (s.setReg p off v).fresh = s.fresh := rfl
@[simp] theorem State.setReg_mem (p off : Nat) (v : W32) : (s.setReg p off v).mem = s.mem := rfl
@[simp] theorem State.setReg_poison (p off : Nat) (v : W32) : (s.setReg p off v).poison = s.poison := rfl
@[simp] theorem State.setReg_rdata (p off : Nat) (v : W32) : (s.setReg p off v).rdata = s.rdata := rfl
@[simp] theorem State.setReg_rpoison (p off : Nat) (v : W32) : (s.setReg p off v).rpoison = s.rpoison := rfl
@[simp] theorem State.setReg_heldLow (p off : Nat) (v : W32) : (s.setReg p off v).heldLow = s.heldLow := rfl
@[simp] theorem State.setReg_latchedHigh (p off : Nat) (v : W32) : (s.setReg p off v).latchedHigh = s.latchedHigh := rfl
@[simp] theorem State.setReg_step (p off : Nat) (v : W32) : (s.setReg p off v).step = s.step := rfl
@[simp] theorem State.setReg_cells (p off : Nat) (v : W32) : (s.setReg p off v).cells = s.cells := rfl
@[simp] theorem State.setReg_dram (p off : Nat) (v : W32) : (s.setReg p off v).dram = s.dram := rfl
@[simp] theorem State.setReg_tarn (p off : Nat) (v : W32) : (s.setReg p off v).tarn = s.tarn := rfl
@[simp] theorem State.setReg_fabric (p off : Nat) (v : W32) : (s.setReg p off v).fabric = s.fabric := rfl
@[simp] theorem State.setReg_engines (p off : Nat) (v : W32) : (s.setReg p off v).engines = s.engines := rfl
@[simp] theorem State.setReg_learn (p off : Nat) (v : W32) : (s.setReg p off v).learn = s.learn := rfl
@[simp] theorem State.setReg_pic (p off : Nat) (v : W32) : (s.setReg p off v).pic = s.pic := rfl
@[simp] theorem State.setReg_plts (p off : Nat) (v : W32) : (s.setReg p off v).plts = s.plts := rfl
@[simp] theorem State.setReg_ingress (p off : Nat) (v : W32) : (s.setReg p off v).ingress = s.ingress := rfl
@[simp] theorem State.setReg_trv (p off : Nat) (v : W32) : (s.setReg p off v).trv = s.trv := rfl
@[simp] theorem State.setReg_eth (p off : Nat) (v : W32) : (s.setReg p off v).eth = s.eth := rfl
@[simp] theorem State.setReg_proc (p off : Nat) (v : W32) : (s.setReg p off v).proc = s.proc := rfl
@[simp] theorem State.setReg_tmr (p off : Nat) (v : W32) : (s.setReg p off v).tmr = s.tmr := rfl
@[simp] theorem State.setReg_fault (p off : Nat) (v : W32) : (s.setReg p off v).fault = s.fault := rfl
@[simp] theorem State.setReg_boot (p off : Nat) (v : W32) : (s.setReg p off v).boot = s.boot := rfl
@[simp] theorem State.setReg_power (p off : Nat) (v : W32) : (s.setReg p off v).power = s.power := rfl
@[simp] theorem State.setReg_scree (p off : Nat) (v : W32) : (s.setReg p off v).scree = s.scree := rfl
@[simp] theorem State.setReg_sec (p off : Nat) (v : W32) : (s.setReg p off v).sec = s.sec := rfl
@[simp] theorem State.setByte_grade (a : Nat) (b : Byte) : (s.setByte a b).grade = s.grade := rfl
@[simp] theorem State.setByte_pending (a : Nat) (b : Byte) : (s.setByte a b).pending = s.pending := rfl
@[simp] theorem State.setByte_elapsed (a : Nat) (b : Byte) : (s.setByte a b).elapsed = s.elapsed := rfl
@[simp] theorem State.setByte_fresh (a : Nat) (b : Byte) : (s.setByte a b).fresh = s.fresh := rfl
@[simp] theorem State.setByte_regs (a : Nat) (b : Byte) : (s.setByte a b).regs = s.regs := rfl
@[simp] theorem State.setByte_poison (a : Nat) (b : Byte) : (s.setByte a b).poison = s.poison := rfl
@[simp] theorem State.setByte_rdata (a : Nat) (b : Byte) : (s.setByte a b).rdata = s.rdata := rfl
@[simp] theorem State.setByte_rpoison (a : Nat) (b : Byte) : (s.setByte a b).rpoison = s.rpoison := rfl
@[simp] theorem State.setByte_heldLow (a : Nat) (b : Byte) : (s.setByte a b).heldLow = s.heldLow := rfl
@[simp] theorem State.setByte_latchedHigh (a : Nat) (b : Byte) : (s.setByte a b).latchedHigh = s.latchedHigh := rfl
@[simp] theorem State.setByte_step (a : Nat) (b : Byte) : (s.setByte a b).step = s.step := rfl
@[simp] theorem State.setByte_cells (a : Nat) (b : Byte) : (s.setByte a b).cells = s.cells := rfl
@[simp] theorem State.setByte_dram (a : Nat) (b : Byte) : (s.setByte a b).dram = s.dram := rfl
@[simp] theorem State.setByte_tarn (a : Nat) (b : Byte) : (s.setByte a b).tarn = s.tarn := rfl
@[simp] theorem State.setByte_fabric (a : Nat) (b : Byte) : (s.setByte a b).fabric = s.fabric := rfl
@[simp] theorem State.setByte_engines (a : Nat) (b : Byte) : (s.setByte a b).engines = s.engines := rfl
@[simp] theorem State.setByte_learn (a : Nat) (b : Byte) : (s.setByte a b).learn = s.learn := rfl
@[simp] theorem State.setByte_pic (a : Nat) (b : Byte) : (s.setByte a b).pic = s.pic := rfl
@[simp] theorem State.setByte_plts (a : Nat) (b : Byte) : (s.setByte a b).plts = s.plts := rfl
@[simp] theorem State.setByte_ingress (a : Nat) (b : Byte) : (s.setByte a b).ingress = s.ingress := rfl
@[simp] theorem State.setByte_trv (a : Nat) (b : Byte) : (s.setByte a b).trv = s.trv := rfl
@[simp] theorem State.setByte_eth (a : Nat) (b : Byte) : (s.setByte a b).eth = s.eth := rfl
@[simp] theorem State.setByte_proc (a : Nat) (b : Byte) : (s.setByte a b).proc = s.proc := rfl
@[simp] theorem State.setByte_tmr (a : Nat) (b : Byte) : (s.setByte a b).tmr = s.tmr := rfl
@[simp] theorem State.setByte_fault (a : Nat) (b : Byte) : (s.setByte a b).fault = s.fault := rfl
@[simp] theorem State.setByte_boot (a : Nat) (b : Byte) : (s.setByte a b).boot = s.boot := rfl
@[simp] theorem State.setByte_power (a : Nat) (b : Byte) : (s.setByte a b).power = s.power := rfl
@[simp] theorem State.setByte_scree (a : Nat) (b : Byte) : (s.setByte a b).scree = s.scree := rfl
@[simp] theorem State.setByte_sec (a : Nat) (b : Byte) : (s.setByte a b).sec = s.sec := rfl
@[simp] theorem State.poisonAt_grade (a : Nat) : (s.poisonAt a).grade = s.grade := rfl
@[simp] theorem State.poisonAt_pending (a : Nat) : (s.poisonAt a).pending = s.pending := rfl
@[simp] theorem State.poisonAt_elapsed (a : Nat) : (s.poisonAt a).elapsed = s.elapsed := rfl
@[simp] theorem State.poisonAt_fresh (a : Nat) : (s.poisonAt a).fresh = s.fresh := rfl
@[simp] theorem State.poisonAt_regs (a : Nat) : (s.poisonAt a).regs = s.regs := rfl
@[simp] theorem State.poisonAt_mem (a : Nat) : (s.poisonAt a).mem = s.mem := rfl
@[simp] theorem State.poisonAt_rdata (a : Nat) : (s.poisonAt a).rdata = s.rdata := rfl
@[simp] theorem State.poisonAt_rpoison (a : Nat) : (s.poisonAt a).rpoison = s.rpoison := rfl
@[simp] theorem State.poisonAt_heldLow (a : Nat) : (s.poisonAt a).heldLow = s.heldLow := rfl
@[simp] theorem State.poisonAt_latchedHigh (a : Nat) : (s.poisonAt a).latchedHigh = s.latchedHigh := rfl
@[simp] theorem State.poisonAt_step (a : Nat) : (s.poisonAt a).step = s.step := rfl
@[simp] theorem State.poisonAt_cells (a : Nat) : (s.poisonAt a).cells = s.cells := rfl
@[simp] theorem State.poisonAt_dram (a : Nat) : (s.poisonAt a).dram = s.dram := rfl
@[simp] theorem State.poisonAt_tarn (a : Nat) : (s.poisonAt a).tarn = s.tarn := rfl
@[simp] theorem State.poisonAt_fabric (a : Nat) : (s.poisonAt a).fabric = s.fabric := rfl
@[simp] theorem State.poisonAt_engines (a : Nat) : (s.poisonAt a).engines = s.engines := rfl
@[simp] theorem State.poisonAt_learn (a : Nat) : (s.poisonAt a).learn = s.learn := rfl
@[simp] theorem State.poisonAt_pic (a : Nat) : (s.poisonAt a).pic = s.pic := rfl
@[simp] theorem State.poisonAt_plts (a : Nat) : (s.poisonAt a).plts = s.plts := rfl
@[simp] theorem State.poisonAt_ingress (a : Nat) : (s.poisonAt a).ingress = s.ingress := rfl
@[simp] theorem State.poisonAt_trv (a : Nat) : (s.poisonAt a).trv = s.trv := rfl
@[simp] theorem State.poisonAt_eth (a : Nat) : (s.poisonAt a).eth = s.eth := rfl
@[simp] theorem State.poisonAt_proc (a : Nat) : (s.poisonAt a).proc = s.proc := rfl
@[simp] theorem State.poisonAt_tmr (a : Nat) : (s.poisonAt a).tmr = s.tmr := rfl
@[simp] theorem State.poisonAt_fault (a : Nat) : (s.poisonAt a).fault = s.fault := rfl
@[simp] theorem State.poisonAt_boot (a : Nat) : (s.poisonAt a).boot = s.boot := rfl
@[simp] theorem State.poisonAt_power (a : Nat) : (s.poisonAt a).power = s.power := rfl
@[simp] theorem State.poisonAt_scree (a : Nat) : (s.poisonAt a).scree = s.scree := rfl
@[simp] theorem State.poisonAt_sec (a : Nat) : (s.poisonAt a).sec = s.sec := rfl
@[simp] theorem State.cleanAt_grade (a : Nat) : (s.cleanAt a).grade = s.grade := rfl
@[simp] theorem State.cleanAt_pending (a : Nat) : (s.cleanAt a).pending = s.pending := rfl
@[simp] theorem State.cleanAt_elapsed (a : Nat) : (s.cleanAt a).elapsed = s.elapsed := rfl
@[simp] theorem State.cleanAt_fresh (a : Nat) : (s.cleanAt a).fresh = s.fresh := rfl
@[simp] theorem State.cleanAt_regs (a : Nat) : (s.cleanAt a).regs = s.regs := rfl
@[simp] theorem State.cleanAt_mem (a : Nat) : (s.cleanAt a).mem = s.mem := rfl
@[simp] theorem State.cleanAt_rdata (a : Nat) : (s.cleanAt a).rdata = s.rdata := rfl
@[simp] theorem State.cleanAt_rpoison (a : Nat) : (s.cleanAt a).rpoison = s.rpoison := rfl
@[simp] theorem State.cleanAt_heldLow (a : Nat) : (s.cleanAt a).heldLow = s.heldLow := rfl
@[simp] theorem State.cleanAt_latchedHigh (a : Nat) : (s.cleanAt a).latchedHigh = s.latchedHigh := rfl
@[simp] theorem State.cleanAt_step (a : Nat) : (s.cleanAt a).step = s.step := rfl
@[simp] theorem State.cleanAt_cells (a : Nat) : (s.cleanAt a).cells = s.cells := rfl
@[simp] theorem State.cleanAt_dram (a : Nat) : (s.cleanAt a).dram = s.dram := rfl
@[simp] theorem State.cleanAt_tarn (a : Nat) : (s.cleanAt a).tarn = s.tarn := rfl
@[simp] theorem State.cleanAt_fabric (a : Nat) : (s.cleanAt a).fabric = s.fabric := rfl
@[simp] theorem State.cleanAt_engines (a : Nat) : (s.cleanAt a).engines = s.engines := rfl
@[simp] theorem State.cleanAt_learn (a : Nat) : (s.cleanAt a).learn = s.learn := rfl
@[simp] theorem State.cleanAt_pic (a : Nat) : (s.cleanAt a).pic = s.pic := rfl
@[simp] theorem State.cleanAt_plts (a : Nat) : (s.cleanAt a).plts = s.plts := rfl
@[simp] theorem State.cleanAt_ingress (a : Nat) : (s.cleanAt a).ingress = s.ingress := rfl
@[simp] theorem State.cleanAt_trv (a : Nat) : (s.cleanAt a).trv = s.trv := rfl
@[simp] theorem State.cleanAt_eth (a : Nat) : (s.cleanAt a).eth = s.eth := rfl
@[simp] theorem State.cleanAt_proc (a : Nat) : (s.cleanAt a).proc = s.proc := rfl
@[simp] theorem State.cleanAt_tmr (a : Nat) : (s.cleanAt a).tmr = s.tmr := rfl
@[simp] theorem State.cleanAt_fault (a : Nat) : (s.cleanAt a).fault = s.fault := rfl
@[simp] theorem State.cleanAt_boot (a : Nat) : (s.cleanAt a).boot = s.boot := rfl
@[simp] theorem State.cleanAt_power (a : Nat) : (s.cleanAt a).power = s.power := rfl
@[simp] theorem State.cleanAt_scree (a : Nat) : (s.cleanAt a).scree = s.scree := rfl
@[simp] theorem State.cleanAt_sec (a : Nat) : (s.cleanAt a).sec = s.sec := rfl
@[simp] theorem State.useFresh_grade : (s.useFresh).grade = s.grade := rfl
@[simp] theorem State.useFresh_pending : (s.useFresh).pending = s.pending := rfl
@[simp] theorem State.useFresh_elapsed : (s.useFresh).elapsed = s.elapsed := rfl
@[simp] theorem State.useFresh_regs : (s.useFresh).regs = s.regs := rfl
@[simp] theorem State.useFresh_mem : (s.useFresh).mem = s.mem := rfl
@[simp] theorem State.useFresh_poison : (s.useFresh).poison = s.poison := rfl
@[simp] theorem State.useFresh_rdata : (s.useFresh).rdata = s.rdata := rfl
@[simp] theorem State.useFresh_rpoison : (s.useFresh).rpoison = s.rpoison := rfl
@[simp] theorem State.useFresh_heldLow : (s.useFresh).heldLow = s.heldLow := rfl
@[simp] theorem State.useFresh_latchedHigh : (s.useFresh).latchedHigh = s.latchedHigh := rfl
@[simp] theorem State.useFresh_step : (s.useFresh).step = s.step := rfl
@[simp] theorem State.useFresh_cells : (s.useFresh).cells = s.cells := rfl
@[simp] theorem State.useFresh_dram : (s.useFresh).dram = s.dram := rfl
@[simp] theorem State.useFresh_tarn : (s.useFresh).tarn = s.tarn := rfl
@[simp] theorem State.useFresh_fabric : (s.useFresh).fabric = s.fabric := rfl
@[simp] theorem State.useFresh_engines : (s.useFresh).engines = s.engines := rfl
@[simp] theorem State.useFresh_learn : (s.useFresh).learn = s.learn := rfl
@[simp] theorem State.useFresh_pic : (s.useFresh).pic = s.pic := rfl
@[simp] theorem State.useFresh_plts : (s.useFresh).plts = s.plts := rfl
@[simp] theorem State.useFresh_ingress : (s.useFresh).ingress = s.ingress := rfl
@[simp] theorem State.useFresh_trv : (s.useFresh).trv = s.trv := rfl
@[simp] theorem State.useFresh_eth : (s.useFresh).eth = s.eth := rfl
@[simp] theorem State.useFresh_proc : (s.useFresh).proc = s.proc := rfl
@[simp] theorem State.useFresh_tmr : (s.useFresh).tmr = s.tmr := rfl
@[simp] theorem State.useFresh_fault : (s.useFresh).fault = s.fault := rfl
@[simp] theorem State.useFresh_boot : (s.useFresh).boot = s.boot := rfl
@[simp] theorem State.useFresh_power : (s.useFresh).power = s.power := rfl
@[simp] theorem State.useFresh_scree : (s.useFresh).scree = s.scree := rfl
@[simp] theorem State.useFresh_sec : (s.useFresh).sec = s.sec := rfl
@[simp] theorem State.answer_grade (v : Nat) (b : Bool) : (s.answer v b).grade = s.grade := rfl
@[simp] theorem State.answer_pending (v : Nat) (b : Bool) : (s.answer v b).pending = s.pending := rfl
@[simp] theorem State.answer_elapsed (v : Nat) (b : Bool) : (s.answer v b).elapsed = s.elapsed := rfl
@[simp] theorem State.answer_fresh (v : Nat) (b : Bool) : (s.answer v b).fresh = s.fresh := rfl
@[simp] theorem State.answer_regs (v : Nat) (b : Bool) : (s.answer v b).regs = s.regs := rfl
@[simp] theorem State.answer_mem (v : Nat) (b : Bool) : (s.answer v b).mem = s.mem := rfl
@[simp] theorem State.answer_poison (v : Nat) (b : Bool) : (s.answer v b).poison = s.poison := rfl
@[simp] theorem State.answer_heldLow (v : Nat) (b : Bool) : (s.answer v b).heldLow = s.heldLow := rfl
@[simp] theorem State.answer_latchedHigh (v : Nat) (b : Bool) : (s.answer v b).latchedHigh = s.latchedHigh := rfl
@[simp] theorem State.answer_step (v : Nat) (b : Bool) : (s.answer v b).step = s.step := rfl
@[simp] theorem State.answer_cells (v : Nat) (b : Bool) : (s.answer v b).cells = s.cells := rfl
@[simp] theorem State.answer_dram (v : Nat) (b : Bool) : (s.answer v b).dram = s.dram := rfl
@[simp] theorem State.answer_tarn (v : Nat) (b : Bool) : (s.answer v b).tarn = s.tarn := rfl
@[simp] theorem State.answer_fabric (v : Nat) (b : Bool) : (s.answer v b).fabric = s.fabric := rfl
@[simp] theorem State.answer_engines (v : Nat) (b : Bool) : (s.answer v b).engines = s.engines := rfl
@[simp] theorem State.answer_learn (v : Nat) (b : Bool) : (s.answer v b).learn = s.learn := rfl
@[simp] theorem State.answer_pic (v : Nat) (b : Bool) : (s.answer v b).pic = s.pic := rfl
@[simp] theorem State.answer_plts (v : Nat) (b : Bool) : (s.answer v b).plts = s.plts := rfl
@[simp] theorem State.answer_ingress (v : Nat) (b : Bool) : (s.answer v b).ingress = s.ingress := rfl
@[simp] theorem State.answer_trv (v : Nat) (b : Bool) : (s.answer v b).trv = s.trv := rfl
@[simp] theorem State.answer_eth (v : Nat) (b : Bool) : (s.answer v b).eth = s.eth := rfl
@[simp] theorem State.answer_proc (v : Nat) (b : Bool) : (s.answer v b).proc = s.proc := rfl
@[simp] theorem State.answer_tmr (v : Nat) (b : Bool) : (s.answer v b).tmr = s.tmr := rfl
@[simp] theorem State.answer_fault (v : Nat) (b : Bool) : (s.answer v b).fault = s.fault := rfl
@[simp] theorem State.answer_boot (v : Nat) (b : Bool) : (s.answer v b).boot = s.boot := rfl
@[simp] theorem State.answer_power (v : Nat) (b : Bool) : (s.answer v b).power = s.power := rfl
@[simp] theorem State.answer_scree (v : Nat) (b : Bool) : (s.answer v b).scree = s.scree := rfl
@[simp] theorem State.answer_sec (v : Nat) (b : Bool) : (s.answer v b).sec = s.sec := rfl
@[simp] theorem State.setStep_grade (x : StepState) : (s.setStep x).grade = s.grade := rfl
@[simp] theorem State.setStep_pending (x : StepState) : (s.setStep x).pending = s.pending := rfl
@[simp] theorem State.setStep_elapsed (x : StepState) : (s.setStep x).elapsed = s.elapsed := rfl
@[simp] theorem State.setStep_fresh (x : StepState) : (s.setStep x).fresh = s.fresh := rfl
@[simp] theorem State.setStep_regs (x : StepState) : (s.setStep x).regs = s.regs := rfl
@[simp] theorem State.setStep_mem (x : StepState) : (s.setStep x).mem = s.mem := rfl
@[simp] theorem State.setStep_poison (x : StepState) : (s.setStep x).poison = s.poison := rfl
@[simp] theorem State.setStep_rdata (x : StepState) : (s.setStep x).rdata = s.rdata := rfl
@[simp] theorem State.setStep_rpoison (x : StepState) : (s.setStep x).rpoison = s.rpoison := rfl
@[simp] theorem State.setStep_heldLow (x : StepState) : (s.setStep x).heldLow = s.heldLow := rfl
@[simp] theorem State.setStep_latchedHigh (x : StepState) : (s.setStep x).latchedHigh = s.latchedHigh := rfl
@[simp] theorem State.setStep_cells (x : StepState) : (s.setStep x).cells = s.cells := rfl
@[simp] theorem State.setStep_dram (x : StepState) : (s.setStep x).dram = s.dram := rfl
@[simp] theorem State.setStep_tarn (x : StepState) : (s.setStep x).tarn = s.tarn := rfl
@[simp] theorem State.setStep_fabric (x : StepState) : (s.setStep x).fabric = s.fabric := rfl
@[simp] theorem State.setStep_engines (x : StepState) : (s.setStep x).engines = s.engines := rfl
@[simp] theorem State.setStep_learn (x : StepState) : (s.setStep x).learn = s.learn := rfl
@[simp] theorem State.setStep_pic (x : StepState) : (s.setStep x).pic = s.pic := rfl
@[simp] theorem State.setStep_plts (x : StepState) : (s.setStep x).plts = s.plts := rfl
@[simp] theorem State.setStep_ingress (x : StepState) : (s.setStep x).ingress = s.ingress := rfl
@[simp] theorem State.setStep_trv (x : StepState) : (s.setStep x).trv = s.trv := rfl
@[simp] theorem State.setStep_eth (x : StepState) : (s.setStep x).eth = s.eth := rfl
@[simp] theorem State.setStep_proc (x : StepState) : (s.setStep x).proc = s.proc := rfl
@[simp] theorem State.setStep_tmr (x : StepState) : (s.setStep x).tmr = s.tmr := rfl
@[simp] theorem State.setStep_fault (x : StepState) : (s.setStep x).fault = s.fault := rfl
@[simp] theorem State.setStep_boot (x : StepState) : (s.setStep x).boot = s.boot := rfl
@[simp] theorem State.setStep_power (x : StepState) : (s.setStep x).power = s.power := rfl
@[simp] theorem State.setStep_scree (x : StepState) : (s.setStep x).scree = s.scree := rfl
@[simp] theorem State.setStep_sec (x : StepState) : (s.setStep x).sec = s.sec := rfl
@[simp] theorem State.setSec_grade (x : SecState) : (s.setSec x).grade = s.grade := rfl
@[simp] theorem State.setSec_pending (x : SecState) : (s.setSec x).pending = s.pending := rfl
@[simp] theorem State.setSec_elapsed (x : SecState) : (s.setSec x).elapsed = s.elapsed := rfl
@[simp] theorem State.setSec_fresh (x : SecState) : (s.setSec x).fresh = s.fresh := rfl
@[simp] theorem State.setSec_regs (x : SecState) : (s.setSec x).regs = s.regs := rfl
@[simp] theorem State.setSec_mem (x : SecState) : (s.setSec x).mem = s.mem := rfl
@[simp] theorem State.setSec_poison (x : SecState) : (s.setSec x).poison = s.poison := rfl
@[simp] theorem State.setSec_rdata (x : SecState) : (s.setSec x).rdata = s.rdata := rfl
@[simp] theorem State.setSec_rpoison (x : SecState) : (s.setSec x).rpoison = s.rpoison := rfl
@[simp] theorem State.setSec_heldLow (x : SecState) : (s.setSec x).heldLow = s.heldLow := rfl
@[simp] theorem State.setSec_latchedHigh (x : SecState) : (s.setSec x).latchedHigh = s.latchedHigh := rfl
@[simp] theorem State.setSec_step (x : SecState) : (s.setSec x).step = s.step := rfl
@[simp] theorem State.setSec_cells (x : SecState) : (s.setSec x).cells = s.cells := rfl
@[simp] theorem State.setSec_dram (x : SecState) : (s.setSec x).dram = s.dram := rfl
@[simp] theorem State.setSec_tarn (x : SecState) : (s.setSec x).tarn = s.tarn := rfl
@[simp] theorem State.setSec_fabric (x : SecState) : (s.setSec x).fabric = s.fabric := rfl
@[simp] theorem State.setSec_engines (x : SecState) : (s.setSec x).engines = s.engines := rfl
@[simp] theorem State.setSec_learn (x : SecState) : (s.setSec x).learn = s.learn := rfl
@[simp] theorem State.setSec_pic (x : SecState) : (s.setSec x).pic = s.pic := rfl
@[simp] theorem State.setSec_plts (x : SecState) : (s.setSec x).plts = s.plts := rfl
@[simp] theorem State.setSec_ingress (x : SecState) : (s.setSec x).ingress = s.ingress := rfl
@[simp] theorem State.setSec_trv (x : SecState) : (s.setSec x).trv = s.trv := rfl
@[simp] theorem State.setSec_eth (x : SecState) : (s.setSec x).eth = s.eth := rfl
@[simp] theorem State.setSec_proc (x : SecState) : (s.setSec x).proc = s.proc := rfl
@[simp] theorem State.setSec_tmr (x : SecState) : (s.setSec x).tmr = s.tmr := rfl
@[simp] theorem State.setSec_fault (x : SecState) : (s.setSec x).fault = s.fault := rfl
@[simp] theorem State.setSec_boot (x : SecState) : (s.setSec x).boot = s.boot := rfl
@[simp] theorem State.setSec_power (x : SecState) : (s.setSec x).power = s.power := rfl
@[simp] theorem State.setSec_scree (x : SecState) : (s.setSec x).scree = s.scree := rfl
@[simp] theorem State.setBoot_grade (x : BootState) : (s.setBoot x).grade = s.grade := rfl
@[simp] theorem State.setBoot_pending (x : BootState) : (s.setBoot x).pending = s.pending := rfl
@[simp] theorem State.setBoot_elapsed (x : BootState) : (s.setBoot x).elapsed = s.elapsed := rfl
@[simp] theorem State.setBoot_fresh (x : BootState) : (s.setBoot x).fresh = s.fresh := rfl
@[simp] theorem State.setBoot_regs (x : BootState) : (s.setBoot x).regs = s.regs := rfl
@[simp] theorem State.setBoot_mem (x : BootState) : (s.setBoot x).mem = s.mem := rfl
@[simp] theorem State.setBoot_poison (x : BootState) : (s.setBoot x).poison = s.poison := rfl
@[simp] theorem State.setBoot_rdata (x : BootState) : (s.setBoot x).rdata = s.rdata := rfl
@[simp] theorem State.setBoot_rpoison (x : BootState) : (s.setBoot x).rpoison = s.rpoison := rfl
@[simp] theorem State.setBoot_heldLow (x : BootState) : (s.setBoot x).heldLow = s.heldLow := rfl
@[simp] theorem State.setBoot_latchedHigh (x : BootState) : (s.setBoot x).latchedHigh = s.latchedHigh := rfl
@[simp] theorem State.setBoot_step (x : BootState) : (s.setBoot x).step = s.step := rfl
@[simp] theorem State.setBoot_cells (x : BootState) : (s.setBoot x).cells = s.cells := rfl
@[simp] theorem State.setBoot_dram (x : BootState) : (s.setBoot x).dram = s.dram := rfl
@[simp] theorem State.setBoot_tarn (x : BootState) : (s.setBoot x).tarn = s.tarn := rfl
@[simp] theorem State.setBoot_fabric (x : BootState) : (s.setBoot x).fabric = s.fabric := rfl
@[simp] theorem State.setBoot_engines (x : BootState) : (s.setBoot x).engines = s.engines := rfl
@[simp] theorem State.setBoot_learn (x : BootState) : (s.setBoot x).learn = s.learn := rfl
@[simp] theorem State.setBoot_pic (x : BootState) : (s.setBoot x).pic = s.pic := rfl
@[simp] theorem State.setBoot_plts (x : BootState) : (s.setBoot x).plts = s.plts := rfl
@[simp] theorem State.setBoot_ingress (x : BootState) : (s.setBoot x).ingress = s.ingress := rfl
@[simp] theorem State.setBoot_trv (x : BootState) : (s.setBoot x).trv = s.trv := rfl
@[simp] theorem State.setBoot_eth (x : BootState) : (s.setBoot x).eth = s.eth := rfl
@[simp] theorem State.setBoot_proc (x : BootState) : (s.setBoot x).proc = s.proc := rfl
@[simp] theorem State.setBoot_tmr (x : BootState) : (s.setBoot x).tmr = s.tmr := rfl
@[simp] theorem State.setBoot_fault (x : BootState) : (s.setBoot x).fault = s.fault := rfl
@[simp] theorem State.setBoot_power (x : BootState) : (s.setBoot x).power = s.power := rfl
@[simp] theorem State.setBoot_scree (x : BootState) : (s.setBoot x).scree = s.scree := rfl
@[simp] theorem State.setBoot_sec (x : BootState) : (s.setBoot x).sec = s.sec := rfl
@[simp] theorem State.setPower_grade (x : PowerState) : (s.setPower x).grade = s.grade := rfl
@[simp] theorem State.setPower_pending (x : PowerState) : (s.setPower x).pending = s.pending := rfl
@[simp] theorem State.setPower_elapsed (x : PowerState) : (s.setPower x).elapsed = s.elapsed := rfl
@[simp] theorem State.setPower_fresh (x : PowerState) : (s.setPower x).fresh = s.fresh := rfl
@[simp] theorem State.setPower_regs (x : PowerState) : (s.setPower x).regs = s.regs := rfl
@[simp] theorem State.setPower_mem (x : PowerState) : (s.setPower x).mem = s.mem := rfl
@[simp] theorem State.setPower_poison (x : PowerState) : (s.setPower x).poison = s.poison := rfl
@[simp] theorem State.setPower_rdata (x : PowerState) : (s.setPower x).rdata = s.rdata := rfl
@[simp] theorem State.setPower_rpoison (x : PowerState) : (s.setPower x).rpoison = s.rpoison := rfl
@[simp] theorem State.setPower_heldLow (x : PowerState) : (s.setPower x).heldLow = s.heldLow := rfl
@[simp] theorem State.setPower_latchedHigh (x : PowerState) : (s.setPower x).latchedHigh = s.latchedHigh := rfl
@[simp] theorem State.setPower_step (x : PowerState) : (s.setPower x).step = s.step := rfl
@[simp] theorem State.setPower_cells (x : PowerState) : (s.setPower x).cells = s.cells := rfl
@[simp] theorem State.setPower_dram (x : PowerState) : (s.setPower x).dram = s.dram := rfl
@[simp] theorem State.setPower_tarn (x : PowerState) : (s.setPower x).tarn = s.tarn := rfl
@[simp] theorem State.setPower_fabric (x : PowerState) : (s.setPower x).fabric = s.fabric := rfl
@[simp] theorem State.setPower_engines (x : PowerState) : (s.setPower x).engines = s.engines := rfl
@[simp] theorem State.setPower_learn (x : PowerState) : (s.setPower x).learn = s.learn := rfl
@[simp] theorem State.setPower_pic (x : PowerState) : (s.setPower x).pic = s.pic := rfl
@[simp] theorem State.setPower_plts (x : PowerState) : (s.setPower x).plts = s.plts := rfl
@[simp] theorem State.setPower_ingress (x : PowerState) : (s.setPower x).ingress = s.ingress := rfl
@[simp] theorem State.setPower_trv (x : PowerState) : (s.setPower x).trv = s.trv := rfl
@[simp] theorem State.setPower_eth (x : PowerState) : (s.setPower x).eth = s.eth := rfl
@[simp] theorem State.setPower_proc (x : PowerState) : (s.setPower x).proc = s.proc := rfl
@[simp] theorem State.setPower_tmr (x : PowerState) : (s.setPower x).tmr = s.tmr := rfl
@[simp] theorem State.setPower_fault (x : PowerState) : (s.setPower x).fault = s.fault := rfl
@[simp] theorem State.setPower_boot (x : PowerState) : (s.setPower x).boot = s.boot := rfl
@[simp] theorem State.setPower_scree (x : PowerState) : (s.setPower x).scree = s.scree := rfl
@[simp] theorem State.setPower_sec (x : PowerState) : (s.setPower x).sec = s.sec := rfl
@[simp] theorem State.setTmr_grade (x : TmrState) : (s.setTmr x).grade = s.grade := rfl
@[simp] theorem State.setTmr_pending (x : TmrState) : (s.setTmr x).pending = s.pending := rfl
@[simp] theorem State.setTmr_elapsed (x : TmrState) : (s.setTmr x).elapsed = s.elapsed := rfl
@[simp] theorem State.setTmr_fresh (x : TmrState) : (s.setTmr x).fresh = s.fresh := rfl
@[simp] theorem State.setTmr_regs (x : TmrState) : (s.setTmr x).regs = s.regs := rfl
@[simp] theorem State.setTmr_mem (x : TmrState) : (s.setTmr x).mem = s.mem := rfl
@[simp] theorem State.setTmr_poison (x : TmrState) : (s.setTmr x).poison = s.poison := rfl
@[simp] theorem State.setTmr_rdata (x : TmrState) : (s.setTmr x).rdata = s.rdata := rfl
@[simp] theorem State.setTmr_rpoison (x : TmrState) : (s.setTmr x).rpoison = s.rpoison := rfl
@[simp] theorem State.setTmr_heldLow (x : TmrState) : (s.setTmr x).heldLow = s.heldLow := rfl
@[simp] theorem State.setTmr_latchedHigh (x : TmrState) : (s.setTmr x).latchedHigh = s.latchedHigh := rfl
@[simp] theorem State.setTmr_step (x : TmrState) : (s.setTmr x).step = s.step := rfl
@[simp] theorem State.setTmr_cells (x : TmrState) : (s.setTmr x).cells = s.cells := rfl
@[simp] theorem State.setTmr_dram (x : TmrState) : (s.setTmr x).dram = s.dram := rfl
@[simp] theorem State.setTmr_tarn (x : TmrState) : (s.setTmr x).tarn = s.tarn := rfl
@[simp] theorem State.setTmr_fabric (x : TmrState) : (s.setTmr x).fabric = s.fabric := rfl
@[simp] theorem State.setTmr_engines (x : TmrState) : (s.setTmr x).engines = s.engines := rfl
@[simp] theorem State.setTmr_learn (x : TmrState) : (s.setTmr x).learn = s.learn := rfl
@[simp] theorem State.setTmr_pic (x : TmrState) : (s.setTmr x).pic = s.pic := rfl
@[simp] theorem State.setTmr_plts (x : TmrState) : (s.setTmr x).plts = s.plts := rfl
@[simp] theorem State.setTmr_ingress (x : TmrState) : (s.setTmr x).ingress = s.ingress := rfl
@[simp] theorem State.setTmr_trv (x : TmrState) : (s.setTmr x).trv = s.trv := rfl
@[simp] theorem State.setTmr_eth (x : TmrState) : (s.setTmr x).eth = s.eth := rfl
@[simp] theorem State.setTmr_proc (x : TmrState) : (s.setTmr x).proc = s.proc := rfl
@[simp] theorem State.setTmr_fault (x : TmrState) : (s.setTmr x).fault = s.fault := rfl
@[simp] theorem State.setTmr_boot (x : TmrState) : (s.setTmr x).boot = s.boot := rfl
@[simp] theorem State.setTmr_power (x : TmrState) : (s.setTmr x).power = s.power := rfl
@[simp] theorem State.setTmr_scree (x : TmrState) : (s.setTmr x).scree = s.scree := rfl
@[simp] theorem State.setTmr_sec (x : TmrState) : (s.setTmr x).sec = s.sec := rfl
@[simp] theorem State.setStep_step (x : StepState) : (s.setStep x).step = x := rfl
@[simp] theorem State.setSec_sec (x : SecState) : (s.setSec x).sec = x := rfl
@[simp] theorem State.setBoot_boot (x : BootState) : (s.setBoot x).boot = x := rfl
@[simp] theorem State.setPower_power (x : PowerState) : (s.setPower x).power = x := rfl
@[simp] theorem State.setTmr_tmr (x : TmrState) : (s.setTmr x).tmr = x := rfl
@[simp] theorem State.answer_rdata (v : Nat) (b : Bool) : (s.answer v b).rdata = v := rfl
@[simp] theorem State.answer_rpoison (v : Nat) (b : Bool) : (s.answer v b).rpoison = b := rfl
@[simp] theorem State.useFresh_fresh : s.useFresh.fresh = s.fresh + 1 := rfl

end Sys2Proof.Machine
end

