-- ==== Sys2Proof/Laws/Store.lean ====
section
/-! SUPPORT. What the operations on sparse stores do: a read after a write, and the canonical form kept. -/
namespace Sys2Proof.Machine
open Sys2Proof

variable {α : Type}

theorem Store.get_erase_same (d : Nat → α) (m : Store α) (k : Nat) : Store.get d (Store.erase m k) k = d k := by
  induction m with
  | nil => rfl
  | cons x m ih =>
    by_cases h : x.1 = k
    · simpa [Store.erase, h] using ih
    · simpa [Store.erase, h, Store.get] using ih

theorem Store.get_erase_other (d : Nat → α) (m : Store α) {k j : Nat} (h : j ≠ k) :
    Store.get d (Store.erase m k) j = Store.get d m j := by
  induction m with
  | nil => rfl
  | cons x m ih =>
    by_cases hx : x.1 = k
    · have : x.1 ≠ j := by omega
      simpa [Store.erase, hx, Store.get, this, Ne.symm h] using ih
    · simp only [Store.erase] at ih
      simp [Store.erase, hx, Store.get, ih]

theorem Store.get_insert_same (d : Nat → α) (m : Store α) (k : Nat) (v : α) (h : m.all (fun p => p.1 != k) = true) :
    Store.get d (Store.insert m k v) k = v := by
  induction m with
  | nil => simp [Store.insert, Store.get]
  | cons x m ih =>
    simp only [List.all_cons, Bool.and_eq_true, bne_iff_ne, ne_eq] at h
    by_cases hk : k < x.1
    · simp [Store.insert, hk, Store.get]
    · simp [Store.insert, hk, Store.get, h.1, ih (by simpa using h.2)]

theorem Store.get_insert_other (d : Nat → α) (m : Store α) {k j : Nat} (v : α) (h : j ≠ k) :
    Store.get d (Store.insert m k v) j = Store.get d m j := by
  induction m with
  | nil => simp [Store.insert, Store.get, Ne.symm h]
  | cons x m ih =>
    by_cases hk : k < x.1
    · simp [Store.insert, hk, Store.get, Ne.symm h]
    · simp [Store.insert, hk, Store.get, ih]

theorem Store.erase_all_ne (m : Store α) (k : Nat) : (Store.erase m k).all (fun p => p.1 != k) = true := by
  simp [Store.erase]

@[simp] theorem Store.get_set_same [DecidableEq α] (d : Nat → α) (m : Store α) (k : Nat) (v : α) :
    Store.get d (Store.set d m k v) k = v := by
  unfold Store.set
  split
  · next h => rw [Store.get_erase_same, h]
  · exact Store.get_insert_same d _ k v (Store.erase_all_ne m k)

theorem Store.get_set_other [DecidableEq α] (d : Nat → α) (m : Store α) {k j : Nat} (v : α) (h : j ≠ k) :
    Store.get d (Store.set d m k v) j = Store.get d m j := by
  unfold Store.set
  split
  · exact Store.get_erase_other d m h
  · rw [Store.get_insert_other d _ v h, Store.get_erase_other d m h]

theorem Store.sorted_filter (f : Nat × α → Bool) (m : Store α) (h : Store.sorted m = true) :
    Store.sorted (m.filter f) = true := by
  induction m with
  | nil => rfl
  | cons x m ih =>
    simp only [Store.sorted, Bool.and_eq_true] at h
    by_cases hf : f x
    · simp only [List.filter_cons, hf, if_true, Store.sorted, Bool.and_eq_true]
      exact ⟨List.all_eq_true.mpr fun y hy => List.all_eq_true.mp h.1 y (List.mem_filter.mp hy).1, ih h.2⟩
    · simpa [List.filter_cons, hf] using ih h.2

theorem Store.mem_insert (m : Store α) (k : Nat) (v : α) (y : Nat × α) (h : y ∈ Store.insert m k v) :
    y = (k, v) ∨ y ∈ m := by
  induction m with
  | nil => exact .inl (by simpa [Store.insert] using h)
  | cons x m ih =>
    by_cases hk : k < x.1
    · simpa [Store.insert, hk] using h
    · simp only [Store.insert, hk, if_false, List.mem_cons] at h
      rcases h with h | h
      · exact .inr (by simp [h])
      · exact (ih h).imp id (fun h => by simp [h])

theorem Store.sorted_insert (m : Store α) (k : Nat) (v : α) (h : Store.sorted m = true)
    (hk : m.all (fun p => p.1 != k) = true) : Store.sorted (Store.insert m k v) = true := by
  induction m with
  | nil => simp [Store.insert, Store.sorted]
  | cons x m ih =>
    obtain ⟨a, w⟩ := x
    simp only [Store.sorted, Bool.and_eq_true, List.all_eq_true, decide_eq_true_eq] at h
    simp only [List.all_cons, Bool.and_eq_true, bne_iff_ne, ne_eq] at hk
    by_cases hlt : k < a
    · simp only [Store.insert, hlt, if_true, Store.sorted, List.all_cons, Bool.and_eq_true, List.all_eq_true,
        decide_eq_true_eq]
      exact ⟨⟨trivial, fun y hy => Nat.lt_trans hlt (h.1 y hy)⟩, h.1, h.2⟩
    · simp only [Store.insert, hlt, if_false, Store.sorted, Bool.and_eq_true, List.all_eq_true, decide_eq_true_eq]
      refine ⟨fun y hy => ?_, ih h.2 (by simpa using hk.2)⟩
      rcases Store.mem_insert m k v y hy with rfl | hy
      · have := hk.1; simp only; omega
      · exact h.1 y hy

theorem Store.wf_filter [DecidableEq α] (d : Nat → α) (f : Nat × α → Bool) (m : Store α) (h : Store.wf d m = true) :
    Store.wf d (m.filter f) = true := by
  simp only [Store.wf, Bool.and_eq_true] at h ⊢
  exact ⟨Store.sorted_filter f m h.1,
    List.all_eq_true.mpr fun y hy => List.all_eq_true.mp h.2 y (List.mem_filter.mp hy).1⟩

/-- A write keeps the canonical form. -/
theorem Store.wf_set [DecidableEq α] (d : Nat → α) (m : Store α) (k : Nat) (v : α) (h : Store.wf d m = true) :
    Store.wf d (Store.set d m k v) = true := by
  have he : Store.wf d (Store.erase m k) = true := Store.wf_filter d _ m h
  unfold Store.set
  split
  · exact he
  · next hv =>
    simp only [Store.wf, Bool.and_eq_true] at he ⊢
    refine ⟨Store.sorted_insert _ k v he.1 (Store.erase_all_ne m k), List.all_eq_true.mpr fun y hy => ?_⟩
    rcases Store.mem_insert _ k v y hy with rfl | hy
    · simpa using hv
    · exact List.all_eq_true.mp he.2 y hy

end Sys2Proof.Machine
end

