-- ==== Sys2Proof/Laws/Ops.lean ====
section
/-! SUPPORT. What the shared operations on registers and memory do, and that they keep the canonical forms. -/
namespace Sys2Proof.Machine
open Sys2Proof

variable (s : State)

/-! ## Registers -/

@[simp] theorem State.reg_setReg_same (p off : Nat) (v : W32) : (s.setReg p off v).reg p off = v := by
  simp [State.reg, State.setReg]

/-- A write of a register leaves every register at another place. -/
theorem State.reg_setReg_other {p off q o : Nat} (v : W32) (h : q * 4096 + o ≠ p * 4096 + off) :
    (s.setReg p off v).reg q o = s.reg q o := by
  simp only [State.reg, State.setReg]
  exact Store.get_set_other _ _ v h

@[simp] theorem State.reg_setByte (a : Nat) (b : Byte) (p off : Nat) : (s.setByte a b).reg p off = s.reg p off := rfl
@[simp] theorem State.reg_setStep (x : StepState) (p off : Nat) : (s.setStep x).reg p off = s.reg p off := rfl
@[simp] theorem State.reg_useFresh (p off : Nat) : s.useFresh.reg p off = s.reg p off := rfl
@[simp] theorem State.reg_answer (v : Nat) (b : Bool) (p off : Nat) : (s.answer v b).reg p off = s.reg p off := rfl

/-- A counter after `n` more, stopped at 0xFFFF_FFFF. -/
theorem State.count_reg (p off n : Nat) :
    ((s.count p off n).reg p off).toNat = min 0xFFFFFFFF ((s.reg p off).toNat + n) := by
  have h : min 0xFFFFFFFF ((s.reg p off).toNat + n) < 2 ^ 32 := by omega
  rw [State.count, State.reg_setReg_same, BitVec.toNat_ofNat, Nat.mod_eq_of_lt h]

/-! ## Memory -/

@[simp] theorem State.byte_setByte_same (a : Nat) (b : Byte) : (s.setByte a b).byte a = b := by
  simp [State.byte, State.setByte]

theorem State.byte_setByte_other {a x : Nat} (b : Byte) (h : x ≠ a) : (s.setByte a b).byte x = s.byte x := by
  simp only [State.byte, State.setByte]
  exact Store.get_set_other _ _ b h

@[simp] theorem State.byte_setReg (p off : Nat) (v : W32) (a : Nat) : (s.setReg p off v).byte a = s.byte a := rfl

/-- A store leaves every byte outside the stored ones. -/
theorem State.byte_setBytes_other (l : List Byte) (s : State) (a x : Nat) (h : x < a ∨ a + l.length ≤ x) :
    (s.setBytes a l).byte x = s.byte x := by
  induction l generalizing s a with
  | nil => rfl
  | cons b l ih =>
    simp only [List.length_cons] at h
    rw [State.setBytes, ih (s.setByte a b) (a + 1) (by omega), State.byte_setByte_other s b (by omega)]

/-- A store of bytes writes each of them. -/
theorem State.byte_setBytes (l : List Byte) (s : State) (a i : Nat) (h : i < l.length) :
    (s.setBytes a l).byte (a + i) = l[i] := by
  induction l generalizing s a i with
  | nil => simp at h
  | cons b l ih =>
    cases i with
    | zero => rw [State.setBytes, State.byte_setBytes_other l _ (a + 1) (a + 0) (by omega)]; simp
    | succ i =>
      have := ih (s.setByte a b) (a + 1) i (by simpa using h)
      simpa [State.setBytes, Nat.add_assoc, Nat.add_comm 1 i] using this

/-! ## The canonical forms -/

variable {s}

theorem State.Sound.setReg (h : s.Sound) (p off : Nat) (v : W32) : (s.setReg p off v).Sound :=
  ⟨Store.wf_set _ _ _ _ h.1, h.2⟩

theorem State.Sound.setByte (h : s.Sound) (a : Nat) (b : Byte) : (s.setByte a b).Sound :=
  ⟨h.1, Store.wf_set _ _ _ _ h.2⟩

theorem State.Sound.setBytes (l : List Byte) {s : State} (h : s.Sound) (a : Nat) : (s.setBytes a l).Sound := by
  induction l generalizing s a with
  | nil => exact h
  | cons b l ih => exact ih (h.setByte a b) (a + 1)

/-- A change of the other fields keeps both forms. -/
theorem State.Sound.of_eq {t : State} (h : s.Sound) (hr : t.regs = s.regs) (hm : t.mem = s.mem) : t.Sound := by
  unfold State.Sound at *
  rw [hr, hm]
  exact h

theorem State.Sound.dropMem (h : s.Sound) (f : Host.Cell → Bool) : State.Sound { s with mem := s.mem.filter f } :=
  ⟨h.1, Store.wf_filter _ f _ h.2⟩

theorem State.Sound.dropRegs (h : s.Sound) (f : Nat × W32 → Bool) : State.Sound { s with regs := s.regs.filter f } :=
  ⟨Store.wf_filter _ f _ h.1, h.2⟩

end Sys2Proof.Machine
end

