-- ==== Sys2Proof/Tests/Slice0.lean ====
section
/-! SUPPORT. Tests: witnesses of the statements' hypotheses, ill-formed commands that the check refuses, and worked examples
of the spec. Each expected value is the spec's own or computed by hand from its rule. -/
namespace Sys2Proof.Tests
open Sys2Proof Sys2Proof.Machine

-- one theorem at a time: the kernel evaluates each on a large stack
set_option Elab.async false

/-! ## Small states -/

/-- Secure firmware on RFG0, the host, and Crest core 0 in user mode. -/
def fw : Requester := ⟨.rfg 0, true⟩
def hostReq : Requester := ⟨.host, false⟩
def user : Requester := ⟨.crs 0, false⟩

/-- A state with registers set, given as page, offset and value. -/
def regsSet (l : List (Nat × Nat × W32)) (s : State) : State := l.foldl (fun s x => s.setReg x.1 x.2.1 x.2.2) s

/-- The step timer runs in step 5, which has had its summit. -/
def idle5 : State :=
  { regsSet [(Page.stp, Reg.PG_CTRL, 1), (Page.stp, Reg.STP_COUNT, 5)] State.reset with
    step := { summited := true }, cells := { mapped := true } }

/-- Step 5 is open. -/
def open5 : State := { idle5 with step := { summited := false } }

/-- The chip has declared READY. -/
def ready : State :=
  { regsSet [(Page.chp, Reg.CHP_BOOT_STAT, 0x90000000)] State.reset with fault := { readySeen := true } }

/-! ## Witnesses: the block as a whole, and register accesses -/

theorem wit_EmptyQueuePassesTime : State.reset.pending = [] ∧ ({ State.reset with power := { gated := true } } : State).pending = [] :=
  by decide +kernel

theorem wit_StepKeepsSound : State.reset.Sound ∧ ∃ t, step State.reset = .next t := by
  refine ⟨by unfold State.Sound; decide +kernel, _, rfl⟩

theorem wit_ElapsedTimeIsKept :
    (∀ src, Instr.tick ≠ .powerOn src) ∧ Instr.tick ≠ .brownOut ∧ Instr.tick ≠ .elapsedWrap
    ∧ ∃ t, exec .tick State.reset = .next t := ⟨by intro; simp, by decide, by decide, _, rfl⟩

/-- A write that is taken stores by type: RW, W1C and RC registers. -/
theorem wit_RegisterWriteActsByType :
    (∀ x ∈ [(Page.chp, 0x60, Access.plain), (0x40, 4044, Access.w1c), (Page.chp, 0x44, Access.rc)],
      (pageKind x.1).window = false ∧ (regRow x.1 x.2.1).isSome = true
      ∧ (∀ row, row ∈ regRow x.1 x.2.1 → row.half = .single ∧ row.access = x.2.2)
      ∧ State.reset.viewPage x.1 x.2.1 = some x.1 ∧ (State.reset.writeActs fw x.1 x.2.1 1).isNone = true
      ∧ (State.reset.judgeWrite fw x.1 x.2.1).1 = true) := by decide +kernel

theorem wit_RcReadClears :
    (pageKind Page.chp).window = false ∧ (∃ row ∈ regRow Page.chp 0x44, row.half = .single ∧ row.access = .rc)
    ∧ pageKind Page.chp ≠ .drmSlice ∧ State.reset.viewPage Page.chp 0x44 = some Page.chp
    ∧ (State.reset.readActs fw Page.chp 0x44).isNone = true ∧ State.reset.mayRead fw Page.chp 0x44 = true := by decide +kernel

theorem wit_LowWordReadLatchesHigh :
    is64 1 88 = true ∧ isRc 1 88 = false ∧ readsZero 1 88 = false ∧ (State.reset.readActs fw 1 88).isNone = true
    ∧ State.reset.mayRead fw 1 88 = true := by decide +kernel

/-- An unmapped address, the page above the last, an absent page, a secure page for the host, another's page, a locked one. -/
theorem wit_RefusedWritesAreOnlyCounted :
    State.reset.clocked = true ∧ State.reset.step.fences.contains hostReq = false
    ∧ addrRegion 0x20000 = .unmapped ∧ presentIn State.reset.grade 0x15 = false
    ∧ presentIn State.reset.grade Page.otp = true ∧ pageKind Page.otp ≠ .col ∧ State.reset.secBars hostReq Page.otp 0x40 = true
    ∧ (let s := regsSet [(Page.stp, Reg.PG_SEC, 1)] State.reset
       ownerAdmits (s.regFld (owningPage Page.stp) Reg.PG_SEC 4 0) hostReq = false)
    ∧ (let s := regsSet [(Page.stp, Reg.PG_LOCK, 1)] State.reset
       presentIn s.grade Page.stp = true ∧ s.secBars hostReq Page.stp Reg.STP_PERIOD = false
       ∧ ownerAdmits (s.regFld (owningPage Page.stp) Reg.PG_SEC 4 0) hostReq = true
       ∧ bit (s.reg (owningPage Page.stp) Reg.PG_LOCK) 0 = true ∧ lockable Page.stp Reg.STP_PERIOD = true
       ∧ actBits Page.stp Reg.STP_PERIOD = 0) := by decide +kernel

theorem wit_HeaderWritesActAlone :
    hasHeader Page.stp = true ∧ pageKind Page.stp ≠ .col ∧ pageKind Page.stp ≠ .tar
    ∧ State.reset.takesWo fw Page.stp Reg.PG_INT_SET ∧ State.reset.takes fw Page.stp Reg.PG_INT_SET
    ∧ State.reset.takes fw Page.stp Reg.PG_LOCK ∧ State.reset.takes fw Page.stp Reg.PG_SEC := by
  unfold State.takes State.takesWo; decide +kernel

theorem wit_SoftResetAndInjection :
    hasHeader Page.stp = true ∧ State.reset.takes fw Page.stp Reg.PG_CTRL ∧ pageKind Page.stp ∉ [.cel, .drmSlice, .drmDie, .dbg]
    ∧ State.reset.takesWo fw Page.stp Reg.PG_ERR_SET ∧ pageKind Page.stp ≠ .rfgCore ∧ Page.stp ≠ Page.chp := by
  unfold State.takes State.takesWo; decide +kernel

/-- An image with nothing in it but one reservation. -/
def rateImage (n : Nat) : Image :=
  { rates := [(0, n)], rows := [], tables := [], profiles := [], queues := [], axons := [], neurons := [], routes := [],
    routeNeed := [], channels := [], regs := [], synBase := 0, synLimit := 0, raw := [] }

theorem wit_ImageReservationsFit :
    ready.atReady = true ∧ ready.clocked = true ∧ 4096000 < ((rateImage 4096001).rates.map (·.2)).sum
    ∧ ready.loadRefusal (rateImage 4096000) = none := by decide +kernel

/-- The chip frozen, with the debug level at 2. -/
def frozenChip (level : Nat) : State :=
  { regsSet [(Page.frz, Reg.FRZ_STAT, 0x20000000), (Page.dbg, Reg.DBG_STAT, BitVec.ofNat 32 (level * 2 ^ 30))] State.reset with
    fault := { readySeen := true } }

theorem wit_JtagAccessByLevel :
    (let s := regsSet [(Page.dbg, Reg.DBG_STAT, 0x40000000)] State.reset
     s.frzState ≠ Frz.frozen ∧ s.debugLevel ≠ 0)
    ∧ ((frozenChip 0).frzState = Frz.frozen ∧ frozenPage Base.dump = false ∧ (frozenChip 0).debugLevel = 0)
    ∧ ((frozenChip 1).frzState = Frz.frozen ∧ (frozenChip 1).debugLevel ≠ 0 ∧ addrRegion Base.dump = .dump) := by
  decide +kernel

/-! ## Witnesses: steps and time -/

/-- A tick that begins step 6, the tick held under STRETCH at an open step, and a timer above zero. -/
theorem wit_TickBeginsOrHolds :
    (idle5.tickSource = 0 ∧ idle5.ticking = true ∧ idle5.step.remaining = 0 ∧ idle5.stepOpen = false ∧ idle5.step.release = []
      ∧ idle5.joinHolds = false ∧ idle5.step.heldTick = false)
    ∧ (let s := regsSet [(Page.stp, Reg.STP_POLICY, 2)] open5
       s.tickSource = 0 ∧ s.ticking = true ∧ s.step.remaining = 0 ∧ s.policy = 2 ∧ s.stepOpen = true)
    ∧ (let s := { idle5 with step := { idle5.step with written := some (idle5.elapsed, (20000 : W32)) } }
       s.step.written = some (s.elapsed, 20000) ∧ s.tickSource = 0 ∧ s.ticking = true ∧ s.step.remaining = 0
       ∧ s.stepOpen = false ∧ s.step.release = [] ∧ s.joinHolds = false ∧ s.step.heldTick = false)
    ∧ (State.reset.tickSource = 0 ∧ State.reset.ticking = false) := by decide +kernel

theorem wit_OverrunForcesTheSummit :
    open5.tickSource = 0 ∧ open5.ticking = true ∧ open5.step.remaining = 0 ∧ open5.policy ≠ 2 ∧ open5.stepOpen = true
    ∧ open5.step.overrun = false := by decide +kernel

theorem wit_TimerStartsAndStops :
    State.reset.takes fw Page.stp Reg.PG_CTRL ∧ State.reset.running = false
    ∧ idle5.takes fw Page.stp Reg.PG_CTRL ∧ idle5.running = true := by unfold State.takes; decide +kernel

/-- The ends of the range of R38, inside and outside. -/
theorem wit_PeriodWriteIsRanged :
    State.reset.takes fw Page.stp Reg.STP_PERIOD
    ∧ (10000 ≤ (10000 : W32).toNat ∧ (10000 : W32).toNat ≤ 100000000)
    ∧ (10000 ≤ (100000000 : W32).toNat ∧ (100000000 : W32).toNat ≤ 100000000)
    ∧ (9999 : W32).toNat < 10000 ∧ 100000000 < (100000001 : W32).toNat := by unfold State.takes; decide +kernel

/-- A TICK packet with a lead of 1,000 ns. -/
def tickPacket : Packet := mkPacket 0xB 0 0 2 false [1000, 6]

/-- A member of a group that follows its master, with that packet at port 3. -/
def member5 : State :=
  let s := regsSet [(Page.stp, Reg.STP_TICK_SRC, 1)] idle5
  { s with trv := { s.trv with ports := [(3, { summitIn := [(77, tickPacket)] })] } }

theorem wit_TickSources :
    (let s := regsSet [(Page.stp, Reg.STP_TICK_SRC, 0x100)] idle5
     s.ticking = true ∧ s.tickMaster = true ∧ s.policy ≠ 2 ∧ s.step.leadSent = false
     ∧ s.step.remaining ≤ (s.reg Page.stp Reg.STP_TICK_LEAD).toNat)
    ∧ (member5.ticking = true ∧ member5.clocked = true ∧ (member5.trvPort 3).summitIn = [(77, tickPacket)]
      ∧ tickPacket.ty = 0xB ∧ member5.tickSource = 1
      ∧ (member5.reg (Page.trv 3) Reg.TRV_LAT_NS).toNat ≤ (tickPacket.word 1).toNat ∧ (tickPacket.word 1).toNat < 2 ^ 31)
    ∧ (let s : State := { member5 with elapsed := 1000, step := { member5.step with leadDue := some 1000 } }
       s.ticking = true ∧ s.stepOpen = false ∧ s.step.release = [] ∧ s.step.leadDue = some 1000 ∧ 1000 ≤ s.elapsed ∧ s.tickSource = 1)
    ∧ (let s : State := { member5 with elapsed := 1000, step := { member5.step with flywheel := some 0 } }
       s.ticking = true ∧ s.stepOpen = false ∧ s.step.release = [] ∧ s.step.flywheel = some 0 ∧ 0 + 1000 ≤ s.elapsed
       ∧ s.tickSource ≠ 0 ∧ s.policy ≠ 2)
    ∧ (let s := regsSet [(Page.stp, Reg.STP_TICK_SRC, 2)] idle5
       s.ticking = true ∧ s.stepOpen = false ∧ s.step.release = [] ∧ s.step.lastEdge = none ∧ s.tickSource = 2)
    ∧ (let s : State := { idle5 with step := { idle5.step with heldTick := true } }
       s.ticking = true ∧ s.stepOpen = false ∧ s.step.release = [] ∧ s.step.heldTick = true ∧ s.joinHolds = false)
    ∧ (let t := regsSet [(Page.stp, Reg.STP_TICK_SRC, 2)] idle5
       let s : State := { t with elapsed := 9999, step := { t.step with lastEdge := some 0 } }
       s.ticking = true ∧ s.step.lastEdge = some 0 ∧ s.elapsed < 0 + 10000 ∧ s.tickSource = 2) := by decide +kernel

/-- Step 5 in its update phase, with what has reported given. -/
def updating5 (cells blocks regions : List Nat) : State :=
  { open5 with step := { summited := false, phase := .update, blkUpd := blocks, rgnUpd := regions },
               cells := { mapped := true, updated := cells } }

theorem wit_ReportsOfAStep :
    ((updating5 [] [] []).mustUpdate (0 : Fin 2048) = true ∧ (updating5 [] [] []).nextActive (0 : Fin 2048) = none)
    ∧ ((updating5 (blockCells 1) [] []).updating = true ∧ (updating5 (blockCells 1) [] []).blockCopies (1 : Fin 128) = false
      ∧ ∀ c ∈ blockCells (1 : Fin 128), c ∈ (updating5 (blockCells 1) [] []).cells.updated)
    ∧ (let s := updating5 [] (List.range 128) []
       s.updating = true ∧ (0 : Fin 8).val ∉ s.step.rgnUpd ∧ ∀ i, i < 16 → 16 * (0 : Fin 8).val + i ∈ s.step.blkUpd)
    ∧ (let s : State := { open5 with step := { open5.step with phase := .deliver, blkUpd := List.range 128, rgnUpd := List.range 8
                                                               blkQui := List.range 128 },
                                     cells := { mapped := true, quiet := List.range 256 } }
       s.runs (11 + (0 : Fin 2048).val / 16) = true ∧ s.cellQuiescent (0 : Fin 2048) = true
       ∧ s.timebase = true ∧ s.stepOpen = true ∧ (0 : Fin 128).val ∈ s.step.blkUpd ∧ s.outputEmpty (0 : Fin 128) = true
       ∧ (∀ c ∈ blockCells (0 : Fin 128), s.cellQuiescent c = true ∧ c ∈ s.cells.quiet)
       ∧ (0 : Fin 8).val ∈ s.step.rgnUpd ∧ s.regionClear (0 : Fin 8) = true
       ∧ (∀ i, i < 16 → 16 * (0 : Fin 8).val + i ∈ s.step.blkQui) ∧ (∀ i, i < 256 → s.cellQuiescent (256 * (0 : Fin 8).val + i) = true)
       ∧ s.sweepLate (0 : Fin 8) = false)
    ∧ (let s : State := { open5 with step := { open5.step with phase := .deliver, rgnQui := List.range 8 } }
       s.ticking = true ∧ s.stepOpen = true ∧ s.step.phase = .deliver ∧ s.step.rgnQui.length = 8 ∧ s.pltsDone = true) := by
  decide +kernel

theorem wit_SummitAndRelease :
    (open5.localQuiet = false ∧ open5.quietNow = false)
    ∧ (let s : State := { open5 with step := { open5.step with phase := .summitWait, rgnQui := List.range 8 } }
       s.ticking = true ∧ s.stepOpen = true ∧ s.step.agreed = false ∧ s.step.phase = .summitWait ∧ s.localQuiet = true
       ∧ s.isRoot = true ∧ s.childMask = 0 ∧ s.trv.tree.tokens = [])
    ∧ (let s : State := { open5 with step := { open5.step with agreed := true } }
       s.ticking = true ∧ s.stepOpen = true ∧ s.isRoot = true ∧ s.step.agreed = true)
    ∧ (let s : State := { idle5 with step := { idle5.step with release := [0, 128] } }
       s.timebase = true ∧ s.releaseReaches (128 : Fin 137) = true)
    ∧ (let s : State := { idle5 with step := { idle5.step with release := [0, 136] } }
       s.timebase = true ∧ s.releaseReaches (136 : Fin 137) = true)
    ∧ (let s := regsSet [(Page.sum, Reg.SUM_WDOG_CNT, 0xFFFF)] idle5
       s.ticking = true ∧ s.watchdogLimit ≤ s.regFld Page.sum Reg.SUM_WDOG_CNT 15 0)
    ∧ (let s : State := { idle5 with elapsed := 2 ^ 64 }
       2 ^ 64 ≤ s.elapsed) := by decide +kernel

theorem wit_FenceOrders :
    State.reset.takesWo fw Page.chp Reg.CHP_FENCE
    ∧ (let s : State := { idle5 with step := { idle5.step with fences := [fw] } }
       fw ∈ s.step.fences ∧ s.clocked = true ∧ s.writesDone fw = true)
    ∧ (let s : State := { idle5 with step := { idle5.step with fences := [fw], posters := [fw] } }
       s.writesDone fw = false) := by unfold State.takesWo; decide +kernel

/-! ## Witnesses: cells, neurons and queues -/

theorem wit_NumericBlockWrites :
    numericPage 0x10000 = true ∧ numericPage (Page.plt 0) = true
    ∧ State.reset.viewPage (Page.plt 0) Reg.SAT_LIMIT = some (Page.plt 0) ∧ State.reset.takes fw (Page.plt 0) Reg.SAT_LIMIT
    ∧ State.reset.viewPage (Page.plt 0) Reg.SR_SEED = some (Page.plt 0) ∧ State.reset.takesWo fw (Page.plt 0) Reg.SR_SEED
    ∧ State.reset.running = false ∧ idle5.running = true ∧ idle5.takesWo fw (Page.plt 0) Reg.SR_SEED := by
  unfold State.takes State.takesWo; decide +kernel

/-- A cell with one active LIF neuron whose accumulator and threshold are given. -/
def lif (acc thr : Nat) : State :=
  let s := regsSet [(Page.cell 0, profOff 0 + 4, BitVec.ofNat 32 (thr * 2 ^ 16))] (updating5 [] [] [])
  { s with cells := { s.cells with neurons := [(7, { acc := BitVec.ofNat 32 acc, active := true })] } }

/-- Just below the threshold, and at it. -/
theorem wit_NeuronUpdateLaw :
    ∀ thr ∈ [101, 100],
      let s := lif 100 thr
      let n := s.neuron (0 : Fin 2048) 7
      let p := s.profile (0 : Fin 2048) n.prof
      let v1 := p.leak (s16 n.v) p.dv + scaleIn (toSigned 32 n.acc.toNat) p.inShift
      s.mustUpdate (0 : Fin 2048) = true ∧ s.nextActive (0 : Fin 2048) = some 7
      ∧ (s.fabric.spikes.filter (fun k => k.cell / 16 == (0 : Fin 2048).val / 16)).length < 256
      ∧ p.model = Model.lif ∧ p.perEvent = false ∧ n.refr = 0 ∧ -32768 ≤ v1 ∧ v1 ≤ 32767
      ∧ (thr = 101 → v1 < p.thr + s16 n.a) ∧ (thr = 100 → p.thr + s16 n.a ≤ v1 ∧ p.resetMode = 0 ∧ p.outMode ≠ 3) := by
  decide +kernel

/-- A binary event of step 5 for cell 0, queue 3, row 9. -/
def eventPacket : Packet := mkPacket 1 0 3 1 false [3 * 2 ^ 12 + 9]

/-- That event at block 0, with queue 3 open for rows 0 to 9 and CAP given. -/
def arriving (cap : Nat) : State :=
  { open5 with fabric := { opened := [(0, eventPacket)] }
               cells := { mapped := true, qdesc := [(12, BitVec.ofNat 32 cap), (14, 9 * 2 ^ 20)] } }

theorem wit_EventsAreQueuedOrDropped :
    ∀ cap ∈ [1, 0],
      let s := arriving cap
      s.runs (11 + (0 : Fin 128).val) = true ∧ s.fabric.opened = ((0 : Fin 128).val, eventPacket) :: [] ∧ eventPacket.ty = 1
      ∧ eventCell (eventPacket.word 1) = 0 ∧ eventQueue (eventPacket.word 1) = 3 ∧ eventRow (eventPacket.word 1) = 9
      ∧ s.tooOld (s.stepOfPar eventPacket.par eventPacket.late) = false ∧ s.offline 0 = false ∧ s.fenced 0 = false
      ∧ (cap = 1 → s.judge 0 3 9 = .placed) ∧ (cap = 0 → s.judge 0 3 9 = .full) := by decide +kernel

/-- Cell 0 with one due entry. -/
def entry9 : PoolEntry := { cell := 0, queue := 3, row := 9, due := 5, late := false, graded := none, off := 0 }
def taking : State :=
  { arriving 1 with cells := { (arriving 1).cells with pool := [entry9] } }

theorem wit_QueueHeadIsTheFirstDue :
    (open5.mayTake (0 : Fin 2048) = true ∧ open5.headOf (0 : Fin 2048) = none
      ∧ (open5.cells.items.filter (fun i => i.cell == (0 : Fin 2048).val)).length < 16)
    ∧ (taking.mayTake (0 : Fin 2048) = true ∧ (taking.cells.items.filter (fun i => i.cell == (0 : Fin 2048).val)).length < 16
      ∧ taking.headOf (0 : Fin 2048) = some entry9 ∧ taking.qreader 0 3 = none
      ∧ taking.cells.tblCache.contains (taking.siteOf 0, taking.qrowt 0 3 + 8 * 9) = false) := by decide +kernel

/-- An item of cell 0 at a stage, with the row table entry at offset 0 and the row at offset 16: one CURRENT synapse of
weight 5 for neuron 7. -/
def item1 (stage : ItemStage) (word : Nat) : Item := { id := 1, cell := 0, entry := entry9, stage := stage, tbl := 0, word := word }
def rowEntry : Nat := 2 ^ 48 + 1 * 2 ^ 44 + 2 ^ 40 + 16
def rowWord : W32 := 7 * 2 ^ 19 + 5
def fetching (it : Item) (valid : Bool) : State :=
  let s : State := { arriving 1 with cells := { (arriving 1).cells with items := [it], qdesc := (arriving 1).cells.qdesc ++ [] } }
  let s := s.setQword 0 3 1 (8191 * 2 ^ 5)
  let s := s.setBytes Base.dram (leBytes 8 (if valid then rowEntry else 0))
  s.setBytes (Base.dram + 16) (leBytes 8 (2 ^ 28 + 3 * 2 ^ 24) ++ leBytes 4 rowWord.toNat)

/-- An invalid entry, a valid one whose row is too long for the cache, and a fetched row. -/
theorem wit_RowsReachTheNeurons :
    (let it := item1 .table 0
     let s := fetching it false
     s.cells.items.find? (fun i => i.id == 1) = some it ∧ s.reqsDone 1 = true ∧ it.stage = .table
     ∧ s.runs (11 + it.cell / 16) = true ∧ Entry.valid (s.entryAt it.tbl) = false)
    ∧ (let it := item1 .table 0
       let s := (fetching it true).setBytes (Base.dram + 6) (leBytes 2 127)
       s.cells.items.find? (fun i => i.id == 1) = some it ∧ s.reqsDone 1 = true ∧ s.runs (11 + it.cell / 16) = true
       ∧ s.beatPoison it.tbl = false ∧ Entry.valid (s.entryAt it.tbl) = true
       ∧ s.rowHeld it.cell (Entry.addr (s.entryAt it.tbl)) = false ∧ Entry.plastic (s.entryAt it.tbl) = false
       ∧ cacheable (s.entryAt it.tbl) = false)
    ∧ (let it := item1 .row rowEntry
       let s := fetching it true
       let q1 := s.qword it.entry.cell it.entry.queue 1
       s.cells.items.find? (fun i => i.id == 1) = some it ∧ s.reqsDone 1 = true ∧ it.stage = .row ∧ s.mayTake it.cell = true
       ∧ s.rowRefused it.tbl it.word = false ∧ Entry.plastic it.word = false ∧ Entry.rfmt it.word < 2
       ∧ (s.loadRow it.cell it.tbl it.word).words = [(rowWord, false)] ∧ Syn.kind rowWord = 0 ∧ Syn.tgt rowWord < 8192
       ∧ fld q1 31 19 ≤ Syn.tgt rowWord ∧ Syn.tgt rowWord < fld q1 31 19 + fld q1 18 5
       ∧ (s.profile it.cell (s.neuron it.cell (Syn.tgt rowWord)).prof).perEvent = false)
    ∧ (let w : WriteBack := { id := 2, cell := 0, row := 16, bytes := [(Base.dram + 16, 1), (Base.dram + 17, 2)] }
       let s : State := { open5 with cells := { mapped := true, writeBacks := [w] } }
       s.cells.writeBacks.find? (fun w => w.cell == (0 : Fin 2048).val && w.row == 16) = some w
       ∧ s.runs (11 + (0 : Fin 2048).val / 16) = true ∧ s.reqsDone w.id = true ∧ s.poison = []
       ∧ (w.bytes.map (·.1)).Nodup) := by decide +kernel

/-- Cell 0 while the timer stands, with queue 0 open (word 0 is 0) and queue 1 closed or in RESET. -/
def stopped : State := { State.reset with cells := { mapped := true } }
def queue0 (w : W32) (s : State) : State := s.setQword 0 0 0 w

theorem wit_CellRegisterWrites :
    (let s := open5
     s.cellAt (0 : Fin 2176) = some 0 ∧ s.takes fw (Page.site (0 : Fin 2176)) Reg.CEL_NDATA0
     ∧ s.cellPostAt 0 Reg.CEL_NDATA0 1 = some (.neuron0 0 1) ∧ Reg.CEL_NDATA0 < Reg.CEL_PROF ∧ s.running = true
     ∧ (s.postsOf 0).length < 64)
    ∧ (let s : State := { open5 with cells := { open5.cells with posts := List.replicate 64 (0, .neuron0 0 1) } }
       s.cellAt (0 : Fin 2176) = some 0 ∧ s.takes fw (Page.site (0 : Fin 2176)) Reg.CEL_NDATA0
       ∧ s.cellPostAt 0 Reg.CEL_NDATA0 1 = some (.neuron0 0 1) ∧ s.running = true ∧ 64 ≤ (s.postsOf 0).length)
    ∧ (stopped.cellAt (0 : Fin 2176) = some 0 ∧ stopped.takes fw (Page.site (0 : Fin 2176)) Reg.CEL_NDATA0
       ∧ stopped.cellPostAt 0 Reg.CEL_NDATA0 1 = some (.neuron0 0 1) ∧ stopped.running = false)
    ∧ (let s := queue0 0x40000000 stopped
       s.cellAt (0 : Fin 2176) = some 0 ∧ s.takes fw (Page.site (0 : Fin 2176)) (Reg.CEL_QDESC0 + 4 * (1 : Fin 4).val)
       ∧ s.qstate 0 (s.regFld (Page.cell 0) Reg.CEL_QSEL 8 0) = 1)
    ∧ (let s := queue0 0 stopped
       s.takes fw (Page.site (0 : Fin 2176)) (Reg.CEL_QDESC0 + 4 * (1 : Fin 4).val)
       ∧ s.takes fw (Page.site (0 : Fin 2176)) (Reg.CEL_QDESC0 + 4 * (0 : Fin 4).val)
       ∧ s.qstate 0 (s.regFld (Page.cell 0) Reg.CEL_QSEL 8 0) = 0
       ∧ (0xFFFFFFFF : W32) &&& qdescMask 1 ≠ s.qword 0 (s.regFld (Page.cell 0) Reg.CEL_QSEL 8 0) 1
       ∧ fld (0x80000000 : W32) 31 30 = 2
       ∧ withFld (0x80000000 : W32) 31 30 0 = withFld (s.qword 0 (s.regFld (Page.cell 0) Reg.CEL_QSEL 8 0) 0) 31 30 0)
    ∧ (let s := queue0 0x80000000 stopped
       s.qstate (0 : Fin 2048) (0 : Fin 512) = 2 ∧ s.qheld (0 : Fin 2048) (0 : Fin 512) = 0)
    ∧ stopped.runs (11 + (0 : Fin 2176).val / 17) = true
    ∧ (regsSet [(Page.site 0, Reg.PG_ERR_EN, 0)] stopped).errOn (Page.site (0 : Fin 2176)) 2 = false := by
  unfold State.takes; decide +kernel

/-! ## Witnesses: DRAM -/

/-- A request at slice 0, which is in a power state. -/
def dramReq : DramReq := { slice := 0, who := 0, bytes := 64, item := 0, addr := 0 }
def slice0 (power : Nat) (s : State) : State :=
  regsSet [(Page.slice 0, Reg.DRM_SLICE_STAT, BitVec.ofNat 32 (power * 2 ^ 30))] s

/-- A request that the slice may serve; a window's last ns and the one before; a scrub; an idle slice. -/
theorem wit_DramSlicesServe :
    (let s : State := { slice0 0 idle5 with dram := { reqs := [dramReq] } }
     (s.reqsAt (0 : Fin 128))[0]? = some dramReq ∧ s.sliceServes (0 : Fin 128) = true
     ∧ s.mayServe (0 : Fin 128) dramReq = true ∧ s.dram.copies = [])
    ∧ (∀ now ∈ [10240, 10239],
       let s : State := { idle5 with elapsed := now }
       let k := numAt s.dram.wins (0 : Fin 128).val
       let due := s.reg64 Page.stp Reg.STP_TICK_NS + k * s.winNs
         + winLength s.winNs (s.reg Page.stp Reg.STP_PERIOD_ACT).toNat k
       s.runs (sliceDomain (0 : Fin 128)) = true ∧ presentIn s.grade (Page.slice (0 : Fin 128)) = true
       ∧ (now = 10240 → due ≤ s.elapsed ∧ Store.wf (fun _ => 0) s.dram.used = true) ∧ (now = 10239 → s.elapsed < due))
    ∧ (let s := regsSet [(Page.die 0, Reg.DRM_SCRUB_S, 60)] (slice0 0 idle5)
       s.sliceServes (0 : Fin 128) = true ∧ s.reg (Page.die ((0 : Fin 128).val % 16 / 8)) Reg.DRM_SCRUB_S ≠ 0
       ∧ s.reqsAt (0 : Fin 128) = [])
    ∧ (let s : State := { regsSet [(Page.slice 0, Reg.DRM_PD_NS, 500)] (slice0 0 idle5) with elapsed := 500 }
       s.runs (sliceDomain (0 : Fin 128)) = true ∧ presentIn s.grade (Page.slice (0 : Fin 128)) = true
       ∧ s.slicePower (0 : Fin 128) = 0 ∧ s.regFld (Page.slice (0 : Fin 128)) Reg.DRM_PD_NS 15 0 ≠ 0
       ∧ s.reqsAt (0 : Fin 128) = []
       ∧ numAt s.dram.lastAccess (0 : Fin 128).val + s.regFld (Page.slice (0 : Fin 128)) Reg.DRM_PD_NS 15 0 ≤ s.elapsed) := by
  decide +kernel

/-- The synapse store takes the first MiB. -/
def withStore (s : State) : State := regsSet [(Page.die 0, Reg.DRM_SYN_LIMIT, 0x100000)] s
def synPost : SynPost := { slice := 0, req := some fw, addr := 0, bytes := [1] }

theorem wit_SynapseWritesAndRemaps :
    (∀ n ∈ [0, 128],
      let t := withStore idle5
      let s : State := { t with dram := { t.dram with posts := List.replicate n synPost } }
      s.serves fw = true ∧ s.inSynapseStore 0 = true ∧ 0 % 64 + 2 ≤ 64 ∧ 0 + 2 ≤ dramBytes s.grade ∧ s.clearingAny 0 2 = false
      ∧ s.isSecure fw = true ∧ s.running = true ∧ (dramPlace 0).slice = 0 ∧ (∀ h ∈ s.dram.held, h.slice ≠ (dramPlace 0).slice)
      ∧ (n = 0 → s.postedAt (dramPlace 0).slice < 128) ∧ (n = 128 → 128 ≤ s.postedAt (dramPlace 0).slice))
    ∧ (let s := withStore State.reset
       s.serves hostReq = true ∧ s.inSynapseStore 0x3E = true ∧ 0x3E % 64 + 2 ≤ 64 ∧ 0x3E + 2 ≤ dramBytes s.grade
       ∧ s.clearingAny 0x3E 2 = false ∧ s.rangeSecure 0x3E 2 = false ∧ s.running = false)
    ∧ (let s : State := { idle5 with dram := { held := [synPost], posts := List.replicate 127 synPost } }
       s.dram.held.find? (fun h => h.slice == (0 : Fin 128).val) = some synPost ∧ s.runs (sliceDomain (0 : Fin 128)) = true
       ∧ s.postedAt (0 : Fin 128) < 128)
    ∧ presentIn State.reset.grade (Page.slice (0 : Fin 128)) = true
    ∧ (let c : RemapReq := { slice := 0, bank := 15, row := 12287, src := 3 }
       let s : State := { slice0 0 idle5 with dram := { copies := [c] } }
       s.dram.copies.find? (fun c => c.slice == (0 : Fin 128).val) = some c ∧ c.bank < 16 ∧ c.row < 2 ^ 14
       ∧ s.sliceServes (0 : Fin 128) = true)
    ∧ (State.reset.takes fw (Page.die (0 : Fin 2)) Reg.DRM_REMAP_ADD
       ∧ 12287 < fld (12288 * 2 ^ 5 : W32) 18 5 ∧ fld (12287 * 2 ^ 5 : W32) 18 5 ≤ 12287
       ∧ State.reset.rowListed 0 0 12287 = false ∧ State.reset.sparesUsed 0 0 < 4) := by unfold State.takes; decide +kernel

/-! ## Witnesses: Tarn banks -/

/-- Bank 0 ON, owned by array 0 (code 1). -/
def owned (x : BankState) (s : State) : State :=
  { regsSet [(Page.bank 0, Reg.TAR_OWNER_ACK, 1), (Page.bank 0, Reg.TAR_OWNER, 1), (Page.bank 0, Reg.TAR_SIDE, 3)] s with
    tarn := { banks := [(0, x)] } }
def bankOn : State := owned { power := 2, lost := false } idle5

/-- Accesses of the owner at both ends of the bank, and an atomic of another. -/
theorem wit_TarnAccessesByTheOwner :
    bankOn.runs (3 + (0 : Fin 128).val / 16) = true ∧ bankOn.tarnHolds (0 : Fin 128) 1 = false
    ∧ bankOn.tarnTakes (0 : Fin 128) 1 fw = true ∧ 0x7FFC + 4 ≤ 0x80000 ∧ 0x80000 - 64 + 64 ≤ 0x80000
    ∧ (0x7FFFC + 4 ≤ 0x80000 ∧ 0x7FFFC % 4 = 0 ∧ bankOn.poisonWords (bankAddr (0 : Fin 128) + 0x7FFFC) 4 = [])
    ∧ bankOn.tarnHolds (0 : Fin 128) 2 = false ∧ 2 ≠ bankOn.owner (0 : Fin 128) := by decide +kernel

theorem wit_TarnSidePortAndHandover :
    ((63 : Nat) < 64)
    ∧ (bankOn.runs (3 + (0 : Fin 128).val / 16) = true
      ∧ bankOn.sideAdmits (0 : Fin 128) fw (.store 0x7FFFC [1, 2, 3, 4]) = true ∧ 0x7FFFC + [1, 2, 3, 4].length ≤ 0x80000
      ∧ bankOn.sideAdmits (0 : Fin 128) fw (.load 0 4) = true
      ∧ (owned {} idle5).sideAdmits (0 : Fin 128) fw (.load 0 4) = false)
    ∧ (bankOn.takes fw (Page.bank (0 : Fin 128)) Reg.TAR_OWNER ∧ bankOn.handover (0 : Fin 128) = false
      ∧ ownerPresent bankOn.grade (fld (2 : W32) 3 0) = true ∧ bankOn.faulted (Page.bank (0 : Fin 128)) = false
      ∧ fld (2 : W32) 3 0 ≠ bankOn.owner (0 : Fin 128))
    ∧ (let s := regsSet [(Page.bank 0, Reg.TAR_STAT, 0x10000)] (owned { power := 2, draining := true } idle5)
       s.takes fw (Page.bank (0 : Fin 128)) Reg.TAR_OWNER ∧ s.runs (3 + (0 : Fin 128).val / 16) = true
       ∧ s.handover (0 : Fin 128) = true ∧ (s.bank (0 : Fin 128)).draining = true
       ∧ (s.bank (0 : Fin 128)).clearing = false ∧ bit (s.reg (Page.bank (0 : Fin 128)) Reg.TAR_OWNER) 31 = false ∧ s.tarn.held = [])
    ∧ (let s := owned { power := 2, clearing := true } idle5
       s.runs (3 + (0 : Fin 128).val / 16) = true ∧ (s.bank (0 : Fin 128)).clearing = true ∧ s.tarn.held = [])
    ∧ (bankOn.takes fw (Page.bank (0 : Fin 128)) Reg.TAR_PWR ∧ powerCode (fld (1 : W32) 1 0) ≠ (bankOn.bank (0 : Fin 128)).power)
    ∧ (∀ x ∈ [0, 1],
       let s := owned { power := 2, powerReq := some x } idle5
       (s.bank (0 : Fin 128)).powerReq = some x ∧ x < 2 ∧ s.runs (3 + (0 : Fin 128).val / 16) = true
       ∧ (s.bank (0 : Fin 128)).clearing = false) := by unfold State.takes; decide +kernel

/-! ## Witnesses: the fabric and messages -/

/-- An event of step 5 for cell 16, in block 1, of this chip. -/
def eastEvent : Packet := mkPacket 1 State.reset.chipId 1 1 false [16 * 2 ^ 21]
def flit (router port tries wait : Nat) : Flit := { router := router, port := port, pkt := eastEvent, tries := tries, wait := wait }
def withFlit (f : Flit) (linked : Bool) (s : State) : State :=
  { s with fabric := if linked then { links := [f] } else { bufs := [f] } }

theorem wit_RoutersMovePackets :
    (∀ tries ∈ [0, 1],
      let f := flit 0 4 tries 0
      let s := withFlit f true open5
      s.fabric.links.find? (fun f => f.router == (0 : Fin 272).val && f.port == (4 : Fin 13).val) = some f
      ∧ s.runs (routerDomain (0 : Fin 272)) = true ∧ s.bufCount (0 : Fin 272) (4 : Fin 13) f.pkt.vc < bufPlaces f.pkt.vc
      ∧ f.pkt.headerOk = true ∧ malformed f.pkt = false ∧ f.pkt.chip = s.chipId
      ∧ s.stepOfPar f.pkt.par f.pkt.late = s.stepNo ∧ s.tooOld s.stepNo = false ∧ f.tries = tries)
    ∧ (let f := flit 0 4 0 0
       let s := regsSet [(routerPage 0, Reg.FAB_TABLE, (2 ^ 15 + 2 ^ 13 + 4 * 2 ^ 9) * 2 ^ 16)] (withFlit f false open5)
       s.runs (routerDomain (0 : Fin 272)) = true ∧ s.slotChoice (0 : Fin 272) (0 : Fin 12) (1 : Fin 64) = some (f, false)
       ∧ nextRouter (0 : Fin 272) (0 : Fin 12) = some (1, 1))
    ∧ (let f := flit 0 4 0 65535
       let s := withFlit f false open5
       f ∈ s.fabric.bufs ∧ f.router = (0 : Fin 272).val ∧ f.pkt.vc = 1
       ∧ max 1 (s.regFld (routerPage (0 : Fin 272)) Reg.FAB_STARVE 15 0) ≤ f.wait ∧ s.runs (routerDomain (0 : Fin 272)) = true)
    ∧ (let p := routerPage 128
       pageKind p = .fabNode ∧ State.reset.takes fw p Reg.FAB_SWAP ∧ State.reset.swapOk p = true ∧ State.reset.running = false
       ∧ idle5.takes fw p Reg.FAB_SWAP ∧ idle5.swapOk p = true ∧ idle5.running = true
       ∧ (let s := regsSet [(p, Reg.FAB_SHADOW, 0x80000000)] State.reset
          s.takes fw p Reg.FAB_SWAP ∧ s.swapOk p = false)
       ∧ (let s := regsSet [(p, Reg.FAB_SWAP, 1)] idle5
          p < 0x100000 ∧ bit (s.reg p Reg.FAB_SWAP) 0 = true ∧ s.takes fw p (Reg.FAB_SHADOW + 0x5FC))) := by
  unfold State.takes; decide +kernel

/-- Region 0 with one spike record of cell 0, whose chain is route entry 5 alone. -/
def spike5 : Spike := { cell := 0, first := 5, count := 1, graded := none, off := 0, step := 5 }
def chain5 : Chain := { region := 0, next := 5, left := 1, graded := none, off := 0, step := 5 }
def chained (w2 : W32) : State :=
  regsSet [((routeKey 0 5).1, (routeKey 0 5).2 + 8, w2)] { open5 with fabric := { chains := [chain5] } }

theorem wit_RouteTablesAndEngines :
    (∀ n ∈ [0, 256],
      let s : State := { idle5 with fabric := { posts := List.replicate n (0, .word 0 0) } }
      postedWindow 0x20000 = true ∧ s.takes fw 0x20000 8 ∧ windowRegion 0x20000 = 0 ∧ s.running = true
      ∧ (n = 0 → s.routePosts (windowRegion 0x20000) < 256) ∧ (n = 256 → 256 ≤ s.routePosts (windowRegion 0x20000)))
    ∧ (State.reset.takes fw 0x20000 8 ∧ State.reset.running = false)
    ∧ (State.reset.mayRead fw (Page.region (0 : Fin 8) + 0x08) Reg.RTE_ALLOC = true
      ∧ State.reset.routeFree (0 : Fin 8) 262143 = true)
    ∧ (idle5.takes fw (Page.region (0 : Fin 8) + 0x08) Reg.RTE_RELEASE ∧ idle5.routePosts (0 : Fin 8) < 256)
    ∧ (let s : State := { open5 with fabric := { spikes := [spike5], chains := List.replicate 3 chain5 } }
       s.fabric.spikes.find? (fun k => k.cell / 256 == (0 : Fin 8).val) = some spike5 ∧ s.runs (3 + (0 : Fin 8).val) = true
       ∧ (s.chainsOf (0 : Fin 8)).length < 4)
    ∧ (∀ x ∈ [0, 0x80000000, 0x90000000],
       let w2 : W32 := BitVec.ofNat 32 x
       let s := chained w2
       (s.chainsOf (0 : Fin 8))[(0 : Fin 4).val]? = some chain5 ∧ s.runs (3 + (0 : Fin 8).val) = true ∧ chain5.words = []
       ∧ s.routeWord (0 : Fin 8) chain5.next 2 = w2 ∧ chain5.left = 1 ∧ chain5.graded = none ∧ s.tooOld chain5.step = false
       ∧ (x = 0x90000000 → fld w2 30 28 ≠ 0 ∧ fld w2 30 28 ≠ s.regFld (gateKey (0 : Fin 8) (fld w2 27 16)).1
            (gateKey (0 : Fin 8) (fld w2 27 16)).2 2 0))
    ∧ (let c : Chain := { chain5 with left := 2 }
       let s : State := { chained 0x90000000 with fabric := { chains := [c, c] } }
       (s.chainsOf (0 : Fin 8))[(1 : Fin 4).val]? = some c ∧ s.runs (3 + (0 : Fin 8).val) = true ∧ c.words = []
       ∧ s.routeWord (0 : Fin 8) c.next 2 = 0x90000000 ∧ 1 < c.left) := by unfold State.takes; decide +kernel

/-- With every entry of region 0 taken, none is free. -/
def allTaken (n : Nat) : State := { State.reset with fabric := { taken := List.range n } }

theorem wit_RouteTablesAndEngines_full : ∀ n i, i < n → (allTaken n).routeFree (0 : Fin 8) i = false := by
  intro n i h
  simp [State.routeFree, allTaken, h]

/-- A message of a secure sender. -/
def message (handler dest : Nat) (args : List W32) : Packet :=
  mkPacket 3 State.reset.chipId 2 1 false
    ([BitVec.ofNat 32 (handler * 2 ^ 24 + 2 ^ 23 + dest), 0x10000] ++ args)
def atBlock (p : Packet) (s : State) : State := { s with fabric := { blockIn := [(0, p)] } }
def atNode (n : Nat) (p : Packet) (s : State) : State := { s with fabric := { unitIn := [(n, p)] } }

/-- The hypotheses that every cell handler shares, for cell 0 and queue 3. -/
def atCell (s : State) (h : Nat) : Bool :=
  match s.blockMsg 0 with
  | some x => s.runs 11 && msgCell x.2 == 0 && msgQueue x.2 == 3 && msgHandler x.2 == h && msgSec x.2 && !(s.msgLate x.2)
      && !(s.offline 0) && !(s.fenced 0) && s.running
  | none => false

theorem wit_CellHandlersAnswer :
    (∀ cap ∈ [1, 0],
      let s := atBlock (message 1 3 [9]) (arriving cap)
      atCell s 1 = true ∧ (cap = 1 → s.judge 0 3 9 = .placed) ∧ (cap = 0 → s.judge 0 3 9 = .full))
    ∧ atCell (atBlock (message 2 3 [7]) open5) 2 = true
    ∧ (atCell (atBlock (message 3 3 [7, 1, 2]) open5) 3 = true ∧ (open5.postsOf 0).length < 64)
    ∧ (atCell (atBlock (message 4 3 [0, 0xE0000000, 0, 0]) open5) 4 = true
      ∧ open5.profileOk 0 0 0 [0xE0000000, 0, 0] = false ∧ open5.profileOk 0 0 0 [0, 0, 0] = true)
    ∧ (∀ h ∈ [5, 6],
      let s := atBlock (message h 3 []) ({ open5 with cells := { mapped := true } }.setQword 0 3 0 0x80000000)
      atCell s h = true ∧ s.qstate 0 3 = 2 ∧ (atBlock (message h 3 []) (arriving 1)).qstate 0 3 ≠ 2
      ∧ atCell (atBlock (message h 3 []) (arriving 1)) h = true) := by decide +kernel

/-- A state in which cell 0, queue 3 has one row of format 2 and two words at DRAM offset 64, its entry at offset 0. -/
def withRow (s : State) : State :=
  let s := { s with cells := { mapped := true } }.setQword 0 3 0 1
  s.setBytes Base.dram (leBytes 8 (2 * 2 ^ 48 + 2 * 2 ^ 44 + 2 ^ 40 + 64))

theorem wit_OtherHandlersAnswer :
    (∀ h ∈ [7, 8, 9],
      let s := atBlock (message h 3 [0, 1]) (withRow State.reset)
      let p := message h 3 [0, 1]
      let e := s.msgEntry 0 p
      s.blockMsg (0 : Fin 128) = some (0, p) ∧ s.runs (11 + (0 : Fin 128).val) = true ∧ msgCell p = 0 ∧ msgQueue p = 3
      ∧ msgHandler p = h ∧ s.offline 0 = false ∧ s.fenced 0 = false ∧ msgSec p = true ∧ s.msgLate p = false
      ∧ s.rowArgBad 0 p = none ∧ Entry.plastic e = false ∧ fld (msgArg p 0) 31 16 < Entry.len e + 2
      ∧ Entry.addr e + 4 * min 5 (Entry.len e + 2) ≤ dramBytes s.grade ∧ s.poison = [] ∧ msgArgs p = 2 ∧ 2 ≤ Entry.rfmt e
      ∧ Entry.addr e % 64 + 4 ≤ 64 ∧ s.running = false)
    ∧ (∀ h ∈ [0xA, 0xB, 0xC],
      let p := message h 0 [5, 1]
      let s := atNode 0 p open5
      s.regionMsg (0 : Fin 8) = some (0, p) ∧ s.runs (3 + (0 : Fin 8).val) = true ∧ msgSec p = true ∧ s.msgLate p = false
      ∧ s.running = true ∧ msgHandler p = h ∧ s.routeFree (0 : Fin 8) 262143 = true ∧ s.lowestFree (0 : Fin 8) ≠ none
      ∧ s.routePosts (0 : Fin 8) < 256)
    ∧ (let p := message 0 0 []
       let s := atNode 4 p open5
       s.fabric.unitIn = ((4 : Fin 8).val, p) :: [] ∧ p.ty = 3 ∧ s.clocked = true ∧ s.msgLate p = false ∧ msgHandler p = 0)
    ∧ (let p := message 0x40 15 []
       let s := regsSet [(Page.engine 15, Reg.CHN_HMASK0, 1)] (atNode 4 p open5)
       s.fabric.unitIn = ((4 : Fin 8).val, p) :: [] ∧ p.ty = 3 ∧ s.clocked = true ∧ s.msgLate p = false ∧ 0x40 ≤ msgHandler p
       ∧ msgDest p % 16 = 15 ∧ 15 < s.grade.crests ∧ s.handlerOn 15 (msgHandler p) = true ∧ msgSec p = true
       ∧ (s.engine 15).rx.length < 256)
    ∧ (State.reset.takes fw (Page.engine (15 : Fin 20)) Reg.CHN_RX_NEXT ∧ bit (1 : W32) 0 = true ∧ (15 : Fin 20).val < 16) := by
  unfold State.takes; decide +kernel

/-- A message that engine 0 has sent to handler 7 and whose answer carries DONE and no data. -/
def sentMsg (backoff : Option Nat) : Outstanding :=
  { packet := message 7 3 [0], tag := 5, handler := 7, chip := 0, dest := 3, notify := false, sentAt := 0, backoff := backoff }
def answerTo (sender tag : Nat) : Packet :=
  mkPacket 4 State.reset.chipId 2 1 false [BitVec.ofNat 32 (sender * 2 ^ 12 + tag), BitVec.ofNat 32 (7 * 2 ^ 24 + 3)]
def engine0 (x : Engine) (s : State) : State := { s with engines := [(0, x)] }

theorem wit_SendEnginesComplete :
    (let s := engine0 { out := List.replicate 64 (sentMsg none) } State.reset
     s.takes fw (Page.engine (0 : Fin 20)) Reg.CHN_TX_GO ∧ (s.engine (0 : Fin 20)).credits = 0)
    ∧ (∀ x ∈ [0x80000000, 0],
       let hi : W32 := BitVec.ofNat 32 x
       let s := regsSet [((channelKey 0).1, (channelKey 0).2 + 4, hi)] State.reset
       let ch := s.channel (s.regFld (Page.engine (0 : Fin 20)) Reg.CHN_TX_CHAN 14 0)
       s.takes fw (Page.engine (0 : Fin 20)) Reg.CHN_TX_GO ∧ (s.engine (0 : Fin 20)).credits ≠ 0 ∧ bit ch.2 31 = bit hi 31
       ∧ bit ch.2 30 = false ∧ fld ch.2 29 28 = 0)
    ∧ (∀ tag ∈ [5, 6],
       let p := answerTo 0 tag
       let s := engine0 { out := [sentMsg none] } (atNode 4 p open5)
       s.fabric.unitIn = ((4 : Fin 8).val, p) :: [] ∧ p.ty = 4 ∧ s.clocked = true ∧ fld (p.word 1) 19 12 = (0 : Fin 20).val
       ∧ (tag = 5 → (s.engine (0 : Fin 20)).out.find? (fun o => o.awaits p) = some (sentMsg none)
            ∧ fld (p.word 2) 23 20 = Code.done ∧ p.count = 2 ∧ (sentMsg none).notify = false)
       ∧ (tag = 6 → (s.engine (0 : Fin 20)).out.find? (fun o => o.awaits p) = none))
    ∧ (let s : State := { engine0 { out := [sentMsg (some 64)] } open5 with elapsed := 64 }
       (s.engine (0 : Fin 20)).out = sentMsg (some 64) :: [] ∧ s.clocked = true ∧ (sentMsg (some 64)).backoff = some 64 ∧ 64 ≤ s.elapsed)
    ∧ (let s : State := { engine0 { out := [sentMsg none] } open5 with elapsed := 10 ^ 10 }
       (s.engine (0 : Fin 20)).out = sentMsg none :: [] ∧ s.clocked = true ∧ (sentMsg none).backoff = none
       ∧ (sentMsg none).sentAt + s.msgTimeout (0 : Fin 20) ≤ s.elapsed)
    ∧ (State.reset.mayRead fw (Page.engine (0 : Fin 20)) Reg.CHN_CQ_POP = true ∧ (State.reset.engine (0 : Fin 20)).cq = []
       ∧ (let s := engine0 { cq := [{ lo := 1, hi := 2, data := [] }] } State.reset
          s.mayRead fw (Page.engine (0 : Fin 20)) Reg.CHN_CQ_POP = true
          ∧ (s.engine (0 : Fin 20)).cq = { lo := 1, hi := 2, data := [] } :: [])) := by unfold State.takes; decide +kernel

/-! ## Witnesses: learning -/

/-- Region 0 sweeps a list of one queue, cell 0's queue 0, whose list stands at DRAM offset 256 and row table at 0. -/
def sweeping (x : Sweeper) : State :=
  let s := regsSet [(Page.lrnRegion 0, Reg.LRN_RSW_COUNT, 1), (Page.lrnRegion 0, Reg.LRN_RSW_LIST, 256)] idle5
  let s := s.setBytes Base.dram (leBytes 8 (2 ^ 41 + 2 ^ 40 + 16))
  let s := s.setBytes (Base.dram + 16) (leBytes 8 (2 * 2 ^ 24 + 5))
  { s with learn := { s.learn with sweepers := [(0, x)] } }

theorem wit_LearningEnginesAct :
    (∀ row ∈ [0, 1],
      let s := sweeping { busy := true, row := row }
      let x := s.sweeper (0 : Fin 8)
      let i := s.sweepQueue (0 : Fin 8) x.entry
      let c := bitsOf i 19 9
      let q := bitsOf i 8 0
      let tbl := s.qrowt c q + 8 * x.row
      s.runs (3 + (0 : Fin 8)) = true ∧ x.busy = true ∧ x.entry < s.sweepCount (0 : Fin 8)
      ∧ (row = 1 → s.qrowsM1 c q < x.row)
      ∧ (row = 0 → s.offline c = false ∧ c / 256 = (0 : Fin 8).val ∧ x.row ≤ s.qrowsM1 c q
        ∧ s.rowRefused tbl (s.entryAt tbl) = false ∧ Entry.plastic (s.entryAt tbl) = true
        ∧ s.rowBusy c (Entry.addr (s.entryAt tbl)) = false ∧ (s.loadRow c tbl (s.entryAt tbl)).stamp = s.epoch % 4
        ∧ (s.stepNo + 128 - (s.loadRow c tbl (s.entryAt tbl)).age) % 128 < 64))
    ∧ (let s0 := sweeping { busy := true }
       let s : State := { s0 with cells := { s0.cells with items := [item1 .row (2 ^ 41 + 2 ^ 40 + 16)] } }
       s.rowBusy 0 (Entry.addr (s.entryAt 0)) = true)
    ∧ (let s := sweeping { busy := true, entry := 1, epoch := 0 }
       s.sweepCount (0 : Fin 8) ≤ (s.sweeper (0 : Fin 8)).entry ∧ (s.sweeper (0 : Fin 8)).due = false
       ∧ (s.sweeper (0 : Fin 8)).epoch = s.epoch)
    ∧ (let k : Checkpoint := { buf := 1, epoch := 3, step := 4000, neurons := [], learn := [] }
       let s : State := { idle5 with learn := { ckpt := some k } }
       s.learn.ckpt = some k ∧ k.buf < 2 ∧ s.clocked = true)
    ∧ (∀ t ∈ [State.reset, idle5], ∀ off ∈ [Reg.LRN_RULESET, Reg.LRN_RULESET + 0xFC],
       Reg.LRN_RULESET ≤ off ∧ off < Reg.LRN_RULESET + 0x100 ∧ off % 4 = 0 ∧ t.takes fw Page.lrn off)
    ∧ (State.reset.running = false ∧ idle5.running = true
       ∧ (Reg.LRN_RULESET + 4) / 4 % 4 = 1 ∧ fld (0x600 : W32) 10 9 = 3 ∧ fld (0x400 : W32) 10 9 ≠ 3)
    ∧ (let t := State.reset
       let last := (dramBytes t.grade - 2 * 0xE000000) / 2 ^ 20 * 2 ^ 20
       t.takes fw Page.lrn Reg.LRN_CKPT_BASE ∧ t.reg64 (Page.die 0) Reg.DRM_SYN_LIMIT ≤ t.reg64 (Page.die 0) Reg.DRM_SYN_BASE
       ∧ bitsOf last 35 20 * 2 ^ 20 + 2 * 0xE000000 ≤ dramBytes t.grade
       ∧ dramBytes t.grade < bitsOf (last + 2 ^ 20) 35 20 * 2 ^ 20 + 2 * 0xE000000) := by unfold State.takes; decide +kernel

/-! ## Witnesses: the Plateau arrays -/

/-- A descriptor (R306): operation, formats of A, B and O, m, n, k, SUB, scale 1 for each operand, and A, B and O at the first
three KiB of array 0's SRAM. -/
def desc (op a b o m n k sub : Nat) : List W32 :=
  [BitVec.ofNat 32 (op * 2 ^ 26 + a * 2 ^ 16 + b * 2 ^ 12 + o * 2 ^ 8), BitVec.ofNat 32 (m * 2 ^ 16 + n),
   BitVec.ofNat 32 (k * 2 ^ 16 + sub * 2 ^ 8), 0, if op = 3 then 0x01010100 else 0, 0x10000, 0x10000, 0x10000]
  ++ [0, 1024, 2048].flatMap (fun x => [BitVec.ofNat 32 ((Base.plt + x) % 2 ^ 32), BitVec.ofNat 32 ((Base.plt + x) / 2 ^ 32)])
  ++ [0, 0]

def pltJob (ring : Bool) (w : List W32) (status : Option Nat) : PltJob :=
  { ring := ring, index := 0, words := w, step := 5, tick := 0, id := 1, status := status }

/-- Array 0 is enabled, with a job in progress and others that have not started. -/
def atArray (x : PltState) (ctrl : W32) : State :=
  { regsSet [(Page.plt 0, Reg.PG_CTRL, 1), (Page.plt 0, Reg.PLT_CTRL, ctrl)] idle5 with plts := [(0, x)] }
def running (j : PltJob) : State := atArray { job := some j } 0

/-- One descriptor per operation that is well formed, and the same with formats that no operation takes. -/
def descs : List (List W32) :=
  [desc 0 0 0 0 0 0 0 0, desc 1 2 2 4 2 2 2 0, desc 2 2 2 4 2 2 2 0, desc 3 2 2 4 2 2 2 0, desc 4 7 0 7 1 8 0 0,
   desc 5 2 2 2 2 2 0 0, desc 6 2 0 4 2 2 0 0, desc 7 7 0 7 2 2 0 0, desc 8 9 0 2 2 2 0 0, desc 9 2 0 9 2 2 0 0,
   desc 0x10 0 0 2 0 4 2 0, desc 0x11 2 0 0 2 2 0 0, desc 0x18 9 0 9 2 2 0 0, desc 0x19 7 0 7 2 2 0 0]

theorem wit_PlateauOperationsRun :
    descs.map (fun w => (pltJob false w none).op) = [0, 1, 2, 3, 4, 5, 6, 7, 8, 9, 0x10, 0x11, 0x18, 0x19]
    ∧ (∀ w ∈ descs,
      let j := pltJob false w none
      let s := running j
      (s.plt (0 : Fin 4)).job = some j ∧ j.status = none ∧ s.runs (139 + (0 : Fin 4)) = true
      ∧ s.enabled (Page.plt (0 : Fin 4)) = true ∧ s.pltHeld j = false ∧ j.formatOk = true ∧ j.shapeOk = true ∧ s.poison = []
      ∧ (∀ y ∈ j.operands.all, pltSram (0 : Fin 4) ≤ y.addr ∧ y.addr + max 1 y.bytes ≤ pltSram (0 : Fin 4) + 0x1000000))
    ∧ (∀ op ∈ [1, 2, 3, 4, 5, 6, 7, 8, 9, 0x10, 0x11, 0x18, 0x19],
      let j := pltJob false (desc op 15 15 15 2 2 2 0) none
      let s := running j
      (s.plt (0 : Fin 4)).job = some j ∧ j.op = op ∧ j.status = none ∧ s.runs (139 + (0 : Fin 4)) = true
      ∧ s.enabled (Page.plt (0 : Fin 4)) = true ∧ s.pltHeld j = false ∧ j.formatOk = false) := by decide +kernel

theorem wit_IntegerGemmIsExact :
    let j := pltJob false (desc 1 2 2 4 2 2 2 0) none
    let s := running j
    (s.plt (0 : Fin 4)).job = some j ∧ j.op = 0x01 ∧ j.status = none ∧ s.runs (139 + (0 : Fin 4)) = true
    ∧ s.enabled (Page.plt (0 : Fin 4)) = true ∧ s.poison = [] ∧ j.formatOk = true ∧ j.shapeOk = true
    ∧ j.fmtA = 2 ∧ j.fmtB = 2 ∧ j.fmtO = 4 ∧ j.fp32Acc = false ∧ (∀ i, i < 3 → j.mult i = 1 ∧ j.exp i = 0)
    ∧ (∀ y ∈ j.operands.all, pltSram (0 : Fin 4) ≤ y.addr ∧ y.addr + max 1 y.bytes ≤ pltSram (0 : Fin 4) + 0x1000000)
    ∧ j.operands.a.isSome = true ∧ j.operands.b.isSome = true ∧ j.operands.o.isSome = true := by decide +kernel

/-- A result of the same multiplication: S8 matrices [[1, 2], [3, −4]] and [[5, 6], [7, 8]]. -/
theorem test_gemm_s8 :
    let j := pltJob false (desc 1 2 2 4 2 2 2 0) none
    let s := ((running j).setBytes (pltSram 0) [1, 2, 3, 0xFC]).setBytes (pltSram 0 + 1024) [5, 6, 7, 8]
    ((s.pltRun 0 1 (pltGemm [])).bytes (pltSram 0 + 2048) 16)
      = leBytes 4 19 ++ leBytes 4 22 ++ leBytes 4 (2 ^ 32 - 13) ++ leBytes 4 (2 ^ 32 - 14) := by decide +kernel

theorem wit_PlateauJobsEndAndYield :
    (∀ ring ∈ [false, true],
      let j := pltJob ring (desc 0 0 0 0 0 0 0 0) (some 0)
      let s := running j
      (s.plt (0 : Fin 4)).job = some j ∧ j.status = some 0 ∧ s.runs (139 + (0 : Fin 4)) = true ∧ s.dram.reqs = []
      ∧ (s.plt (0 : Fin 4)).program = [] ∧ bit (s.reg (Page.plt (0 : Fin 4)) Reg.PLT_CTRL) 1 = false ∧ j.ring = ring
      ∧ j.irq = false)
    ∧ (let j := pltJob true (desc 1 2 2 4 2 2 2 0) none
       let r := pltJob false (desc 1 2 2 4 2 2 2 0) none
       let s := atArray { job := some j, program := [r] } 2
       (s.plt (0 : Fin 4)).job = some j ∧ j.ring = true ∧ (s.plt (0 : Fin 4)).abort = false ∧ s.runs (139 + (0 : Fin 4)) = true
       ∧ s.pltReady (0 : Fin 4) = true ∧ (s.plt (0 : Fin 4)).program.head? = some r
       ∧ presentIn s.grade (Page.plt (0 : Fin 4)) = true ∧ s.enabled (Page.plt (0 : Fin 4)) = true
       ∧ s.faulted (Page.plt (0 : Fin 4)) = false ∧ s.takes fw (Page.plt (0 : Fin 4)) Reg.PLT_CTRL
       ∧ s.takesWo fw (Page.plt (0 : Fin 4)) Reg.PLT_CTRL)
    ∧ (let s := atArray {} 0
       s.takes fw (Page.plt (0 : Fin 4)) Reg.PLT_DT_TAIL ∧ bit (s.reg (Page.plt (0 : Fin 4)) Reg.PLT_CTRL) 1 = false
       ∧ (s.plt (0 : Fin 4)).program = [])
    ∧ (∀ ctrl ∈ [0, 4, 12],
       let s := atArray {} (BitVec.ofNat 32 ctrl)
       let l : List Byte := [1, 2, 3, 4]
       s.serves fw = true ∧ presentIn s.grade (Page.plt (0 : Fin 4)) = true ∧ sideAligned 0xFFFFFC l.length = true
       ∧ 0xFFFFFC + l.length ≤ 0x1000000
       ∧ (ctrl = 0 → bit (s.reg (Page.plt (0 : Fin 4)) Reg.PLT_CTRL) 2 = false)
       ∧ (ctrl = 4 → bit (s.reg (Page.plt (0 : Fin 4)) Reg.PLT_CTRL) 2 = true)
       ∧ (ctrl = 12 → bit (s.reg (Page.plt (0 : Fin 4)) Reg.PLT_CTRL) 2 = true
         ∧ bit (s.reg (Page.plt (0 : Fin 4)) Reg.PLT_CTRL) 3 = true)) := by unfold State.takes State.takesWo; decide +kernel

/-! ## Witnesses: signal ingress and sensors -/

/-- One lane, two converters of 16 bits, CRC checked; link 0 with that word and a lane rate, in a state. -/
def lcfg (on : Nat) : W32 := BitVec.ofNat 32 (2 ^ 24 + 2 * 2 ^ 20 + 15 * 2 ^ 14 + 2 + on)
def link0 (on st : Nat) : State :=
  let s := regsSet [(Page.ing, Reg.ING_LCFGk, lcfg on), (Page.ing, Reg.ING_LRATEk, 16000),
    (Page.ing, Reg.ING_LSTATk, BitVec.ofNat 32 (st * 2 ^ 29)), (Page.ing, Reg.ING_SYSREF_CTRL, 1)] idle5
  { s with ingress := { lemc := if st = 3 then [0] else [] } }

/-- Channel 3 in a mode, on link 0, with its parameter word and state. -/
def channel (mode param : Nat) (e : EncState) (s : State) : State :=
  let pg := Page.enc 3
  let s := regsSet [(pg, Reg.ENC_CFG, BitVec.ofNat 32 (mode * 2 ^ 29)), (pg, Reg.ENC_PARAM, BitVec.ofNat 32 param),
    (pg, Reg.ENC_UP + 4, 0x80000000), (pg, Reg.ENC_DOWN + 4, 0x80000000), (pg, Reg.ENC_THR0, 0x00640000)] s
  { s with ingress := { s.ingress with enc := [(3, e)] } }

theorem wit_JesdLinksCarrySamples :
    (∀ lanes ∈ [0, 1],
      let v : W32 := BitVec.ofNat 32 (lanes * 2 ^ 24 + 2 * 2 ^ 20 + 15 * 2 ^ 14)
      let s := link0 0 0
      s.takes fw Page.ing (Reg.ING_LCFGk + 0x20 * (0 : Fin 4).val) ∧ s.linkOn (0 : Fin 4) = false
      ∧ (lanes = 0 → s.linkRefused (0 : Fin 4) ((v ||| 1) &&& 0xFFFFFFC3) = true)
      ∧ (lanes = 1 → s.linkRefused (0 : Fin 4) ((v ||| 1) &&& 0xFFFFFFC3) = false))
    ∧ (∀ st ∈ [0, 1, 2, 3, 4],
      let s := link0 1 st
      s.clocked = true ∧ s.linkOn (0 : Fin 4) = true ∧ s.linkState (0 : Fin 4) = st
      ∧ (st = 3 → (0 : Fin 4).val ∈ s.ingress.lemc))
    ∧ (let s := channel 3 0 {} (link0 1 4)
       s.linkState (0 : Fin 4) = 4 ∧ s.encRunning 3 = true ∧ s.encLink 3 = (0 : Fin 4).val
       ∧ (false || !(bit (s.reg Page.ing Reg.ING_LCFGk) 1)) = false ∧ (true || !(bit (s.reg Page.ing Reg.ING_LCFGk) 1)) = true)
    ∧ (let s := link0 1 2
       s.clocked = true ∧ s.grade.ingress = true ∧ s.regFld Page.ing Reg.ING_SYSREF_CTRL 1 0 = 1 ∧ s.linkOn 0 = true
       ∧ s.linkState 0 ≠ 4) := by unfold State.takes; decide +kernel

/-- A sample of channel 3 in a mode while node 7's input buffer is full; LEVEL has thresholds 0 and 100 and hysteresis 5. -/
def sample (i : Int) : DecSample := { i := i, q := 0, bad := 0 }
def encoding (mode param : Nat) (e : EncState) (i : Int) : State :=
  channel mode param { e with first := false, samples := [sample i] }
    { idle5 with fabric := { bufs := List.replicate 8 (flit 135 11 0 0) } }

theorem wit_EncoderChannelsEncode :
    (let v : W32 := BitVec.ofNat 32 (3 * 2 ^ 29 + 2 ^ 17)
     let s := channel 0 0 {} (link0 1 4)
     s.takes fw (Page.enc (3 : Fin 64)) Reg.ENC_CFG ∧ fld v 31 29 ≠ 0 ∧ fld v 31 29 ≠ 7 ∧ s.encRunning (3 : Fin 64) = false
     ∧ s.faulted (Page.enc (3 : Fin 64)) = false ∧ s.encStartOk (3 : Fin 64) (v &&& 0xEFFFC000) = true
     ∧ s.encStartOk (3 : Fin 64) ((0x40000000 : W32) &&& 0xEFFFC000) = false)
    ∧ (∀ run ∈ [true, false],
      let s := if run then encoding 2 10 {} 0 else channel 2 10 {} State.reset
      s.takes fw (Page.enc (3 : Fin 64)) Reg.ENC_CFG ∧ s.takes fw (Page.enc (3 : Fin 64)) Reg.ENC_PARAM
      ∧ s.encRunning (3 : Fin 64) = true ∧ s.encMode (3 : Fin 64) = 2 ∧ s.running = run)
    ∧ (¬ (1 ≤ fld (BitVec.truncate 32 (0 : W64)) 15 0) ∧ fld (BitVec.truncate 32 (32767 : W64)) 15 0 ≤ 32767
       ∧ 1 ≤ fld (BitVec.truncate 32 (32767 : W64)) 15 0) := by unfold State.takes; decide +kernel

theorem wit_EncoderChannelsEncode_modes :
    (∀ x ∈ ([(1, 0), (2, 5), (3, 6), (4, 5), (5, 5)] : List (Nat × Int)),
      let s := encoding x.1 (if x.1 = 1 then 2 * 2 ^ 16 + 5 else 5) {} x.2
      let e := s.encState (3 : Fin 64)
      let up := s.reg64 (Page.enc (3 : Fin 64)) Reg.ENC_UP
      let down := s.reg64 (Page.enc (3 : Fin 64)) Reg.ENC_DOWN
      s.encClock = true ∧ s.encRunning (3 : Fin 64) = true ∧ e.samples = sample x.2 :: [] ∧ e.first = false
      ∧ s.regFld (Page.enc (3 : Fin 64)) Reg.ENC_CFG 27 26 = 0 ∧ s.node7Credit = false ∧ s.encMode (3 : Fin 64) = x.1
      ∧ e.events.length + 16 ≤ 256 ∧ emitValid up = true ∧ emitKind up = 0 ∧ emitValid down = true ∧ emitKind down = 0)
    ∧ (let thr := encThr ((encoding 1 (2 * 2 ^ 16 + 5) {} 0).reg (Page.enc (3 : Fin 64)))
       (thr 0 < thr 1)
       -- up from level 0: 99 passes the first threshold, 100 both; down from level 2: 94 passes one, −6 both
       ∧ (thr 0 ≤ 99 ∧ 99 < thr 1) ∧ (thr 0 ≤ 100 ∧ thr 1 ≤ 100)
       ∧ (94 < thr 1 - 5 ∧ thr 0 - 5 ≤ 94) ∧ (-6 < thr 1 - 5 ∧ -6 < thr 0 - 5)) := by decide +kernel

/-- A BLOCK channel of 8 points whose bank is BLOCK-owned, or another's. -/
def blocking (owned : Bool) (pos : Nat) : State :=
  let s := channel 6 0 { first := false, samples := [sample 1], blkPos := pos, done := [7] } idle5
  let s := regsSet [(Page.enc 3, Reg.ENC_BLK_CFG, 3)] s
  let s := if owned then regsSet [(Page.bank 0, Reg.TAR_OWNER_ACK, 5), (Page.bank 0, Reg.TAR_SIDE, 3)] s else s
  { s with tarn := { s.tarn with banks := [(0, { (s.bank 0) with power := 2 })] } }

theorem wit_EncoderChannelsEncode_blocks :
    (∀ pos ∈ [0, 7],
      let s := blocking true pos
      let e := s.encState (3 : Fin 64)
      s.encClock = true ∧ s.encRunning (3 : Fin 64) = true ∧ e.samples = sample 1 :: [] ∧ s.encMode (3 : Fin 64) = 6
      ∧ e.blkPos < 2 ^ s.blkLog (3 : Fin 64) ∧ s.blkAdmits (3 : Fin 64) = true
      ∧ (pos = 0 → e.blkPos + 1 < 2 ^ s.blkLog (3 : Fin 64)) ∧ (pos = 7 → e.blkPos + 1 = 2 ^ s.blkLog (3 : Fin 64))
      ∧ e.done = 7 :: [] ∧ s.clocked = true ∧ s.blkCount (3 : Fin 64) = 0)
    ∧ (blocking false 0).blkAdmits (3 : Fin 64) = false := by decide +kernel

/-- CSI-2 receiver 0 is on and locked; template 0 serves data type 0x30 of virtual channel 0 with 16-bit words; it feeds map 0. -/
def sensor (ctrl : Nat) (s : State) : State :=
  regsSet [(Page.evc 0, Reg.EVC_CTRL, 1), (Page.evc 0, Reg.EVC_STAT, 0x80000000),
    (Page.evc 0, Reg.EVC_TPL, BitVec.ofNat 32 (2 ^ 31 + 0x30 * 2 ^ 21)), (Page.aer 0, Reg.AER_CTRL, BitVec.ofNat 32 ctrl)] s
def sev (x : Nat) : SensorEvent := { src := 0, map := 0, x := x, y := 0, p := 0, t := none }

theorem wit_SensorsReachTheMap :
    (let s := sensor 0 idle5
     s.clocked = true ∧ bit (s.reg (Page.evc (0 : Fin 4)) Reg.EVC_CTRL) 0 = true
     ∧ bit (s.reg (Page.evc (0 : Fin 4)) Reg.EVC_STAT) 31 = true ∧ s.evcTakes (0 : Fin 4) = true
     ∧ (∀ i ∈ List.range 8, (bit (s.tpl (0 : Fin 4) i 0) 31 && fld (s.tpl (0 : Fin 4) i 0) 30 27 == (0 : Fin 16).val
         && fld (s.tpl (0 : Fin 4) i 0) 26 21 == (0x31 : Fin 64).val) = false)
     ∧ (bit (s.tpl (0 : Fin 4) 0 0) 31 && fld (s.tpl (0 : Fin 4) 0 0) 30 27 == (0 : Fin 16).val
         && fld (s.tpl (0 : Fin 4) 0 0) 26 21 == (0x30 : Fin 64).val) = true
     ∧ ([1, 2] : List Byte).length = tplSize (s.tpl (0 : Fin 4) 0 0) / 8 ∧ fld (s.tpl (0 : Fin 4) 0 0) 12 10 = 0
     ∧ fld (s.tpl (0 : Fin 4) 0 2) 31 27 = 0 ∧ s.sensorCount (0 : Fin 4) < 4096
     ∧ s.takes fw (Page.evc (0 : Fin 4)) (Reg.EVC_TPL + 4 * (0 : Fin 32).val)
     ∧ tplRefused 0 (0xA6000000 &&& tplMask 0) 0 0 = false ∧ tplRefused 0 (0xA5000000 &&& tplMask 0) 0 0 = true)
    ∧ (∀ n ∈ [0, 1024], ∀ ctrl ∈ [1, 3],
      let s0 := sensor ctrl idle5
      let s : State := { s0 with ingress := { aer := List.replicate n { port := 0, word := 0, t := 0 } } }
      s.runs (186 + (0 : Fin 2)) = true ∧ bit (s.reg (Page.aer (0 : Fin 2)) Reg.AER_CTRL) 0 = true
      ∧ (0 : Fin 2).val ∉ s.ingress.aerAck ∧ (∀ x ∈ s.ingress.aerHeld, x.port ≠ (0 : Fin 2).val)
      ∧ (n = 0 → s.aerFifo (0 : Fin 2) < 1024) ∧ (n = 1024 → 1024 ≤ s.aerFifo (0 : Fin 2))
      ∧ bit (s.reg (Page.aer (0 : Fin 2)) Reg.AER_CTRL) 1 = decide (ctrl = 3))
    ∧ (let w : AerWord := { port := 0, word := 1, t := 0 }
       let s : State := { idle5 with ingress := { aerHeld := [w] } }
       s.ingress.aerHeld.find? (fun y => y.port == (0 : Fin 2).val) = some w ∧ s.runs (186 + (0 : Fin 2)) = true
       ∧ s.aerFifo (0 : Fin 2) < 1024)
    ∧ (∀ x ∈ [0, 1],
       let s : State := { idle5 with ingress := { events := [sev x] } }
       (0 : Fin 6).val < 4 ∧ s.ingress.events.find? (fun x => x.src == (0 : Fin 6).val) = some (sev x)
       ∧ s.clocked = true ∧ s.node7Credit = true ∧ s.ingress.misses.length < 64
       ∧ (x = 1 → 2 ^ s.mapX (sev x).map ≤ (sev x).x) ∧ (x = 0 → ¬ (2 ^ s.mapX (sev x).map ≤ (sev x).x ∨ 2 ^ s.mapY (sev x).map ≤ (sev x).y)
         ∧ (s.ingress.cache.take s.mapLines).find? (fun l => l.1 == s.mapAddr (sev x) / 64 * 64) = none))
    ∧ (let s0 := regsSet [(Page.bank 0, Reg.TAR_OWNER_ACK, 6)] idle5
       let m : MapMiss := { id := 3, addr := 0, ev := sev 0 }
       let s : State := { s0 with ingress := { cache := [(0, 0)], misses := [m] } }
       ((s.ingress.cache.take s.mapLines).find? (fun l => l.1 == s.mapAddr (sev 0) / 64 * 64)).isSome = true
       ∧ 0 < s.mapLines ∧ s.ingress.misses.find? (fun m => m.id == 3) = some m ∧ s.reqsDone 3 = true)
    ∧ (idle5.takes fw Page.evcMap Reg.EVC_MAP_FLUSH ∧ idle5.running = true
       ∧ State.reset.takes fw Page.evcMap Reg.EVC_MAP_FLUSH ∧ State.reset.running = false) := by
  unfold State.takes; decide +kernel

/-! ## Witnesses: Traverse and the summit tree -/

/-- Port 0 in a state, with width, good lanes and used lanes, a configuration word, and its own state. -/
def trvStat (st width good used : Nat) : W32 := BitVec.ofNat 32 (st * 2 ^ 28 + width * 2 ^ 25 + good * 2 ^ 20 + used * 2 ^ 15)
def port0 (stat : W32) (cfg : Nat) (x : TrvPort) (s : State) : State :=
  let s := regsSet [(Page.trv 0, Reg.TRV_STAT, stat), (Page.trv 0, Reg.TRV_CFG, BitVec.ofNat 32 cfg),
    (Page.trv 0, Reg.TRV_DEG_THR, 10), (Page.trv 0, Reg.TRV_PARTNER, 0x80000009)] s
  { s with trv := { s.trv with ports := [(0, x)] } }
/-- Port 0 is UP at width 4 with lane 4 in reserve. -/
def up0 (x : TrvPort) (s : State) : State := port0 (trvStat 2 4 31 15) 0x80000000 x s

theorem wit_TraversePortsTrain :
    (let s : State := { port0 0 0x80000000 {} idle5 with elapsed := 1000000 }
     s.trvRuns (0 : Fin 16) = true ∧ s.trvEn (0 : Fin 16) = true ∧ s.trvState (0 : Fin 16) = 0
     ∧ (s.trvPort (0 : Fin 16)).downAt + 1000000 ≤ s.elapsed)
    ∧ (∀ stage ∈ [1, 2, 3, 4],
      let s := port0 (trvStat 1 0 3 0) 0x80000000 { stage := stage } idle5
      s.trvRuns (0 : Fin 16) = true ∧ s.trvState (0 : Fin 16) = 1 ∧ (s.trvPort (0 : Fin 16)).stage = stage
      ∧ (s.trvPort (0 : Fin 16)).stored = false
      ∧ (lanesOf (s.regFld (Page.trv (0 : Fin 16)) Reg.TRV_STAT 24 20 &&& (4 : BitVec 5).toNat)).length = 0
      ∧ (lanesOf (s.regFld (Page.trv (0 : Fin 16)) Reg.TRV_STAT 24 20 &&& (7 : BitVec 5).toNat)).length ≠ 0)
    ∧ (∀ good ∈ [31, 15],
      let s := port0 (trvStat 2 4 good 15) 0x80000000 { replays := 11 } idle5
      let used := lanesOf (s.regFld (Page.trv (0 : Fin 16)) Reg.TRV_STAT 19 15)
      let spare := (setDel (lanesOf (s.regFld (Page.trv (0 : Fin 16)) Reg.TRV_STAT 24 20)) (0 : Fin 5).val).find?
        (fun i => !(used.contains i))
      s.trvRuns (0 : Fin 16) = true ∧ s.trvUsable (0 : Fin 16) = true ∧ (0 : Fin 5).val ∈ used
      ∧ spare = (if good = 31 then some 4 else none)
      ∧ s.regFld (Page.trv (0 : Fin 16)) Reg.TRV_DEG_THR 15 0 < (s.trvPort (0 : Fin 16)).replays
      ∧ s.trvState (0 : Fin 16) ≠ 5 ∧ s.takes fw (Page.trv (0 : Fin 16)) Reg.TRV_CFG ∧ bit (0xFF000000 : W32) 31 = true)
    ∧ (let s := port0 (trvStat 5 4 31 15) 0x80000000 { replays := 10 } idle5
       s.trvRuns (0 : Fin 16) = true ∧ s.trvUsable (0 : Fin 16) = true ∧ s.trvState (0 : Fin 16) = 5
       ∧ (s.trvPort (0 : Fin 16)).replays ≤ s.regFld (Page.trv (0 : Fin 16)) Reg.TRV_DEG_THR 15 0) := by
  unfold State.takes; decide +kernel

/-- A frame of a type with the sequence number 0, its CRC, and given words at given places. -/
def frame (ty : Nat) (l : List (Nat × W32)) : LinkRx :=
  let w := (List.range 64).map (fun i => ((l.find? (fun x => x.1 == i)).map (·.2)).getD 0)
  { words := putCtl w (ty * 2 ^ 62 + frameCrc w (ty * 2 ^ 62)), corrected := 0, uncorrectable := 0, symbols := [] }
def putPacket (k : Packet) : List (Nat × W32) := k.words.zipIdx.map (fun x => (x.2, x.1))

/-- The chip has ID 7, belongs to group 0 with its partner 9, and port 0 is up. -/
def chip7 (join : Nat) (s : State) : State :=
  up0 {} (regsSet [(Page.trvc, Reg.TRV_CHIP_ID, 7), (Page.trvc, Reg.TRV_JOIN_STAT, BitVec.ofNat 32 (join * 2 ^ 28)),
    (0xD1, 16, 0x80000000)] s)
def event7 : Packet := mkPacket 1 7 1 1 false [5]

set_option maxRecDepth 100000 in
theorem wit_LinkFramesInform :
    (let s := chip7 2 open5
     let f := frame 0 (putPacket event7)
     let masked := f.words.zipIdx.map (fun q => if q.2 % 8 = 0 then q.1 &&& 0xFFFFFF00 else q.1)
     let k : Packet := { words := event7.words ++ List.replicate 6 0 }
     s.takesFrame (0 : Fin 16) f 0 ∧ framePackets masked = [k] ∧ s.trvCarries (0 : Fin 16) k = true ∧ k.ty = 1
     ∧ k.chip = s.chipId ∧ s.trvUsable (0 : Fin 16) = true ∧ s.clocked = true ∧ s.trvRuns (0 : Fin 16) = true)
    ∧ (let f := frame 0 []
       (up0 {} idle5).takesFrame (0 : Fin 16) f 0
       ∧ framePackets (f.words.zipIdx.map (fun q => if q.2 % 8 = 0 then q.1 &&& 0xFFFFFF00 else q.1)) = [])
    ∧ (up0 {} idle5).takesFrame (0 : Fin 16) (frame 3 []) 3
    ∧ (let s := port0 (trvStat 2 4 31 15) 0x84000000 {} idle5
       s.takesFrame (0 : Fin 16) (frame 2 [(1, 7)]) 2 ∧ s.chipId = 0xFFF ∧ bit (s.reg (Page.trv (0 : Fin 16)) Reg.TRV_CFG) 26 = true
       ∧ s.partner (0 : Fin 16) ≠ 0xFFF ∧ s.joinState = 0)
    ∧ (∀ n ∈ [7, 8],
       let s : State := { up0 { want := some (0, n) } idle5 with elapsed := 1000 }
       (s.trvPort (0 : Fin 16)).want = some (0, n) ∧ s.clocked = true ∧ s.trvUsable (0 : Fin 16) = true ∧ 0 + 1000 ≤ s.elapsed)
    ∧ (let s := up0 {} idle5
       s.takes fw (Page.trv (0 : Fin 16)) Reg.TRV_ASSIGN ∧ bit (0x1007 : W32) 12 = true ∧ s.takes fw Page.trvc Reg.TRV_CHIP_ID
       ∧ s.joinState = 0 ∧ s.takes fw (Page.trv (0 : Fin 16)) Reg.TRV_SWAP ∧ s.running = true)
    ∧ ((chip7 1 idle5).takes fw Page.trvc Reg.TRV_CHIP_ID ∧ (chip7 1 idle5).joinState ≠ 0)
    ∧ (State.reset.takes fw (Page.trv (0 : Fin 16)) Reg.TRV_SWAP ∧ State.reset.running = false) := by
  unfold State.takes State.takesFrame; decide +kernel

/-- A SUMMIT packet of a kind about chip 9 in wave 1 of a step. -/
def summit (kind step : Nat) (l : List W32) : Packet :=
  mkPacket 8 7 0 0 false (BitVec.ofNat 32 (kind * 2 ^ 28 + 2 ^ 24 + 9 * 2 ^ 12 + 3) :: BitVec.ofNat 32 step :: l)
def heard (k : Packet) (s : State) : State :=
  { s with trv := { s.trv with ports := [(0, { s.trvPort 0 with summitIn := [(0, k)] })] } }
/-- A member that is root or not, with its parent port and its child ports. -/
def inTree (root parent child : Nat) (s : State) : State :=
  regsSet [(Page.sum, Reg.SUM_STAT, BitVec.ofNat 32 (root * 2 ^ 16)), (Page.sum, Reg.SUM_PARENT_PORT, BitVec.ofNat 32 parent),
    (Page.sum, Reg.SUM_CHILD_MASK, BitVec.ofNat 32 child)] s
def withTree (t : TreeState) (s : State) : State := { s with trv := { s.trv with tree := t } }

set_option maxRecDepth 100000 in
theorem wit_ChipsJoinAndLeave_requests :
    (let s := regsSet [(Page.stp, Reg.STP_TICK_SRC, 1)] (chip7 0 State.reset)
     s.takes fw Page.trvc Reg.TRV_JOIN ∧ fld (0x80000000 : W32) 3 0 = (0 : Fin 16).val ∧ s.trvUsable (0 : Fin 16) = true
     ∧ s.chipId ≠ 0xFFF ∧ s.joinState = 0 ∧ s.running = false ∧ s.regFld Page.stp Reg.STP_TICK_SRC 1 0 = 1
     ∧ bit (s.reg Page.stp Reg.STP_TICK_SRC) 8 = false)
    ∧ ((chip7 0 State.reset).takes fw Page.trvc Reg.TRV_JOIN ∧ (chip7 0 State.reset).joinState ≠ 1
       ∧ (chip7 0 State.reset).regFld Page.stp Reg.STP_TICK_SRC 1 0 = 0)
    ∧ ((chip7 1 idle5).takes fw Page.trvc Reg.TRV_JOIN ∧ (chip7 1 idle5).joinState = 1)
    ∧ ((chip7 2 idle5).takes fw Page.trvc Reg.TRV_JOIN ∧ 2 ≤ (chip7 2 idle5).joinState
       ∧ (inTree 0 0 0 (chip7 2 idle5)).isTreePort (0 : Fin 16) = true)
    ∧ (let s := port0 (trvStat 2 4 31 15) 0x82000000 {} (inTree 1 31 0 (chip7 0 idle5))
       let f := frame 2 [(1, BitVec.ofNat 32 (9 * 2 ^ 20)), (2, s.joinWords.1), (3, s.joinWords.2)]
       let w := fun i => f.words.getD i 0
       s.takesFrame (0 : Fin 16) f 2 ∧ (w 2, w 3) = s.joinWords ∧ fld (w 1) 15 0 = s.regFld Page.sum Reg.SUM_GROUP 15 0
       ∧ s.regFld Page.trvc Reg.TRV_JOIN_STAT 3 0 < 8 ∧ s.chipId ≠ 0xFFF ∧ s.joinState ≠ 1
       ∧ bit (s.reg (Page.trv (0 : Fin 16)) Reg.TRV_CFG) 25 = true ∧ s.parentPort ≠ (0 : Fin 16).val ∧ s.isRoot = true
       ∧ s.running = true ∧ (regsSet [(0xD1, 16, 0)] s).memberHere (fld (w 1) 31 20) = false
       ∧ (regsSet [(0xD1, 16, 0)] s).members.length < 4095)
    ∧ (let s := up0 {} (chip7 0 idle5)
       let f := frame 2 [(1, 0), (2, s.joinWords.1 + 1), (3, s.joinWords.2)]
       s.takesFrame (0 : Fin 16) f 2 ∧ (f.words.getD 2 0, f.words.getD 3 0) ≠ s.joinWords) := by
  unfold State.takes State.takesFrame; decide +kernel

set_option maxRecDepth 100000 in
theorem wit_ChipsJoinAndLeave_ends :
    (∀ n ∈ [0, 4096],
      let s := withTree { mtable := List.replicate n 0, reqAt := 0 } (chip7 1 State.reset)
      s.takesFrame (0 : Fin 16) (frame 2 []) 2 ∧ s.joinsOn (0 : Fin 16) = true ∧ s.trv.tree.ack = none
      ∧ (n = 0 → s.trv.tree.mtable.length < 4096) ∧ (n = 4096 → 4096 ≤ s.trv.tree.mtable.length))
    ∧ (let s := inTree 1 31 1 (chip7 2 idle5)
       s.takesFrame (0 : Fin 16) (frame 2 []) 2 ∧ (0 : Fin 16).val ∈ s.childPorts ∧ s.isRoot = true ∧ s.running = true
       ∧ s.clocked = true
       ∧ (let t := withTree { missed := [(0, 255)] } s
          t.absentTicks ≤ numAt t.trv.tree.missed (0 : Fin 16)))
    ∧ (let s := inTree 0 0 0 (chip7 2 idle5)
       s.takesFrame (0 : Fin 16) (frame 2 []) 2 ∧ (0 : Fin 16).val ∉ s.childPorts ∧ s.hasParent = true
       ∧ s.parentPort = (0 : Fin 16).val
       ∧ (let t := withTree { silent := 255 } s
          t.clocked = true ∧ t.hasParent = true ∧ t.absentTicks ≤ t.trv.tree.silent))
    ∧ (let s : State := { withTree { reqAt := 0 } (regsSet [(Page.trvc, Reg.TRV_JOIN_TMO_MS, 1)] (chip7 1 State.reset)) with
         elapsed := 1000000 }
       s.joinState = 1 ∧ (s.reg Page.trvc Reg.TRV_JOIN_TMO_MS).toNat ≠ 0
       ∧ s.trv.tree.reqAt + (s.reg Page.trvc Reg.TRV_JOIN_TMO_MS).toNat * 1000000 ≤ s.elapsed) := by
  unfold State.takesFrame; decide +kernel

theorem wit_ChipsJoinAndLeave_packets :
    (let s := heard (summit 3 5 []) (regsSet [(0xD1, 16, 0)] (inTree 1 31 1 (chip7 2 idle5)))
     s.summitHead (0 : Fin 16) 3 (summit 3 5 []) ∧ s.isRoot = true ∧ s.running = true
     ∧ s.memberHere (summitSubj (summit 3 5 [])) = false ∧ s.members.length < 4095)
    ∧ (let s := heard (summit 4 5 []) (inTree 0 0 0 (chip7 2 open5))
       s.summitHead (0 : Fin 16) 4 (summit 4 5 []) ∧ s.running = true ∧ s.step.summited = false)
    ∧ (let s := withTree { asked := [(0, 9)] } (heard (summit 5 5 []) (inTree 0 0 0 (chip7 2 idle5)))
       s.summitHead (0 : Fin 16) 5 (summit 5 5 [])
       ∧ s.trv.tree.asked.find? (fun q => q.2 == summitSubj (summit 5 5 [])) = some (0, 9) ∧ s.trvUsable 0 = true)
    ∧ (∀ root ∈ [0, 1],
       let s := heard (summit 6 5 []) (inTree root (if root = 1 then 31 else 0) root (chip7 2 idle5))
       s.summitHead (0 : Fin 16) 6 (summit 6 5 []) ∧ (root = 0 → s.parentPort = (0 : Fin 16).val)
       ∧ (root = 1 → s.parentPort ≠ (0 : Fin 16).val ∧ s.isRoot = true)) := by
  unfold State.summitHead; decide +kernel

/-- Step 5 has had its updates, and every region has reported quiescence; the chip has no cell. -/
def quiet5 : State :=
  { open5 with step := { open5.step with phase := .summitWait, rgnQui := List.range 8 }, cells := {} }

theorem wit_SummitTreePackets :
    (let k := summit 0 5 []
     (∀ t ∈ [open5, quiet5],
       let s := heard k (inTree 0 0 0 (chip7 2 t))
       s.summitHead (0 : Fin 16) 0 k ∧ s.parentPort = (0 : Fin 16).val ∧ s.trv.tree.joining = false ∧ s.isRoot = false
       ∧ s.childMask = 0 ∧ summitStep k = s.stepLow
       ∧ s.trvCarries (0 : Fin 16) (mkPacket 8 s.chipId 0 0 false []) = true)
     ∧ (heard k (inTree 0 0 0 (chip7 2 open5))).localQuiet = false
     ∧ (heard k (inTree 0 0 0 (chip7 2 quiet5))).localQuiet = true)
    ∧ (let k := summit 1 5 [3, 3, 0, 1]
       let s := withTree { probe := some (summitWave k, summitStep k) } (heard k (inTree 1 31 1 (chip7 2 open5)))
       s.summitHead (0 : Fin 16) 1 k ∧ (0 : Fin 16).val ∈ s.childPorts
       ∧ s.trv.tree.probe = some (summitWave k, summitStep k) ∧ s.isRoot = true)
    ∧ (∀ step ∈ [5, 6],
       let k := summit 2 step []
       let s := heard k (inTree 0 0 0 (chip7 2 open5))
       s.summitHead (0 : Fin 16) 2 k ∧ s.parentPort = (0 : Fin 16).val ∧ s.step.summited = false ∧ s.running = true
       ∧ s.trv.tree.joining = false ∧ (step = 5 → summitStep k = s.stepLow) ∧ (step = 6 → summitStep k ≠ s.stepLow))
    ∧ (∀ cfg ∈ [0x80000000, 0x88000000],
       let k := mkPacket 0xA 7 0 0 false [0x00030000]
       let s : State := { heard k (port0 (trvStat 2 4 31 15) cfg {} idle5) with fault := { readySeen := true } }
       s.clocked = true ∧ (s.trvPort (0 : Fin 16)).summitIn.head?.map (fun q => q.2) = some k ∧ k.ty = 0xA
       ∧ bit (s.reg (Page.trv (0 : Fin 16)) Reg.TRV_CFG) 27 = decide (cfg = 0x88000000)
       ∧ s.pwrState ≠ Pwr.nap ∧ s.pwrState ≠ Pwr.sleep ∧ s.fault.readySeen = true) := by
  unfold State.summitHead; decide +kernel

/-- A request of chip 9 for one granule at DRAM offset 0x1000, with its byte enables, at port 0 of chip 7. -/
def askRemote (ty enables : Nat) : Packet :=
  mkPacket ty 7 3 0 false [BitVec.ofNat 32 (9 * 2 ^ 20 + 0x100), 3, BitVec.ofNat 32 enables, 1, 2, 3, 4]
def asked (gcfg : Nat) (k : Packet) : State :=
  let s := regsSet [(Page.trvc, Reg.TRV_GCFG, BitVec.ofNat 32 gcfg)] (chip7 2 State.reset)
  { s with trv := { s.trv with ports := [(0, { remoteIn := [k] })] } }
def remote (wr : Bool) : Remote := { tag := 3, req := fw, write := wr, first := 0, bytes := 4, left := 1, sentAt := 0 }
def answeredBy (ty status : Nat) (wr : Bool) : State :=
  let k := mkPacket ty 7 3 0 false [0, 3, BitVec.ofNat 32 (status * 2 ^ 28), 1, 2, 3, 4]
  let s := chip7 2 idle5
  { s with trv := { s.trv with remote := [remote wr] }, fabric := { unitIn := [(0, k)] } }

theorem wit_RemoteAccessesEnd :
    (let s := chip7 2 idle5
     s.serves fw = true ∧ fw.who ≠ .jtag ∧ s.isSecure fw = true ∧ s.trv.remote.length < 256
     ∧ (∀ addr ∈ [2 ^ 51 + 2 ^ 50, 2 ^ 51 + 7 * 2 ^ 36, 2 ^ 51 + 9 * 2 ^ 36], Nat.testBit addr 51 = true)
     ∧ bitsOf (2 ^ 51 + 2 ^ 50) 50 48 ≠ 0
     ∧ bitsOf (2 ^ 51 + 7 * 2 ^ 36) 50 48 = 0 ∧ bitsOf (2 ^ 51 + 7 * 2 ^ 36) 47 36 = s.chipId
     ∧ (2 ^ 51 + 7 * 2 ^ 36) % 2 ^ 36 + 64 ≤ dramBytes s.grade
     ∧ bitsOf (2 ^ 51 + 9 * 2 ^ 36) 50 48 = 0 ∧ bitsOf (2 ^ 51 + 9 * 2 ^ 36) 47 36 ≠ s.chipId)
    ∧ (∀ gcfg ∈ [0, 1], ∀ ty ∈ [5, 9],
       let k := askRemote ty 0xFFFF
       let s := asked gcfg k
       let d := remoteOffset k
       (s.trvPort (0 : Fin 16)).remoteIn = k :: [] ∧ s.clocked = true ∧ k.ty = ty
       ∧ bit (s.reg Page.trvc Reg.TRV_GCFG) 0 = decide (gcfg = 1) ∧ d + 16 ≤ dramBytes s.grade
       ∧ s.rangeSecure d 16 = false ∧ (s.dramRead (bit (k.word 2) 17) d 16).1.2 = false
       ∧ fld (k.word 3) 15 0 = 0xFFFF ∧ fld ((askRemote ty 0).word 3) 15 0 = 0 ∧ s.running = false)
    ∧ (∀ status ∈ [0, 1], ∀ wr ∈ [false, true],
       let s := answeredBy (if wr then 0xC else 6) status wr
       let q := (0, mkPacket (if wr then 0xC else 6) 7 3 0 false [0, 3, BitVec.ofNat 32 (status * 2 ^ 28), 1, 2, 3, 4])
       s.clocked = true ∧ s.fabric.unitIn.find? (fun q => q.1 == 0 && q.2.ty == (if wr then 0xC else 6)) = some q
       ∧ s.trv.remote.find? (fun r => r.tag == fld (q.2.word 2) 15 0 && r.write == wr) = some (remote wr)
       ∧ fld (q.2.word 3) 31 28 = status ∧ (remote wr).left = 1 ∧ (remote wr).data = [] ∧ fld (q.2.word 2) 19 18 = 0)
    ∧ (let s : State := { answeredBy 6 0 false with elapsed := 100000 }
       let s := regsSet [(Page.trvc, Reg.TRV_RMT_TIMEOUT_NS, 1000)] s
       s.clocked = true ∧ s.trv.remote.find? (fun r => decide
         (r.sentAt + max 1000 (s.reg Page.trvc Reg.TRV_RMT_TIMEOUT_NS).toNat ≤ s.elapsed)) = some (remote false)) := by
  decide +kernel

/-! ## Witnesses: host Ethernet -/

def peer1 : UmhPeer := { form := 0, mac := 1, vid := 0, addr := 0, udp := 0 }
def peer2 : UmhPeer := { form := 0, mac := 2, vid := 0, addr := 0, udp := 0 }
/-- The chip serves the host; port 0 is up; the host `owner` owns the chip. -/
def served (owner : Option UmhPeer) : State :=
  let s := regsSet [(0x49, Reg.RFG_STAT, 0x10000000), (Page.eth 0, Reg.ETH_CFG, 0x80000000), (Page.eth 0, Reg.ETH_STAT, 0x80000000),
    (Page.umh, Reg.ETH_UMH_CTRL, 5), (Page.eth 0, Reg.ETH_MTU, 1518)] ready
  { s with eth := { s.eth with owner := owner } }
/-- A request of an operation from a peer, with its COUNT and payload words; that request waits at port 0. -/
def umhReq (op count : Nat) (pay : List Nat) : UmhReq :=
  { peer := peer1, words := [BitVec.ofNat 32 (2 ^ 28 + op * 2 ^ 16), BitVec.ofNat 32 count, 77, 0], payload := (pay.map (leBytes 4)).flatten }
def requested (q : UmhReq) (s : State) : State := { s with eth := { s.eth with ports := [(0, { reqs := [q] })] } }

/-- A frame with its FCS: 12 bytes of addresses, the type 0x88B5, a HELLO header and 4 bytes. -/
def helloFrame : List Byte :=
  List.replicate 11 0 ++ [1, 0x88, 0xB5] ++ leBytes 4 0x10010004 ++ leBytes 4 0 ++ leBytes 4 77 ++ leBytes 4 0 ++ leBytes 4 1
def withFcs (l : List Byte) : List Byte := l ++ leBytes 4 (crc32 l)

set_option maxRecDepth 100000 in
theorem wit_HostRequestsAreServed_frames :
    (let s := served none
     let frame := withFcs helloFrame
     let l := frame.take (frame.length - 4)
     let m := l.drop 14
     let w := fun i => BitVec.ofNat 32 (leNat ((m.drop (4 * i)).take 4))
     s.ethUp (0 : Fin 4) = true ∧ 18 ≤ frame.length ∧ fcsGood frame = true
     ∧ fcsGood (List.replicate 18 0) = false
     ∧ frame.length ≤ s.regFld (Page.eth (0 : Fin 4)) Reg.ETH_MTU 13 0 ∧ s.macsecOn (0 : Fin 4) = false
     ∧ beAt l 12 2 = 0x88B5 ∧ bit (s.reg (Page.eth (0 : Fin 4)) Reg.ETH_VLAN) 31 = false ∧ beAt l 0 6 = s.ethMac (0 : Fin 4)
     ∧ s.umhEn 2 = true ∧ peer1 = { form := 0, mac := beAt l 6 6, vid := 0, addr := 0, udp := 0 } ∧ s.eth.owner ≠ some peer1
     ∧ s.atReady = true ∧ s.hostServed = true ∧ 20 ≤ m.length ∧ fld (w 0) 31 28 = 1 ∧ fld (w 0) 23 16 = 1 ∧ fld (w 0) 15 0 = 4
     ∧ s.clocked = true ∧ s.faulted (Page.eth (0 : Fin 4)) = false) := by decide +kernel

theorem wit_HostRequestsAreServed_hello :
    (∀ flags ∈ [0, 1, 2], ∀ owner ∈ [none, some peer1, some peer2],
      let q := umhReq 1 1 [flags]
      let s := requested q (served owner)
      (s.ethPort (0 : Fin 4)).reqs = q :: [] ∧ s.ethUp (0 : Fin 4) = true ∧ s.macsecOn (0 : Fin 4) = false
      ∧ s.servesHost = true ∧ q.op = 1 ∧ 24 ≤ s.umhRoom (0 : Fin 4) q.peer.form 16 ∧ fld (q.pay 0) 1 0 = flags
      ∧ bit (q.pay 0) 0 = decide (flags = 1) ∧ s.eth.owner = owner)
    ∧ (let q := umhReq 2 0 [0, 0, 0, 0, 0, 0, 0, 0]
       let s := requested q (served none)
       (s.ethPort (0 : Fin 4)).reqs = q :: [] ∧ s.servesHost = true ∧ q.op = 2 ∧ s.macsecOn (0 : Fin 4) = false) := by
  decide +kernel

theorem wit_HostRequestsAreServed_items :
    (∀ op ∈ [3, 4], ∀ off ∈ [Reg.PG_ID, Reg.PG_SCRATCH, 2],
      let q := umhReq op 1 [Page.stp * 4096 + off, 5]
      let s := requested q (served none)
      (s.ethPort (0 : Fin 4)).reqs = q :: [] ∧ s.ethUp (0 : Fin 4) = true ∧ s.hostServed = true ∧ s.clocked = true
      ∧ s.step.fences.contains hostReq = false ∧ q.count = 1 ∧ q.done = 0 ∧ q.data = [] ∧ bit (q.word 0) 25 = false
      ∧ itemAt (q.pay 0) = (Page.stp, off) ∧ q.op = op ∧ 4 ≤ s.umhRoom (0 : Fin 4) q.peer.form 16
      ∧ hasHeader Page.stp = true ∧ presentIn s.grade Page.stp = true
      ∧ bit (s.reg (owningPage Page.stp) Reg.PG_SEC) 31 = false ∧ s.takes hostReq Page.stp Reg.PG_SCRATCH
      ∧ (off = 2 → off % 4 ≠ 0)) := by unfold State.takes; decide +kernel

/-- Engine 1 of port 0 serves bulk transfers. -/
def bulk (engine : Bool) (q : UmhReq) : State :=
  requested q (if engine then regsSet [(Page.eth 0, seOff 1 Reg.ETH_SE_CFG, 0xC0000000)] (served none) else served none)

theorem wit_HostRequestsAreServed_bulk :
    (∀ op ∈ [5, 6], ∀ engine ∈ [false, true],
      let q := umhReq op 0 [Base.dram % 2 ^ 32, Base.dram / 2 ^ 32, 8]
      let s := bulk engine q
      let a := join64 (q.pay 0) (q.pay 1) % 2 ^ 52
      (s.ethPort (0 : Fin 4)).reqs = q :: [] ∧ s.ethUp (0 : Fin 4) = true ∧ s.hostBoot = false ∧ s.bulkHeld (0 : Fin 4) = false
      ∧ q.op = op ∧ s.bulkEngine (0 : Fin 4) = (if engine then some 1 else none) ∧ addrRegion a = .dram
      ∧ (q.pay 2).toNat = 8 ∧ s.bulkRefusal a 8 = none ∧ (s.dramRead false (a - Base.dram) 8).1.2 = false
      ∧ q.payload.drop 8 ≠ [] ∧ s.bulkRefusal a (q.payload.drop 8).length = none ∧ s.running = false
      ∧ s.macsecOn (0 : Fin 4) = false)
    ∧ (let q := umhReq 7 1 [0, 5, 0]
       let late : UmhReq := { q with words := [BitVec.ofNat 32 (2 ^ 28 + 2 ^ 26 + 7 * 2 ^ 16), 1, 77, 9] }
       q.op = 7 ∧ bit (q.word 0) 26 = false ∧ late.op = 7 ∧ bit (late.word 0) 26 = true
       ∧ (late.word 3).toNat ≠ (requested late (served none)).stamp % 2 ^ 32) := by decide +kernel

def notify7 : Notify := { id := 7, sources := [3], sentAt := 0 }

theorem wit_NotifyStreamsAndRawFrames_owner :
    (let s0 := served (some peer1)
     let s : State := { s0 with elapsed := 2 ^ 40, eth := { s0.eth with notifies := [notify7], unsent := [3] } }
     s.clocked = true ∧ s.hostServed = true ∧ s.eth.owner = some peer1 ∧ s.macsecOn s.ownerPort = false
     ∧ s.eth.unsent ≠ [] ∧ s.eth.notifies.find? (fun n => decide
         (n.sentAt + max 1 (s.regFld Page.umh Reg.ETH_UMH_NOTIFY_MS 15 0) * 1000000 ≤ s.elapsed)) = some notify7
     ∧ s.eth.lastReq + max 1 (s.regFld Page.umh Reg.ETH_UMH_IDLE_MS 15 0) * 1000000 ≤ s.elapsed
     ∧ s.takes fw Page.umh Reg.ETH_UMH_CTRL)
    ∧ (let q : UmhReq := { umhReq 9 0 [] with words := [BitVec.ofNat 32 (2 ^ 28 + 9 * 2 ^ 16), 0, 7, 0] }
       let s0 := requested q (served (some peer1))
       let s : State := { s0 with eth := { s0.eth with notifies := [notify7] } }
       s.hostServed = true ∧ (s.ethPort (0 : Fin 4)).reqs = q :: [] ∧ s.ethUp (0 : Fin 4) = true ∧ q.op = 9
       ∧ s.eth.notifies.find? (fun n => n.id == q.id) = some notify7) := by unfold State.takes; decide +kernel

/-- Engine 1 of port 0 has a base in DRAM, 64 bytes an entry, and a ring of two entries with one to send. -/
def engine1 : State :=
  let a := Page.eth 0
  let s := regsSet [(a, seOff 1 Reg.ETH_SE_CFG, 0x80010000), (a, seOff 1 Reg.ETH_SE_LEN, 64), (a, seOff 1 Reg.ETH_SE_TAIL, 1),
    (a, seOff 1 Reg.ETH_SE_BASE, BitVec.ofNat 32 Base.dram), (a, seOff 1 Reg.ETH_SE_BASE + 4, BitVec.ofNat 32 (Base.dram / 2 ^ 32)),
    (a, Reg.ETH_RAW_CFG, 0x80000010), (a, Reg.ETH_RAW_TX_BASE, BitVec.ofNat 32 Base.dram),
    (a, Reg.ETH_RAW_TX_BASE + 4, BitVec.ofNat 32 (Base.dram / 2 ^ 32))] (served (some peer1))
  { s with eth := { s.eth with engines := [(1, { due := some (4, false) })], ports := [(0, { captures := [(5, 600)] })] } }

theorem wit_NotifyStreamsAndRawFrames_engines :
    (let s := engine1
     let p : Fin 4 := 0
     let e : Fin 8 := 1
     let pg := Page.eth p
     let cfg := s.reg pg (seOff e Reg.ETH_SE_CFG)
     let n := ringSlots (fld cfg 19 16)
     let head := s.regFld pg (seOff e Reg.ETH_SE_HEAD) 11 0 % n
     s.ethUp p = true ∧ s.eth.owner.isSome = true ∧ s.macsecOn p = false ∧ 0 < s.seLen p e
     ∧ (s.seState p e).due = some (4, false)
     ∧ addrRegion (s.seBase p e + 4 % (s.regFld pg (seOff e Reg.ETH_SE_CFG) 9 0 + 1) * ((s.seLen p e + 63) / 64 * 64)) = .dram
     ∧ fld cfg 31 30 = 2 ∧ head ≠ s.regFld pg (seOff e Reg.ETH_SE_TAIL) 11 0 % n
     ∧ addrRegion (s.seBase p e + head * s.seLen p e) = .dram ∧ s.takes fw pg (seOff e Reg.ETH_SE_TAIL))
    ∧ (let s := engine1
       let p : Fin 4 := 0
       let pg := Page.eth p
       let cfg := s.reg pg Reg.ETH_RAW_CFG
       let n := ringSlots (fld cfg 7 4)
       let head := s.regFld pg Reg.ETH_RAW_TX_PTR 27 16 % n
       let slot := bitsOf (s.reg64 pg Reg.ETH_RAW_TX_BASE) 51 6 * 64 + 10240 * head
       let len := s.num slot 4 % 2 ^ 14
       s.takes fw pg Reg.ETH_RAW_TX_PTR ∧ bit cfg 31 = true ∧ 1 < n ∧ fld (1 : W32) 11 0 % n = (head + 1) % n
       ∧ Base.dram ≤ slot ∧ slot + 32 + len ≤ Base.dram + dramBytes s.grade
       ∧ s.rangeSecure (slot - Base.dram) 32 = false ∧ s.rangeSecure (slot + 32 - Base.dram) len = false
       ∧ ptpEvent (s.bytes (slot + 32) len) = none ∧ s.mayRead fw pg Reg.ETH_TS_TX_ID = true
       ∧ (s.ethPort p).captures = (5, 600) :: []) := by unfold State.takes; decide +kernel

/-! ## Witnesses: interrupts, cores and timers -/

/-- Source 5 goes to core 0's context with priority 4 and pends or not; wake latch 3 watches source 6; channel 0 of Col has a
length and a sender's word. -/
def picked (pend : List Nat) (len full : Nat) (s : State) : State :=
  let s := regsSet [(srcPage 5, srcOff 5, 0x00400000), (Page.picCtl, Reg.PIC_WAKE_SELn + 12, 0x80000006),
    (colPage 0, colOff 0 0x40, BitVec.ofNat 32 len), (colPage 0, colOff 0 0x48, BitVec.ofNat 32 (full * 2 ^ 31))] s
  { s with pic := { pend := pend, claims := [(0, 9, 2)] } }

theorem wit_InterruptsAndMailboxes :
    (assigned State.reset.grade (5 : Fin 4096) = true ∧ edgeSource (5 : Fin 4096) = true
     ∧ assigned State.reset.grade (3136 : Fin 4096) = true ∧ edgeSource (3136 : Fin 4096) = false
     ∧ bit ((picked [] 0 0 idle5).reg Page.picCtl (Reg.PIC_WAKE_SELn + 4 * (3 : Fin 64).val)) 31 = true
     ∧ (picked [] 0 0 idle5).picClock = true
     ∧ (picked [] 0 0 (frozenChip 1)).picClock = false)
    ∧ (let s := picked [5] 0 0 idle5
       s.picClock = true ∧ s.eligible (s.srcCtx (5 : Fin 4096)) (5 : Fin 4096) = true
       ∧ s.mayRead user Page.picCtl (Reg.PIC_CLAIMx + 16 * (0 : Fin 21).val) = true ∧ actsFor user (0 : Fin 21) = true
       ∧ (s.wakeCore (coreOf (0 : Fin 21))).bestSource (0 : Fin 21) = some 5
       ∧ actsFor user (1 : Fin 21) = false ∧ s.mayRead user Page.picCtl (Reg.PIC_CLAIMx + 16 * (1 : Fin 21).val) = true
       ∧ s.takes user Page.picCtl (Reg.PIC_COMPLETEx + 16 * (0 : Fin 21).val)
       ∧ s.pic.claims.find? (fun c => c.1 == (0 : Fin 21).val) = some (0, 9, 2)
       ∧ (0, 9, 2).2.1 = fld (9 : W32) 11 0 ∧ (0, 9, 2).2.1 ≠ fld (8 : W32) 11 0)
    ∧ (let s := picked [] 0 0 idle5
       contextPresent s.grade (0 : Fin 21) = true
       ∧ (∀ n ∈ s.ranked, coreOf (s.srcCtx n) = coreOf (0 : Fin 21) → s.pendOf n = false)
       ∧ (s.wakeCore (coreOf (0 : Fin 21))).bestSource (0 : Fin 21) = none
       ∧ s.takes fw Page.picPend (Reg.PIC_PEND_SET + 4 * (127 : Fin 128).val)
       ∧ s.takes fw Page.picPend (Reg.PIC_PEND_CLR + 4 * (127 : Fin 128).val))
    ∧ (∀ len ∈ [0, 1, 16, 17], ∀ full ∈ [0, 1],
       let s := picked [] len full idle5
       let n := fld (s.col (0 : Fin 64) 0x40) 4 0
       s.takes fw (colPage (0 : Fin 64)) (colOff (0 : Fin 64) 0x44) ∧ s.colFull (0 : Fin 64) = decide (full = 1)
       ∧ bit (1 : W32) 0 = true ∧ n = len
       ∧ (len = 16 → s.mayRead fw (colPage (0 : Fin 64)) (colOff (0 : Fin 64) (4 * (n - 1))) = true)) := by
  unfold State.takes; decide +kernel

/-- Crest core 0 in a state, with a watchdog of 1 µs and its action. -/
def crest0 (st act expired : Nat) : State :=
  let s := regsSet [(Page.crs 0, Reg.CRS_STAT, BitVec.ofNat 32 (st * 2 ^ 28)), (Page.crs 0, Reg.CRS_WDOG_US, 1),
    (Page.crs 0, Reg.CRS_WDOG_CTRL, BitVec.ofNat 32 act), (Page.crs 0, Reg.CRS_MTIMECMP, 1000),
    (Page.crs 0, Reg.CRS_MTIMECMP + 4, 0)] idle5
  { s with elapsed := 1000, proc := { crests := [(0, { expired := expired })] } }
/-- Refuge core 0 in RUN with a heartbeat period, RFG_AUTO and a restart stage. -/
def refuge0 (auto stage : Nat) : State :=
  let s := regsSet [(Page.rfg 0, Reg.RFG_STAT, 0x10000000), (Page.rfg 0, Reg.RFG_HB_MS, 1),
    (Page.rfg 0, Reg.RFG_AUTO, BitVec.ofNat 32 auto), (Page.rfgc, Reg.RFG_RESTART, if stage = 0 then 0 else 1),
    (Page.crn, Reg.CRN_MASK0, 2)] idle5
  { s with elapsed := 25000000, proc := { refuges := [(0, { stage := stage })] } }

theorem wit_CrestAndRefugeCores :
    (∀ st ∈ [0, 1], ∀ act ∈ [0, 1], ∀ expired ∈ [0, 1],
      let s := crest0 st act expired
      s.takes fw (Page.crs (0 : Fin 16)) Reg.CRS_CTRL ∧ s.crsState (0 : Fin 16) = st ∧ s.crsState (0 : Fin 16) ≠ 5
      ∧ s.takes user (Page.crs (0 : Fin 16)) Reg.CRS_WDOG_KICK ∧ s.runs (143 + (0 : Fin 16)) = true
      ∧ presentIn s.grade (Page.crs (0 : Fin 16)) = true ∧ s.timerDue (0 : Fin 16) = true
      ∧ s.regFld (Page.crs (0 : Fin 16)) Reg.CRS_WDOG_US 23 0 ≠ 0
      ∧ (s.crest (0 : Fin 16)).began + s.regFld (Page.crs (0 : Fin 16)) Reg.CRS_WDOG_US 23 0 * 1000 ≤ s.elapsed
      ∧ (s.crest (0 : Fin 16)).expired = expired ∧ s.regFld (Page.crs (0 : Fin 16)) Reg.CRS_WDOG_CTRL 1 0 = act)
    ∧ (idle5.takes fw 0x44 Reg.CRS_L3_FLUSH ∧ idle5.runs 159 = true ∧ idle5.clocked = true
       ∧ presentIn idle5.grade 0x44 = true ∧ presentIn idle5.grade (Page.crs (15 : Fin 17)) = true)
    ∧ (∀ auto ∈ [0, 1], ∀ stage ∈ [0, 2, 3, 4],
      let s := refuge0 auto stage
      let k : Fin 4 := 0
      s.refugeRuns k = true ∧ s.rfgState k = 1
      ∧ (s.refuge k).lastKick + max 1 (s.regFld (Page.rfg k) Reg.RFG_HB_MS 15 0) * 1000000 ≤ s.elapsed
      ∧ bit (s.reg (Page.rfg k) Reg.RFG_AUTO) 0 = decide (auto = 1) ∧ (s.refuge k).autos = []
      ∧ (s.refuge k).stage = stage ∧ (s.refuge k).began + 25000000 ≤ s.elapsed
      ∧ (Registers.wf s.regs = true ∧ Memory.wf s.mem = true) ∧ s.takes fw Page.rfgc Reg.RFG_RESTART
      ∧ bit (s.reg Page.rfgc Reg.RFG_RESTART) k = decide (stage ≠ 0) ∧ refugeOf fw = some k.val
      ∧ s.takes fw (Page.rfg k) Reg.RFG_HB_KICK ∧ s.takes fw Page.crn (crnOff k 4)
      ∧ bit (s.reg Page.crn (Reg.CRN_MASK0 + 4 * (fld (1 : W32) 9 0 / 32))) (fld (1 : W32) 9 0 % 32) = true
      ∧ (∀ p ∈ s.proc.pushes, p.1 ≠ k.val))
    ∧ (let s : State := { refuge0 0 0 with proc := { pushes := [(0, 1)] } }
       ∃ p ∈ s.proc.pushes, p.1 = (0 : Fin 4).val) := by unfold State.takes; decide +kernel

/-- Timer 1 with period 10 and count 7: WRAP and a match of channel 2 are due, channel 2 has compare value 7 and ADD 3; channel
0 captures rising edges of pin 4. -/
def timer1 (run : Nat) : State :=
  let r (o : Nat) (v : W32) : Nat × Nat × W32 := (tmrPage 1, o, v)
  let s := regsSet [r (tmrOff 1 Reg.TMR_CTRL) (BitVec.ofNat 32 (run * 2 ^ 31)), r (tmrOff 1 Reg.TMR_PERIOD) 10,
    r (tmrOff 1 Reg.TMR_PERIOD_ACT) 10, r (tmrOff 1 Reg.TMR_COUNT) 7, r (chanOff 1 2 Reg.TMR_CMPk) 7, r (chanOff 1 2 Reg.TMR_ADDk) 3,
    r (chanOff 1 0 Reg.TMR_CCFGk) (BitVec.ofNat 32 (2 * 2 ^ 30 + 2 * 2 ^ 26 + 4))] idle5
  { s with tmr := { due := [12, 10] } }

theorem wit_TimersAndCheckValues :
    (∀ run ∈ [0, 1],
      let s := timer1 run
      let i : Fin 32 := 1
      s.clocked = true ∧ 8 * i.val + 4 ∈ s.tmr.due ∧ 8 * i.val + (2 : Fin 4).val ∈ s.tmr.due ∧ s.tmrCenter i = false
      ∧ s.chanNum i (2 : Fin 4) Reg.TMR_ADDk ≠ 0 ∧ s.chanNum i (2 : Fin 4) Reg.TMR_CMPk = s.tmrNum i Reg.TMR_COUNT
      ∧ s.chanNum i (2 : Fin 4) Reg.TMR_ADDk < s.chanNum i (2 : Fin 4) Reg.TMR_CMPk
      ∧ s.takes fw (tmrPage i) (tmrOff i Reg.TMR_CTRL) ∧ s.tmrRun i = decide (run = 1)
      ∧ s.takes fw (tmrPage i) (tmrOff i Reg.TMR_PERIOD) ∧ s.takes fw 0x78 Reg.TMR_GSTART
      ∧ bit (s.reg 0x78 Reg.TMR_IN_LEVEL) (4 : Fin 16) = false ∧ fld (s.chan i (0 : Fin 4) Reg.TMR_CCFGk) 31 30 = 2
      ∧ fld (s.chan i (0 : Fin 4) Reg.TMR_CCFGk) 5 0 = (4 : Fin 16).val ∧ fld (s.chan i (0 : Fin 4) Reg.TMR_CCFGk) 27 26 = 2
      ∧ numAt s.tmr.edges (4 * i.val + (0 : Fin 4).val) = fld (s.chan i (0 : Fin 4) Reg.TMR_CCFGk) 17 10
      ∧ bit (s.reg (tmrPage i) (tmrOff i Reg.TMR_CAPSTAT)) (0 : Fin 4) = false
      ∧ s.mayRead fw (tmrPage i) (chanOff i (0 : Fin 4) Reg.TMR_CAPk) = true)
    ∧ (let s := idle5
       let u : Fin 8 := 7
       s.crcWidth u ≤ 64 ∧ s.takes fw 0x79 (crcOff u Reg.CRC_CTRL) ∧ s.takes fw 0x79 (crcOff u Reg.CRC_DATA8)
       ∧ s.takes fw 0x79 (crcOff u Reg.CRC_DATA16) ∧ s.takes fw 0x79 (crcOff u Reg.CRC_DATA32)) := by
  unfold State.takes; decide +kernel

/-- LOAD_NOW and TMR_GSTART take the timer's register, stopped and running (R505, R513). -/
theorem wit_LoadsAndGroupStartsOfTimers :
    (timer1 0).takes fw (tmrPage 1) (tmrOff 1 Reg.TMR_CTRL) ∧ (timer1 1).takes fw 0x78 Reg.TMR_GSTART := by
  unfold State.takes; decide +kernel

/-! ## Witnesses: starts, faults, power and security. What OTP, hashes and signatures hold is free: a clause that turns on it
has its other hypotheses shown here. -/

/-- A start on a path at a stage. -/
def starting (path : BootPath) (stage : Nat) : State :=
  { regsSet [(Page.chp, Reg.CHP_BOOT_STAT, BitVec.ofNat 32 (stage * 2 ^ 28))] State.reset with boot := { path := path } }
def withBoot (b : BootState) (s : State) : State := { s with boot := b }
/-- The same with the image store's digest kept. -/
def kept (s : State) : State :=
  { s with boot := { s.boot with digest := some (Config.sha512 (s.bytes imageStore (s.reg Page.rfgc Reg.RFG_FW_SIZE).toNat)) } }

theorem kept_matches (s : State) : (kept s).storeMatches = true := beq_self_eq_true _

theorem wit_StartsGoThroughTheirStages :
    (∀ stage ∈ [0, 1, 2, 3, 4, 5, 6, 7, 8], (starting .cold stage).bootAt stage = true)
    ∧ (starting .warm 3).bootAt 3 = true
    ∧ (let s := starting .cold 4
       presentIn s.grade (Page.slice (0 : Fin 128)) = true ∧ s.rowListed (0 : Fin 128) 15 12287 = false
       ∧ (s.bankRemaps (0 : Fin 128) 15).length < 4)
    ∧ (let s := starting .cold 6
       s.bootSrc ≠ 1 ∧ s.boot.host = false ∧ s.boot.entry < 4 ∧ ¬ ([1] : List Byte).isEmpty ∧ ([] : List Byte).isEmpty)
    ∧ (let s := withBoot { path := .cold, size := 0xA0001 } (starting .cold 7)
       s.bootAt 7 = true ∧ s.boot.size ≠ 0 ∧ (if 0xA0000 < s.boot.size then 6 else 0) ≠ 0)
    ∧ (let s := starting .none 15
       s.takesWo hostReq Page.chp Reg.CHP_BOOT_IMG ∧ (s.hostBoot && s.staging && s.bootStage != 7) = true
       ∧ (ready.hostBoot && ready.staging && ready.bootStage != 7) = false ∧ s.warmActs = true
       ∧ (starting .cold 3).warmActs = false ∧ s.takesWo hostReq Page.chp Reg.CHP_RESET
       ∧ fld (0xB0070001 : W32) 31 16 = 0xB007 ∧ bit (0xB0070001 : W32) 0 = true)
    ∧ (∀ proven ∈ [false, true],
       let s := withBoot { path := .cold, proven := proven } (starting .cold 8)
       s.bootAt 8 = true ∧ s.boot.proven = proven ∧ s.frzState = Frz.run)
    ∧ (let s := starting .warm 7
       s.bootAt 7 = true ∧ s.boot.path = .warm ∧ s.boot.size = 0 ∧ s.bootFail = 0 ∧ s.storeMatches = false
       ∧ (kept s).bootAt 7 = true ∧ (kept s).boot.path = .warm ∧ (kept s).boot.size = 0 ∧ (kept s).bootFail = 0) := by
  unfold State.takesWo; decide +kernel

def record1 : ErrRecord := { level := 1, cls := 1, esc := false, inj := false, code := 0x0101, unit := 0, addr := 0 }
def inFrz (code : Nat) (s : State) : State := s.setFrz code
/-- Cell 5 of block 0 migrates; the block restores; a checkpoint is kept or not. -/
def migrating (ckpt : Nat) (s : State) : State :=
  { regsSet [(Page.block 0, Reg.BLK_STAT, 0x40000000), (Page.block 0, Reg.BLK_CTRL, 1),
      (Page.lrn, Reg.LRN_CKPT_LAST + 4, BitVec.ofNat 32 (ckpt * 2 ^ 31))] s with
    fault := { migrations := [(0, { cell := 5, fenced := 0, copying := true })] } }

theorem wit_FaultsAreRecordedAndRecovered :
    (let s : State := { idle5 with fault := { records := [record1] } }
     s.fault.records = record1 :: [] ∧ s.pwrState ≠ Pwr.sleep)
    ∧ (let s := regsSet [(Page.block 0, Reg.BLK_CTRL, 1)] idle5
       let c := 16 * (0 : Fin 128).val + fld (0x80000005 : W32) 3 0
       s.takesWo fw (Page.block (0 : Fin 128)) Reg.BLK_MIGRATE ∧ bit (0x80000005 : W32) 31 = true ∧ bit (5 : W32) 31 = false
       ∧ s.cells.mapped = true ∧ s.offline c = false ∧ s.fenced c = false
       ∧ bit (s.reg (Page.block (0 : Fin 128)) Reg.BLK_CTRL) 0 = true
       ∧ (s.listSite (s.siteOf c) 2).spareFree (0 : Fin 128) = true
       ∧ (s.listSite (s.siteOf c) 2).fault.unlisted.contains (s.siteOf c) = false)
    ∧ (∀ ckpt ∈ [0, 1],
       let s := migrating ckpt stopped
       s.fault.migrations.find? (fun x => x.1 == (0 : Fin 128).val && x.2.copying)
         = some ((0 : Fin 128).val, { cell := 5, fenced := 0, copying := true })
       ∧ s.runs (11 + (0 : Fin 128).val) = true ∧ s.takes fw (Page.block (0 : Fin 128)) Reg.BLK_CTRL ∧ s.running = false
       ∧ bit (s.reg Page.lrn (Reg.LRN_CKPT_LAST + 4)) 31 = decide (ckpt = 1)
       ∧ bit (s.reg (Page.block (0 : Fin 128)) Reg.BLK_STAT) 30 = true ∧ (ckpt = 0 → s.slotData 5 = none))
    ∧ (∀ fof ∈ [0, 1],
       let t := withFlit (flit 128 4 0 0) false (regsSet [(Page.frz, Reg.FRZ_CTRL, BitVec.ofNat 32 fof), (Page.frz, Reg.FRZ_FPW_US, 5)] idle5)
       let s : State := { t with fault := { readySeen := true } }
       s.clocked = true ∧ s.fabricClock (routerPage 128) = true ∧ s.reg Page.frz Reg.FRZ_FPW_US ≠ 0
       ∧ s.holdsPacket (routerPage 128) = true ∧ bit (s.reg Page.frz Reg.FRZ_CTRL) 0 = decide (fof = 1)
       ∧ s.fault.readySeen = true ∧ s.pwrState ≠ Pwr.nap ∧ s.pwrState ≠ Pwr.sleep)
    ∧ (let s : State := { inFrz Frz.collect idle5 with elapsed := 300000000 }
       s.frzState = Frz.collect ∧ s.fault.recoverAt + 300000000 ≤ s.elapsed ∧ s.dumpArea = none)
    ∧ (let s := regsSet [(Page.frz, Reg.FRZ_REC_CAUSE, 0x040D)] (inFrz Frz.kill idle5)
       s.frzState = Frz.kill ∧ s.reg Page.frz Reg.FRZ_REC_CAUSE = 0x040D ∧ 760 ≤ (760 : Fin 2048).val
       ∧ ¬ 760 ≤ (759 : Fin 2048).val)
    ∧ (inFrz Frz.retrain idle5).frzState = Frz.retrain
    ∧ (let s := inFrz Frz.reload (starting .warm 7)
       s.frzState = Frz.reload ∧ s.bootStage = 7 ∧ s.bootFail = 0 ∧ s.boot.size = 0 ∧ s.storeMatches = false
       ∧ (kept s).frzState = Frz.reload ∧ (kept s).bootStage = 7) := by
  unfold State.takes State.takesWo; decide +kernel

/-- Ready and running, with the freeze pin, its rise and Refuge core 0 as given, in a power and a freeze state. -/
def powered (pwr frz rfg : Nat) : State :=
  let s := regsSet [(Page.frz, Reg.FRZ_CTRL, 0xC), (Page.pwr, Reg.PWR_STAT, BitVec.ofNat 32 (pwr * 2 ^ 28)),
    (Page.rfg 0, Reg.RFG_STAT, BitVec.ofNat 32 (rfg * 2 ^ 28)), (Page.pwr, Reg.PWR_WAKE_EN, 0x3F)] ready
  inFrz frz s

theorem wit_FreezeAndPowerStates_freeze :
    (let s := powered Pwr.run Frz.run 1
     bit (s.reg Page.frz Reg.FRZ_CTRL) 2 = true ∧ bit ((regsSet [(Page.frz, Reg.FRZ_CTRL, 0)] s).reg Page.frz Reg.FRZ_CTRL) 2 = false
     ∧ s.frzState = Frz.run ∧ s.pwrState ≠ Pwr.nap ∧ s.pwrState ≠ Pwr.sleep ∧ s.fault.readySeen = true
     ∧ State.reset.fault.readySeen = false ∧ s.takes fw Page.frz Reg.FRZ_CTRL ∧ s.frzState ≠ Frz.frozen)
    ∧ (powered Pwr.nap Frz.run 1).pwrState = Pwr.nap
    ∧ (let s := regsSet [(Page.trv 0, Reg.TRV_STAT, trvStat 2 4 31 15)] (powered Pwr.run Frz.stopping 1)
       s.frzState = Frz.stopping ∧ s.trvUsable (0 : Fin 16) = true ∧ (s.trvPort (0 : Fin 16)).replay.length < 1024
       ∧ numAt (s.trvPort (0 : Fin 16)).used 0 < 16)
    ∧ (let s := powered Pwr.run Frz.frozen 1
       s.frzState = Frz.frozen ∧ bit (s.reg Page.frz Reg.FRZ_STAT) 15 = false ∧ bit (s.reg Page.frz Reg.FRZ_STAT) 22 = false
       ∧ (⟨.jtag, false⟩ : Requester).who = .jtag
       ∧ (regsSet [(Page.dbg, Reg.DBG_STAT, 0x80000000)] s).takes ⟨.jtag, false⟩ Page.frz Reg.FRZ_CTRL
       ∧ (regsSet [(Page.dbg, Reg.DBG_STAT, 0x80000000)] s).takesWo ⟨.jtag, false⟩ Page.frz Reg.FRZ_RESUME
       ∧ bit (s.reg Page.frz Reg.FRZ_CTRL) 3 = true ∧ s.frzState ≠ Frz.run)
    ∧ (powered Pwr.run Frz.resuming 1).frzState = Frz.resuming := by unfold State.takes State.takesWo; decide +kernel

theorem wit_FreezeAndPowerStates_power :
    (∀ rfg ∈ [0, 1],
      let s := powered Pwr.run Frz.run rfg
      s.takes fw Page.pwr Reg.PWR_REQ ∧ s.servesPower = decide (rfg = 1) ∧ s.pwrState = Pwr.run ∧ s.power.entry = none
      ∧ s.power.gated = false ∧ s.running = false ∧ (regsSet [(Page.stp, Reg.PG_CTRL, 1)] s).running = true ∧ s.aonLoad ≤ 180
      ∧ 180 < (regsSet [(Page.pwr, Reg.PWR_WAKE_EN, 0x1FF)] s).aonLoad)
    ∧ (let s : State := { powered Pwr.waking Frz.run 1 with power := { gated := true } }
       s.takes fw Page.pwr Reg.PWR_REQ ∧ s.servesPower = true ∧ s.pwrState = Pwr.waking ∧ s.power.entry = none
       ∧ s.power.waitMain = false ∧ s.power.gated = true)
    ∧ (let s : State := { regsSet [(Page.pwr, Reg.PWR_WAKE_EN, 0)] (powered Pwr.entering Frz.run 1) with power := { entry := some (2, 0) } }
       s.power.entry = some (2, 0) ∧ s.reg Page.pwr Reg.PWR_WAKE_EN = 0 ∧ s.reg Page.pwr Reg.PWR_WAKE_CAUSE = 0
       ∧ s.power.held = none)
    ∧ (∀ x ∈ [Pwr.nap, Pwr.sleep],
       let s := powered x Frz.run 1
       (s.pwrState = Pwr.nap ∨ s.pwrState = Pwr.sleep) ∧ Nat.testBit (1 : Fin 16).val 0 = true
       ∧ Nat.testBit s.power.pins 0 = false ∧ bit (s.reg Page.pwr Reg.PWR_WAKE_EN) 0 = true
       ∧ s.power.timerHigh = false ∧ s.reg64 Page.pwr Reg.PWR_WAKE_AT_NS ≤ 2 ^ 64
       ∧ bit (s.reg Page.pwr Reg.PWR_WAKE_EN) 4 = true ∧ bit (s.reg Page.pwr Reg.PWR_WAKE_EN) (5 + (0 : Fin 4).val) = true
       ∧ bit (s.reg Page.pwr Reg.PWR_WAKE_EN) (5 + (3 : Fin 4).val) = false)
    ∧ ({ powered Pwr.waking Frz.run 1 with power := { waitMain := true } } : State).power.waitMain = true := by
  unfold State.takes; decide +kernel

theorem wit_ClocksTemperatureAndWear :
    (let s := regsSet [(Page.clk, pllCtrl 0, 0x800007D0), (Page.clk, pllStat 0, 0x800007D0), (Page.clk, Reg.CLK_DSEL, 11)] ready
     s.takes fw Page.clk (pllCtrl (0 : Fin 6)) ∧ pllMax (0 : Fin 6) < fld (0x800007D1 : W32) 11 0
     ∧ fld (0x800007D0 : W32) 11 0 ≤ pllMax (0 : Fin 6) ∧ bit (s.reg Page.clk (pllCtrl (0 : Fin 6))) 31 = true
     ∧ (0 : Fin 6).val ∉ s.power.pllOff
     ∧ s.frzState = Frz.run ∧ s.pwrState = Pwr.run ∧ bit (s.reg Page.clk (pllStat (0 : Fin 6))) 31 = true
     ∧ bit (State.reset.reg Page.clk (pllCtrl (0 : Fin 6))) 31 = false ∧ bit (State.reset.reg Page.clk (pllStat (0 : Fin 6))) 31 = false
     ∧ s.takes fw Page.clk Reg.CLK_DSRC ∧ domainPresent s.grade (s.regFld Page.clk Reg.CLK_DSEL 7 0) = true
     ∧ domainTakes (s.regFld Page.clk Reg.CLK_DSEL 7 0) 0x101 = true ∧ fld (0x101 : W32) 2 0 = 1
     ∧ domainTakes (s.regFld Page.clk Reg.CLK_DSEL 7 0) 0x102 = true ∧ fld (0x102 : W32) 2 0 ≠ 0
     ∧ bit (s.reg Page.clk (pllStat (2 - 1))) 31 = false)
    ∧ (∀ level ∈ [0, 1, 3],
       let t := regsSet [(Page.pwr, Reg.PWR_STAT, BitVec.ofNat 32 level)] ready
       let s : State := { t with elapsed := 10000000, power := { coolSince := some 0 } }
       s.throttle = level ∧ s.power.raised + 100000 ≤ s.elapsed ∧ s.power.coolSince = some 0 ∧ 0 + 10000000 ≤ s.elapsed
       ∧ s.pwrState ≠ Pwr.sleep ∧ s.frzState < Frz.collect ∧ bit (s.reg Page.frz Reg.FRZ_CTRL) 0 = false)
    ∧ (let t := regsSet [(Page.rfg 3, Reg.RFG_STAT, 0x10000000), (Page.scr, Reg.SCR_SAMPLE_S, 60)] ready
       let s : State := { t with elapsed := 60000000000 }
       s.refugeRuns 3 = true ∧ s.rfgState 3 = 1
       ∧ s.scree.sampled + max 60 (s.regFld Page.scr Reg.SCR_SAMPLE_S 15 0) * 1000000000 ≤ s.elapsed
       ∧ s.takesWo fw Page.scr Reg.SCR_LEDGER_CTRL ∧ s.reg Page.scr Reg.SCR_LEDGER_CTRL = 0 ∧ s.clocked = true
       ∧ s.otpBusy = false ∧ s.ledgerPlace = true
       ∧ (regsSet [(Page.die 0, Reg.DRM_SYN_LIMIT, 0x100000)] s).ledgerPlace = false)
    ∧ (let t := regsSet [(Page.pwr, Reg.PWR_VID, 0x00280000)] ready
       let s : State := { t with elapsed := 10000 }
       s.takes fw Page.pwr Reg.PWR_VID ∧ 40 < fld (0x00290000 : W32) 21 16 ∧ fld (0x00280000 : W32) 21 16 ≤ 40
       ∧ s.power.vidAt + 10000 ≤ s.elapsed ∧ s.regFld Page.pwr Reg.PWR_VID 5 0 ≠ s.regFld Page.pwr Reg.PWR_VID 21 16
       ∧ t.elapsed < t.power.vidAt + 10000) := by unfold State.takes State.takesWo; decide +kernel

/-- A range of one MiB at 1 MiB is covered; a verification, an OTP command, a range change and a token are under way. -/
def guarded : State :=
  let s := regsSet [(Page.bdr, Reg.BDR_DRANGEi_BASE, 0x100000), (Page.bdr, Reg.BDR_DRANGEi_LIMIT, 0x200000),
    (Page.bdr, Reg.BDR_DRANGEi_LIMIT + 4, 0x80000000), (Page.bdr, Reg.BDR_VER_SIZE, 6080),
    (Page.bdr, Reg.BDR_VER_ADDR, BitVec.ofNat 32 Base.dram), (Page.bdr, Reg.BDR_VER_ADDR + 4, BitVec.ofNat 32 (Base.dram / 2 ^ 32)),
    (Page.dbg, Reg.DBG_STAT, 0x20000000), (Page.otp, Reg.OTP_STAT, 0x80000000)] ready
  { s with sec := { otp := some [55840], drange := some (1, 0, 0),
                    verify := some { addr := Base.dram, size := 6080, use := 0, bytes := [] } } }

theorem wit_BedrockGuardsTheChip :
    (let s := guarded
     let t := regsSet [(Page.bdr, Reg.BDR_VER_SIZE, 6079)] s
     let u := regsSet [(Page.bdr, Reg.BDR_VER_ADDR + 4, 0)] s
     s.takesWo fw Page.bdr Reg.BDR_VER_CTRL ∧ bit (0x80000000 : W32) 31 = true ∧ bit (s.reg Page.bdr Reg.BDR_VER_STAT) 31 = false
     ∧ bit ((regsSet [(Page.bdr, Reg.BDR_VER_STAT, 0x80000000)] s).reg Page.bdr Reg.BDR_VER_STAT) 31 = true
     ∧ t.reg64 Page.bdr Reg.BDR_VER_SIZE % 2 ^ 40 < 6080 ∧ 6080 ≤ s.reg64 Page.bdr Reg.BDR_VER_SIZE % 2 ^ 40
     ∧ Base.dram ≤ s.reg64 Page.bdr Reg.BDR_VER_ADDR % 2 ^ 52
     ∧ s.reg64 Page.bdr Reg.BDR_VER_ADDR % 2 ^ 52 + 6080 ≤ Base.dram + dramBytes s.grade
     ∧ u.reg64 Page.bdr Reg.BDR_VER_ADDR % 2 ^ 52 < Base.dram ∧ s.sec.verify.isSome = true)
    ∧ (let s := guarded
       s.takesWo fw Page.otp Reg.OTP_CMD ∧ s.isSecure fw = true ∧ s.otpBusy = true ∧ ready.otpBusy = false
       ∧ ready.takesWo fw Page.otp Reg.OTP_CMD ∧ Nat.testBit (2 : Fin 256).val 0 = false ∧ s.sec.otp = some [55840])
    ∧ (let s := regsSet [] { guarded with sec := {} }
       s.takes fw Page.bdr (Reg.BDR_DRANGEi_BASE + 16 * (0 : Fin 8).val)
       ∧ s.takes fw Page.bdr (Reg.BDR_DRANGEi_LIMIT + 16 * (0 : Fin 8).val) ∧ s.sec.drange = none
       ∧ s.removesCover (0 : Fin 8) 0 (s.drange (0 : Fin 8)).2 = false
       ∧ s.removesCover (0 : Fin 8) 0x200000 (s.drange (0 : Fin 8)).2 = true)
    ∧ guarded.sec.drange = some ((1 : Fin 8).val, 0, 0)
    ∧ (ready.takesWo fw Page.dbg Reg.DBG_CTRL ∧ ready.takesWo fw Page.dbg Reg.DBG_TOKEN ∧ guarded.tokenBusy = true
       ∧ guarded.takesWo fw Page.dbg Reg.DBG_TOKEN ∧ ready.tokenBusy = false ∧ ready.trngState ≠ 2
       ∧ ready.mayRead fw Page.bdr Reg.BDR_TRNG_DATA = true) := by
  unfold State.takes State.takesWo; decide +kernel

/-- OTP content decides these pairs of clauses; each hypothesis holds of some content, and the two of a pair exclude each
other. -/
theorem wit_BedrockGuardsTheChip_otp (s : State) (k arg : Nat) :
    ((s.slotCtl k ≠ 0 ∨ s.slotHash k ≠ 0) ↔ ¬ (s.slotCtl k = 0 ∧ s.slotHash k = 0))
    ∧ ((∃ j, j < 4 ∧ j ≠ k ∧ s.slotOk j 0 = true) ↔ ¬ (∀ j, j < 4 → j ≠ k → s.slotOk j 0 = false))
    ∧ (s.otpArb < arg ↔ ¬ arg ≤ s.otpArb) := by
  refine ⟨by omega, ⟨fun ⟨j, a, b, c⟩ h => by simp [h j a b] at c, fun h => ?_⟩, by omega⟩
  by_contra g
  exact h (fun j a b => by
    cases e : s.slotOk j 0
    · rfl
    · exact absurd ⟨j, a, b, e⟩ g)

/-! ## Worked examples of the spec -/

/-- Chapter 05: a row header at DRAM offset 0x2_5A3C_7F40 lies in slice 97, bank 14, DRAM row 4,817, column 0x140. -/
theorem test_dram_place : dramPlace 0x25A3C7F40 = { slice := 97, bank := 14, row := 4817, column := 0x140 } := by decide +kernel

theorem test_dram_place_back : dramOffset { slice := 97, bank := 14, row := 4817, column := 0x140 } = 0x25A3C7F40 := by
  decide +kernel

/-- Chapter 07: an event for chip 0x012 with COUNT 1 and STEP_PAR 2 has the header 0x1012_4C3C; queue index 0xF_FFFF with row
42 is the event word 0xFFFF_F02A. -/
theorem test_header : header 1 0x012 1 1 2 false = 0x10124C3C := by decide +kernel

theorem test_event_word :
    eventCell 0xFFFFF02A = 2047 ∧ eventQueue 0xFFFFF02A = 511 ∧ eventRow 0xFFFFF02A = 42 := by decide +kernel

/-- Chapter 03: WEIGHT 0x4B in E4M3 with EXP −3 and MULT 37 contributes 25; with EXP 0 and MULT 1 it contributes 6, and 0xCB
contributes −6. -/
theorem test_contribution :
    (contribution 5 0x4B 37 (-3)).code = 25 ∧ (contribution 5 0x4B 1 0).code = 6
    ∧ (contribution 5 0xCB 1 0).code = ofSigned 32 (-6) := by decide +kernel

/-- Chapter 03: 100 × 230 / 256 in units of 2⁻⁸ rounds stochastically to 0x5A below 55,296 of 65,536, and else to 0x59. -/
theorem test_stochastic_decay :
    let x := Num.fin false (100 * 0xE6) 65536
    (encodeNum 10 false x (some 55295)).code = 0x5A ∧ (encodeNum 10 false x (some 55296)).code = 0x59 := by decide +kernel

/-- Chapter 09: row 3 of queue 6 of cell 1,339 holds the synapse word 0x2031_1400 onto neuron 1,030, whose profile 5 has RULE 3,
RULESET 2 and TDECAY 0x80; set 2 has AP 192, AM 32, TINC 0x40, LR 4, SHIFT 2 and ECLR CLEAR. -/
def learning (post : Nat) : State :=
  let s := regsSet [(Page.cell 1339, profOff 5, BitVec.ofNat 32 (3 * 2 ^ 12 + 2 * 2 ^ 8 + 0x80)),
    (Page.cell 1339, Reg.CEL_PRE_CTRL, 0x8080), (Page.lrn, Reg.LRN_CTRL, 1),
    (Page.lrn, Reg.LRN_RULESET + 32, 0xC0200040), (Page.lrn, Reg.LRN_RULESET + 36, 0x00041000),
    (Page.cell 1339, Reg.CEL_MODL0, 0x0200)] open5
  { s with cells := { s.cells with neurons := [(8192 * 1339 + 1030, { post := BitVec.ofNat 8 post, f := packF 5 0 false false })] } }
def plasticRow (w : W32) : Row :=
  { cell := 1339, entryOff := 0, addr := 0, entry := 2 ^ 41 + 2 ^ 40, h0 := 0x02000080, h1 := 0x10000, words := [(w, false)] }

/-- Step 850: post-trace 0x80 and pre-trace 0 leave ELIG −16; step 851: pre-trace 0x40 leaves −8. -/
theorem test_eligibility :
    Syn.elig ((learning 0x80).eligUpdate (plasticRow 0) 0 0x20311400).1 = -16
    ∧ Syn.elig ((learning 0x80).eligUpdate (plasticRow 0) 0x40 (Syn.setElig 0x20311400 0xF0)).1 = -8 := by decide +kernel

/-- The close of epoch 8 with m = 512: WEIGHT 20 with ELIG −8 becomes 4, and ELIG is cleared. -/
theorem test_epoch_apply :
    (((learning 0).applyRow (cellSites 1339) (plasticRow (Syn.setElig 0x20311400 0xF8)) 8).1.words.map
      (fun w => (toSigned 8 (Syn.weight w.1), Syn.elig w.1))) = [(4, 0)] := by decide +kernel

/-- Chapter 16: TMR4 in DOWN_RELOAD with period 1,000 and a count; channel 0 compares with ADD 250 and toggles its output. -/
def tmr4 (count cmp : Nat) : State :=
  let r (o : Nat) (v : Nat) : Nat × Nat × W32 := (tmrPage 4, o, BitVec.ofNat 32 v)
  let s := regsSet [r (tmrOff 4 Reg.TMR_CTRL) (2 ^ 31), r (tmrOff 4 Reg.TMR_PERIOD) 200, r (tmrOff 4 Reg.TMR_PERIOD_ACT) 1000,
    r (tmrOff 4 Reg.TMR_COUNT) count, r (chanOff 4 0 Reg.TMR_CMPk) cmp, r (chanOff 4 0 Reg.TMR_ADDk) 250,
    r (chanOff 4 0 Reg.TMR_CCFGk) (2 ^ 30 + 3 * 2 ^ 28)] idle5
  { s with tmr := { due := [32, 36] } }
def stateAfter (c : Instr) (s : State) : State :=
  match exec c s with
  | .next t => t
  | .fault _ => s
  | .refused _ => s

/-- At 600 the output goes high and CMP becomes 350; at 100, CMP becomes 850. -/
theorem test_compare_match :
    (let t := stateAfter (.compareMatch 4 0) (tmr4 600 600)
     t.chanNum 4 0 Reg.TMR_CMPk = 350 ∧ t.tmr.outs = [16] ∧ bit (t.tmrReg 4 Reg.TMR_FLAG) 0 = true)
    ∧ (stateAfter (.compareMatch 4 0) (tmr4 100 100)).chanNum 4 0 Reg.TMR_CMPk = 850 := by decide +kernel

/-- At the WRAP the count and TMR_PERIOD_ACT become 200. -/
theorem test_timer_wrap :
    (let t := stateAfter (.timerWrap 4) (tmr4 0 850)
     t.tmrNum 4 Reg.TMR_COUNT = 200 ∧ t.tmrNum 4 Reg.TMR_PERIOD_ACT = 200) := by decide +kernel

/-- Chapter 16: the CRC-8 of a header. From 0 the byte 0x10 gives 0x70, then 0x12 gives 0x29 and 0x4C gives 0x3C. -/
def crc3 (st : Nat) : State :=
  regsSet [(0x79, crcOff 3 Reg.CRC_CFG, 8), (0x79, crcOff 3 Reg.CRC_POLY, 7), (0x79, crcOff 3 Reg.CRC_STATE, BitVec.ofNat 32 st)] idle5
theorem test_crc_data8 :
    (stateAfter (.crcData8 fw 3 0x10) (crc3 0)).crcNum 3 Reg.CRC_STATE = 0x70
    ∧ (stateAfter (.crcData8 fw 3 0x12) (crc3 0x70)).crcNum 3 Reg.CRC_STATE = 0x29
    ∧ (stateAfter (.crcData8 fw 3 0x4C) (crc3 0x29)).crcNum 3 Reg.CRC_STATE = 0x3C := by decide +kernel

/-- Chapter 16: the CRC-32 of "123456789" is 0xCBF4_3926. -/
theorem test_crc32 : crc32 [0x31, 0x32, 0x33, 0x34, 0x35, 0x36, 0x37, 0x38, 0x39] = 0xCBF43926 := by decide +kernel

/-- Chapter 15: COL40 is full and its source 3,176 goes to context 5 with PRIO 6 and MOD 3,125; CRS5 claims it and runs at
level 6. -/
def col40 : State :=
  regsSet [(0x7E, 0x500 + 0x48, 0x80000000), (0x7E, 0x500 + 0x4C, 0x80000005), (0xEE, 0x9A0, 0x05600C35),
    (Page.picCtl, Reg.PIC_THRESHx + 16 * 5, 2)] idle5
theorem test_pic_claim :
    let t := stateAfter (.picClaim ⟨.crs 5, false⟩ 5) col40
    t.rdata = 3176 ∧ t.runLevel 5 = 6 := by decide +kernel

/-- Chapter 06: a Crest core gives bank 37 from PLT1 to CREST: HANDOVER is set and a load of PLT1 is refused. -/
def bank37 : State :=
  let s := regsSet [(Page.bank 37, Reg.TAR_OWNER, 2), (Page.bank 37, Reg.TAR_OWNER_ACK, 2)] idle5
  { s with tarn := { s.tarn with banks := [(37, { (s.bank 37) with power := 2, draining := false })] } }
theorem test_handover : (stateAfter (.tarOwnerWrite fw 37 8) bank37).handover 37 = true := by decide +kernel

/-- Chapter 20: with the four WAKE pins enabled the low-power load is 8.3 mA. -/
theorem test_aon_load : State.reset.aonLoad = 0x53 := by decide +kernel

/-! ## Ill-formed commands: one for each check -/

/-- Addresses, sizes, pages, offsets, owners, bank words and accesses to SRAM. -/
theorem wf_addresses :
    Instr.wf (.registerWrite fw (2 ^ 52) 4 0) = false ∧ Instr.wf (.registerWrite fw 0 3 0) = false
    ∧ Instr.wf (.registerWrite fw 0 4 (2 ^ 32)) = false ∧ Instr.wf (.rcRead fw 0 128) = false
    ∧ Instr.wf (.lowWordRead fw (2 ^ 52)) = false ∧ Instr.wf (.fabSwap fw 0x100000) = false
    ∧ Instr.wf (.rulesetWrite fw 4096 0) = false ∧ Instr.wf (.rulesetWrite fw 2 0) = false
    ∧ Instr.wf (.addS32 0 9 fw 0 0) = false ∧ Instr.wf (.addS32 0 8 fw 2 0) = false ∧ Instr.wf (.swap 0 8 fw 0x80000 0) = false
    ∧ TarnOp.wf (.load 0x7FFFF 2) = false ∧ TarnOp.wf (.store 0 [1, 2, 3]) = false
    ∧ TarnOp.wfPlt (.load 0x1000000 1) = false ∧ Instr.wf (.jtagAccess (2 ^ 52) none) = false := by decide +kernel

/-- Frames, images, boot operands and monitors. -/
theorem wf_operands :
    Instr.wf (.linkFrame 0 { words := [0], corrected := 0, uncorrectable := 0, symbols := [] }) = false
    ∧ Instr.wf (.ethFrameReceive 0 [0]) = false ∧ Instr.wf (.remoteAccess fw 0 4 (some [1])) = false
    ∧ Instr.wf (.yunasilLoad { rateImage 0 with rates := [(4096, 0)] }) = false
    ∧ Instr.wf (.yunasilLoad { rateImage 0 with axons := [(2 ^ 24, 0)] }) = false
    ∧ Instr.wf (.dramRowTest [(0, 16, 0)]) = false ∧ Instr.wf (.screeSample [0]) = false
    ∧ Instr.wf (.crestCacheError 0 .parity (2 ^ 52)) = false := by decide +kernel

/-- Commands that are well formed. -/
theorem wf_admits :
    Instr.wf .tick = true ∧ Instr.wf (.registerWrite fw 0xFFFFFFFFFFFFF 8 (2 ^ 63)) = true
    ∧ Instr.wf (.addS32 127 8 fw 0x7FFFC 0) = true ∧ Instr.wf (.yunasilLoad (rateImage 4095)) = true := by decide +kernel

/-- The table gives no row any bits, so no word spells a command. -/
theorem test_no_words : decodeTableWord 32 0xFFFFFFFF = none ∧ State.reset.withFetchWord 32 5 = State.reset := by decide +kernel

end Sys2Proof.Tests
end

section
/-! # How a state may evolve

Every function of the model from state to state keeps the grade, the queue of commands, the powered time and the canonical
form of registers and memory. `State.Evolves` says so of two states. Each function that `step` reaches has one lemma,
named after it, that extends an evolution by a call of it: the proofs follow the bodies of the definitions, call by call,
and a function that only writes other fields of the state needs no lemma but `State.Evolves.frame`.

Where a body matches on a value that the kernel would start to compute (the banks of an address, the region of one), the
proof first takes the computing function as some function, so that the branches are compared and nothing is computed. -/
namespace Sys2Proof.Machine
open Sys2Proof

/-- `t` has the grade, the queue and the powered time of `s`, and its canonical form. -/
structure State.Evolves (s t : State) : Prop where
  grade : t.grade = s.grade
  queue : t.pending = s.pending
  time : t.elapsed = s.elapsed
  sound : s.Sound → t.Sound

/-- The command's outcome is a state into which `s` may evolve. -/
def State.Completes (s : State) (o : Host.Outcome State Fault Refusal) : Prop :=
  ∃ t, o = .next t ∧ s.Evolves t

/-- The state that a partial function answers, if any, is one into which `s` may evolve. -/
def State.Yields (s : State) (o : Option State) : Prop := ∀ t ∈ o, s.Evolves t

/-! ### The shapes of a body: branches, pairs, loops -/

namespace State.Evolves

variable {s₀ s : State}

theorem refl (s : State) : s.Evolves s := ⟨rfl, rfl, rfl, id⟩

theorem branch {c : Prop} [Decidable c] {a b : State} (ha : s₀.Evolves a) (hb : s₀.Evolves b) :
    s₀.Evolves (if c then a else b) := by
  split
  exacts [ha, hb]

theorem pair {α : Type} {a : α} (h : s₀.Evolves s) : s₀.Evolves (a, s).2 := h

theorem branchSnd {α : Type} {c : Prop} [Decidable c] {a b : α × State} (ha : s₀.Evolves a.2) (hb : s₀.Evolves b.2) :
    s₀.Evolves (if c then a else b).2 := by
  split
  exacts [ha, hb]

theorem loop {α : Type} {f : State → α → State} {l : List α} (h : s₀.Evolves s)
    (hf : ∀ {t x}, s₀.Evolves t → s₀.Evolves (f t x)) : s₀.Evolves (l.foldl f s) := by
  induction l generalizing s with
  | nil => exact h
  | cons x l ih => exact ih (hf h)

theorem loopSnd {α β : Type} {f : β × State → α → β × State} {l : List α} {b : β × State} (h : s₀.Evolves b.2)
    (hf : ∀ {t x}, s₀.Evolves t.2 → s₀.Evolves (f t x).2) : s₀.Evolves (l.foldl f b).2 := by
  induction l generalizing b with
  | nil => exact h
  | cons x l ih => exact ih (hf h)

theorem getD {o : Option State} (ho : s₀.Yields o) (h : s₀.Evolves s) : s₀.Evolves (o.getD s) := by
  cases o with
  | none => exact h
  | some t => exact ho t rfl

theorem after {o} (_ : s₀.Evolves s) (ho : s₀.Completes o) : s₀.Evolves (after s o) := by
  obtain ⟨t, rfl, ht⟩ := ho
  exact ht

/-! ### The writes of a state -/

/-- A write of fields other than grade, queue, powered time, registers and memory. -/
theorem frame {fr po rd rp hl lh st ce dr ta fa en le pi pl ing tr et pr tm fu bo pw sc se} (h : s₀.Evolves s) :
    s₀.Evolves { s with
      fresh := fr, poison := po, rdata := rd, rpoison := rp, heldLow := hl, latchedHigh := lh, step := st, cells := ce
      dram := dr, tarn := ta, fabric := fa, engines := en, learn := le, pic := pi, plts := pl, ingress := ing, trv := tr
      eth := et, proc := pr, tmr := tm, fault := fu, boot := bo, power := pw, scree := sc, sec := se } :=
  ⟨h.grade, h.queue, h.time, h.sound⟩

theorem setReg {p off v} (h : s₀.Evolves s) : s₀.Evolves (s.setReg p off v) :=
  ⟨h.grade, h.queue, h.time, fun h₀ => (h.sound h₀).setReg p off v⟩

theorem setByte {a b} (h : s₀.Evolves s) : s₀.Evolves (s.setByte a b) :=
  ⟨h.grade, h.queue, h.time, fun h₀ => (h.sound h₀).setByte a b⟩

theorem setBytes {l a} (h : s₀.Evolves s) : s₀.Evolves (s.setBytes a l) := by
  induction l generalizing s a with
  | nil => exact h
  | cons b l ih => exact ih h.setByte

theorem dropCells (h : s₀.Evolves s) (f) : s₀.Evolves { s with mem := s.mem.filter f } :=
  ⟨h.grade, h.queue, h.time, fun h₀ => (h.sound h₀).dropMem f⟩

theorem dropRegs (h : s₀.Evolves s) (f) : s₀.Evolves { s with regs := s.regs.filter f } :=
  ⟨h.grade, h.queue, h.time, fun h₀ => (h.sound h₀).dropRegs f⟩

end State.Evolves

namespace State.Completes

variable {s₀ t : State}

theorem next (h : s₀.Evolves t) : s₀.Completes (.next t) := ⟨t, rfl, h⟩

theorem branch {c : Prop} [Decidable c] {a b} (ha : s₀.Completes a) (hb : s₀.Completes b) :
    s₀.Completes (if c then a else b) := by
  split
  exacts [ha, hb]

end State.Completes

namespace State.Yields

variable {s₀ t : State}

theorem some (h : s₀.Evolves t) : s₀.Yields (.some t) := by
  rintro _ ⟨⟩
  exact h

theorem none : s₀.Yields .none := by
  rintro _ ⟨⟩

theorem branch {c : Prop} [Decidable c] {a b} (ha : s₀.Yields a) (hb : s₀.Yields b) :
    s₀.Yields (if c then a else b) := by
  split
  exacts [ha, hb]

end State.Yields


namespace State.Evolves

variable {s₀ s : State} (h : s₀.Evolves s)
include h

/-! ### The functions of Machine/Ops -/

theorem setFld {p off hi lo x} : s₀.Evolves (s.setFld p off hi lo x) :=
  h.setReg

theorem setReg64 {p off n} : s₀.Evolves (s.setReg64 p off n) :=
  h.setReg.setReg

theorem orReg {p off m} : s₀.Evolves (s.orReg p off m) :=
  h.setReg

theorem clrReg {p off m} : s₀.Evolves (s.clrReg p off m) :=
  h.setReg

theorem count {p off n} : s₀.Evolves (s.count p off n) :=
  h.setReg

theorem setNumAt {a n x} : s₀.Evolves (s.setNumAt a n x) :=
  h.setBytes

/-! ### The functions of Machine/Flags -/

theorem setErr {p b} : s₀.Evolves (s.setErr p b) :=
  h.orReg

theorem setInt {p b} : s₀.Evolves (s.setInt p b) :=
  h.orReg

theorem countInt {p off b n} : s₀.Evolves (s.countInt p off b n) :=
  .branch h h.count.setInt

theorem setStat {p code} : s₀.Evolves (s.setStat p code) :=
  h.setFld

theorem record {r} : s₀.Evolves (s.record r) :=
  .branch h.frame h.count

theorem detect {p b r} : s₀.Evolves (s.detect p b r) :=
  .branch h.setErr.record h.setErr

theorem corrected {p r} : s₀.Evolves (s.corrected p r) :=
  .branch h.count.record h.count

theorem setFrz {x} : s₀.Evolves (s.setFrz x) :=
  h.setFld

theorem freeze {cause origin} : s₀.Evolves (s.freeze cause origin) :=
  .branch h.count (.branch h.setReg.setReg64.count h.orReg)

theorem beginRecovery {code unit} : s₀.Evolves (s.beginRecovery code unit) :=
  h.setFrz.setReg.frame

theorem fatal {code unit addr inj} : s₀.Evolves (s.fatal code unit addr inj) :=
  .branch h.record (.branch h.record.freeze h.record.beginRecovery)

theorem countShed {n} : s₀.Evolves (s.countShed n) :=
  .branch h h.frame.setInt

theorem absentAcc : s₀.Evolves s.absentAcc :=
  h.countInt

theorem unmappedAcc : s₀.Evolves s.unmappedAcc :=
  h.countInt

theorem secRefused : s₀.Evolves s.secRefused :=
  h.countInt

theorem lockRefused : s₀.Evolves s.lockRefused :=
  h.count

theorem cellDrop {c off n} : s₀.Evolves (s.cellDrop c off n) :=
  .branch h h.count.setInt

theorem listSite {site src} : s₀.Evolves (s.listSite site src) :=
  .branch h (.branch h.frame h.frame)

/-! ### The functions of Machine/Numeric -/

theorem reseed {page v} : s₀.Evolves (s.reseed page v) :=
  .loop h fun h => h.frame

theorem seedPage {page} : s₀.Evolves (s.seedPage page) :=
  .loop h fun h => h.frame.frame

theorem countConv {page site c} : s₀.Evolves (s.countConv page site c) := by
  unfold State.countConv
  extract_lets t₁
  have h₁ : s₀.Evolves t₁ := .branch h.count h
  exact .branch (.branch h₁.count.count.orReg.setInt h₁.count.count) h₁

theorem siteConv {page site f x} : s₀.Evolves (s.siteConv page site f x).2 :=
  .pair h.countConv

theorem siteConvSr {page site f x sr} : s₀.Evolves (s.siteConvSr page site f x sr).2 :=
  .branchSnd (.pair h.frame.countConv) h.siteConv

theorem siteInt {page site w i} : s₀.Evolves (s.siteInt page site w i).2 :=
  .pair h.countConv

theorem newWindow {page} : s₀.Evolves (s.newWindow page) :=
  .frame (.loop h fun h => h.setReg)

theorem windowSummit {page} : s₀.Evolves (s.windowSummit page) :=
  .branch h.newWindow h.frame

theorem applySeed {page} : s₀.Evolves (s.applySeed page) := by
  unfold State.applySeed
  split
  exacts [h, h.reseed.frame]

/-! ### The functions of Machine/Access -/

theorem colError {r p off} : s₀.Evolves (s.colError r p off) :=
  .branch h.setErr h

theorem admitWith {lock r p off} : s₀.Evolves (s.admitWith lock r p off).2 := by
  unfold State.admitWith
  split
  · exact h
  · exact .pair h.setErr
  · exact .branchSnd (.pair h.absentAcc) (.branchSnd (.pair h.colError.secRefused) (.branchSnd (.pair h.secRefused)
      (.branchSnd (.pair h.lockRefused) h)))

theorem judgeWrite {r p off} : s₀.Evolves (s.judgeWrite r p off).2 :=
  h.admitWith

theorem denyRead {r p off} : s₀.Evolves (s.denyRead r p off) := by
  unfold State.denyRead
  split
  exacts [h, h.setErr.frame, h.colError.frame]

theorem ifAdmit {r p off f} (hf : ∀ {t}, s₀.Evolves t → s₀.Evolves (f t)) : s₀.Evolves (s.ifAdmit r p off f) :=
  .branch (hf h.judgeWrite) h.judgeWrite

theorem ifAdmitWo {r p off f} (hf : ∀ {t}, s₀.Evolves t → s₀.Evolves (f t)) : s₀.Evolves (s.ifAdmitWo r p off f) :=
  .branch (hf h.admitWith) h.admitWith

theorem ifAdmitWord {r p off v f} (hf : ∀ {t x1}, s₀.Evolves t → s₀.Evolves (f t x1)) :
    s₀.Evolves (s.ifAdmitWord r p off v f) :=
  .branch h.admitWith (.branch (.branch h.admitWith.lockRefused (hf h.admitWith.lockRefused)) (hf h.admitWith))

theorem posted {r} : s₀.Evolves (s.posted r) :=
  .branch h h.frame

/-! ### The functions of Machine/Rows -/

theorem rowBad {entryOff} : s₀.Evolves (s.rowBad entryOff) :=
  h.countInt.setReg64

theorem decayedPre {q r} : s₀.Evolves (s.decayedPre q r).2 :=
  h.siteConvSr

theorem mapWords {f l} (hf : ∀ {t x}, s₀.Evolves t → s₀.Evolves (f t x).2) : s₀.Evolves (mapWords f s l).2 := by
  induction l generalizing s with
  | nil => exact h
  | cons x l ih => exact ih (.branchSnd h (hf h))

theorem applyWord {q r k w} : s₀.Evolves (s.applyWord q r k w).2 :=
  .branchSnd h (.branchSnd (.pair h.siteConv) (.branchSnd (.pair h.siteConv.siteConvSr) (.pair h.siteConv)))

theorem applyRow {q r k} : s₀.Evolves (s.applyRow q r k).2.1 := by
  unfold State.applyRow
  split
  · exact h.mapWords fun h => h.applyWord
  · exact h.mapWords fun h => h

theorem bringUp {q r} : s₀.Evolves (s.bringUp q r).2 := by
  refine .branchSnd (.pair (h.mapWords fun h => h)) (.pair ?_)
  generalize List.range _ = l
  suffices ∀ x : Row × State × Nat, s₀.Evolves x.2.1 → s₀.Evolves (l.foldl _ x).2.1 from this _ h
  induction l with
  | nil => exact fun _ h => h
  | cons i l ih => exact fun x h => ih _ h.applyRow

theorem storeAll {l} : s₀.Evolves (s.storeAll l) :=
  .loop h fun h => .branch h h.setBytes

theorem storeRow {r} : s₀.Evolves (s.storeRow r) :=
  h.storeAll

theorem countApplied {c a} : s₀.Evolves (s.countApplied c a) :=
  .branch h.count h.count.count

/-! ### The functions of Machine/Cells -/

theorem setQstate {c q x} : s₀.Evolves (s.setQstate c q x) :=
  h.frame

theorem flushQueue {c q off} : s₀.Evolves (s.flushQueue c q off) :=
  h.frame.cellDrop

theorem changeQueue {c q x} : s₀.Evolves (s.changeQueue c q x) :=
  .branch h (.branch h.flushQueue.setQstate h.setQstate)

theorem requestQueue {c q x} : s₀.Evolves (s.requestQueue c q x) :=
  .branch h (.branch h.changeQueue h.frame)

theorem applyQueues {c} : s₀.Evolves (s.applyQueues c) :=
  .loop h.frame fun h => h.changeQueue

theorem resetQueue {c q} : s₀.Evolves (s.resetQueue c q) :=
  .branch h h.flushQueue.setQstate.frame

theorem enpool {c q row step force graded off} : s₀.Evolves (s.enpool c q row step force graded off) :=
  h.frame

theorem placeEvent {c q row step force graded off} : s₀.Evolves (s.placeEvent c q row step force graded off) := by
  unfold State.placeEvent
  split
  exacts [h.enpool, h.cellDrop]

theorem sendSpike {c i p value off} : s₀.Evolves (s.sendSpike c i p value off) :=
  .branch h.count.frame h.count.frame.frame

theorem sat16G {c p g} : s₀.Evolves (s.sat16G c p g).2 :=
  .branchSnd (.pair h.siteConv) (.pair h.siteInt)

theorem sat16V {c v} : s₀.Evolves (s.sat16V c v).2 :=
  h.siteInt

theorem sat16UA {c v} : s₀.Evolves (s.sat16UA c v).2 :=
  h.siteInt

theorem membrane {c p n inp} : s₀.Evolves (s.membrane c p n inp).2 :=
  .branchSnd h (.branchSnd (.pair h.sat16UA) h)

theorem fire {c i p d} : s₀.Evolves (s.fire c i p d).2 :=
  .pair (.sendSpike (.branchSnd h h.sat16G))

theorem threshold {c i p n d} : s₀.Evolves (s.threshold c i p n d).2 :=
  .branchSnd h (.branchSnd (.branchSnd (.pair h.sendSpike) h) (.branchSnd (.branchSnd (.pair h.sendSpike) (.branchSnd
    h h)) (.branchSnd (.branchSnd (.pair (.sendSpike (.branchSnd h h.sat16G))) h) (.branchSnd h (.branchSnd h.fire
    h)))))

theorem learnUpdate {c p n spk} : s₀.Evolves (s.learnUpdate c p n spk).2 :=
  .branchSnd h (.branchSnd (.pair (.branchSnd h.siteConvSr.siteConv h.siteConvSr)) (.branchSnd h h))

theorem updateNeuron {c i} : s₀.Evolves (s.updateNeuron c i) :=
  h.membrane.threshold.sat16V.sat16UA.sat16UA.learnUpdate.frame

theorem execNeuronUpdate {cell} : s₀.Completes (execNeuronUpdate cell s) :=
  .branch (by split; exacts [.next h, .branch (.next h) (.next h.updateNeuron.frame)]) (.next h)

theorem execCellUpdateDone {cell} : s₀.Completes (execCellUpdateDone cell s) :=
  .branch (.next h.frame) (.next h)

theorem contribute {r w e} : s₀.Evolves (s.contribute r w e).2 :=
  .pair h.countConv.countConv

theorem onEvent {c i x0 off} : s₀.Evolves (s.onEvent c i x0 off) :=
  .branch h.sat16UA.frame (.branch h.frame (.branch h.sat16V.frame (.branch (.branch h.sat16V.sat16G.frame
    h.sat16V.frame) (.branch (.frame (.branchSnd (.pair h.sat16V.sat16G) h.sat16V.sat16G.sat16V)) h.sat16V.frame))))

theorem accumulate {c i x off} : s₀.Evolves (s.accumulate c i x off) :=
  .branch h.onEvent h.countConv.frame

theorem current {r e tgt w} : s₀.Evolves (s.current r e tgt w) :=
  .branch h.contribute.accumulate h.cellDrop

theorem gateSynapse {r w} : s₀.Evolves (s.gateSynapse r w) :=
  .branch h.countInt h.setFld.count

theorem modSynapse {r w e} : s₀.Evolves (s.modSynapse r w e) :=
  .branch h.contribute.siteInt.setReg h

theorem sparseWord {r e w} : s₀.Evolves (s.sparseWord r e w) :=
  .branch h.count.current (.branch h.count.modSynapse (.branch h.count.gateSynapse h.count))

theorem denseWord {r e j w} : s₀.Evolves (s.denseWord r e j w) :=
  .loop h fun h => .branch h h.count.current

theorem eligUpdate {r pre w} : s₀.Evolves (s.eligUpdate r pre w).2 :=
  .branchSnd h (.pair h.siteConvSr)

theorem expandWords {r e pre j l} : s₀.Evolves (expandWords r e pre s j l).2 := by
  induction l generalizing s j with
  | nil => exact h
  | cons x l ih =>
    refine ih (.branchSnd h (.branchSnd ?_ h.denseWord))
    split
    exacts [h.sparseWord.eligUpdate, h.sparseWord]

theorem dropItem {id} : s₀.Evolves (s.dropItem id) :=
  h.frame

theorem putItem {it} : s₀.Evolves (s.putItem it) :=
  h.frame

theorem itemRow {it} : s₀.Evolves (s.itemRow it) :=
  .branch h.rowBad.dropItem (.branch h.putItem (.branch h.putItem.frame h.putItem.frame))

theorem bringRow {c q r} : s₀.Evolves (s.bringRow c q r).2 :=
  .branchSnd h (.branchSnd h (.branchSnd h (.pair h.bringUp.countApplied.storeRow.count)))

theorem readerAct {e hnd} : s₀.Evolves (s.readerAct e hnd) :=
  .branch h.requestQueue (.branch h.requestQueue (by dsimp only; split; exacts [h.bringRow.rowBad, h.bringRow]))

theorem takeEntry {e} : s₀.Evolves (s.takeEntry e) :=
  h.frame.count

theorem integrated {e resumed} : s₀.Evolves (s.integrated e resumed) :=
  .branch h.frame h

theorem beginItem {e} : s₀.Evolves (s.beginItem e) :=
  .branch h.frame.frame.frame.itemRow h.frame.frame.frame

theorem execQueueHeadTake {cell} : s₀.Completes (execQueueHeadTake cell s) :=
  .branch
    (by
      split
      · exact .next h
      · split
        exacts [.branch (.next h) (.next h.takeEntry.integrated.readerAct), .next h.takeEntry.beginItem])
    (.next h)

theorem execRowTableReadComplete {item} : s₀.Completes (execRowTableReadComplete item s) := by
  unfold Machine.execRowTableReadComplete
  split
  exacts [.next h, .branch (.next h.frame.itemRow) (.next h)]

theorem plasticRow {it r} : s₀.Evolves (s.plasticRow it r) :=
  h.bringUp.countApplied.decayedPre.expandWords.siteConv.count.frame.frame.frame

theorem readOnlyRow {it r} : s₀.Evolves (s.readOnlyRow it r) :=
  .branch h.bringUp.expandWords (.expandWords (.branch h.frame h))

theorem wakeHeld {c} : s₀.Evolves (s.wakeHeld c) :=
  .loop h fun h => h.itemRow

theorem execRowFetchComplete {item} : s₀.Completes (execRowFetchComplete item s) := by
  unfold Machine.execRowFetchComplete
  split
  · exact .next h
  · exact .branch (.branch (.next h.dropItem.rowBad.wakeHeld) (.branch (.next h.dropItem.integrated.plasticRow) (.next
      h.dropItem.integrated.readOnlyRow.wakeHeld))) (.next h)

theorem execWriteBackComplete {cell row} : s₀.Completes (execWriteBackComplete cell row s) := by
  unfold Machine.execWriteBackComplete
  split
  exacts [.next h, .branch (.next (.wakeHeld (.loop h.frame fun h => .branch h h.setByte))) (.next h)]

theorem applyCellPost {c p} : s₀.Evolves (s.applyCellPost c p) := by
  unfold State.applyCellPost
  extract_lets _
  split
  exacts [.loop h fun h => h.setReg, h.frame, h.frame, h.frame, h.frame, h.setReg, h.setReg]

theorem applyCellPosts {c} : s₀.Evolves (s.applyCellPosts c) :=
  .loop h.frame fun h => h.applyCellPost

theorem postCell {c l} : s₀.Evolves (s.postCell c l).2 :=
  .branchSnd (.pair (.loop h fun h => h.applyCellPost)) (.branchSnd h (.pair h.frame))

theorem cellPostWrite {r site off v} : s₀.Evolves (s.cellPostWrite r site off v) := by
  unfold State.cellPostWrite
  split
  · exact h
  · split
    exacts [h, .branch h.setErr (.branch (.branch h.postCell.posted h.postCell) h.setErr)]

theorem execPostedCellWrite {req site off v} : s₀.Completes (execPostedCellWrite req site off v s) :=
  .next (h.ifAdmit fun h => h.cellPostWrite)

theorem qstateWrite {r c q x page} : s₀.Evolves (s.qstateWrite r c q x page) :=
  .branch h.setErr (.branch h.resetQueue (.branch h.requestQueue.posted h.requestQueue))

theorem qdescApply {r site w v0} : s₀.Evolves (s.qdescApply r site w v0) := by
  unfold State.qdescApply
  split
  · exact h
  · exact .branch h.setErr (.branch (.qstateWrite (.branch (.branch h.setErr (.branch h.frame h.frame)) (.branch h
      h.setErr))) (.branch (.branch h.setErr (.branch h.frame h.frame)) (.branch h h.setErr)))

theorem execQdescWrite {req site word v} : s₀.Completes (execQdescWrite req site word v s) :=
  .next (h.ifAdmit fun h => h.qdescApply)

theorem execQueueResetDone {cell queue} : s₀.Completes (execQueueResetDone cell queue s) :=
  .branch (.next h.setQstate) (.next h)

theorem execCellQuiescent {cell} : s₀.Completes (execCellQuiescent cell s) :=
  .branch (.next h.frame) (.next h)

/-! ### The functions of Machine/Dram -/

theorem followRefresh {slice} : s₀.Evolves (s.followRefresh slice) :=
  h.setReg.frame

theorem beginWindow {slice k} : s₀.Evolves (s.beginWindow slice k) :=
  .branch (.followRefresh (.frame (.branch h h.count))) (.frame (.branch h h.count))

theorem restartWindows : s₀.Evolves s.restartWindows :=
  .frame (.loop h fun h => h.beginWindow)

theorem execReservationWindow {slice} : s₀.Completes (execReservationWindow slice s) :=
  .branch (.next h.beginWindow) (.next h)

theorem setSlicePower {slice x} : s₀.Evolves (s.setSlicePower slice x) :=
  h.setFld

theorem touchSlice {slice} : s₀.Evolves (s.touchSlice slice) :=
  .frame (.branch h.setSlicePower h)

theorem execSlicePowerDown {slice} : s₀.Completes (execSlicePowerDown slice s) :=
  .branch (.next h.setSlicePower) (.next h)

theorem degradeBank {slice bank} : s₀.Evolves (s.degradeBank slice bank) :=
  .branch h.frame.setErr.setInt.record h.frame.setErr.setInt

theorem startRemap {p src} : s₀.Evolves (s.startRemap p src) :=
  .branch h (.branch h.degradeBank h.frame)

theorem enterRemap {c} : s₀.Evolves (s.enterRemap c) :=
  .branch h.frame.setFld.setFld.setFld.setInt.setInt h.frame.setFld.setFld.setFld.setInt

theorem execRowRemapComplete {slice} : s₀.Completes (execRowRemapComplete slice s) := by
  unfold Machine.execRowRemapComplete
  split
  exacts [.next h, .branch (.next h.frame.enterRemap.record) (.next h)]

theorem poisonRow {slice bank row} : s₀.Evolves (s.poisonRow slice bank row) :=
  .loop h fun h => h.frame

theorem readBeat {d symbols} : s₀.Evolves (s.readBeat d symbols) :=
  .branch h (.branch (.branch h.setReg64.corrected.frame.startRemap h.setReg64.corrected.frame)
    h.setReg64.frame.countInt.detect.startRemap)

theorem execDramRequestServe {slice pick symbols} : s₀.Completes (execDramRequestServe slice pick symbols s) := by
  unfold Machine.execDramRequestServe
  split
  exacts [.next h, .branch (.next h.touchSlice.frame.readBeat.count) (.next h)]

theorem execPatrolScrub {slice symbols} : s₀.Completes (execPatrolScrub slice symbols s) :=
  .branch (.next h.touchSlice.readBeat.frame) (.next h)

theorem execDrmRemapAdd {req die v} : s₀.Completes (execDrmRemapAdd req die v s) :=
  .next (h.ifAdmit fun h => .branch h.setErr (.branch h.poisonRow.degradeBank h.startRemap))

theorem execRefreshChange {slice temp} : s₀.Completes (execRefreshChange slice temp s) :=
  .branch (.branch (.next h.setFld) (.next h.setFld.setFld.setInt.frame)) (.next h)

theorem writeBeat {d l} : s₀.Evolves (s.writeBeat d l) :=
  .branch h.setBytes.frame h.setBytes

theorem touchRange {d n} : s₀.Evolves (s.touchRange d n) :=
  .loop h fun h => h.touchSlice

theorem dramStore {d l} : s₀.Evolves (s.dramStore d l) :=
  .frame (.loop h.touchRange fun h => h.writeBeat)

theorem postSyn {r d l} : s₀.Evolves (s.postSyn r d l) :=
  .branch h.frame h.frame

theorem dramWrite {r secure d l} : s₀.Evolves (s.dramWrite r secure d l) :=
  .branch h.absentAcc (.branch h.count (.branch
    (by dsimp only; split; exacts [.posted (.loop h fun h => h.postSyn), .loop h fun h => h.postSyn]) h.dramStore))

theorem dramRead {secure d n} : s₀.Evolves (s.dramRead secure d n).2 :=
  .branchSnd h (.branchSnd (.pair h.count) (.pair h.touchRange.count))

theorem chargeBytes {who d n} : s₀.Evolves (s.chargeBytes who d n) :=
  .branch h h.frame

theorem chargeReq {r d n} : s₀.Evolves (s.chargeReq r d n) := by
  unfold State.chargeReq
  split
  exacts [h.chargeBytes, h]

theorem execPostedSynapseWrite {req addr bytes} : s₀.Completes (execPostedSynapseWrite req addr bytes s) :=
  .branch (.next h.chargeReq.dramWrite) (.next h)

theorem execPostedWriteAdmit {slice} : s₀.Completes (execPostedWriteAdmit slice s) := by
  unfold Machine.execPostedWriteAdmit
  split
  exacts [.next h, .branch (.next h.frame) (.next h)]

theorem applySyn {region} : s₀.Evolves (s.applySyn region) :=
  .loop h.frame fun h => h.dramStore

/-! ### The functions of Machine/Tarn -/

theorem tarnRefuse {b} : s₀.Evolves (s.tarnRefuse b).2 :=
  .pair h.countInt.setErr

theorem sramStore {a l} : s₀.Evolves (s.sramStore a l) :=
  .loop h.setBytes fun h => .branch h.frame h

theorem tarnAtomic {b op o x} : s₀.Evolves (s.tarnAtomic b op o x).2 :=
  .branchSnd (.pair h.setErr) (.branchSnd (.pair (.branch h.setNumAt.count h.setNumAt)) h)

theorem tarnDo {b op} : s₀.Evolves (s.tarnDo b op).2 := by
  unfold State.tarnDo
  split
  exacts [.branchSnd h.tarnRefuse h, .branchSnd h.tarnRefuse (.pair h.sramStore), h.tarnAtomic]

theorem tarnSide {b r op} : s₀.Evolves (s.tarnSide b r op).2 :=
  .branchSnd h.tarnDo h.tarnRefuse

theorem tarnPort {b owner r op} : s₀.Evolves (s.tarnPort b owner r op) :=
  .branch h.frame (.frame (.branchSnd h.tarnDo h.tarnSide))

theorem execTarnAccess {bank owner req atomic dma loadStore} :
    s₀.Completes (execTarnAccess bank owner req atomic dma loadStore s) :=
  .branch (.next (.loop (.branch h.frame.count h.frame) fun h => h.tarnPort)) (.next h)

theorem tarnOne {bank owner req op} : s₀.Evolves (s.tarnOne bank owner req op) :=
  .branch h.frame.tarnPort h

theorem execAddS32 {bank owner req offset operand} : s₀.Completes (execAddS32 bank owner req offset operand s) :=
  .next h.tarnOne

theorem execAddFp32 {bank owner req offset operand} : s₀.Completes (execAddFp32 bank owner req offset operand s) :=
  .next h.tarnOne

theorem execSwap {bank owner req offset operand} : s₀.Completes (execSwap bank owner req offset operand s) :=
  .next h.tarnOne

theorem execSidePortAccess {bank req op waited busy} : s₀.Completes (execSidePortAccess bank req op waited busy s) :=
  .branch (.next h.tarnSide.frame) (.next h)

theorem serveHeld {b} : s₀.Evolves (s.serveHeld b) :=
  .loop h.frame fun h => h.tarnPort

theorem zeroBank {b} : s₀.Evolves (s.zeroBank b) :=
  (h.dropCells _).frame

theorem showBank {b} : s₀.Evolves (s.showBank b) :=
  h.setFld

theorem ackOwner {b} : s₀.Evolves (s.ackOwner b) :=
  h.setReg.setFld.frame.setInt.serveHeld

theorem beginClear {b} : s₀.Evolves (s.beginClear b) :=
  h.frame.showBank

theorem drained {b} : s₀.Evolves (s.drained b) :=
  .branch h.beginClear h.ackOwner

theorem execTarOwnerWrite {req bank v} : s₀.Completes (execTarOwnerWrite req bank v s) :=
  .next (h.ifAdmit fun h => .branch h.setErr (.branch h.setErr (.branch (.branch h.setReg.setFld.beginClear
    h.setReg.ackOwner) h.setReg.setFld.frame)))

theorem execHandoverDrainDone {bank} : s₀.Completes (execHandoverDrainDone bank s) :=
  .branch (.next h.drained) (.next h)

theorem execBankClearDone {bank} : s₀.Completes (execBankClearDone bank s) :=
  .branch (.branch (.next h.zeroBank.frame.showBank.ackOwner) (.next h.zeroBank.frame.showBank.serveHeld)) (.next h)

theorem bankSummit {region} : s₀.Evolves (s.bankSummit region) :=
  .loop h fun h => .branch h.frame h

theorem execTarPwrWrite {req bank v} : s₀.Completes (execTarPwrWrite req bank v s) :=
  .next (h.ifAdmit fun h => h.setReg.frame)

theorem execBankPowerChange {bank} : s₀.Completes (execBankPowerChange bank s) := by
  unfold Machine.execBankPowerChange
  split
  · exact .next h
  · exact .branch (.next h) (.branch (.next h.beginClear) (.next (.branch (.serveHeld (.showBank (.frame (.branch h.zeroBank
      h)))) (.showBank (.frame (.branch h.zeroBank h))))))

/-! ### The functions of Machine/Fabric -/

theorem setMember {c v} : s₀.Evolves (s.setMember c v) :=
  h.setFld

theorem inject {unit router port p} : s₀.Evolves (s.inject unit router port p) :=
  h.frame.frame

theorem sendNode {r p} : s₀.Evolves (s.sendNode r p) :=
  h.inject

theorem sendBlock {b p} : s₀.Evolves (s.sendBlock b p) :=
  h.inject

theorem dropAt {x p} : s₀.Evolves (s.dropAt x p) :=
  h.frame

theorem nodeLookup {f arrival} : s₀.Evolves (s.nodeLookup f arrival).2 := by
  unfold State.nodeLookup
  extract_lets _ _
  split
  · exact .pair (.branch h.countInt h)
  · exact .pair (.branch h.dropAt.countInt (.branch h.dropAt.sendNode (.branch h.dropAt.sendNode h.dropAt)))
  · exact .pair (.branch h.dropAt.frame (.branch h.dropAt.sendNode (.branch h.dropAt.sendNode h.dropAt)))

theorem acceptFlit {f} : s₀.Evolves (s.acceptFlit f) :=
  .branch h.countInt.dropAt (.branch h.countShed.dropAt
    (by dsimp only; split; exacts [.branchSnd h.nodeLookup h, .frame (.branchSnd h.nodeLookup h)]))

theorem execPacketReceive {router port ok} : s₀.Completes (execPacketReceive router port ok s) := by
  unfold Machine.execPacketReceive
  split
  · exact .next h
  · exact .branch (.next h) (.branch (.next h.frame.acceptFlit) (.branch (.next h.frame.countInt) (.next
      h.frame.countInt.detect.dropAt)))

theorem trvRefuse {p k} : s₀.Evolves (s.trvRefuse p k) :=
  .branch (.sendNode (.branch h.count h.count.frame)) (.branch h.count h.count.frame)

theorem toPort {p k} : s₀.Evolves (s.toPort p k) :=
  .branch h.frame h.trvRefuse

theorem sendOn {x out f} : s₀.Evolves (s.sendOn x out f) := by
  unfold State.sendOn
  split
  exacts [h.frame, .branch h.frame (.branch h.frame h.toPort)]

theorem execPacketForward {router out slot} : s₀.Completes (execPacketForward router out slot s) :=
  .branch (.next h)
    (by split; exacts [.next h, .next (.sendOn (.branch h.frame.count.setFld.count.frame h.frame.count.setFld))])

theorem execSlotFrameEnd {router} : s₀.Completes (execSlotFrameEnd router s) :=
  .branch (.next h) (.next (.branch h.frame.count h.frame))

theorem execStarvation {router} : s₀.Completes (execStarvation router s) := by
  unfold Machine.execStarvation
  extract_lets _ _
  split
  exacts [.next h, .branch (.next h) (.next h.setFld.detect)]

theorem copyWords {p src dst n} : s₀.Evolves (s.copyWords p src dst n) :=
  .loop h fun h => h.setReg

theorem doSwap {p} : s₀.Evolves (s.doSwap p) :=
  .setReg (.branch h.copyWords.copyWords h.copyWords)

theorem execFabSwap {req page} : s₀.Completes (execFabSwap req page s) :=
  .branch (.next (h.ifAdmit fun h => .branch h.setErr (.branch h.doSwap h.setReg))) (.next h)

theorem swapSummit {p} : s₀.Evolves (s.swapSummit p) :=
  .branch h.doSwap h

theorem takeRoute {r pick} : s₀.Evolves (s.takeRoute r pick).2 := by
  unfold State.takeRoute
  split
  exacts [h, .pair h.frame]

theorem setWindowWord {key v} : s₀.Evolves (s.setWindowWord key v) :=
  h.setReg

theorem applyRoutePost {p} : s₀.Evolves (s.applyRoutePost p) := by
  unfold State.applyRoutePost
  split
  · exact h.setWindowWord.setWindowWord.setWindowWord.frame
  · exact .branch h.setWindowWord.frame h.setWindowWord
  · exact h.setReg.frame
  · exact h.setReg

theorem postRoute {r l} : s₀.Evolves (s.postRoute r l).2 :=
  .branchSnd (.pair (.loop h fun h => h.applyRoutePost)) (.branchSnd (.pair h.setErr) (.pair h.frame))

theorem applyRoutes {r} : s₀.Evolves (s.applyRoutes r) :=
  .loop h.frame fun h => h.applyRoutePost

theorem windowWrite {req page off v} : s₀.Evolves (s.windowWrite req page off v) :=
  .branch h.postRoute.posted h.postRoute

theorem execRouteTableWrite {req page off v} : s₀.Completes (execRouteTableWrite req page off v s) :=
  .branch (.next (h.ifAdmit fun h => h.windowWrite)) (.next h)

theorem execRteAlloc {req region pick} : s₀.Completes (execRteAlloc req region pick s) :=
  .branch (.next h.denyRead) (by split; exacts [.next h.takeRoute.frame, .next h.takeRoute.setInt.frame])

theorem execRteRelease {req region v} : s₀.Completes (execRteRelease req region v s) :=
  .next (h.ifAdmit fun h => .branch h.postRoute.posted h.postRoute)

theorem execSpikeRecordTake {region} : s₀.Completes (execSpikeRecordTake region s) := by
  unfold Machine.execSpikeRecordTake
  split
  exacts [.next h, .branch (.branch (.next h.frame.count) (.next h.frame.count.frame)) (.next h)]

theorem flushChain {c} : s₀.Evolves (s.flushChain c) :=
  .branch h h.inject

theorem followEntry {c w0 w1} : s₀.Evolves (s.followEntry c w0 w1).2 :=
  .branchSnd (.pair h.count.countShed) (.branchSnd (.pair h.count) (.pair h.count.flushChain))

theorem execRouteEntryFollow {region chain} : s₀.Completes (execRouteEntryFollow region chain s) := by
  unfold Machine.execRouteEntryFollow
  split
  · exact .next h
  · exact .branch (.next h) (.branch (.next h.frame.flushChain.countInt) (.branch (.next (.flushChain (.frame (.branchSnd
      h.followEntry (.pair h.count))))) (.next (.frame (.branchSnd h.followEntry (.pair h.count))))))

theorem gatesSummit {r} : s₀.Evolves (s.gatesSummit r) :=
  .loop h fun h => .branch h.setReg h.setReg.count

/-! ### The functions of Machine/Blocks -/

theorem countAnswer {r code} : s₀.Evolves (s.countAnswer r code) :=
  .branch h.count h.count

theorem answerBlock {b p code data} : s₀.Evolves (s.answerBlock b p code data) :=
  h.countAnswer.sendBlock

theorem placePacket {p force} : s₀.Evolves (s.placePacket p force) :=
  h.placeEvent

theorem buffer {c p} : s₀.Evolves (s.buffer c p) :=
  h.frame

theorem arriveEvent {b p} : s₀.Evolves (s.arriveEvent b p) :=
  .branch h.countShed (.branch h.count (.branch (.branch h.buffer h.count) h.placePacket))

theorem openPacket {b} : s₀.Evolves (s.openPacket b) := by
  unfold State.openPacket
  extract_lets _
  split
  exacts [h.frame, h]

theorem execEventEnqueue {block} : s₀.Completes (execEventEnqueue block s) :=
  .branch
    (by
      dsimp only
      split
      exacts [.next h.openPacket,
        .next (.branch h.openPacket.frame.arriveEvent.frame h.openPacket.frame.arriveEvent)])
    (.next h)

theorem flushBuffer {b l} : s₀.Evolves (s.flushBuffer b l) :=
  .loop h fun h => .branch h.count h.answerBlock

theorem goOffline {c} : s₀.Evolves (s.goOffline c) :=
  h.frame.frame.frame.setStat.setInt.record.flushBuffer

theorem fenceCell {c code addr inj} : s₀.Evolves (s.fenceCell c code addr inj) :=
  .branch h (.branch h.record.listSite.setStat.setInt.frame h.record.listSite.setStat.setInt.goOffline)

theorem execHandshakeStall {site boundary} : s₀.Completes (execHandshakeStall site boundary s) :=
  .branch (by dsimp only; split; exacts [.next h.setErr, .branch (.next h.setErr.fenceCell) (.next h.setErr)]) (.next
    h)

/-! ### The functions of Machine/Messages -/

theorem actInject {c p} : s₀.Evolves (s.actInject c p).2 := by
  unfold State.actInject
  extract_lets _ _
  split
  exacts [h, h, h, h, .pair h.enpool]

theorem actReadState {c p} : s₀.Evolves (s.actReadState c p).2 :=
  h

omit h in
theorem postAnswer {x : Bool × State} (h : s₀.Evolves x.2) : s₀.Evolves (postAnswer x).2 := h

theorem actWriteState {c p} : s₀.Evolves (s.actWriteState c p).2 :=
  h.postCell.postAnswer

theorem actSetProfile {c p} : s₀.Evolves (s.actSetProfile c p).2 :=
  .branchSnd h.postCell.postAnswer (.pair h.setErr)

theorem msgQueueChange {c p x} : s₀.Evolves (s.msgQueueChange c p x).2 :=
  .branchSnd h (.pair h.requestQueue)

theorem actOpenQueue {c p} : s₀.Evolves (s.actOpenQueue c p).2 :=
  h.msgQueueChange

theorem actCloseQueue {c p} : s₀.Evolves (s.actCloseQueue c p).2 :=
  h.msgQueueChange

theorem msgBring {c p} : s₀.Evolves (s.msgBring c p).2 :=
  .branchSnd (by split; exacts [h, .pair h.bringRow, .pair h.bringRow]) h

theorem drangeRefused : s₀.Evolves s.drangeRefused :=
  h.count

theorem actReadRow {c p} : s₀.Evolves (s.actReadRow c p).2 := by
  unfold State.actReadRow
  split
  · exact h
  · exact .branchSnd h (.branchSnd (.pair h.drangeRefused)
      (by
        dsimp only
        split
        exacts [.pair h.msgBring, .branchSnd (.pair h.msgBring.dramRead) (.pair h.msgBring.dramRead)]))

theorem actWriteRow {c p} : s₀.Evolves (s.actWriteRow c p).2 := by
  unfold State.actWriteRow
  split
  exacts [h, .branchSnd h (.branchSnd h (.branchSnd (.pair h.drangeRefused) (.branchSnd h (.pair h.dramWrite))))]

theorem actRowApply {c p} : s₀.Evolves (s.actRowApply c p).2 := by
  unfold State.actRowApply
  split
  exacts [h, .pair h.msgBring]

theorem actCell {n c p} : s₀.Evolves (s.actCell n c p).2 :=
  .branchSnd h.actInject (.branchSnd h.actReadState (.branchSnd h.actWriteState (.branchSnd h.actSetProfile
    (.branchSnd h.actOpenQueue (.branchSnd h.actCloseQueue (.branchSnd h.actReadRow (.branchSnd h.actWriteRow
    h.actRowApply)))))))

theorem takeCell {c p act} (hf : ∀ {t x1 x2}, s₀.Evolves t → s₀.Evolves (act t x1 x2).2) :
    s₀.Evolves (s.takeCell c p act).2 :=
  .branchSnd h (.branchSnd h (hf h))

theorem serveBlock {b n act} (hf : ∀ {t x1 x2}, s₀.Evolves t → s₀.Evolves (act t x1 x2).2) :
    s₀.Evolves (s.serveBlock b n act) := by
  unfold State.serveBlock
  split
  · exact h
  · exact .branch h (.branch h.frame.frame.answerBlock (.branch (.branch h.frame.frame.buffer h.frame.frame.answerBlock)
      (by
        dsimp only
        split
        exacts [h.takeCell fun h => hf h, .answerBlock (.frame (.frame (h.takeCell fun h => hf h)))])))

theorem execInject {block} : s₀.Completes (execInject block s) :=
  .next (h.serveBlock fun h => h.actInject)

theorem execReadState {block} : s₀.Completes (execReadState block s) :=
  .next (h.serveBlock fun h => h.actReadState)

theorem execWriteState {block} : s₀.Completes (execWriteState block s) :=
  .next (h.serveBlock fun h => h.actWriteState)

theorem execSetProfile {block} : s₀.Completes (execSetProfile block s) :=
  .next (h.serveBlock fun h => h.actSetProfile)

theorem execOpenQueue {block} : s₀.Completes (execOpenQueue block s) :=
  .next (h.serveBlock fun h => h.actOpenQueue)

theorem execCloseQueue {block} : s₀.Completes (execCloseQueue block s) :=
  .next (h.serveBlock fun h => h.actCloseQueue)

theorem execReadRow {block} : s₀.Completes (execReadRow block s) :=
  .next (h.serveBlock fun h => h.actReadRow)

theorem execWriteRow {block} : s₀.Completes (execWriteRow block s) :=
  .next (h.serveBlock fun h => h.actWriteRow)

theorem execRowApply {block} : s₀.Completes (execRowApply block s) :=
  .next (h.serveBlock fun h => h.actRowApply)

theorem takeUnit {x unit} : s₀.Evolves (s.takeUnit x unit) :=
  h.frame.frame

theorem serveRegion {r n page act} (hf : ∀ {t x1}, s₀.Evolves t → s₀.Evolves (act t x1).2) :
    s₀.Evolves (s.serveRegion r n page act) := by
  unfold State.serveRegion
  split
  · exact h
  · exact .branch h (.inject (.countAnswer (.branchSnd (.pair h.takeUnit) (.branchSnd (.pair h.takeUnit) (hf h.takeUnit)))))

theorem execRouteInsert {region pick} : s₀.Completes (execRouteInsert region pick s) :=
  .next (h.serveRegion fun h =>
    by split; exacts [h, .branchSnd (.pair (.branch h.postRoute.frame h.postRoute)) (.pair h.postRoute)])

theorem execRouteRelease {region} : s₀.Completes (execRouteRelease region s) :=
  .next (h.serveRegion fun h => .pair h.postRoute)

theorem execGateSet {region} : s₀.Completes (execGateSet region s) :=
  .next (h.serveRegion fun h => .pair h.postRoute)

theorem execPing {node} : s₀.Completes (execPing node s) := by
  unfold Machine.execPing
  split
  exacts [.next h, .branch (.next h) (.next h.takeUnit.sendNode)]

theorem softMsg {p} : s₀.Evolves (s.softMsg p).2 :=
  .branchSnd h (.branchSnd h (.branchSnd h (.branchSnd (.pair h.count) (.pair (.frame (.branch h.setInt h))))))

theorem execSoftwareHandler : s₀.Completes (execSoftwareHandler s) := by
  unfold Machine.execSoftwareHandler
  split
  exacts [.next h, .branch (.next h) (.next h.takeUnit.softMsg.sendNode)]

theorem execChnRxNext {req engine v} : s₀.Completes (execChnRxNext req engine v s) :=
  .next (h.ifAdmit fun h => .branch h.frame h)

theorem postCompletion {e code x} : s₀.Evolves (s.postCompletion e code x) :=
  .branch h.frame.setInt h.frame.setInt.count.setInt

theorem sendMsg {e sec v} : s₀.Evolves (s.sendMsg e sec v) :=
  .branch h.countInt.postCompletion (.branch h.postCompletion h.frame.count.sendNode)

theorem execChnTxGo {req engine v} : s₀.Completes (execChnTxGo req engine v s) :=
  .next (h.ifAdmit fun h => .branch h.setFld.count h.setFld.sendMsg)

theorem setOut {e l} : s₀.Evolves (s.setOut e l) :=
  h.frame

theorem takeAnswer {e p} : s₀.Evolves (s.takeAnswer e p) := by
  unfold State.takeAnswer
  extract_lets _ _
  split
  exacts [h.count, .branch h.setOut (.branch h.setOut h.setOut.postCompletion)]

theorem execAnswer {node} : s₀.Completes (execAnswer node s) := by
  unfold Machine.execAnswer
  split
  exacts [.next h, .branch (.next h) (.branch (.next h.takeUnit) (.next h.takeUnit.takeAnswer))]

theorem execRetry {engine} : s₀.Completes (execRetry engine s) := by
  unfold Machine.execRetry
  extract_lets _
  split
  exacts [.next h, .branch (.next h) (.next h.setOut.count.sendNode)]

theorem execMessageTimeout {engine} : s₀.Completes (execMessageTimeout engine s) := by
  unfold Machine.execMessageTimeout
  extract_lets _
  split
  exacts [.next h, .branch (.next h) (.next h.setOut.postCompletion)]

theorem execChnCqPop {req engine} : s₀.Completes (execChnCqPop req engine s) :=
  .branch (.next h.denyRead)
    (by split; exacts [.next h.frame.frame, .next (.frame (.loop h.frame.frame fun h => h.setReg))])

/-! ### The functions of Machine/Learning -/

theorem stopTimer : s₀.Evolves s.stopTimer :=
  h.clrReg

theorem beginPass {r} : s₀.Evolves (s.beginPass r) :=
  .branch h (.branch h.frame h.frame)

theorem agePasses : s₀.Evolves s.agePasses :=
  .loop h fun h => .branch h.beginPass h

theorem sweepRow {r c tbl} : s₀.Evolves (s.sweepRow r c tbl) := by
  unfold State.sweepRow
  extract_lets _ _ _ _ _ _ _ _ _ t₁
  have h₁ : s₀.Evolves t₁ := .branch (.count (.branchSnd h.frame.frame.decayedPre (.pair h.frame.frame))) h.frame.frame
  exact .branch (.storeRow (.frame (.branch h₁.bringUp.count.count h₁.bringUp.count))) (.branch h₁.frame.storeAll h₁)

theorem execSweeperRow {region} : s₀.Completes (execSweeperRow region s) :=
  .branch (.next h) (.branch (.next h.frame) (.branch (.next h.frame) (.branch (.next h) (.next h.sweepRow.frame))))

theorem markSweep {r} : s₀.Evolves (s.markSweep r) :=
  .branch h.orReg.orReg h.orReg

theorem execSweeperPassDone {region} : s₀.Completes (execSweeperPassDone region s) :=
  .branch (.next h) (.next (.branch (.beginPass (.frame (.branch (.markSweep (.branch h.setReg.count.setInt.setErr
    h.setReg.count.setInt)) (.branch h.setReg.count.setInt.setErr h.setReg.count.setInt)))) (.frame (.branch (.markSweep
    (.branch h.setReg.count.setInt.setErr h.setReg.count.setInt)) (.branch h.setReg.count.setInt.setErr
    h.setReg.count.setInt)))))

theorem beginCheckpoint {e} : s₀.Evolves (s.beginCheckpoint e) :=
  .branch h (.branch h.countInt h.frame)

theorem execCheckpointComplete : s₀.Completes (execCheckpointComplete s) := by
  unfold Machine.execCheckpointComplete
  split
  · exact .next h
  · exact .branch (.next h) (.next (.frame (.setInt (.setReg64 (.loop h fun h => h.chargeBytes.dramStore)))))

theorem execCkptBaseWrite {req v} : s₀.Completes (execCkptBaseWrite req v s) :=
  .next (h.ifAdmit fun h => .branch h.setErr h.setReg64)

theorem execRulesetWrite {req off v} : s₀.Completes (execRulesetWrite req off v s) :=
  .branch (.next h) (.next (h.ifAdmit fun h => .branch h.setErr (.branch h.setReg h.frame.posted)))

theorem applyRules : s₀.Evolves s.applyRules :=
  .loop h.frame fun h => h.setReg

theorem latchModulators {k} : s₀.Evolves (s.latchModulators k) :=
  .loop h fun h => .branch h.setReg h.setReg.setReg

theorem closeEpoch : s₀.Evolves s.closeEpoch :=
  .beginCheckpoint (.loop h.latchModulators.setReg64.setReg.setReg.setInt.frame fun h => h.beginPass)

theorem stopOnDone : s₀.Evolves s.stopOnDone :=
  .branch h.stopTimer.orReg.setInt.clrReg h

theorem learnSummit : s₀.Evolves s.learnSummit :=
  .stopOnDone (.agePasses (.branch h (.branch h.closeEpoch h.setReg)))

/-! ### The functions of Machine/Interrupts -/

theorem srcWrite {n v} : s₀.Evolves (s.srcWrite n v) :=
  .branch h (.branch h.setReg h.setErr)

theorem crsMove {core src dst} : s₀.Evolves (s.crsMove core src dst) :=
  .branch h.setFld h

theorem wakeCore {core} : s₀.Evolves (s.wakeCore core) :=
  .branch h.crsMove.frame h

theorem wakeCores : s₀.Evolves s.wakeCores :=
  .loop h fun h => .branch h.wakeCore h

theorem wakeEvent {i} : s₀.Evolves (s.wakeEvent i) :=
  .branch h.orReg h

theorem latchWake {l} : s₀.Evolves (s.latchWake l) :=
  .branch h.wakeEvent h

theorem edgeAt {n} : s₀.Evolves (s.edgeAt n) :=
  .branch (.wakeCores (.branch (.loop h.frame fun h => h.latchWake) h.frame)) (.loop h fun h => h.frame.latchWake)

theorem execSourceAssert {src} : s₀.Completes (execSourceAssert src s) :=
  .branch (.next h) (.branch (.next h.edgeAt) (.next (.branch h.wakeCores h)))

theorem execModerationExpiry {src} : s₀.Completes (execModerationExpiry src s) :=
  .branch (.next h.wakeCores) (.next h)

theorem execWfiEntry {ctx} : s₀.Completes (execWfiEntry ctx s) :=
  .branch (.next h.crsMove.frame.wakeCores) (.next h)

theorem claimBest {x} : s₀.Evolves (s.claimBest x).2 := by
  unfold State.claimBest
  split
  exacts [h, .pair h.frame]

theorem endClaims {x f} : s₀.Evolves (s.endClaims x f) :=
  h.frame.wakeCores

theorem execPicClaim {req ctx} : s₀.Completes (execPicClaim req ctx s) :=
  .branch (.next h.denyRead) (.branch (.next h.setErr.frame) (.next h.wakeCore.claimBest.frame))

theorem execPicComplete {req ctx v} : s₀.Completes (execPicComplete req ctx v s) :=
  .next (h.ifAdmit fun h => .branch h.setErr (by split; exacts [h.setErr, .branch h.frame.wakeCores h.setErr]))

theorem execPicPendSet {req word v} : s₀.Completes (execPicPendSet req word v s) :=
  .next (h.ifAdmit fun h => .wakeCores (.loop h fun h => .branch h.frame h.frame))

theorem execPicPendClr {req word v} : s₀.Completes (execPicPendClr req word v s) :=
  .next (h.ifAdmit fun h => .loop h fun h => h.frame)

theorem wakeSelWrite {l v} : s₀.Evolves (s.wakeSelWrite l v) :=
  .branch h.setErr h.setReg

theorem execWakeLatchEdge {latch} : s₀.Completes (execWakeLatchEdge latch s) :=
  .branch (.next h.edgeAt) (.next h)

theorem execColSend {req chan v} : s₀.Completes (execColSend req chan v s) :=
  .next (h.ifAdmit fun h => .branch h.setErr (.branch h (.branch h.setErr (.wakeCores (.branch h.setReg.wakeEvent
    h.setReg)))))

theorem execColLastWordRead {req chan} : s₀.Completes (execColLastWordRead req chan s) :=
  .branch (.next h) (.branch (.next h.denyRead) (.next h.clrReg.frame))

/-! ### The functions of Machine/Timers -/

theorem setTmrNum {t off n} : s₀.Evolves (s.setTmrNum t off n) :=
  h.setReg64

theorem setTmrBit {t b on} : s₀.Evolves (s.setTmrBit t b on) :=
  .branch h.orReg h.clrReg

theorem followFlag {t} : s₀.Evolves (s.followFlag t) :=
  .branch h h.setInt

theorem tmrEvent {t e} : s₀.Evolves (s.tmrEvent t e) :=
  .branch h.orReg.followFlag h.orReg.followFlag.frame

theorem capture {t k} : s₀.Evolves (s.capture t k) :=
  .tmrEvent (.branch h.setReg64.orReg (.orReg (.frame (.branch h.count h))))

theorem chanEdge {t k} : s₀.Evolves (s.chanEdge t k) :=
  .branch h.frame.capture h.frame

theorem tmrEdge {src kind} : s₀.Evolves (s.tmrEdge src kind) :=
  .loop h fun h => .branch h.chanEdge h

theorem tmrSource {src} : s₀.Evolves (s.tmrSource src) :=
  h.tmrEdge

theorem execCaptureEdge {pin rising} : s₀.Completes (execCaptureEdge pin rising s) :=
  .branch (.next h.setFld.tmrEdge) (.next h)

theorem execCaptureRead {req timer channel} : s₀.Completes (execCaptureRead req timer channel s) :=
  .branch (.next h.denyRead) (.branch (.next h.frame.frame.setReg64.clrReg) (.next h.frame.frame.clrReg))

theorem noteMatches {t} : s₀.Evolves (s.noteMatches t) :=
  h.frame

theorem tmrLoad {t} : s₀.Evolves (s.tmrLoad t) :=
  h.setTmrNum.setTmrNum.setTmrBit.frame

theorem tmrTick {t} : s₀.Evolves (s.tmrTick t) :=
  .branch (.branch h.frame.frame h.frame.setTmrNum.noteMatches) (.branch h.frame.setTmrNum.noteMatches (.branch
    h.frame.frame h.frame.setTmrBit.setTmrNum.noteMatches))

theorem tmrStart {t} : s₀.Evolves (s.tmrStart t) :=
  .branch h h.setTmrBit.frame

theorem tmrActions : s₀.Evolves s.tmrActions :=
  .loop h.frame fun h => .branch (.setTmrBit (.branch h.tmrLoad h)) (.branch (.tmrStart (.branch h.tmrLoad h))
    (.branch h.tmrLoad h))

theorem tmrCycle : s₀.Evolves s.tmrCycle :=
  .loop (.branch h h.tmrActions) fun h => .branch h (.branch h.frame.tmrTick h.frame)

theorem execTimerWrap {timer} : s₀.Completes (execTimerWrap timer s) :=
  .branch (.next h.frame.tmrLoad.noteMatches.tmrEvent.tmrSource) (.next h)

theorem execCompareMatch {timer channel} : s₀.Completes (execCompareMatch timer channel s) :=
  .branch (.next (.tmrEvent (.branch h.frame.frame.setReg64 h.frame.frame))) (.next h)

theorem tmrCtrlWrite {t v} : s₀.Evolves (s.tmrCtrlWrite t v) := by
  unfold State.tmrCtrlWrite
  extract_lets _ _ _ _ _ _ t₁ t₂
  have h₁ : s₀.Evolves t₁ := .branch h.setErr (.branch h.setReg.setTmrNum h.setReg)
  have h₂ : s₀.Evolves t₂ := .branch h₁.tmrLoad h₁
  exact .branch h₂.tmrStart h₂.setTmrBit

theorem execTimerStart {req timer} : s₀.Completes (execTimerStart req timer s) :=
  .next (h.ifAdmit fun h => h.tmrStart)

theorem execTimerStop {req timer} : s₀.Completes (execTimerStop req timer s) :=
  .next (h.ifAdmit fun h => h.setTmrBit)

theorem execLoadNow {req timer} : s₀.Completes (execLoadNow req timer s) :=
  .next (h.ifAdmitWord fun h => h.tmrLoad)

theorem execTmrPeriodWrite {req timer v} : s₀.Completes (execTmrPeriodWrite req timer v s) :=
  .next (h.ifAdmit fun h => h.setTmrNum)

theorem gstart {v} : s₀.Evolves (s.gstart v) :=
  .loop h fun h => .branch h.tmrStart h

theorem execTmrGstart {req v} : s₀.Completes (execTmrGstart req v s) :=
  .next (h.ifAdmit fun h => h.gstart)

theorem tmrWrite {page off v} : s₀.Yields (s.tmrWrite page off v) :=
  .branch .none (.branch (.some h.tmrCtrlWrite) (.branch (.some h.setReg.followFlag) (.branch (.some h.setReg.frame)
    .none)))

theorem setCrcState {u n} : s₀.Evolves (s.setCrcState u n) :=
  h.setReg64

theorem crcFeed {u l} : s₀.Evolves (s.crcFeed u l) :=
  h.setCrcState.count

theorem crcInit {u} : s₀.Evolves (s.crcInit u) :=
  h.setCrcState

theorem execCrcInit {req crcUnit} : s₀.Completes (execCrcInit req crcUnit s) :=
  .next (h.ifAdmit fun h => h.crcInit)

theorem execCrcData8 {req crcUnit v} : s₀.Completes (execCrcData8 req crcUnit v s) :=
  .next (h.ifAdmit fun h => h.crcFeed)

theorem execCrcData16 {req crcUnit v} : s₀.Completes (execCrcData16 req crcUnit v s) :=
  .next (h.ifAdmit fun h => h.crcFeed)

theorem execCrcData32 {req crcUnit v} : s₀.Completes (execCrcData32 req crcUnit v s) :=
  .next (h.ifAdmit fun h => h.crcFeed)

theorem crcWrite {off v} : s₀.Yields (s.crcWrite off v) :=
  .branch .none (.branch (.branch (.some h.setErr) (.some h.setReg.setCrcState)) (.branch (.some (.branch h.crcInit
    h)) (.branch (.some h.crcFeed) (.branch (.some h.crcFeed) (.branch (.some h.crcFeed) .none)))))

/-! ### The functions of Machine/Plateau -/

theorem mapState {α β : Type} {f : State → α → β × State} {l : List α}
    (hf : ∀ {t x}, s₀.Evolves t → s₀.Evolves (f t x).2) : s₀.Evolves (mapState f s l).2 := by
  induction l generalizing s with
  | nil => exact h
  | cons x l ih => exact ih (hf h)

theorem pltBarred {k x} : s₀.Evolves (s.pltBarred k x).2 := by
  obtain ⟨place, hp⟩ : ∃ f, State.pltPlace = f := ⟨_, rfl⟩
  obtain ⟨banks, hb⟩ : ∃ f, banksOf = f := ⟨_, rfl⟩
  have e : State.pltBarred = State.pltBarred := rfl
  conv_rhs at e => delta State.pltBarred
  rw [e, hp, hb]
  dsimp only
  split
  · split
    exacts [.pair h.tarnRefuse, h]
  · exact .branchSnd (.pair h.count) h
  · exact h

theorem pltBars {k l} : s₀.Evolves (s.pltBars k l).2 := by
  induction l generalizing s with
  | nil => exact h
  | cons x l ih => exact .branchSnd h.pltBarred (ih h.pltBarred)

theorem writeElems {k x codes} : s₀.Evolves (s.writeElems k x codes) :=
  .branch h.dramWrite h.sramStore

theorem pltScaled {k site f mult exp sr x} : s₀.Evolves (s.pltScaled k site f mult exp sr x).2 :=
  .branchSnd (.pair h.frame) h.siteConvSr

theorem pltOut {k j site sr l} : s₀.Evolves (s.pltOut k j site sr l).2 :=
  h.mapState fun h => h.pltScaled

theorem pltDot {k j x order ts old} : s₀.Evolves (s.pltDot k j x order ts old).2 :=
  .branchSnd (.pair h.pltOut) (.pair (.pltOut (h.mapState fun h => h.siteInt)))

theorem pltGemm {order k j x} : s₀.Evolves (pltGemm order k j x s).2 :=
  h.pltDot

theorem pltGemmAcc {order k j x} : s₀.Evolves (pltGemmAcc order k j x s).2 :=
  h.pltDot

theorem pltConv1d {order k j x} : s₀.Evolves (pltConv1d order k j x s).2 :=
  h.pltDot

theorem pltFft {k j x} : s₀.Evolves (pltFft k j x s).2 :=
  .pair h.frame.pltOut

theorem pltElt {k j x} : s₀.Evolves (pltElt k j x s).2 :=
  .pair h.pltOut

theorem pltReduce {order k j x} : s₀.Evolves (pltReduce order k j x s).2 :=
  .pair h.pltOut

theorem pltExpNorm {order k j x} : s₀.Evolves (pltExpNorm order k j x s).2 :=
  .pair h.frame.pltOut

theorem pltRequant {site k j x} : s₀.Evolves (pltRequant site k j x s).2 :=
  .pair h.pltOut

theorem pltSgd {k j x} : s₀.Evolves (pltSgd k j x s).2 :=
  .pair h.pltOut

theorem pltSurrogate {k j x} : s₀.Evolves (pltSurrogate k j x s).2 :=
  .pair h.frame.pltOut

theorem pltGather {k j x} : s₀.Evolves (pltGather k j x s).2 :=
  .branchSnd h (.branchSnd (.pair h.pltOut) (.branchSnd (.pair (h.mapState fun h => h.siteConv)) (.pair (h.mapState
    fun h => .pair h.siteInt))))

theorem pltSend {k j e g} : s₀.Evolves (s.pltSend k j e g).2 :=
  .branchSnd h (.pair h.pltScaled)

theorem emitElem {k j e v st} : s₀.Evolves (s.emitElem k j e v st).2 :=
  .branchSnd h (.branchSnd (.pair h.count) (.branchSnd (.branchSnd (.pair h.pltSend) h) (.branchSnd (.branchSnd (.pair
    h.pltSend) h) (.branchSnd (.pair h.pltSend) h))))

theorem pltEmit {k j x} : s₀.Evolves (pltEmit k j x s).2 :=
  .pair (.loop (.count (h.mapState fun h => h.emitElem)) fun h => h.sendNode)

theorem pltReqs {k j} : s₀.Evolves (s.pltReqs k j) :=
  .loop h fun h => .branch h.frame h

theorem pltWork {k j go} (hf : ∀ {x0 x1 x2 t}, s₀.Evolves t → s₀.Evolves (go x0 x1 x2 t).2) :
    s₀.Evolves (s.pltWork k j go).2 := by
  unfold State.pltWork
  split
  · exact .pair (.branch h.unmappedAcc h)
  · have hb : s₀.Evolves (s.pltBars k j.operands.all).2 := h.pltBars
    dsimp only
    split
    · next heq => rwa [heq] at hb
    · next t heq =>
      rw [heq] at hb
      refine .branchSnd (.pair hb.pltReqs) ?_
      split
      exacts [.pair (.writeElems (hf hb.pltReqs)), .pair (hf hb.pltReqs)]

theorem pltRun {k op go} (hf : ∀ {x0 x1 x2 t}, s₀.Evolves t → s₀.Evolves (go x0 x1 x2 t).2) :
    s₀.Evolves (s.pltRun k op go) := by
  unfold State.pltRun
  split
  exacts [h, .branch (.frame (h.pltWork fun h => hf h)) h]

theorem execNop {plt} : s₀.Completes (execNop plt s) :=
  .next (h.pltRun fun h => h)

theorem execGemm {plt order} : s₀.Completes (execGemm plt order s) :=
  .next (h.pltRun fun h => h.pltGemm)

theorem execGemmAcc {plt order} : s₀.Completes (execGemmAcc plt order s) :=
  .next (h.pltRun fun h => h.pltGemmAcc)

theorem execConv1d {plt order} : s₀.Completes (execConv1d plt order s) :=
  .next (h.pltRun fun h => h.pltConv1d)

theorem execFft {plt} : s₀.Completes (execFft plt s) :=
  .next (h.pltRun fun h => h.pltFft)

theorem execElt {plt} : s₀.Completes (execElt plt s) :=
  .next (h.pltRun fun h => h.pltElt)

theorem execReduce {plt order} : s₀.Completes (execReduce plt order s) :=
  .next (h.pltRun fun h => h.pltReduce)

theorem execExpNorm {plt order} : s₀.Completes (execExpNorm plt order s) :=
  .next (h.pltRun fun h => h.pltExpNorm)

theorem execQuant {plt} : s₀.Completes (execQuant plt s) :=
  .next (h.pltRun fun h => h.pltRequant)

theorem execDequant {plt} : s₀.Completes (execDequant plt s) :=
  .next (h.pltRun fun h => h.pltRequant)

theorem execSpkGather {plt} : s₀.Completes (execSpkGather plt s) :=
  .next (h.pltRun fun h => h.pltGather)

theorem execSpkEmit {plt} : s₀.Completes (execSpkEmit plt s) :=
  .next (h.pltRun fun h => h.pltEmit)

theorem execSgdUpdate {plt} : s₀.Completes (execSgdUpdate plt s) :=
  .next (h.pltRun fun h => h.pltSgd)

theorem execSurrogate {plt} : s₀.Completes (execSurrogate plt s) :=
  .next (h.pltRun fun h => h.pltSurrogate)

theorem pltFetch {k off index ring} : s₀.Evolves (s.pltFetch k off index ring).2 := by
  obtain ⟨banks, hb⟩ : ∃ f, banksOf = f := ⟨_, rfl⟩
  have e : State.pltFetch = State.pltFetch := rfl
  conv_rhs at e => delta State.pltFetch
  rw [e, hb]
  dsimp only
  split
  exacts [.pair h.tarnRefuse.setErr, .pair h.frame]

theorem pltStart {k} : s₀.Evolves (s.pltStart k) := by
  have hf : ∀ {o i r}, s₀.Evolves (s.pltFetch k o i r).2 := h.pltFetch
  obtain ⟨fetch, hfetch⟩ : ∃ f, State.pltFetch = f := ⟨_, rfl⟩
  rw [hfetch] at hf
  have e : State.pltStart = State.pltStart := rfl
  conv_rhs at e => delta State.pltStart
  rw [e, hfetch]
  refine .branch h (.branch h.frame (.branch h ?_))
  split
  · exact h.frame
  · refine .branch h ?_
    dsimp only
    split
    exacts [hf, hf.frame]

theorem pltStartAll : s₀.Evolves s.pltStartAll :=
  .loop h fun h => h.pltStart

theorem pltRecord {k j st cycles} : s₀.Evolves (s.pltRecord k j st cycles) :=
  .branch h.countInt (.setReg (by split; exacts [h.tarnRefuse, h.sramStore]))

theorem pltProgramEnd {k j} : s₀.Evolves (s.pltProgramEnd k j) :=
  .branch h h.setReg.setReg

theorem pltEnd {k j st cycles} : s₀.Evolves (s.pltEnd k j st cycles) := by
  unfold State.pltEnd
  extract_lets _ _ _ t₁ t₂ t₃ t₄
  have h₂ : s₀.Evolves t₂ := .branch h.frame.count h.frame.count.count.setInt.setReg
  have h₃ : s₀.Evolves t₃ := .branch h₂.setInt h₂
  have h₄ : s₀.Evolves t₄ := .branch h₃.pltRecord h₃
  exact .branch h₄.frame.count.setReg h₄.count.pltProgramEnd

theorem pltClear {k} : s₀.Evolves (s.pltClear k) :=
  h.frame

theorem execJobEnd {plt cycles} : s₀.Completes (execJobEnd plt cycles s) := by
  unfold Machine.execJobEnd
  split
  · exact .next h
  · split
    exacts [.next h, .branch (.next h.pltClear.pltEnd.pltStart) (.next h)]

theorem execDetachedPreempt {plt} : s₀.Completes (execDetachedPreempt plt s) := by
  unfold Machine.execDetachedPreempt
  extract_lets _
  split
  · exact .next h
  · exact .branch (.next h) (.branch (.next h.frame.pltEnd.pltStart) (.branch (.next h.frame.count.pltStart) (.next h)))

theorem pltAbort {k} : s₀.Evolves (s.pltAbort k) := by
  unfold State.pltAbort
  extract_lets _
  split
  exacts [.branch h.frame (by split; exacts [h.frame.pltEnd, h]), h.frame.pltEnd, h]

theorem pltCtrl {k v} : s₀.Evolves (s.pltCtrl k v) :=
  .pltStart (.branch h.setReg.pltAbort h.setReg)

theorem execAbortDt {req plt v} : s₀.Completes (execAbortDt req plt v s) :=
  .next (h.ifAdmitWord fun h => h.pltCtrl)

theorem execPltDtTail {req plt v} : s₀.Completes (execPltDtTail req plt v s) :=
  .next (h.ifAdmit fun h => h.setReg.pltStart)

theorem pltWrite {k off v} : s₀.Yields (s.pltWrite k off v) :=
  .branch (.some h.pltCtrl) (.branch (.some (.branch h.setErr h.setReg)) (.branch (.some (.branch h.setErr (.branch h
    h.setReg.setReg.setReg))) (.branch (.some (.branch h.setErr (.branch h h.setReg.setReg.setReg))) (.branch (.branch
    (.some h.setErr) .none) (.branch (.some h.setReg.pltStart) .none)))))

theorem pltLate {k} : s₀.Evolves (s.pltLate k) :=
  .branch h
    (by
      dsimp only
      split
      · exact .branch h.setInt.frame.count.pltClear.pltEnd h.setInt.frame.count
      · split
        exacts [h.setInt.frame.count.pltProgramEnd, h.setInt.frame.count])

theorem pltProgram {k} : s₀.Evolves (s.pltProgram k) := by
  have hf : ∀ {t o i r}, s₀.Evolves t → s₀.Evolves (t.pltFetch k o i r).2 := fun h => h.pltFetch
  obtain ⟨fetch, hfetch⟩ : ∃ f, State.pltFetch = f := ⟨_, rfl⟩
  rw [hfetch] at hf
  have e : State.pltProgram = State.pltProgram := rfl
  conv_rhs at e => delta State.pltProgram
  rw [e, hfetch]
  refine .loop h fun h => ?_
  dsimp only
  split
  exacts [(hf h).frame, (hf h).count]

theorem pltTick {k} : s₀.Evolves (s.pltTick k) :=
  .branch h (.pltStart (.branch h.pltProgram h))

theorem pltSide {k op} : s₀.Evolves (s.pltSide k op).2 :=
  .branchSnd (by split; exacts [h, .pair h.absentAcc])
    (by split; exacts [.branchSnd h h, .branchSnd (.pair h.sramStore) h, h])

theorem execPltSideAccess {req plt op waited busy} : s₀.Completes (execPltSideAccess req plt op waited busy s) :=
  .branch (.next h.pltSide.frame) (.next h)

theorem pltNap {k} : s₀.Evolves (s.pltNap k) :=
  .loop h.frame fun h => h.pltEnd

theorem pltDrop {k} : s₀.Evolves (s.pltDrop k) :=
  h.frame.frame

/-! ### The functions of Machine/Ingress -/

theorem setLink {k off v} : s₀.Evolves (s.setLink k off v) :=
  h.setReg

theorem setLinkState {k x} : s₀.Evolves (s.setLinkState k x) :=
  h.setFld

theorem linkWrite {k v0} : s₀.Evolves (s.linkWrite k v0) :=
  .branch (.setErr (.branch h h.setLink)) (.branch h.setLink h.setLink.setLinkState.setFld.frame)

theorem execLinkEnable {req link v} : s₀.Completes (execLinkEnable req link v s) :=
  .next (h.ifAdmit fun h => h.linkWrite)

theorem lanesLocked {k} : s₀.Evolves (s.lanesLocked k) :=
  h.setFld

theorem execJesdCdrLock {link} : s₀.Completes (execJesdCdrLock link s) :=
  .branch (.next h.setLinkState) (.next h)

theorem execJesdSyncLock {link} : s₀.Completes (execJesdSyncLock link s) :=
  .branch (.next h.setLinkState.lanesLocked) (.next h)

theorem execJesdEmbLock {link} : s₀.Completes (execJesdEmbLock link s) :=
  .branch (.next h.setLinkState.lanesLocked) (.next h)

theorem mapEnc {f g} : s₀.Evolves (s.mapEnc f g) :=
  .loop h fun h => .branch h.frame h

theorem execJesdAligned {link jitter} : s₀.Completes (execJesdAligned link jitter s) :=
  .branch (.next h.setLinkState.setLink.mapEnc) (.next h)

theorem execJesdLinkLoss {link lane} : s₀.Completes (execJesdLinkLoss link lane s) :=
  .branch (.next (.loop h.setLinkState.clrReg.countInt.frame fun h => .branch h.setInt h)) (.next h)

theorem execSysrefEdge {off} : s₀.Completes (execSysrefEdge off s) :=
  .branch (.next (.branch (.countInt (.tmrSource (.mapEnc (.frame (.branch h.setReg64.count.setFld
    h.setReg64.count))))) (.tmrSource (.mapEnc (.frame (.branch h.setReg64.count.setFld h.setReg64.count)))))) (.next h)

theorem encMix {c e i q} : s₀.Evolves (s.encMix c e i q).2 :=
  .branchSnd (.pair h.siteInt.siteInt) h

theorem encOut {c e i q} : s₀.Evolves (s.encOut c e i q).2 :=
  .branchSnd h (.pair (.siteInt (.siteInt (.branch h h.frame))))

theorem encInput {c i q ok} : s₀.Evolves (s.encInput c i q ok) :=
  .branch (.frame (.encMix (.branch h h.count))) (.frame (.encOut (.encMix (.branch h h.count))))

theorem execJesdMultiblock {link ok frames} : s₀.Completes (execJesdMultiblock link ok frames s) :=
  .branch (.next (.loop (.branch h h.countInt) fun h => .loop h fun h => .branch h.encInput h)) (.next h)

theorem encStop {c v} : s₀.Evolves (s.encStop c v) :=
  h.setReg.frame

theorem encStart {c v0} : s₀.Evolves (s.encStart c v0) :=
  .branch (.branch h.setReg.setReg.setReg.frame.frame h.setReg.setReg.setReg.frame.frame.setInt) h.setReg.setErr

theorem encCfg {c v} : s₀.Evolves (s.encCfg c v) :=
  .branch (.branch h.encStop h.setErr) (.branch h.setReg (.branch h.setErr h.encStart))

theorem execChannelStart {req chan v} : s₀.Completes (execChannelStart req chan v s) :=
  .branch (.next h) (.next (h.ifAdmit fun h => h.encCfg))

theorem execChannelStop {req chan v} : s₀.Completes (execChannelStop req chan v s) :=
  .next (h.ifAdmit fun h => h.encCfg)

theorem encPost {req c off v} : s₀.Evolves (s.encPost req c off v) :=
  .branch (.loop h fun h => h.setReg) (.branch h.setErr (.branch h.frame.posted (.loop h fun h => h.setReg)))

theorem execEncPostedWrite {req chan off v} : s₀.Completes (execEncPostedWrite req chan off v s) :=
  .next (h.ifAdmit fun h => h.encPost)

theorem encSummit : s₀.Evolves s.encSummit :=
  .loop h fun h => .branch h (.frame (.loop h fun h => h.setReg))

theorem encWrite {req c off v} : s₀.Yields (s.encWrite req c off v) :=
  .branch (.some h.encCfg) (.branch (.some h.encPost) (.branch (.some h.setErr) .none))

theorem encSend {c dest k g t} : s₀.Evolves (s.encSend c dest k g t) :=
  .branch h (.branch (.countInt (.branchSnd h h.siteConv)) (.frame (.branchSnd h h.siteConv)))

theorem encInject {c} : s₀.Evolves (s.encInject c) := by
  unfold State.encInject
  extract_lets _
  split
  exacts [h, .branch h.frame.count.sendNode h]

theorem encDrain : s₀.Evolves s.encDrain :=
  .loop h fun h => h.encInject

theorem encValue {c d} : s₀.Evolves (s.encValue c d).2 :=
  .branchSnd h (.branchSnd h.siteInt h)

theorem encFirst {c x t} : s₀.Evolves (s.encFirst c x t) :=
  h.frame

theorem levelUp {c x t n} : s₀.Evolves (s.levelUp c x t n) :=
  .loop h fun h => .branch h.encSend.frame h

theorem levelDown {c x t hyst} : s₀.Evolves (s.levelDown c x t hyst) :=
  .loop h fun h => .branch h.encSend.frame h

theorem encLevel {c x t} : s₀.Evolves (encLevel c x t s) :=
  h.levelUp.levelDown

theorem encDelta {c x t} : s₀.Evolves (encDelta c x t s) :=
  .branch h.encSend.frame (.branch h.encSend.frame h)

theorem encZc {c x t} : s₀.Evolves (encZc c x t s) :=
  .branch h.frame.encSend (.branch h.frame.encSend h)

theorem encPeak {c x t} : s₀.Evolves (encPeak c x t s) :=
  .frame (.branch h.frame (.branch h.frame.encSend h))

theorem encLatency {c x t} : s₀.Evolves (encLatency c x t s) :=
  .branch h.frame.encSend h

theorem encTick : s₀.Evolves s.encTick :=
  h.mapEnc

theorem encSample {c mode f} (hf : ∀ {x0 x1 x2 t}, s₀.Evolves t → s₀.Evolves (f x0 x1 x2 t)) :
    s₀.Evolves (s.encSample c mode f) :=
  .branch (by split; exacts [h, .encInject (.branch h.frame.encValue.encFirst (hf h.frame.encValue))]) h

theorem execLevel {chan} : s₀.Completes (execLevel chan s) :=
  .next (h.encSample fun h => h.encLevel)

theorem execDelta {chan} : s₀.Completes (execDelta chan s) :=
  .next (h.encSample fun h => h.encDelta)

theorem execZc {chan} : s₀.Completes (execZc chan s) :=
  .next (h.encSample fun h => h.encZc)

theorem execPeak {chan} : s₀.Completes (execPeak chan s) :=
  .next (h.encSample fun h => h.encPeak)

theorem execLatency {chan} : s₀.Completes (execLatency chan s) :=
  .next (h.encSample fun h => h.encLatency)

theorem dropBlock {c} : s₀.Evolves (s.dropBlock c) :=
  h.countInt.frame

theorem writePoint {c d t} : s₀.Evolves (s.writePoint c d t) :=
  .branch h.tarnRefuse.dropBlock (.branch h.sramStore.frame h.sramStore.sramStore.frame)

theorem execBlock {chan} : s₀.Completes (execBlock chan s) :=
  .branch (by split; exacts [.next h, .next h.frame.writePoint]) (.next h)

theorem copyDescriptors {c k n start seq} : s₀.Evolves (s.copyDescriptors c k n start seq) :=
  .loop h fun h => h.sramStore

theorem execBlockComplete {chan} : s₀.Completes (execBlockComplete chan s) := by
  unfold Machine.execBlockComplete
  extract_lets _ _
  split
  · exact .next h
  · exact .branch (.next h) (.branch (.next h.frame.setReg) (.branch (.next h.frame.setReg.countInt) (.next
      h.frame.setReg.copyDescriptors.frame.setReg.pltStart)))

theorem encResume : s₀.Evolves s.encResume :=
  h.mapEnc

theorem tplWrite {i word v0} : s₀.Evolves (s.tplWrite i word v0) :=
  .branch h.setErr h.setReg

theorem execTemplateWrite {req rx word v} : s₀.Completes (execTemplateWrite req rx word v s) :=
  .next (h.ifAdmit fun h => h.tplWrite)

theorem execCsi2LockChange {rx locked} : s₀.Completes (execCsi2LockChange rx locked s) :=
  .branch (.next h) (.branch (.next (.branch h.orReg h)) (.branch (.next h.clrReg.setInt) (.next h)))

theorem evcHeader {i ecc} : s₀.Evolves (s.evcHeader i ecc) :=
  .branch h h.countInt

theorem execCsi2FrameStart {rx vc ecc} : s₀.Completes (execCsi2FrameStart rx vc ecc s) :=
  .branch (.branch (.next h.evcHeader) (.next h.evcHeader.frame.orReg)) (.next h)

theorem bufferSensor {e} : s₀.Evolves (s.bufferSensor e) :=
  .branch h.count.countInt h.count.frame

theorem sensorTime {i vc w2 ts} : s₀.Evolves (s.sensorTime i vc w2 ts).2 :=
  .branchSnd h (.pair h.frame)

theorem sensorWord {i vc w0 w1 w2 w3 w} : s₀.Evolves (s.sensorWord i vc w0 w1 w2 w3 w) :=
  .branch h.sensorTime.bufferSensor (.branch h.frame h)

theorem execCsi2LongPacket {rx vc dt ecc crcOk payload} :
    s₀.Completes (execCsi2LongPacket rx vc dt ecc crcOk payload s) :=
  .branch (.branch (.next h.evcHeader) (.branch (.next h.evcHeader.countInt)
    (by split; exacts [.next h.evcHeader.count, .next (.loop h.evcHeader fun h => h.sensorWord)]))) (.next h)

theorem aerTake {w} : s₀.Evolves (s.aerTake w) :=
  h.frame.count

theorem execAerWord {port word} : s₀.Completes (execAerWord port word s) :=
  .branch (.branch (.next h.aerTake.frame) (.branch (.next h.countInt.frame) (.next h.frame))) (.next h)

theorem execAerAckRelease {port} : s₀.Completes (execAerAckRelease port s) := by
  unfold Machine.execAerAckRelease
  split
  exacts [.next h, .branch (.next h.frame.aerTake.frame) (.next h)]

theorem execAerReqFall {port} : s₀.Completes (execAerReqFall port s) :=
  .branch (.next h.frame) (.next h)

theorem dropRange {src} : s₀.Evolves (s.dropRange src) :=
  .branch h.countInt h.countInt

theorem serveMap {e m} : s₀.Evolves (s.serveMap e m) :=
  .branch h.count h.frame.sendNode

theorem takeSensor {src} : s₀.Evolves (s.takeSensor src).2 :=
  .branchSnd (by split; exacts [.pair h.frame, h]) (by split; exacts [.pair h.frame, h])

theorem missMap {e a} : s₀.Evolves (s.missMap e a) :=
  .branch h.frame.frame.frame h.frame.frame

theorem execMapLookup {src} : s₀.Completes (execMapLookup src s) := by
  unfold Machine.execMapLookup
  refine .branch ?_ (.next h)
  dsimp only
  split
  · exact .next h
  · exact .branch (.next h.takeSensor.dropRange)
      (by split; exacts [.next h.takeSensor.count.serveMap, .next h.takeSensor.missMap])

theorem fillLine {a v} : s₀.Evolves (s.fillLine a v) :=
  .branch h h.frame.frame

theorem execMapMissFill {miss} : s₀.Completes (execMapMissFill miss s) := by
  unfold Machine.execMapMissFill
  split
  exacts [.next h, .branch (.next h.frame.dramRead.fillLine.count.serveMap) (.next h)]

theorem flushMap : s₀.Evolves s.flushMap :=
  h.frame.setReg.setInt

theorem flushSummit : s₀.Evolves s.flushSummit :=
  .branch h.flushMap h

theorem execEvcMapFlush {req} : s₀.Completes (execEvcMapFlush req s) :=
  .next (h.ifAdmit fun h => .branch h.setReg.posted h.flushMap)

theorem evcMapWrite {off v} : s₀.Yields (s.evcMapWrite off v) :=
  .branch (.some h.setErr) .none

/-! ### The functions of Machine/Traverse -/

theorem updTrvPort {p f} : s₀.Evolves (s.updTrvPort p f) :=
  h.frame

theorem followDegrade {p} : s₀.Evolves (s.followDegrade p) :=
  .branch (.setInt (.branch h.orReg h.clrReg)) (.branch h.orReg h.clrReg)

theorem setTrvState {p code} : s₀.Evolves (s.setTrvState p code) :=
  .followDegrade (.branch h.setFld.setStat h.setFld.setStat.setInt)

theorem trvDiscard {p k} : s₀.Evolves (s.trvDiscard p k) :=
  .branch h.count h.count.frame

theorem endJoin {code} : s₀.Evolves (s.endJoin code) :=
  h.setFld.clrReg.setInt.frame

theorem leaveUp {p} : s₀.Evolves (s.leaveUp p) := by
  unfold State.leaveUp
  extract_lets _ _ t₁ t₂ _ t₃ t₄
  have h₂ : s₀.Evolves t₂ := .loop h.frame fun h => h.trvDiscard
  have h₄ : s₀.Evolves t₄ := .loop h₂.frame fun h => h.trvDiscard
  exact .branch h₄.endJoin h₄

theorem fallDown {p} : s₀.Evolves (s.fallDown p) :=
  .setTrvState (.setFld (.setFld (.frame (.loop (.branch h.leaveUp h) fun h => .loop h fun h => h.trvDiscard))))

theorem startTraining {p stored} : s₀.Evolves (s.startTraining p stored) :=
  .setTrvState (.setFld (.setFld (.updTrvPort (.branch h.leaveUp h))))

theorem execPortTrainingStart {port} : s₀.Completes (execPortTrainingStart port s) :=
  .branch (.next h.startTraining) (.next h)

theorem execDetectRetry {port} : s₀.Completes (execDetectRetry port s) :=
  .branch (.next h.startTraining) (.next h)

theorem execDetectDone {port} : s₀.Completes (execDetectDone port s) :=
  .branch (.next h.updTrvPort) (.next h)

theorem execEqDone {port} : s₀.Completes (execEqDone port s) :=
  .branch (.next h.updTrvPort) (.next h)

theorem execLaneTestDone {port good} : s₀.Completes (execLaneTestDone port good s) :=
  .branch (.next h.updTrvPort.setFld) (.next h)

theorem queueCtrl {p kind l} : s₀.Evolves (s.queueCtrl p kind l) :=
  .branch h.updTrvPort h

theorem queueCtrlU {p kind l} : s₀.Evolves (s.queueCtrlU p kind l) :=
  .branch h.updTrvPort h

theorem sendHello {p} : s₀.Evolves (s.sendHello p) :=
  h.queueCtrlU

theorem helloAll : s₀.Evolves s.helloAll :=
  .loop h fun h => h.sendHello

theorem sendProbe {p} : s₀.Evolves (s.sendProbe p) :=
  h.queueCtrlU

theorem execWidthAgreed {port partner} : s₀.Completes (execWidthAgreed port partner s) :=
  .branch (.next h) (.branch (.next h.setFld.fallDown) (.next
    h.setFld.frame.setFld.setFld.setFld.setTrvState.sendHello.sendProbe))

theorem execLaneFail {port lane} : s₀.Completes (execLaneFail port lane s) :=
  .branch
    (by
      dsimp only
      split
      exacts [.next h.count.setFld.setFld.setFld.detect, .next h.count.setFld.detect.startTraining])
    (.next h)

theorem execDegradeWindow {port} : s₀.Completes (execDegradeWindow port s) :=
  .branch (.branch (.next h.updTrvPort.record.setTrvState) (.branch (.next h.updTrvPort.setTrvState) (.next
    h.updTrvPort))) (.next h)

theorem execPortDown {port} : s₀.Completes (execPortDown port s) :=
  .branch (.next h.fallDown) (.next h)

theorem trvCfgWrite {p v} : s₀.Evolves (s.trvCfgWrite p v) :=
  .branch (.branch h.setReg h.setReg.fallDown) (.branch h.setReg.startTraining h.setReg.followDegrade)

theorem execRetrain {req port v} : s₀.Completes (execRetrain req port v s) :=
  .next (h.ifAdmitWord fun h => h.trvCfgWrite)

theorem rxFrame {p f} : s₀.Evolves (s.rxFrame p f).2 := by
  unfold State.rxFrame
  split
  · exact h
  · extract_lets _ _ t
    have ht : s₀.Evolves t := .loop h.count.count fun h => h.count
    split
    · exact .pair ht.updTrvPort
    · repeat' split
      all_goals exact .pair ht.frame

theorem trvDeliver {p k} : s₀.Evolves (s.trvDeliver p k) :=
  .branch h.updTrvPort.trvRefuse (.branch h.updTrvPort.updTrvPort (.branch h.updTrvPort.updTrvPort (.frame (.branch
    h.updTrvPort h.updTrvPort.count))))

theorem execLinkFrame {port frame} : s₀.Completes (execLinkFrame port frame s) := by
  have hx : s₀.Evolves (s.rxFrame port frame).2 := h.rxFrame
  unfold Machine.execLinkFrame
  split
  · next heq =>
    rw [heq] at hx
    exact .next (.loop hx fun h => h.trvDeliver)
  · next heq =>
    rw [heq] at hx
    exact .next hx

theorem onCtrl {p f ty g} (hf : ∀ {t x1}, s₀.Evolves t → s₀.Evolves (g t x1)) : s₀.Evolves (s.onCtrl p f ty g) := by
  have hx : s₀.Evolves (s.rxFrame p f).2 := h.rxFrame
  unfold State.onCtrl
  generalize s.rxFrame p f = x at hx ⊢
  obtain ⟨_ | w, t⟩ := x
  exacts [hx, .branch (hf hx) hx]

theorem execReplayRequestTimeout {port} : s₀.Completes (execReplayRequestTimeout port s) := by
  unfold Machine.execReplayRequestTimeout
  split
  exacts [.next h, .branch (.next h) (.branch (.next h.count.record.updTrvPort.startTraining) (.next h.updTrvPort))]

theorem emitFrame {p ty seq w} : s₀.Evolves (s.emitFrame p ty seq w) :=
  h.frame

theorem fillSlots {p} : s₀.Evolves (s.fillSlots p).2 :=
  .loopSnd h fun h => by dsimp only; split; exacts [.pair h, .pair h.frame.frame]

theorem sendFrame {p} : s₀.Evolves (s.sendFrame p) := by
  unfold State.sendFrame
  refine .updTrvPort ?_
  split
  · exact h.frame.emitFrame
  · exact h.frame.count.emitFrame
  · refine .branch h.count.emitFrame ?_
    split
    exacts [h.frame.emitFrame, .branch h.fillSlots.emitFrame h.fillSlots.updTrvPort.emitFrame]

theorem sendSlot0 {p k} : s₀.Evolves (s.sendSlot0 p k) :=
  .branch h h.frame.emitFrame

theorem flushCtrl : s₀.Evolves s.flushCtrl :=
  .loop h fun h => .branch (.loop h fun h => h.sendFrame) h

theorem trvCycle : s₀.Evolves s.trvCycle :=
  .loop h fun h => .branch (.branch h.updTrvPort.sendFrame h.updTrvPort) h

theorem execTrvSwap {req port} : s₀.Completes (execTrvSwap req port s) :=
  .next (h.ifAdmit fun h => .branch h.setReg h.copyWords)

theorem trvSwapSummit : s₀.Evolves s.trvSwapSummit :=
  .loop h fun h => .branch h.copyWords.setReg h

theorem execLatencyMeasure {port} : s₀.Completes (execLatencyMeasure port s) :=
  .next (.branch h.sendProbe h)

theorem execLatProbe {port frame} : s₀.Completes (execLatProbe port frame s) :=
  .next (h.onCtrl fun h => h.queueCtrlU)

theorem execLatEcho {port frame} : s₀.Completes (execLatEcho port frame s) :=
  .next (h.onCtrl fun h => h.setReg)

theorem execHello {port frame} : s₀.Completes (execHello port frame s) :=
  .next (h.onCtrl fun h => .orReg (.loop h.setReg.setReg.setReg fun h => h.setReg))

/-! ### The functions of Machine/Tree -/

theorem updTree {f} : s₀.Evolves (s.updTree f) :=
  h.frame

theorem setChild {p on} : s₀.Evolves (s.setChild p on) := by
  unfold State.setChild
  extract_lets t₁
  have h₁ : s₀.Evolves t₁ := .branch h.orReg h.clrReg
  exact h₁.setFld.setFld.updTree

theorem markAbsent {c} : s₀.Evolves (s.markAbsent c) :=
  h.setMember.orReg

theorem applyAbsent {c} : s₀.Evolves (s.applyAbsent c) :=
  .branch (.loop h fun h => h.markAbsent) (.setInt (.count (.loop h fun h => h.markAbsent)))

theorem clearMembers : s₀.Evolves s.clearMembers :=
  .branch (.loop h fun h => h.setMember) (.setMember (.loop h fun h => h.setMember))

theorem followMaster : s₀.Evolves s.followMaster :=
  .branch h.setReg (.branch h.setReg h)

theorem roleWrite {page off v} : s₀.Evolves (s.roleWrite page off v) :=
  .branch h.setReg.followMaster.helloAll (.branch h.setReg.helloAll h.setReg)

theorem takeId {id} : s₀.Evolves (s.takeId id) := by
  unfold State.takeId
  extract_lets _ _ t₁
  have h₁ : s₀.Evolves t₁ := h.setReg.setReg.clearMembers
  exact .helloAll (.followMaster (.branch h₁.setReg h₁))

theorem execTrvChipId {req v} : s₀.Completes (execTrvChipId req v s) :=
  .next (h.ifAdmit fun h => .branch h.takeId h.setErr)

theorem assignWrite {p v} : s₀.Evolves (s.assignWrite p v) :=
  .branch h.queueCtrl h

theorem execTrvAssign {req port v} : s₀.Completes (execTrvAssign req port v s) :=
  .next (h.ifAdmit fun h => h.assignWrite)

theorem execAssign {port frame} : s₀.Completes (execAssign port frame s) :=
  .next (h.onCtrl fun h => .branch h.takeId h)

theorem sendSummit {p kind wave subj last step counts} :
    s₀.Evolves (s.sendSummit p kind wave subj last step counts) :=
  h.toPort

theorem sendDown {kind wave subj last step} : s₀.Evolves (s.sendDown kind wave subj last step) :=
  .loop h fun h => h.sendSummit

theorem takeSummit {p f} : s₀.Evolves (s.takeSummit p f).2 := by
  unfold State.takeSummit
  split
  exacts [.branchSnd (.pair h.updTrvPort) h, h]

theorem onSummit {p kind f} (hf : ∀ {t x1}, s₀.Evolves t → s₀.Evolves (f t x1)) : s₀.Evolves (s.onSummit p kind f) := by
  have hx : s₀.Evolves (s.takeSummit p (summitKind kind)).2 := h.takeSummit
  unfold State.onSummit
  generalize s.takeSummit p (summitKind kind) = x at hx ⊢
  obtain ⟨_ | q, t⟩ := x
  exacts [hx, hf hx]

theorem startWave : s₀.Evolves s.startWave :=
  h.updTree.sendDown

theorem closeWave : s₀.Evolves s.closeWave :=
  .branch h.setFld.frame.updTree h.setFld.frame.updTree.startWave

theorem tryToken : s₀.Evolves s.tryToken := by
  unfold State.tryToken
  split
  exacts [h, .branch h.setFld.updTree.sendSummit h]

theorem execProbe {port} : s₀.Completes (execProbe port s) :=
  .next (h.onSummit fun h => .branch h.updTree.sendDown.tryToken h)

theorem execToken {port} : s₀.Completes (execToken port s) :=
  .next (h.onSummit fun h => .branch h.updTree.tryToken h)

theorem reachSummit : s₀.Evolves s.reachSummit :=
  h.setReg64.setReg64.setReg.setReg.clrReg.setInt.frame

theorem execRelease {port} : s₀.Completes (execRelease port s) :=
  .next (h.onSummit fun h => .branch (.branch h.updTree.sendDown.reachSummit h.updTree.sendDown) h)

theorem notReady : s₀.Evolves s.notReady :=
  h.setFld.setInt

theorem askJoin {p} : s₀.Evolves (s.askJoin p) :=
  .branch h.setFld.orReg.updTree.queueCtrl h.notReady

theorem becomeAlone : s₀.Evolves s.becomeAlone :=
  .helloAll (.frame (.clearMembers (.followMaster (.setReg (.setReg (.setReg (.setReg (.setReg (.setReg (.loop h fun h
    => h.setFld))))))))))

theorem leaveGroup : s₀.Evolves s.leaveGroup :=
  .branch h (.becomeAlone (.loop h fun h => .branch h.queueCtrl h))

theorem joinWrite {v} : s₀.Evolves (s.joinWrite v) := by
  unfold State.joinWrite
  extract_lets t₁ t₂
  have h₁ : s₀.Evolves t₁ := .branch h h.setFld
  have h₂ : s₀.Evolves t₂ := .branch h₁.askJoin h₁
  exact .branch (.branch h₂.endJoin h₂.leaveGroup) h₂

theorem execJoinRequest {req v} : s₀.Completes (execJoinRequest req v s) :=
  .next (h.ifAdmitWord fun h => h.joinWrite)

theorem execLeaveRequest {req v} : s₀.Completes (execLeaveRequest req v s) :=
  .next (h.ifAdmitWord fun h => h.joinWrite)

theorem execJoinTimeout : s₀.Completes (execJoinTimeout s) :=
  .branch (.next h.endJoin) (.next h)

theorem refuseJoin {p code} : s₀.Evolves (s.refuseJoin p code) :=
  h.updTree.queueCtrl

theorem rootRefusal {joiner code} : s₀.Evolves (s.rootRefusal joiner code) := by
  unfold State.rootRefusal
  split
  exacts [h.refuseJoin, h.sendDown]

theorem admitChild {p joiner} : s₀.Evolves (s.admitChild p joiner) := by
  unfold State.admitChild
  extract_lets _ _ _ _ _ _ _ _ t₁
  have h₁ : s₀.Evolves t₁ := .loop (.queueCtrl (.branch h.setChild.updTree.setFld h.setChild.updTree)) fun h => h.queueCtrl
  exact .branch h₁.helloAll h₁

theorem applyGrant {g} : s₀.Evolves (s.applyGrant g) :=
  h.setMember.clrReg.setInt

theorem finishGrant {g} : s₀.Evolves (s.finishGrant g) :=
  .branch (by split; exacts [h.admitChild, h]) h

theorem applyGrants : s₀.Evolves s.applyGrants :=
  .loop (.loop h.updTree fun h => h.applyGrant) fun h => h.finishGrant

theorem applyTree : s₀.Evolves s.applyTree :=
  .applyGrants (.loop h.updTree fun h => h.applyAbsent)

theorem grantJoins : s₀.Evolves s.grantJoins :=
  .loop h.updTree fun h => h.sendDown

theorem rootJoin {joiner partner} : s₀.Evolves (s.rootJoin joiner partner) :=
  .branch h.rootRefusal (.branch h.rootRefusal (.branch h.updTree h.updTree.grantJoins.applyGrants))

theorem grantAtSummit {closes} : s₀.Evolves (s.grantAtSummit closes) :=
  .branch (.branch h.grantJoins h) h

theorem execJoinReq {port frame} : s₀.Completes (execJoinReq port frame s) :=
  .next (h.onCtrl fun h => .branch h.refuseJoin (.branch h.refuseJoin (.branch h.refuseJoin (.branch h.refuseJoin
    (.branch h.updTree.rootJoin h.updTree.sendSummit)))))

theorem execSummitJoinReq {port} : s₀.Completes (execSummitJoinReq port s) :=
  .next (h.onSummit fun h => .branch h.rootJoin h.sendSummit)

theorem execJoinGrant {port} : s₀.Completes (execJoinGrant port s) :=
  .next (h.onSummit fun h => .branch h.sendDown.updTree h.sendDown.updTree.applyGrants)

theorem execSummitJoinRefuse {port} : s₀.Completes (execSummitJoinRefuse port s) :=
  .next (h.onSummit fun h => h.rootRefusal)

theorem execJoinRefuse {port frame} : s₀.Completes (execJoinRefuse port frame s) :=
  .next (h.onCtrl fun h => .branch h.endJoin h)

theorem startTimer : s₀.Evolves s.startTimer :=
  h.orReg.setReg.frame

theorem becomeMember {p a} : s₀.Evolves (s.becomeMember p a) :=
  .helloAll (.setInt (.startTimer (.frame (.frame (.setReg (.setReg (.clrReg (.setReg (.setFld (.setFld (.setFld
    (.setReg (.loop (.loop h.setReg64.setReg64.setReg fun h => h.setMember) fun h => .branch h h.setMember)))))))))))))

theorem tryMember {p} : s₀.Evolves (s.tryMember p) := by
  unfold State.tryMember
  split
  exacts [.branch h.becomeMember h, h]

theorem execJoinAck {port frame} : s₀.Completes (execJoinAck port frame s) :=
  .next (h.onCtrl fun h => .branch h.updTree.tryMember h)

theorem execMtable {port frame} : s₀.Completes (execMtable port frame s) :=
  .next (h.onCtrl fun h => .branch h.updTree.tryMember h)

theorem declareAbsent {p} : s₀.Evolves (s.declareAbsent p) :=
  .branch h.setChild.updTree.updTree h.setChild.updTree.sendSummit.tryToken

theorem execAbsentDeclare {port} : s₀.Completes (execAbsentDeclare port s) :=
  .branch (.next h.declareAbsent) (.next h)

theorem execAbsent {port} : s₀.Completes (execAbsent port s) :=
  .next (h.onSummit fun h => .branch h.sendDown.updTree (.branch h.updTree h.sendSummit))

theorem becomeOrphan : s₀.Evolves s.becomeOrphan := by
  unfold State.becomeOrphan
  extract_lets _ _ _ t₁
  have h₁ : s₀.Evolves t₁ := .loop h fun h => h.markAbsent
  exact .helloAll (.updTree (.setInt (.setReg (.setFld (.setFld (.setFld (.setReg (.branch h₁.setFld h₁))))))))

theorem execLeave {port frame} : s₀.Completes (execLeave port frame s) :=
  .next (h.onCtrl fun h => .branch h.declareAbsent (.branch h.becomeOrphan h))

theorem execOrphan : s₀.Completes (execOrphan s) :=
  .branch (.next h.becomeOrphan) (.next h)

theorem treeTick : s₀.Evolves s.treeTick :=
  h.frame

theorem sendTick {due step skip} : s₀.Evolves (s.sendTick due step skip) :=
  .loop h fun h => .branch h.toPort h

theorem sendFreeze {origin cause} : s₀.Evolves (s.sendFreeze origin cause) :=
  .loop h fun h => .branch h.sendSlot0 h

theorem execFreezePacket {port} : s₀.Completes (execFreezePacket port s) := by
  have hx : s₀.Evolves (s.takeSummit port (fun k => k.ty == 0xA)).2 := h.takeSummit
  unfold Machine.execFreezePacket
  generalize s.takeSummit port (fun k => k.ty == 0xA) = x at hx ⊢
  obtain ⟨_ | q, t⟩ := x
  exacts [.next hx, .branch (.next hx.freeze) (.next hx.count)]

theorem remoteError {write} : s₀.Evolves (s.remoteError write) :=
  .branch h.count.setErr h.count.setErr.frame

theorem execRemoteAccess {req addr bytes data} : s₀.Completes (execRemoteAccess req addr bytes data s) :=
  .branch (.next h) (.branch (.next h.remoteError) (.branch
    (by split; exacts [.next h.dramWrite, .next h.dramRead.frame]) (.branch (.next h)
    (by dsimp only; split; exacts [.next h.frame.frame.sendNode, .next h.frame.frame.sendNode]))))

theorem takeRemote {p ty} : s₀.Evolves (s.takeRemote p ty).2 := by
  unfold State.takeRemote
  split
  exacts [.branchSnd (.pair h.updTrvPort) h, h]

theorem execReadReq {port} : s₀.Completes (execReadReq port s) := by
  have hx : s₀.Evolves (s.takeRemote port 5).2 := h.takeRemote
  unfold Machine.execReadReq
  generalize s.takeRemote port 5 = x at hx ⊢
  obtain ⟨_ | k, t⟩ := x
  · exact .next hx
  · have ht : s₀.Evolves t := hx
    dsimp only
    split
    · exact .next (.sendNode (.branch ht.frame.count ht.frame))
    · exact .branch (.next ht.frame.dramRead.sendNode)
        (.next (.loop ht.frame.dramRead fun h => h.sendNode))

theorem execWrite {port} : s₀.Completes (execWrite port s) := by
  have hx : s₀.Evolves (s.takeRemote port 9).2 := h.takeRemote
  unfold Machine.execWrite
  generalize s.takeRemote port 9 = x at hx ⊢
  obtain ⟨_ | k, t⟩ := x
  · exact .next hx
  · have ht : s₀.Evolves t := hx
    dsimp only
    split
    · exact .next (.sendNode (.branch ht.frame.count ht.frame))
    · exact .next (.sendNode (.loop ht.frame fun h => h.dramWrite))

theorem takeReply {ty} : s₀.Evolves (s.takeReply ty).2 := by
  unfold State.takeReply
  split
  exacts [h, .branchSnd (.pair h.frame.frame) h]

theorem onReply {ty f} (hf : ∀ {t x1 x2}, s₀.Evolves t → s₀.Evolves (f t x1 x2)) : s₀.Evolves (s.onReply ty f) := by
  have hx : s₀.Evolves (s.takeReply ty).2 := h.takeReply
  unfold State.onReply
  generalize s.takeReply ty = x at hx ⊢
  obtain ⟨_ | k, t⟩ := x
  · exact hx
  · dsimp only
    split
    exacts [hx, .branch hx.frame.remoteError (hf hx)]

theorem execReadRsp : s₀.Completes (execReadRsp s) :=
  .next (h.onReply fun h => .branch h.frame h.frame.frame)

theorem execCompletion : s₀.Completes (execCompletion s) :=
  .next (h.onReply fun h => h.frame)

theorem execRemoteTimeout : s₀.Completes (execRemoteTimeout s) := by
  unfold Machine.execRemoteTimeout
  split
  exacts [.next h, .branch (.next h.frame.remoteError) (.next h)]

/-! ### The functions of Machine/Ethernet -/

theorem execEthLinkChange {port link speed} : s₀.Completes (execEthLinkChange port link speed s) :=
  .branch (.next h.setFld.setFld.setStat.setInt) (.next h)

theorem setSaPn {p k n} : s₀.Evolves (s.setSaPn p k n) :=
  h.setReg64

theorem macsecDrop {p} : s₀.Evolves (s.macsecDrop p) :=
  h.countInt

theorem macsecOpen {p l} : s₀.Evolves (s.macsecOpen p l).2 := by
  unfold State.macsecOpen
  extract_lets _ _
  split
  · exact .pair h.macsecDrop
  · exact .branchSnd (.pair h.macsecDrop) (by split; exacts [.pair h.macsecDrop, .pair h.setSaPn])

theorem ethSend {p l} : s₀.Evolves (s.ethSend p l) :=
  .frame (.loop (.branch h.count.setSaPn h.count) fun h => h.macsecDrop)

theorem umhAnswer {p q status done count frag data} : s₀.Evolves (s.umhAnswer p q status done count frag data) :=
  .ethSend (.branch (.frame (.branch h h.count)) (.branch h h.count))

theorem umhStatus {p q status done} : s₀.Evolves (s.umhStatus p q status done) :=
  h.umhAnswer

theorem endOwner : s₀.Evolves s.endOwner :=
  .branch h (.frame (.loop h.clrReg.setInt fun h => h.frame.setReg))

theorem newOwnerUmh {p q} : s₀.Evolves (s.newOwnerUmh p q) :=
  .branch h.frame.setReg.setReg64.frame.setInt h.frame.setReg.setReg64.frame

theorem sramOp {a op} : s₀.Evolves (s.sramOp a op).2 := by
  unfold State.sramOp
  split
  exacts [.branchSnd h.tarnDo h.tarnSide, h.pltSide, .pair h.unmappedAcc, h]

theorem dmaWrite {who a l} : s₀.Evolves (s.dmaWrite who a l) := by
  unfold State.dmaWrite
  split
  exacts [h.frame.dramWrite, .loop h fun h => h.sramOp]

theorem dmaRead {who a n} : s₀.Evolves (s.dmaRead who a n).2 := by
  unfold State.dmaRead
  split
  exacts [.pair h.frame.dramRead, .loopSnd h fun h => .pair h.sramOp]

theorem rawReceive {p l macsec vlan} : s₀.Evolves (s.rawReceive p l macsec vlan) :=
  .branch h.count (.setFld (.dmaWrite (.branch h.frame h)))

theorem umhTake {p peer l} : s₀.Evolves (s.umhTake p peer l) :=
  .branch h.count (.branch (.umhStatus (.setInt (.branch h.count.frame h.count))) (.branch (.umhStatus (.branch
    h.count.frame h.count)) (.branch (.umhStatus (.branch h.count.frame h.count)) (.branch (.umhStatus (.branch
    h.count.frame h.count))
    (by
      split
      exacts [.ethSend (.count (.branch h.count.frame h.count)),
        .branch (.umhStatus (.setInt (.branch h.count.frame h.count))) (.frame (.branch h.count.frame h.count))])))))

theorem ethFrame {p l macsec} : s₀.Evolves (s.ethFrame p l macsec) :=
  .branch h.count (by split; exacts [h.umhTake, h.ethSend, h.count, h.rawReceive])

theorem execEthFrameReceive {port frame} : s₀.Completes (execEthFrameReceive port frame s) := by
  unfold Machine.execEthFrameReceive
  refine .branch (.next h) (.branch (.next h.count.count) (.branch (.next h.count.count)
    (.branch (.next h.count.ethFrame) (.branch ?_ (.branch (.next h.count.macsecDrop) (.next h.count.ethFrame))))))
  have hx : s₀.Evolves ((s.count (Page.eth port) Reg.ETH_RX_FRAMES 1).macsecOpen port
    (frame.take (frame.length - 4))).2 := h.count.macsecOpen
  generalize (s.count (Page.eth port) Reg.ETH_RX_FRAMES 1).macsecOpen port (frame.take (frame.length - 4)) = x at hx ⊢
  obtain ⟨_ | m, t⟩ := x
  · exact .next hx
  · have ht : s₀.Evolves t := hx
    exact .next ht.ethFrame

theorem takeReq {p f} : s₀.Evolves (s.takeReq p f).2 := by
  unfold State.takeReq
  extract_lets _
  split
  exacts [.branchSnd (.pair h.frame) h, h]

theorem onReq {p op f} (hf : ∀ {t x1}, s₀.Evolves t → s₀.Evolves (f t x1)) : s₀.Evolves (s.onReq p op f) := by
  have hx : s₀.Evolves (s.takeReq p (fun q => q.op == op)).2 := h.takeReq
  unfold State.onReq
  generalize s.takeReq p (fun q => q.op == op) = x at hx ⊢
  obtain ⟨_ | q, t⟩ := x
  exacts [hx, hf hx]

theorem bulkRefuse {port q a st} : s₀.Evolves (s.bulkRefuse port q a st) :=
  .umhStatus (.branch h.unmappedAcc h)

theorem execBulkRead {port} : s₀.Completes (execBulkRead port s) :=
  .next (.branch h (h.onReq fun h =>
    by
      dsimp only
      split
      exacts [h.setInt.umhStatus,
        .branch h.umhStatus (by split; exacts [h.bulkRefuse, .branch h.dmaRead.umhStatus h.dmaRead.umhAnswer.count])]))

theorem execBulkWrite {port} : s₀.Completes (execBulkWrite port s) :=
  .next (.branch h (h.onReq fun h => .branch (.branch h.umhStatus h.dramStore.umhStatus)
    (by split; exacts [h.setInt.umhStatus, by split; exacts [h.bulkRefuse, h.dmaWrite.umhStatus]])))

theorem execEventInject {port} : s₀.Completes (execEventInject port s) :=
  .next (h.onReq fun h => .branch h.umhStatus h.frame.umhStatus)

theorem injectDrain : s₀.Evolves s.injectDrain :=
  .loop h fun h => by split; exacts [h, .branch h.frame.sendNode h]

theorem claimHost {n} : s₀.Evolves (s.claimHost n) := by
  induction n generalizing s with
  | zero => exact h
  | succ n ih =>
    have hb : s₀.Evolves (s.claimBest 20).2 := h.claimBest
    unfold State.claimHost
    generalize s.claimBest 20 = x at hb ⊢
    obtain ⟨_ | i, t⟩ := x
    exacts [hb, ih hb.frame]

theorem sendNotify {p n} : s₀.Evolves (s.sendNotify p n) :=
  h.ethSend

theorem execNotify : s₀.Completes (execNotify s) :=
  .branch (by dsimp only; split; exacts [.next h.claimHost.frame.sendNotify, .next h.claimHost]) (.next h)

theorem execNotifyAck {port} : s₀.Completes (execNotifyAck port s) :=
  .branch (.next (h.onReq fun h => by split; exacts [h, h.frame.endClaims])) (.next h)

theorem execNotifyResend : s₀.Completes (execNotifyResend s) := by
  unfold Machine.execNotifyResend
  extract_lets _
  split
  exacts [.branch (.next h.frame.sendNotify) (.next h), .next h]

theorem execOwnerIdleTimeout : s₀.Completes (execOwnerIdleTimeout s) :=
  .branch (.next h.endOwner) (.next h)

theorem umhCtrlWrite {v} : s₀.Evolves (s.umhCtrlWrite v) :=
  .branch h.setReg.endOwner h.setReg

theorem execDropOwner {req v} : s₀.Completes (execDropOwner req v s) :=
  .next (h.ifAdmitWord fun h => h.umhCtrlWrite)

theorem seSummit {step forced} : s₀.Evolves (s.seSummit step forced) :=
  .loop h fun h => .branch h (.branch h.countInt h.frame.setReg)

theorem streamSend {p e a step forced} : s₀.Evolves (s.streamSend p e a step forced) := by
  unfold State.streamSend
  split
  exacts [h, h.dmaRead.ethSend.count.frame]

theorem execStreamBufferSend {port engine} : s₀.Completes (execStreamBufferSend port engine s) := by
  unfold Machine.execStreamBufferSend
  split
  exacts [.next h, .branch (.next h) (.next h.streamSend.frame.setReg)]

theorem execEthSeTail {req port engine v} : s₀.Completes (execEthSeTail req port engine v s) :=
  .next (h.ifAdmit fun h => h.setReg)

theorem execStreamRingSend {port engine} : s₀.Completes (execStreamRingSend port engine s) :=
  .branch (.next h) (.next h.streamSend.setReg)

theorem ptpCapture {p id} : s₀.Evolves (s.ptpCapture p id) :=
  .branch h.frame.count h.frame.frame.setInt

theorem rawSlot {p slot} : s₀.Evolves (s.rawSlot p slot) := by
  unfold State.rawSlot
  extract_lets _ _ _ _ _ _ _
  split
  · exact .branch h.dmaRead.dmaRead.ethSend.ptpCapture (.branch h.dmaRead.dmaRead.ethSend h.dmaRead.dmaRead.ethSend)
  · exact h.dmaRead.dmaRead.ethSend

theorem execRawTx {req port v} : s₀.Completes (execRawTx req port v s) :=
  .next (h.ifAdmit fun h => .branch h.setFld (.setFld (.loop h.setFld fun h => h.rawSlot)))

theorem execEthTsTxId {req port} : s₀.Completes (execEthTsTxId req port s) :=
  .branch (.next h.denyRead) (by split; exacts [.next h.frame, .next h.frame.setReg64.frame])

theorem ethWrite {p off v} : s₀.Yields (s.ethWrite p off v) :=
  .branch (.branch (.some h.setErr) .none) (.branch (.branch (.some h.setErr) .none) (.branch (.branch (.branch (.some
    h.setErr) .none) (.branch (.branch (.some h.setErr) .none) .none)) .none))

/-! ### The functions of Machine/Processors -/

theorem setRfgState {k x} : s₀.Evolves (s.setRfgState k x) :=
  h.setFld

theorem crsRun {c} : s₀.Evolves (s.crsRun c) :=
  h.crsMove

theorem crsReset {c} : s₀.Evolves (s.crsReset c) :=
  .branch h h.setFld.frame

theorem crsCtrlWrite {c v} : s₀.Evolves (s.crsCtrlWrite c v) :=
  .branch (.crsRun (.branch h.crsReset h)) (.branch h.crsReset h)

theorem execCoreRun {req core} : s₀.Completes (execCoreRun req core s) :=
  .next (h.ifAdmit fun h => h.crsRun)

theorem execCoreReset {req core} : s₀.Completes (execCoreReset req core s) :=
  .next (h.ifAdmit fun h => h.crsReset)

theorem execMachineTimer {core} : s₀.Completes (execMachineTimer core s) :=
  .branch (.next h.frame.wakeCore) (.next h)

theorem followTimer {c} : s₀.Evolves (s.followTimer c) :=
  h.frame

theorem execCrestWdogExpiry {core} : s₀.Completes (execCrestWdogExpiry core s) :=
  .branch (.next h) (.branch (.next h.countInt.frame) (.branch (.branch (.next h.frame.crsReset) (.branch (.next
    h.frame.fatal) (.next h.frame))) (.next h)))

theorem kickCrest {c} : s₀.Evolves (s.kickCrest c) :=
  h.frame

theorem execCrsWdogKick {req core} : s₀.Completes (execCrsWdogKick req core s) :=
  .next (h.ifAdmit fun h => h.kickCrest)

theorem execL3Flush {req} : s₀.Completes (execL3Flush req s) :=
  .next (h.ifAdmit fun h => h.setReg)

theorem execL3FlushDone : s₀.Completes (execL3FlushDone s) :=
  .branch (.next h.setReg) (.next h)

theorem execCrestCacheError {core cache line} : s₀.Completes (execCrestCacheError core cache line s) :=
  .branch (.next h) (by split; exacts [.next h, .next h.count, .next h, .next h.frame, .next h.detect])

theorem crsWrite {c off v} : s₀.Yields (s.crsWrite c off v) :=
  .branch (.some h.crsCtrlWrite) (.branch (.branch (.some h.setErr) .none) (.branch (.some (.branch h.setReg.wakeCore
    h.setReg)) (.branch (.some h.setReg.kickCrest) (.branch (.some (.branch h.kickCrest h)) .none))))

theorem cairn {id core args} : s₀.Evolves (s.cairn id core args) :=
  h.setBytes.setReg

theorem execCrnPush {req core v} : s₀.Completes (execCrnPush req core v s) :=
  .next (h.ifAdmit fun h => .branch h (.branch h.frame.setInt h.frame))

theorem cairnDrain : s₀.Evolves s.cairnDrain :=
  .branch h (.loop (.loop h.frame fun h => by split; exacts [h, h.cairn]) fun h => h.cairn)

theorem beginRestart {k pc} : s₀.Evolves (s.beginRestart k pc) :=
  .branch h.setReg.setRfgState.orReg.cairn.frame.endClaims.frame h.setReg.setRfgState.orReg.cairn.frame.endClaims

theorem heartbeatMiss {k pc} : s₀.Evolves (s.heartbeatMiss k pc) :=
  .branch h.countInt.cairn.frame (.branch h.countInt.cairn.frame.fatal h.countInt.cairn.frame.frame.beginRestart)

theorem execHeartbeatMiss {core pc} : s₀.Completes (execHeartbeatMiss core pc s) :=
  .branch (.next h.heartbeatMiss) (.next h)

theorem restartWrite {v pc} : s₀.Evolves (s.restartWrite v pc) :=
  .loop h fun h => .branch h (.branch h.setErr h.beginRestart)

theorem execRfgRestart {req v pc} : s₀.Completes (execRfgRestart req v pc s) :=
  .next (h.ifAdmit fun h => h.restartWrite)

theorem copyMem {src dst n} : s₀.Evolves (s.copyMem src dst n) :=
  .loop (.loop h fun h => h.setByte) fun h => h.setByte

theorem loadSegment {k} : s₀.Evolves (s.loadSegment k) :=
  h.copyMem

theorem execRestartCopyDone {core} : s₀.Completes (execRestartCopyDone core s) :=
  .branch (.next h.loadSegment.frame) (.next h)

theorem execRestartDigestDone {core ok} : s₀.Completes (execRestartDigestDone core ok s) :=
  .branch (.next h) (.branch (.next h.frame) (.next h.frame.setRfgState.setErr.fatal))

theorem kickRefuge {k} : s₀.Evolves (s.kickRefuge k) :=
  .branch h.frame.setRfgState.setFld.clrReg.cairn.setInt h.frame

theorem execRfgHbKick {req core} : s₀.Completes (execRfgHbKick req core s) :=
  .next (h.ifAdmit fun h => .branch h.kickRefuge h)

theorem execRestartTimeout {core pc} : s₀.Completes (execRestartTimeout core pc s) :=
  .branch (.next h.frame.heartbeatMiss) (.next h)

theorem rfgWrite {req k off v} : s₀.Yields (s.rfgWrite req k off v) :=
  .branch (.some (.branch h.kickRefuge h)) (.branch (.some h) .none)

theorem crnWrite {req off} : s₀.Yields (s.crnWrite req off) :=
  .branch (.some h) .none

/-! ### The functions of Machine/Security -/

theorem burn {b} : s₀.Evolves (s.burn b) :=
  h.frame

theorem otpEnd {code} : s₀.Evolves (s.otpEnd code) :=
  h.setReg.setInt

theorem otpBegin {bits} : s₀.Evolves (s.otpBegin bits) :=
  h.setReg.frame

theorem otpSlot {arg} : s₀.Evolves (s.otpSlot arg) := by
  unfold State.otpSlot
  exact .branch h.otpEnd h.otpBegin

theorem otpRevoke {arg} : s₀.Evolves (s.otpRevoke arg) :=
  .branch h.otpBegin h.otpEnd

theorem otpArbCmd {arg} : s₀.Evolves (s.otpArbCmd arg) :=
  .branch h.otpEnd (by split; exacts [.branch h.otpBegin h.otpEnd, h.otpEnd])

theorem otpConfigCmd {arg} : s₀.Evolves (s.otpConfigCmd arg) :=
  .branch h.otpEnd h.otpBegin

theorem otpEpoch : s₀.Evolves s.otpEpoch := by
  unfold State.otpEpoch
  split
  exacts [h.otpEnd, .branch h.otpBegin h.otpEnd]

theorem otpCommand {v} : s₀.Evolves (s.otpCommand v) :=
  .branch h.setFld (.branch h.otpSlot (.branch h.otpRevoke (.branch h.otpArbCmd (.branch h.otpConfigCmd (.branch
    h.otpEpoch h)))))

theorem otpWrite {r v} : s₀.Evolves (s.otpWrite r v) :=
  h.ifAdmitWo fun h => .branch h.otpCommand h.secRefused

theorem execSlot {req arg} : s₀.Completes (execSlot req arg s) :=
  .next h.otpWrite

theorem execRevoke {req arg} : s₀.Completes (execRevoke req arg s) :=
  .next h.otpWrite

theorem execArb {req arg} : s₀.Completes (execArb req arg s) :=
  .next h.otpWrite

theorem execConfig {req arg} : s₀.Completes (execConfig req arg s) :=
  .next h.otpWrite

theorem execEpoch {req} : s₀.Completes (execEpoch req s) :=
  .next h.otpWrite

theorem execOtpCmdDone {good} : s₀.Completes (execOtpCmdDone good s) := by
  unfold Machine.execOtpCmdDone
  split
  · exact .next h
  · exact .next (.otpEnd (.branch (.setInt (.loop h.frame fun h => h.burn)) (.loop h.frame fun h => h.burn)))

theorem verifyEnd {v} : s₀.Evolves (s.verifyEnd v) :=
  h.setReg.setInt

theorem verifyWrite {v} : s₀.Evolves (s.verifyWrite v) :=
  .branch h (.branch h.setErr (.branch h.verifyEnd (.branch h.verifyEnd h.setReg.frame)))

theorem execBdrVerify {req v} : s₀.Completes (execBdrVerify req v s) :=
  .next (h.ifAdmitWo fun h => h.verifyWrite)

theorem execVerifyDone : s₀.Completes (execVerifyDone s) := by
  unfold Machine.execVerifyDone
  split
  exacts [.next h, .branch (.next h.frame.verifyEnd) (.next h.frame.verifyEnd.frame)]

theorem setDrange {i base limit} : s₀.Evolves (s.setDrange i base limit) :=
  h.setReg64.setReg64

theorem drangeWrite {i isLimit v} : s₀.Evolves (s.drangeWrite i isLimit v) :=
  .branch h.setErr (.branch h.setReg.frame h.setDrange)

theorem execDrangeWrite {req range isLimit v} : s₀.Completes (execDrangeWrite req range isLimit v s) :=
  .next (h.ifAdmit fun h => h.drangeWrite)

theorem execDrangeClearDone : s₀.Completes (execDrangeClearDone s) := by
  unfold Machine.execDrangeClearDone
  split
  exacts [.next h, .next ((h.dropCells _).frame.setDrange.setReg)]

theorem trngFill {n} : s₀.Evolves (s.trngFill n) :=
  .branch h.setFld h

theorem trngWord : s₀.Evolves (s.trngWord).2 :=
  .pair h.frame

theorem trngRead : s₀.Evolves s.trngRead :=
  .branch h.frame h.trngWord.setFld.frame

theorem execBdrTrngData {req got} : s₀.Completes (execBdrTrngData req got s) :=
  .branch (.next h.trngFill.trngRead) (.next h.denyRead)

theorem execTrngTestFail {again} : s₀.Completes (execTrngTestFail again s) :=
  .branch (.next h) (.branch (.next h.frame.setFld.setFld.countInt) (.next h.frame))

theorem setDebug {x} : s₀.Evolves (s.setDebug x) :=
  .branch h h.setFld.setInt

theorem newChallenge : s₀.Evolves s.newChallenge :=
  .frame (.loop h fun h => .branch h.setReg h.trngWord.setReg)

theorem dbgCtrl {v} : s₀.Evolves (s.dbgCtrl v) :=
  .branch (.newChallenge (.branch h.setDebug h)) (.branch h.setDebug h)

theorem execNewChallenge {req} : s₀.Completes (execNewChallenge req s) :=
  .next (h.ifAdmitWo fun h => h.newChallenge)

theorem execRelock {req} : s₀.Completes (execRelock req s) :=
  .next (h.ifAdmitWo fun h => h.setDebug)

theorem tokenWord {v} : s₀.Evolves (s.tokenWord v) :=
  .branch h (.branch h.frame.setFld h.frame)

theorem execDbgToken {req v} : s₀.Completes (execDbgToken req v s) :=
  .next (h.ifAdmitWo fun h => h.tokenWord)

theorem execTokenCheckDone : s₀.Completes (execTokenCheckDone s) :=
  .branch (.next h) (.next (.branch h.setFld.setFld.frame.setDebug h.setFld.setFld.frame))

theorem bdrWrite {off v} : s₀.Yields (s.bdrWrite off v) :=
  .branch (.some h.verifyWrite) (.branch (.some h) .none)

theorem dbgWrite {off v} : s₀.Yields (s.dbgWrite off v) :=
  .branch (.some h.dbgCtrl) (.branch (.some h.tokenWord) .none)

/-! ### The functions of Machine/Reset -/

theorem bare {k} : s₀.Evolves (s.bare k) :=
  ⟨h.grade, h.queue, h.time, fun h₀ => ⟨Store.wf_filter _ _ _ (h.sound h₀).1, Store.wf_filter _ _ _ (h.sound h₀).2⟩⟩

theorem showRemaps : s₀.Evolves s.showRemaps :=
  .loop (.loop h fun h => h.setFld.setFld) fun h => h.setFld

theorem allSlices {x} : s₀.Evolves (s.allSlices x) :=
  .loop h fun h => h.setSlicePower

theorem resetCompute {k} : s₀.Evolves (s.resetCompute k) := by
  unfold State.resetCompute
  extract_lets _ _ _ t₁ t₂
  have h₁ : s₀.Evolves t₁ := .loop h.bare.showRemaps.allSlices fun h => h.setFld
  have h₂ : s₀.Evolves t₂ := .branch h₁.setInt h₁
  exact .setFld (.branch h₂.setInt h₂)

theorem mapBlock {b} : s₀.Evolves (s.mapBlock b) := by
  unfold State.mapBlock
  extract_lets _
  split
  exacts [h, .branch (.loop h fun h => h.frame) (.loop h.frame fun h => h.frame)]

theorem dropUnlisted {site} : s₀.Evolves (s.dropUnlisted site) := by
  unfold State.dropUnlisted
  extract_lets _
  split
  exacts [h.setStat.frame, h.setStat]

theorem buildMaps : s₀.Evolves s.buildMaps :=
  .loop (.loop (.loop h.frame fun h => h.mapBlock) fun h => h.setStat) fun h => h.dropUnlisted

theorem resetRegs {pages keep} : s₀.Evolves (s.resetRegs pages keep) :=
  h.dropRegs _

theorem dropMem {gone} : s₀.Evolves (s.dropMem gone) :=
  (h.dropCells _).frame

/-! ### The functions of Machine/Power -/

theorem setPwr {x} : s₀.Evolves (s.setPwr x) :=
  h.setFld

theorem retainBanks : s₀.Evolves s.retainBanks :=
  .loop h fun h => .branch h.frame.showBank h

theorem wakeBanks : s₀.Evolves s.wakeBanks :=
  .loop h fun h => .branch h.frame.showBank.serveHeld h

theorem quiesce : s₀.Evolves s.quiesce :=
  .allSlices (.retainBanks (.loop (.loop h.leaveGroup fun h => h.crsReset) fun h => h.pltNap))

theorem enterPower {target} : s₀.Evolves (s.enterPower target) :=
  .branch h.setInt (.branch h.setInt.setFld (.frame (.setReg (.setPwr (.branch h h.quiesce)))))

theorem enterRun : s₀.Evolves s.enterRun :=
  .branch h.frame.setPwr.allSlices.wakeBanks h

theorem holdPower {target} : s₀.Evolves (s.holdPower target) :=
  h.frame

theorem powerRequest {x} : s₀.Evolves (s.powerRequest x) :=
  .branch (.branch h h.holdPower) (.branch h (.branch h.holdPower (.branch h.enterRun h.enterPower)))

theorem pwrReqWrite {v} : s₀.Evolves (s.pwrReqWrite v) :=
  h.setReg.powerRequest

theorem execPwrReqNap {req} : s₀.Completes (execPwrReqNap req s) :=
  .next (h.ifAdmit fun h => h.pwrReqWrite)

theorem execPwrReqSleep {req} : s₀.Completes (execPwrReqSleep req s) :=
  .next (h.ifAdmit fun h => h.pwrReqWrite)

theorem execPwrReqRun {req} : s₀.Completes (execPwrReqRun req s) :=
  .next (h.ifAdmit fun h => h.pwrReqWrite)

theorem wakeBegins : s₀.Evolves s.wakeBegins :=
  .branch h.setPwr.setInt.frame.frame.frame (.branch h.setPwr.setInt.frame.frame h)

theorem wakeNow : s₀.Evolves s.wakeNow :=
  .branch h.wakeBegins h

theorem wakeLevels : s₀.Evolves s.wakeLevels := by
  unfold State.wakeLevels
  extract_lets t₁
  have h₁ : s₀.Evolves t₁ := .loop h fun h => .branch h.wakeEvent h
  exact .branch h₁.wakeEvent h₁

theorem execWake {pins} : s₀.Completes (execWake pins s) :=
  .next (.wakeNow (.wakeLevels (.loop h.frame fun h => .branch (.edgeAt (.branch h h.wakeEvent)) h)))

theorem execAonTimerExpiry : s₀.Completes (execAonTimerExpiry s) :=
  .branch (.next h) (.next h.frame.wakeEvent.edgeAt.wakeNow)

theorem execEnergyDetect {port} : s₀.Completes (execEnergyDetect port s) :=
  .branch (.next h.wakeEvent.edgeAt.wakeNow) (.next h)

theorem toOsc : s₀.Evolves s.toOsc :=
  .loop h.frame fun h => h.setReg

theorem execEntryComplete : s₀.Completes (execEntryComplete s) := by
  unfold Machine.execEntryComplete
  split
  · exact .next h
  · exact .next (.wakeNow (.wakeLevels (.setPwr (.frame (.branch (.resetCompute (.frame (.count (.setReg (.frame (.loop
      (.loop h.toOsc fun h => .branch h h.fallDown) fun h => h.setFld)))))) (.frame (.count (.setReg (.frame (.loop
      (.loop h.toOsc fun h => .branch h h.fallDown) fun h => h.setFld))))))))))

theorem execPgMainRise : s₀.Completes (execPgMainRise s) :=
  .branch (.next h) (.next h.frame.setReg.setReg.frame.frame)

theorem pllWrite {n v} : s₀.Evolves (s.pllWrite n v) :=
  .branch h.setErr (.branch h.setReg.frame h.setReg.frame.setReg)

theorem execPllEnable {req pll v} : s₀.Completes (execPllEnable req pll v s) :=
  .next (h.ifAdmit fun h => h.pllWrite)

theorem execPllLock {pll} : s₀.Completes (execPllLock pll s) :=
  .branch (.next h.setReg) (.next h)

theorem execPllUnlock {pll} : s₀.Completes (execPllUnlock pll s) :=
  .branch (.next h) (.branch (.next h.setReg.setInt) (.next h.setReg))

theorem dsrcWrite {v} : s₀.Evolves (s.dsrcWrite v) :=
  .branch h (.branch h.setErr h.frame)

theorem execClkDsrc {req v} : s₀.Completes (execClkDsrc req v s) :=
  .next (h.ifAdmit fun h => h.dsrcWrite)

theorem noteSwing {tj} : s₀.Evolves (s.noteSwing tj) :=
  .branch h.frame (.branch h.count.frame h.frame)

theorem noteTemp {tj} : s₀.Evolves (s.noteTemp tj) :=
  h.setReg.setReg.noteSwing

theorem setThrottle {x} : s₀.Evolves (s.setThrottle x) :=
  h.setFld.setInt

theorem execThrottleRaise {tj} : s₀.Completes (execThrottleRaise tj s) :=
  .branch (.next h.noteTemp) (.branch (.next h.noteTemp.frame) (.next h.noteTemp.frame.frame.setThrottle))

theorem execThrottleLower {tj} : s₀.Completes (execThrottleLower tj s) :=
  .branch (.next h.noteTemp.frame)
    (by split; exacts [.next h.noteTemp.frame, .branch (.next h.noteTemp) (.next h.noteTemp.frame.setThrottle)])

theorem execThermalShutdown {tj sensor} : s₀.Completes (execThermalShutdown tj sensor s) :=
  .branch (.next h.noteTemp) (.next h.noteTemp.fatal)

theorem screeEstimate : s₀.Evolves s.screeEstimate :=
  .branch h.setFld.setReg
    (by
      split
      exacts [h.setFld.setReg.setReg.setReg,
        .branch h.frame.frame.setFld.setReg.setReg.setReg.setInt.setInt h.frame.frame.setFld.setReg.setReg.setReg.setInt])

theorem execScreeSample {ds} : s₀.Completes (execScreeSample ds s) :=
  .branch (.next h.frame.screeEstimate) (.next h)

theorem burnFuse : s₀.Evolves s.burnFuse := by
  unfold State.burnFuse
  split
  exacts [h, h.burn.setInt]

theorem execEpochFuseBurn : s₀.Completes (execEpochFuseBurn s) :=
  .branch (.next h.burnFuse) (.next h)

theorem ledgerEnd {code b} : s₀.Evolves (s.ledgerEnd code b) :=
  h.setReg.clrReg.setInt

theorem exportLedger : s₀.Evolves s.exportLedger :=
  .branch h.ledgerEnd h.frame.dramWrite.frame.ledgerEnd

theorem burnDue {n} : s₀.Evolves (s.burnDue n) := by
  induction n generalizing s with
  | zero => exact h
  | succ n ih => exact .branch (ih h.burnFuse) h

theorem takeLedger {l} : s₀.Evolves (s.takeLedger l) :=
  h.frame.frame.setReg.orReg.frame.burnDue

theorem restoreLedger : s₀.Evolves s.restoreLedger :=
  .branch h.ledgerEnd (.ledgerEnd (.branch h.takeLedger h))

theorem serveLedger : s₀.Evolves s.serveLedger :=
  .branch h (.branch (.restoreLedger (.branch h.exportLedger h)) (.branch h.exportLedger h))

theorem ledgerCtrl {v} : s₀.Evolves (s.ledgerCtrl v) :=
  .branch h h.setReg.serveLedger

theorem execLedgerExport {req} : s₀.Completes (execLedgerExport req s) :=
  .next (h.ifAdmitWo fun h => h.ledgerCtrl)

theorem execLedgerRestore {req} : s₀.Completes (execLedgerRestore req s) :=
  .next (h.ifAdmitWo fun h => h.ledgerCtrl)

theorem vidWrite {v} : s₀.Evolves (s.vidWrite v) :=
  .branch h.setErr h.setFld

theorem execPwrVidWrite {req v} : s₀.Completes (execPwrVidWrite req v s) :=
  .next (h.ifAdmit fun h => h.vidWrite)

theorem execVidStep : s₀.Completes (execVidStep s) :=
  .branch (.next h) (.next h.frame.setFld)

theorem powerCycle : s₀.Evolves s.powerCycle := by
  unfold State.powerCycle
  extract_lets t₁ _ t₂ t₃
  have h₁ : s₀.Evolves t₁ := h.wakeNow
  have h₂ : s₀.Evolves t₂ := by
    dsimp only [t₂]
    split
    exacts [h₁, .branch h₁.frame.powerRequest h₁]
  have h₃ : s₀.Evolves t₃ := .branch h₂ h₂.serveLedger
  exact .branch h₃ (.branch h₃.frame.frame h₃.frame.frame.count)

theorem pwrWrite {off v} : s₀.Yields (s.pwrWrite off v) :=
  .branch (.some h.pwrReqWrite) (.branch (.some h.vidWrite) .none)

theorem wakeAtWrite {v} : s₀.Evolves (s.wakeAtWrite v) :=
  h.setReg64.frame

theorem clkWrite {off v} : s₀.Yields (s.clkWrite off v) :=
  .branch (.some h.dsrcWrite) (.branch (.some h.pllWrite) .none)

theorem scrWrite {off v} : s₀.Yields (s.scrWrite off v) :=
  .branch (.some h.ledgerCtrl) .none

/-! ### The functions of Machine/Boot -/

theorem setStage {x} : s₀.Evolves (s.setStage x) :=
  h.setFld

theorem setFail {x} : s₀.Evolves (s.setFail x) :=
  h.setFld

theorem powerUp {src cause} : State.Evolves { s₀ with elapsed := 0 } (s.powerUp src cause) :=
  have h₀ : State.Evolves { s₀ with elapsed := 0 }
      { grade := s.grade, pending := s.pending, fresh := s.fresh + 1, cells := { seedBase := s.fresh + 1 },
        power := { pins := s.power.pins }, sec := { burned := s.sec.burned }, boot := { path := .cold } } :=
    ⟨h.grade, h.queue, rfl, fun _ => ⟨rfl, rfl⟩⟩
  .allSlices (.setReg (.setReg (.frame h₀)))

theorem execPowerOn {src} : State.Completes { s₀ with elapsed := 0 } (execPowerOn src s) :=
  .next h.powerUp

theorem execBrownOut : State.Completes { s₀ with elapsed := 0 } (execBrownOut s) :=
  .next h.powerUp

theorem bootMacs : s₀.Evolves s.bootMacs :=
  .loop h fun h => h.setReg64

theorem halt {code} : s₀.Evolves (s.halt code) :=
  h.setFail.setStage.bootMacs

theorem takeOtp : s₀.Evolves s.takeOtp :=
  .setReg (.setReg (.branch (.loop h fun h => h.listSite) h))

theorem lockPlls : s₀.Evolves s.lockPlls :=
  .frame (.loop h fun h => h.setReg.setReg)

theorem execOtpStage {supplyOk unlocked} : s₀.Completes (execOtpStage supplyOk unlocked s) :=
  .branch (.next h) (.branch (.next h.halt) (.branch (.next h.halt) (.branch (.next (.halt (.loop h.lockPlls fun h =>
    .branch h.setReg h))) (.next h.takeOtp.lockPlls.setReg.setFld.setStage))))

theorem execDramTrain {ok} : s₀.Completes (execDramTrain ok s) :=
  .branch (.next h) (.branch (.next h.halt) (.next h.allSlices.setStage))

theorem failRow {x} : s₀.Evolves (s.failRow x) := by
  unfold State.failRow
  split
  exacts [.branch h (.branch h.enterRemap.record h.degradeBank)]

theorem execDramRowTest {rows} : s₀.Completes (execDramRowTest rows s) :=
  .branch (.next h) (.next (.setStage (.dropMem (.loop h fun h => h.failRow))))

theorem markLane {p lane} : s₀.Evolves (s.markLane p lane) :=
  h.orReg

theorem execBootLaneTest {bad} : s₀.Completes (execBootLaneTest bad s) :=
  .branch (.next h) (.next (.setStage (.branch (.bootMacs (.loop h fun h => .branch h.markLane h)) (.loop h fun h =>
    .branch h.markLane h))))

theorem tryImage {size host} : s₀.Evolves (s.tryImage size host) :=
  h.setFld.setStage.frame

theorem execImageFetch {answers image} : s₀.Completes (execImageFetch answers image s) :=
  .branch (.next h) (.branch (.next h.halt) (.branch (.next h.halt) (.next h.frame.dropMem.setBytes.tryImage)))

theorem bootImg {v} : s₀.Evolves (s.bootImg v) :=
  .branch h.tryImage h

theorem execChpBootImg {req v} : s₀.Completes (execChpBootImg req v s) :=
  .next (h.ifAdmitWo fun h => h.bootImg)

theorem takeImage {l} : s₀.Evolves (s.takeImage l) :=
  .frame (.loop (.setReg (.setReg (.loop h.dropMem.copyMem fun h => h.loadSegment))) fun h => h.setReg)

theorem execImageVerify : s₀.Completes (execImageVerify s) :=
  .branch (.next h) (.branch (.next h.frame.takeImage.setStage) (.next h.frame.setFail.setStage))

theorem warmReset {cause} : s₀.Evolves (s.warmReset cause) :=
  .branch h (.frame (.branch h.resetCompute.setFrz.setPwr.setReg.setReg
    h.resetCompute.setFrz.setPwr.setReg.setReg.allSlices))

theorem execWarmN : s₀.Completes (execWarmN s) :=
  .next h.warmReset

theorem resetWrite {v} : s₀.Evolves (s.resetWrite v) :=
  .branch h.warmReset h

theorem execChpReset {req v} : s₀.Completes (execChpReset req v s) :=
  .next (h.ifAdmitWo fun h => h.resetWrite)

theorem checkStore : s₀.Evolves s.checkStore :=
  .branch (.setStage (.frame (.loop h fun h => h.loadSegment))) (.branch h.setFail.setStage.bootMacs
    h.setFail.setStage)

theorem execWarmPathDigest : s₀.Completes (execWarmPathDigest s) :=
  .branch (.next h.checkStore) (.next h)

theorem failSite {x} : s₀.Evolves (s.failSite x) :=
  h.record

theorem failEngine {page} : s₀.Evolves (s.failEngine page) := by
  unfold State.failEngine
  split
  · exact .branch h.setStat.record h
  · exact .branch h.setStat.record h
  · exact .branch h.setStat.record h
  · exact .branch h.setStat.record h
  · exact .branch h.setStat.record h
  · exact h

theorem execKnownAnswerRun {sites engines} : s₀.Completes (execKnownAnswerRun sites engines s) :=
  .branch (.next h) (.next (.frame (.dropMem (.loop (.loop (.loop h fun h => h.listSite) fun h => h.failSite) fun h =>
    h.failEngine))))

theorem autoArb : s₀.Evolves s.autoArb := by
  unfold State.autoArb
  split
  exacts [.branch (.loop h fun h => h.burn) h, h]

theorem startRefuges : s₀.Evolves s.startRefuges :=
  .loop h fun h => h.setRfgState.frame

theorem declareReady : s₀.Evolves s.declareReady :=
  h.buildMaps.startRefuges.autoArb.setStage.setFld.setStat.setReg.setPwr.frame

theorem execReady : s₀.Completes (execReady s) :=
  .branch (.next h.declareReady) (.next h)

/-! ### The functions of Machine/Faults -/

theorem execErrorRecordWrite : s₀.Completes (execErrorRecordWrite s) := by
  unfold Machine.execErrorRecordWrite
  split
  exacts [.next h, .branch (.next h) (.next h.frame.setBytes.setReg.setInt)]

theorem mendNeurons {c slot bad} : s₀.Evolves (s.mendNeurons c slot bad) :=
  .loop h fun h => .branch (by split; exacts [h.frame, h.frame]) h

theorem mendTraces {c bad} : s₀.Evolves (s.mendTraces c bad) :=
  .loop h fun h => .branch h.frame h

theorem mendPool {b c bad} : s₀.Evolves (s.mendPool b c bad) :=
  h.frame.count

theorem resumeItems {c} : s₀.Evolves (s.resumeItems c) :=
  h.frame

theorem unbuffer {b c p} : s₀.Evolves (s.unbuffer b c p) :=
  .branch h.placePacket
    (by
      dsimp only
      split
      exacts [.answerBlock (h.takeCell fun h => h.actCell), .frame (.frame (h.takeCell fun h => h.actCell))])

theorem migrate {b m bad badTrace badPool} : s₀.Evolves (s.migrate b m bad badTrace badPool) :=
  .setInt (.setReg (.count (.record (.loop (.resumeItems (.mendPool (.mendTraces (.mendNeurons (.branch
    h.frame.frame.frame.frame h.frame.frame.frame))))) fun h => h.unbuffer))))

theorem execMigrationComplete {block bad badTrace badPool} :
    s₀.Completes (execMigrationComplete block bad badTrace badPool s) := by
  unfold Machine.execMigrationComplete
  split
  exacts [.next h, .branch (.next h.migrate) (.next h)]

theorem migrateWrite {b v} : s₀.Evolves (s.migrateWrite b v) :=
  .branch h.fenceCell h

theorem execBlkMigrate {req block v} : s₀.Completes (execBlkMigrate req block v s) :=
  .next (h.ifAdmitWo fun h => h.migrateWrite)

theorem restoreWrite {b} : s₀.Evolves (s.restoreWrite b) :=
  .branch h.setErr h.orReg

theorem execBlkRestore {req block} : s₀.Completes (execBlkRestore req block s) :=
  .next (h.ifAdmitWord fun h => h.restoreWrite)

theorem loadNeurons {c l} : s₀.Evolves (s.loadNeurons c l) :=
  .loop h fun h => h.frame

theorem restoreCell {b c} : s₀.Evolves (s.restoreCell b c) :=
  .branch h (by split; exacts [.loop h.loadNeurons fun h => h.setReg, .setErr (.orReg (.loop h fun h => h.frame))])

theorem execRestoreDone {block} : s₀.Completes (execRestoreDone block s) :=
  .branch (.next (.clrReg (.loop h fun h => h.restoreCell))) (.next h)

theorem execFabricProgressExpiry {page} : s₀.Completes (execFabricProgressExpiry page s) :=
  .branch (.next h.fatal) (.next h)

theorem writeDump {full} : s₀.Evolves (s.writeDump full) :=
  .setReg (.frame (by split; exacts [h.setBytes.setBytes.setBytes, h.setBytes.setBytes]))

theorem dumpBaseWrite {v} : s₀.Evolves (s.dumpBaseWrite v) :=
  .branch h.setErr h.setReg64

theorem kill : s₀.Evolves s.kill :=
  h.setFrz.leaveGroup.flushCtrl.setFrz.resetCompute.setReg.setReg

theorem execCollectDone : s₀.Completes (execCollectDone s) :=
  .branch (.next h.writeDump.kill) (.next h)

theorem execCollectTimeout : s₀.Completes (execCollectTimeout s) :=
  .branch (.next h.writeDump.kill) (.next h)

theorem execKillDone {tj} : s₀.Completes (execKillDone tj s) :=
  .branch (.next h) (.branch (.next h.noteTemp) (.next (.loop h.noteTemp.setFrz.frame fun h => h.startTraining)))

theorem execRecoveryRetrainDone {fail} : s₀.Completes (execRecoveryRetrainDone fail s) :=
  .branch (.next h) (.branch (.next h.frame.setFrz.halt) (.next
    h.frame.lockPlls.allSlices.takeOtp.setReg.setFld.setFrz.setStage))

theorem recovered : s₀.Evolves s.recovered :=
  h.setReg.setReg.declareReady.setFrz.setInt

theorem execReloadDone : s₀.Completes (execReloadDone s) :=
  .branch (.next h) (.branch (.next (.recovered (.branch h.checkStore h))) (.next (.branch h.checkStore h)))

theorem execFreezeNLow : s₀.Completes (execFreezeNLow s) :=
  .branch (.next h.freeze) (.next h)

theorem execFreeze {req} : s₀.Completes (execFreeze req s) :=
  .next (h.ifAdmitWord fun h => h.freeze)

theorem autoReadout : s₀.Evolves s.autoReadout :=
  h.record.setBytes.frame

theorem execFreezeStopped : s₀.Completes (execFreezeStopped s) :=
  .branch (.next h) (.next (.branch (.autoReadout (.setFrz (.allSlices (.loop h.sendFreeze fun h => .branch
    h.setTrvState h)))) (.setFrz (.allSlices (.loop h.sendFreeze fun h => .branch h.setTrvState h)))))

theorem resume : s₀.Evolves s.resume :=
  .branch h.setErr h.setFrz

theorem execResume {req} : s₀.Completes (execResume req s) :=
  .next (h.ifAdmitWo fun h => h.resume)

theorem execFreezeNRise : s₀.Completes (execFreezeNRise s) :=
  .branch (.next h.resume) (.next h)

theorem recoverNow : s₀.Evolves s.recoverNow :=
  .branch h.allSlices.frame.beginRecovery h

theorem execRecover {req} : s₀.Completes (execRecover req s) :=
  .next (h.ifAdmitWord fun h => h.recoverNow)

theorem execResumeComplete : s₀.Completes (execResumeComplete s) :=
  .branch (.next h) (.next (.frame (.encResume (.loop h.allSlices.setFrz.setInt.count.setReg64.setReg64.frame fun h =>
    .branch h.startTraining h))))

/-! ### The functions of Machine/StepTime -/

theorem numericSummit {page} : s₀.Evolves (s.numericSummit page) :=
  h.windowSummit.applySeed

theorem chipPosted : s₀.Evolves s.chipPosted :=
  .loop (.loop h.applyRules.encSummit.trvSwapSummit.flushSummit.applyRoutes fun h => h.swapSummit) fun h =>
    h.numericSummit

theorem regionPosted {r} : s₀.Evolves (s.regionPosted r) :=
  h.applyRoutes.bankSummit.applySyn.numericSummit

theorem blockPosted {b} : s₀.Evolves (s.blockPosted b) :=
  .frame (.swapSummit (.loop h fun h => h.applyCellPosts.applyQueues.numericSummit))

theorem snapPage {p} : s₀.Evolves (s.snapPage p) :=
  h.setReg

theorem regionSnap {r} : s₀.Evolves (s.regionSnap r) :=
  h.setReg.setReg.snapPage

theorem regionTimes {r forced} : s₀.Evolves (s.regionTimes r forced) :=
  .setReg (.branch h.setReg h)

theorem cellSnap {c} : s₀.Evolves (s.cellSnap c) :=
  .branch h.setReg.setReg.setReg.snapPage h

theorem blockSnap {b} : s₀.Evolves (s.blockSnap b) :=
  .snapPage (.setReg (.setReg (.setReg (.setReg (.loop h fun h => h.cellSnap)))))

theorem addCounts : s₀.Evolves s.addCounts :=
  h.count.count.count.frame

theorem unitSummit {u} : s₀.Evolves (s.unitSummit u) := by
  unfold State.unitSummit
  extract_lets _ t₁ t₂ t₃ _ _ t₄
  have h₁ : s₀.Evolves t₁ := h.frame
  have h₄ : s₀.Evolves t₄ := .branch h₁.learnSummit.addCounts.chipPosted.seSummit.applyTree.tmrSource.frame
    (.branch h₁.gatesSummit.regionSnap.regionTimes.regionPosted h₁.blockSnap.blockPosted)
  exact .branch h₄.frame h₄

theorem finishRelease : s₀.Evolves s.finishRelease :=
  .loop h fun h => .branch h.unitSummit h

theorem forcedSummit : s₀.Evolves s.forcedSummit :=
  .frame (.loop (.loop h.orReg.frame.agePasses.chipPosted.seSummit.tmrSource fun h =>
    h.gatesSummit.regionTimes.regionPosted) fun h => h.blockPosted)

theorem quiLate : s₀.Evolves s.quiLate :=
  .loop h fun h => .branch h h.setInt

theorem countOverrun : s₀.Evolves s.countOverrun :=
  .branch h (.frame (.branch h.count.setInt.quiLate h.count.setInt))

theorem noteSlack : s₀.Evolves s.noteSlack :=
  .branch h.setReg.setReg h.setReg

theorem noteLength {period} : s₀.Evolves (s.noteLength period) :=
  .branch h.setReg.setReg64 h.setReg

theorem ageEvents : s₀.Evolves s.ageEvents :=
  .countShed (.loop h.frame fun h => h.wakeHeld)

theorem freshCounts {par} : s₀.Evolves (s.freshCounts par) :=
  h.frame

theorem beginStep : s₀.Evolves s.beginStep :=
  .loop h.frame.frame.ageEvents.freshCounts.restartWindows.encTick.frame.treeTick.tmrSource fun h => h.pltTick

theorem doTick {period} : s₀.Evolves (s.doTick period) := by
  unfold State.doTick
  extract_lets _ _ t₁ t₂
  have h₁ : s₀.Evolves t₁ := .branch h.countOverrun h
  have h₂ : s₀.Evolves t₂ := .branch h₁.forcedSummit h₁.finishRelease
  exact .branch h₂ (.beginStep (.loop (.setInt (.setReg64 (.setReg64 (.branch (.sendTick (.branch (.branch h₂.setInt h₂)
    (.noteLength (.noteSlack (.branch h₂.setInt h₂))))) (.branch (.branch h₂.setInt h₂) (.noteLength (.noteSlack
    (.branch h₂.setInt h₂)))))))) fun h => h.pltLate))

theorem reload : s₀.Evolves s.reload :=
  h.setReg.frame

theorem tickNow : s₀.Evolves s.tickNow :=
  h.reload.doTick

theorem countOn : s₀.Evolves s.countOn :=
  h.frame

theorem holdTick : s₀.Evolves s.holdTick :=
  h.frame

theorem countWatchdog : s₀.Evolves s.countWatchdog :=
  h.setReg

theorem execTick : s₀.Completes (execTick s) :=
  .branch (.next h) (.branch (.branch (.next (.countOn (.holdTick (.branch h.countWatchdog.countOverrun
    h.countWatchdog)))) (.next h.countWatchdog.tickNow)) (.branch (.next h.countWatchdog.countOn) (.next (.branch
    h.countWatchdog.reload h.countWatchdog.reload.frame))))

theorem timerOn : s₀.Evolves s.timerOn :=
  .branch h h.startTimer

theorem execStepTimerStart {req} : s₀.Completes (execStepTimerStart req s) :=
  .next (h.ifAdmit fun h => h.timerOn)

theorem applyPosted : s₀.Evolves s.applyPosted :=
  .frame (.loop (.loop (.loop (.loop (.loop (.loop h.applyRules.encSummit.trvSwapSummit.flushSummit fun h =>
    h.swapSummit) fun h => h.applyRoutes) fun h => h.applySyn) fun h => h.swapSummit) fun h =>
    h.applyCellPosts.applyQueues) fun h => h.applySeed)

theorem timerOff : s₀.Evolves s.timerOff :=
  .branch h h.stopTimer.frame.applyPosted

theorem execStepTimerStop {req} : s₀.Completes (execStepTimerStop req s) :=
  .next (h.ifAdmit fun h => h.timerOff)

theorem periodWrite {v} : s₀.Evolves (s.periodWrite v) :=
  .branch h.frame.setReg h.setErr

theorem execStpPeriodWrite {req v} : s₀.Completes (execStpPeriodWrite req v s) :=
  .next (h.ifAdmit fun h => h.periodWrite)

theorem sourceTick : s₀.Evolves s.sourceTick :=
  .branch h.holdTick h.tickNow

theorem execTickPacketSend : s₀.Completes (execTickPacketSend s) :=
  .branch (.next h.sendTick.frame) (.next h)

theorem execTickPacketReceive {port} : s₀.Completes (execTickPacketReceive port s) := by
  have hx : s₀.Evolves (s.takeSummit port (fun k => k.ty == 0xB)).2 := h.takeSummit
  unfold Machine.execTickPacketReceive
  generalize s.takeSummit port (fun k => k.ty == 0xB) = x at hx ⊢
  obtain ⟨_ | ⟨a, k⟩, t⟩ := x
  · exact .next hx
  · have ht : s₀.Evolves t := hx
    have hs : ∀ {d c}, s₀.Evolves (if t.isTreePort port then t.sendTick d c (some port.val) else t) :=
      .branch ht.sendTick ht
    exact .branch (.next hs) (.branch (.next (.sourceTick (.setErr (.count (.setReg (.branch hs hs.frame))))))
      (.next (.frame (.setReg (.branch hs hs.frame)))))

theorem execTickLeadExpiry : s₀.Completes (execTickLeadExpiry s) := by
  unfold Machine.execTickLeadExpiry
  split
  exacts [.branch (.next h.frame.sourceTick) (.next h), .next h]

theorem execFlywheelTick : s₀.Completes (execFlywheelTick s) := by
  unfold Machine.execFlywheelTick
  split
  exacts [.branch (.next h.count.setInt.doTick) (.next h), .next h]

theorem execTickInEdge : s₀.Completes (execTickInEdge s) :=
  .branch (.next h) (.branch (.next h.count) (.branch (.next h.frame.countOverrun.frame) (.next h.frame.tickNow)))

theorem execHeldTickRelease : s₀.Completes (execHeldTickRelease s) :=
  .branch (.next h.tickNow) (.next h)

theorem execBlockUpdateDone {block} : s₀.Completes (execBlockUpdateDone block s) :=
  .branch (.next h.frame) (.next h)

theorem execRegionUpdateDone {region} : s₀.Completes (execRegionUpdateDone region s) :=
  .branch (.next h.frame.pltStartAll) (.next h)

theorem execBlockQuiescent {block} : s₀.Completes (execBlockQuiescent block s) :=
  .branch (.next h.frame) (.next h)

theorem sweepWait : s₀.Evolves s.sweepWait :=
  .branch h h.count.setInt.frame

theorem execRegionQuiescent {region} : s₀.Completes (execRegionQuiescent region s) :=
  .branch (.branch (.next h.sweepWait) (.next (.branch h.frame.frame h.frame))) (.next h)

theorem execCut : s₀.Completes (execCut s) :=
  .branch (.next h.frame) (.next h)

theorem beginWaves : s₀.Evolves s.beginWaves :=
  .branch h.frame h

theorem ensureWave : s₀.Evolves s.ensureWave :=
  .branch h h.startWave

theorem execCollectionWave : s₀.Completes (execCollectionWave s) :=
  .branch (.branch (.next h.beginWaves) (.branch (.next (.branch h.beginWaves.ensureWave.closeWave
    h.beginWaves.ensureWave)) (.next h.beginWaves.tryToken))) (.next h)

theorem execSummit : s₀.Completes (execSummit s) :=
  .branch (.next (.reachSummit (.sendDown (.grantAtSummit (.loop h fun h => h.sendDown))))) (.next h)

theorem execSummitRelease {unit} : s₀.Completes (execSummitRelease unit s) :=
  .branch (.next h.unitSummit) (.next h)

theorem execSummitWatchdogExpiry : s₀.Completes (execSummitWatchdogExpiry s) :=
  .branch (.next h.setInt.fatal) (.next h)

theorem execElapsedWrap : ∃ e, State.Completes { s₀ with elapsed := e } (execElapsedWrap s) := by
  obtain ⟨n, hn⟩ : ∃ n, 2 ^ 64 = n := ⟨_, rfl⟩
  have e : Machine.execElapsedWrap = Machine.execElapsedWrap := rfl
  conv_rhs at e => delta Machine.execElapsedWrap
  rw [e, hn]
  dsimp only
  split
  · have ht : State.Evolves { s₀ with elapsed := s.elapsed - n }
        { s with elapsed := s.elapsed - n, scree := { s.scree with base := s.scree.base + n } } :=
      ⟨h.grade, h.queue, rfl, h.sound⟩
    exact ⟨_, .next ht.orReg.setInt⟩
  · exact ⟨s.elapsed, .next ⟨h.grade, h.queue, rfl, h.sound⟩⟩

theorem fenceWrite {r} : s₀.Evolves (s.fenceWrite r) :=
  .branch h h.frame

theorem execFence {req} : s₀.Completes (execFence req s) :=
  .next (h.ifAdmitWo fun h => h.fenceWrite)

theorem execFenceComplete {req} : s₀.Completes (execFenceComplete req s) :=
  .branch (.next h.frame) (.next h)

theorem satWrite {page off v} : s₀.Evolves (s.satWrite page off v) := by
  unfold State.satWrite
  split
  exacts [h.setReg.newWindow, h]

theorem execSatWindowWrite {req page limit v} : s₀.Completes (execSatWindowWrite req page limit v s) :=
  .branch (.next (h.ifAdmit fun h => h.satWrite)) (.next h)

theorem seedWrite {page v} : s₀.Evolves (s.seedWrite page v) := by
  unfold State.seedWrite
  split
  exacts [h, .branch h.frame h.reseed]

theorem execSrSeedWrite {req page v} : s₀.Completes (execSrSeedWrite req page v s) :=
  .branch (.next (h.ifAdmitWo fun h => h.seedWrite)) (.next h)

/-! ### The functions of Machine/SoftReset -/

theorem softCell {c} : s₀.Evolves (s.softCell c) :=
  h.resetRegs.frame.cellDrop.seedPage

theorem softBlock {b} : s₀.Evolves (s.softBlock b) :=
  .branch h.resetRegs.frame.mapBlock h.resetRegs.frame

theorem softIngress {p} : s₀.Evolves (s.softIngress p) := by
  unfold State.softIngress
  extract_lets _
  split
  exacts [h.frame, h.frame, h.frame, h.frame, h.frame]

theorem softTables {p} : s₀.Evolves (s.softTables p) :=
  .branch h.frame.frame h.frame

theorem softUnit {p} : s₀.Evolves (s.softUnit p) := by
  unfold State.softUnit
  extract_lets _
  split
  exacts [h.timerOff.frame, h.frame, h.frame, h.frame, h.frame, h.frame, h.frame, h.softTables, h.softTables,
    h.softTables, h.softTables, h.frame, h.crsReset.frame, h.frame, h.frame, h.pltDrop.seedPage, h.softIngress,
    h.softIngress, h.softIngress, h.softIngress, h.softIngress, h.frame, h.fallDown, h.frame, h.frame, h.endOwner,
    h.frame.frame, h.frame, h.zeroBank.frame, h.frame.seedPage, h.softBlock, by
      split
      exacts [h.softCell, h], h.frame,
    h.frame, h.frame, h.frame, h, h, h, h, h, h, h, h, h, h, h, h, h, h, h, h, h, h]

theorem softReset {p} : s₀.Evolves (s.softReset p) := by
  unfold State.softReset
  extract_lets _ _ _ t₁ t₂ _ t₃ t₄
  have h₁ : s₀.Evolves t₁ := h.softUnit.resetRegs
  have h₂ : s₀.Evolves t₂ := .branch h₁ h₁.setInt
  have h₃ : s₀.Evolves t₃ := .branch h₂.frame h₂
  have h₄ : s₀.Evolves t₄ := .branch h₃.showRemaps h₃
  exact .branch h₄.setInt h₄

theorem injInterrupt {p b} : s₀.Evolves (s.injInterrupt p b) := by
  unfold State.injInterrupt
  split
  · exact .branch h.setInt h
  · exact h.setInt
  · exact .branch h.setInt (.branch h.setInt h)
  · exact .branch h.setInt h
  · exact .branch h.setInt h
  · exact h

theorem injectBit {p b} : s₀.Evolves (s.injectBit p b) := by
  unfold State.injectBit
  extract_lets t₁
  have h₁ : s₀.Evolves t₁ := h.setErr.injInterrupt
  split
  exacts [h₁, .branch h₁.frame.fatal (.branch h₁.frame.record h₁)]

theorem injectErr {p v} : s₀.Evolves (s.injectErr p v) :=
  .loop h fun h => .branch h.injectBit h

/-! ### The functions of Machine/Bus -/

theorem ctrlWrite {p v} : s₀.Evolves (s.ctrlWrite p v) := by
  unfold State.ctrlWrite
  extract_lets t₁ t₂
  have h₁ : s₀.Evolves t₁ := .branch h.timerOn h.timerOff
  have h₂ : s₀.Evolves t₂ := .branch h₁.setFld h.setReg
  exact .branch h₂.softReset (.branch h₂.pltStart h₂)

theorem secWrite {p v} : s₀.Evolves (s.secWrite p v) :=
  .branch h (.branch h.setReg.beginClear h.setReg)

theorem headerWrite {r p off v} : s₀.Evolves (s.headerWrite r p off v) :=
  h.ifAdmitWord fun h => .branch h.ctrlWrite (.branch h.clrReg (.branch h.setReg (.branch h.injectErr (.branch
    h.setReg (.branch h.orReg (.branch h.secWrite (.branch h.orReg h)))))))

theorem storeReg {p off row v} : s₀.Evolves (s.storeReg p off row v) := by
  unfold State.storeReg
  split
  · exact h
  · dsimp only
    split
    exacts [h.setReg, h.clrReg, h.orReg, .branch h.setReg h, h]

theorem writeChip {r p off v} : s₀.Yields (s.writeChip r p off v) := by
  unfold State.writeChip
  split
  exacts [.branch (.some (.branch h.fenceWrite h)) (.branch (.some h.bootImg) (.branch (.some h.resetWrite) .none)),
    h.pwrWrite, h.clkWrite, h.scrWrite, .branch (.some (.branch (.recoverNow (.branch h.setReg.freeze h.setReg))
    (.branch h.setReg.freeze h.setReg))) (.branch (.some (.branch h.resume h)) .none), h.bdrWrite, h.dbgWrite, .branch
    (.some h.otpWrite) .none, .none]

theorem writeStep {r p off v} : s₀.Yields (s.writeStep r p off v) := by
  unfold State.writeStep
  split
  exacts [.branch (.some h.periodWrite) (.branch (.some h.setErr) (.branch (.some h.roleWrite) .none)), .branch (.some
    h.roleWrite) (.branch (.some h.setReg.setErr) .none), .branch (.some (h.after h.execRulesetWrite)) .none, .branch
    (.some (h.after h.execDrmRemapAdd)) (.branch (.some h) .none), .branch (.some (h.after h.execTarOwnerWrite))
    (.branch (.some (h.after h.execTarPwrWrite)) .none), .branch (.some (.branch h.setReg.restoreWrite h.setReg))
    (.branch (.some h.migrateWrite) .none), .branch (.some (.branch (h.after h.execFabSwap) h)) .none, .branch (.some
    (.branch (h.after h.execFabSwap) h)) .none, .branch (.some (h.after h.execRteRelease)) .none, .none]

theorem writeCell {r p off v} : s₀.Yields (s.writeCell r p off v) :=
  .branch (.some h.qdescApply) (.branch (.some h.cellPostWrite) .none)

theorem writeUnit {r p off v} : s₀.Yields (s.writeUnit r p off v) := by
  unfold State.writeUnit
  split
  exacts [h.crsWrite, .branch (.some (.branch h.setReg h)) .none, h.pltWrite, .branch (.some h.frame.restartWrite)
    .none, h.rfgWrite, .branch (.some (h.after h.execCrnPush)) h.crnWrite, .branch (.some (h.after h.execChnTxGo))
    (.branch (.some (h.after h.execChnRxNext)) .none), h.tmrWrite, .branch (.some h.gstart) .none, h.crcWrite, .branch
    .none (.branch (.some (h.after h.execColSend)) (.branch (.some h.setErr) .none)), .branch (.some h.srcWrite) .none,
    .branch (.some (h.after h.execPicComplete)) (.branch (.some h.wakeSelWrite) .none), .branch (.some (h.after
    h.execPicPendSet)) (.branch (.some (h.after h.execPicPendClr)) .none), .none]

theorem writeIo {r p off v} : s₀.Yields (s.writeIo r p off v) := by
  unfold State.writeIo
  split
  exacts [.branch (.some h.linkWrite) .none, h.encWrite, .branch (.some h.tplWrite) .none, .branch (.some (.branch
    (h.after h.execEvcMapFlush) h)) h.evcMapWrite, .branch (.some h.trvCfgWrite) (.branch (.some h.assignWrite) (.branch
    (.some (.branch (h.after h.execTrvSwap) h)) .none)), .branch (.some (h.after h.execTrvChipId)) (.branch (.some
    h.joinWrite) .none), .branch (.some (h.after h.execRawTx)) h.ethWrite, .branch (.some h.umhCtrlWrite) .none, .none]

theorem writeActs {r p off v} : s₀.Yields (s.writeActs r p off v) := by
  unfold State.writeActs
  refine .branch (.some h.satWrite) (.branch h.writeCell ?_)
  have hc := @h.writeChip
  split
  · next heq => exact .some (hc _ heq)
  have hs := @h.writeStep
  split
  · next heq => exact .some (hs _ heq)
  have hu := @h.writeUnit
  split
  · next heq => exact .some (hu _ heq)
  · exact .branch (.some h) h.writeIo

theorem writeReg {r p off row v} : s₀.Evolves (s.writeReg r p off row v) :=
  .getD h.writeActs h.storeReg

theorem storeBoth {p off v} : s₀.Evolves (s.storeBoth p off v) := by
  unfold State.storeBoth
  dsimp only
  split
  · exact .storeReg (by split; exacts [h.storeReg, h])
  · split
    exacts [h.storeReg, h]

theorem writeReg64 {r p off v} : s₀.Evolves (s.writeReg64 r p off v) :=
  .branch h.seedWrite
    (by
      split
      exacts [.branch h.wakeAtWrite h.storeBoth, .branch h.dumpBaseWrite h.storeBoth,
        .branch h.drangeWrite h.storeBoth, .branch (h.after h.execCkptBaseWrite) h.storeBoth,
        .branch h.encPost h.storeBoth, .branch h.storeBoth.followTimer (.getD h.crsWrite h.storeBoth),
        .getD h.rfgWrite h.storeBoth, .branch h.setCrcState h.storeBoth, h.storeBoth])

theorem highWrite {r p off row v} : s₀.Evolves (s.highWrite r p off row v) :=
  h.frame.writeReg64

theorem write32 {r p off v} : s₀.Evolves (s.write32 r p off v) :=
  .branch (h.ifAdmit fun h => .branch h.windowWrite h) (.branch h.headerWrite
    (by
      split
      · exact h.admitWith
      · split
        exacts [h.ifAdmitWord fun h => h.writeReg, h.ifAdmitWord fun h => h.frame, h.ifAdmitWord fun h => h.highWrite]))

theorem write64 {r p off v} : s₀.Evolves (s.write64 r p off v) :=
  .branch (h.ifAdmit fun h => h.frame.writeReg64) h.write32.write32

theorem clearRc {p off} : s₀.Evolves (s.clearRc p off) :=
  .branch (.branch h.frame h.frame) (by split; exacts [h.setReg, h])

theorem latchRead {r p off} : s₀.Evolves (s.latchRead r p off) :=
  .branch h.frame h

theorem readActs {r p off} : s₀.Yields (s.readActs r p off) := by
  unfold State.readActs
  split
  exacts [.branch (.some (h.after h.execChnCqPop)) .none, .branch (.some (h.after h.execPicClaim)) .none, .branch
    (.some (h.frame.after h.frame.execRteAlloc)) .none, .branch (.some (h.after h.execColLastWordRead)) .none, .branch
    (.some (h.after h.execCaptureRead)) .none, .branch (.some (h.after h.execBdrTrngData)) .none, .branch (.some
    (h.after h.execEthTsTxId)) .none, .none]

theorem highRead {r p off} : s₀.Evolves (s.highRead r p off) := by
  unfold State.highRead
  extract_lets _
  split
  exacts [h.frame.frame, h.frame]

theorem read32 {r p off} : s₀.Evolves (s.read32 r p off) := by
  unfold State.read32
  refine .branch h.denyRead ?_
  have ha := @h.readActs
  split
  · next heq => exact ha _ heq
  · exact .branch h.frame (.branch h.highRead (.branch h.latchRead.frame.clearRc h.latchRead.frame))

theorem read64 {r p off} : s₀.Evolves (s.read64 r p off) :=
  h.read32.read32.frame

theorem rfgSramWrite {r a l} : s₀.Evolves (s.rfgSramWrite r a l) := by
  unfold State.rfgSramWrite
  exact .branch (.branch h.setBytes h) (.branch h.setErr (.branch h.setBytes h))

theorem rfgSramRead {r a n} : s₀.Evolves (s.rfgSramRead r a n) :=
  h.frame

theorem romRead {r n} : s₀.Evolves (s.romRead r n) := by
  unfold State.romRead
  split
  exacts [h.frame, h.frame.frame]

theorem memWrite {r a l} : s₀.Evolves (s.memWrite r a l) := by
  have hp : ∀ {k op}, s₀.Evolves (s.pltSide k op).2 := h.pltSide
  obtain ⟨side, hs⟩ : ∃ f, State.pltSide = f := ⟨_, rfl⟩
  rw [hs] at hp
  obtain ⟨region, hr⟩ : ∃ f, addrRegion = f := ⟨_, rfl⟩
  have e : State.memWrite = State.memWrite := rfl
  conv_rhs at e => delta State.memWrite
  rw [e, hr, hs]
  dsimp only
  cases region a
  exacts [h, h.rfgSramWrite, .branch h.setBytes h, h, h.tarnPort, hp, .branch h h.chargeReq.dramWrite,
    h.after h.execRemoteAccess, h.unmappedAcc]

theorem memRead {r a n} : s₀.Evolves (s.memRead r a n) := by
  unfold State.memRead
  split
  exacts [h, h.romRead, h.rfgSramRead, h.frame, h.tarnPort, h.pltSide.frame, .branch h h.chargeReq.dramRead.frame,
    h.after h.execRemoteAccess, h.unmappedAcc.frame]

theorem busWrite {r a n v} : s₀.Evolves (s.busWrite r a n v) :=
  .branch (.branch (.branch h.unmappedAcc h) (.branch h.write64 h.write32)) (.branch h (.branch h.memWrite
    h.unmappedAcc))

theorem busRead {r a n} : s₀.Evolves (s.busRead r a n) :=
  .branch (.branch (.branch h.unmappedAcc.frame h) (.branch h.read64 h.read32)) (.branch h (.branch h.memRead
    h.unmappedAcc.frame))

theorem execRegisterWrite {req addr bytes v} : s₀.Completes (execRegisterWrite req addr bytes v s) :=
  .next h.busWrite

theorem execRcRead {req addr bytes} : s₀.Completes (execRcRead req addr bytes s) :=
  .next h.busRead

theorem execLowWordRead {req addr} : s₀.Completes (execLowWordRead req addr s) :=
  .next h.busRead

theorem execSoftReset {req page} : s₀.Completes (execSoftReset req page s) :=
  .branch (.next (h.ifAdmitWord fun h => .softReset (.branch h.timerOff h))) (.next h)

theorem execErrorInject {req page v} : s₀.Completes (execErrorInject req page v s) :=
  .branch (.next h.headerWrite) (.next h)

theorem execPgIntSet {req page v} : s₀.Completes (execPgIntSet req page v s) :=
  .branch (.next h.headerWrite) (.next h)

theorem execPgLock {req page v} : s₀.Completes (execPgLock req page v s) :=
  .branch (.next h.headerWrite) (.next h)

theorem execPgSecWrite {req page v} : s₀.Completes (execPgSecWrite req page v s) :=
  .branch (.next h.headerWrite) (.next h)

theorem frozenRead {a} : s₀.Evolves (s.frozenRead a) :=
  .branch (.branch h.frame.frame h.frame) (.branch h.frame (.branch h.frame h.memRead))

theorem frozenWrite {a v} : s₀.Evolves (s.frozenWrite a v) :=
  .branch (.branch (by split; exacts [h.orReg.storeReg, h.orReg]) h.orReg) (.branch h.orReg h.orReg.memWrite)

theorem execJtagAccess {addr write} : s₀.Completes (execJtagAccess addr write s) :=
  .branch (.next h.unmappedAcc) (.branch (.branch (.next (.branch h.frame h))
    (by split; exacts [.next h.frozenRead, .next h.frozenWrite])) (.branch (.next (.branch h.frame h))
    (by split; exacts [.next h.busRead, .next h.busWrite])))

/-! ### The functions of Machine/HostOps -/

theorem onHost {port p f} (hf : ∀ {t x1}, s₀.Evolves t → s₀.Evolves (f t x1)) : s₀.Evolves (s.onHost port p f) := by
  have hx : s₀.Evolves (s.takeReq port p).2 := h.takeReq
  unfold State.onHost
  generalize s.takeReq port p = x at hx ⊢
  obtain ⟨_ | q, t⟩ := x
  exacts [.branch hx h, .branch (hf hx) h]

theorem helloAnswer {port q} : s₀.Evolves (s.helloAnswer port q) :=
  h.umhAnswer

theorem execUmhomaHello {port} : s₀.Completes (execUmhomaHello port s) :=
  .next (h.onHost fun h => h.helloAnswer)

theorem execHelloClaim {port} : s₀.Completes (execHelloClaim port s) :=
  .next (h.onHost fun h => .branch h.newOwnerUmh.helloAnswer h.umhStatus)

theorem execHelloRelease {port} : s₀.Completes (execHelloRelease port s) :=
  .next (h.onHost fun h => .helloAnswer (.branch h.endOwner h))

theorem execAttest {port} : s₀.Completes (execAttest port s) :=
  .next (h.onHost fun h => h.umhAnswer.frame)

theorem putReq {port q} : s₀.Evolves (s.putReq port q) :=
  h.frame

theorem itemsEnd {port st q data} : s₀.Evolves (s.itemsEnd port st q data) :=
  .branch h.putReq h.umhAnswer

theorem readItems {n q} : s₀.Evolves (State.readItems n q s).2.2 := by
  induction n generalizing q s with
  | zero => exact h
  | succ n ih =>
    unfold State.readItems
    dsimp only
    split
    · exact h
    · split
      · exact .branch h.unmappedAcc h
      · exact ih h.read32

theorem execRegRead {port} : s₀.Completes (execRegRead port s) :=
  .next (h.onHost fun h => h.readItems.itemsEnd)

theorem writeItems {n q} : s₀.Evolves (State.writeItems n q s).2.2 := by
  induction n generalizing q s with
  | zero => exact h
  | succ n ih =>
    unfold State.writeItems
    extract_lets x v st t
    have ht : s₀.Evolves t := .branch h h.write32
    split
    · exact h
    · split
      · exact h.unmappedAcc
      · split
        exacts [ht, ih ht]

theorem execRegWrite {port} : s₀.Completes (execRegWrite port s) := by
  refine .next (h.onHost fun {t q} h => ?_)
  have hw := (h.writeItems (n := q.count - q.done) (q := q))
  exact .branch (.warmReset (.itemsEnd (.branch hw.fenceWrite hw))) (.itemsEnd (.branch hw.fenceWrite hw))

/-! ### The functions of Machine/Loader -/

theorem loadReg {x} : s₀.Evolves (s.loadReg x) :=
  .branch h.absentAcc (.branch (.branch h.applyRoutePost h) (.branch h.secWrite (.branch h.ctrlWrite (.branch h.setReg
    (.branch h.setReg (by split; exacts [h, by split; exacts [h.writeReg, h.frame, h.highWrite]]))))))

theorem loadDram {m} : s₀.Evolves (s.loadDram m) :=
  .loop (.loop h fun h => .branch h.dramStore h) fun h => .branch h.dramStore h

theorem loadCells {m} : s₀.Evolves (s.loadCells m) :=
  .loop (.loop (.loop (.loop h fun h => h.applyCellPost) fun h => .loop h fun h => h.frame) fun h => h.applyCellPost)
    fun h => h.applyCellPost

theorem loadRoutes {m} : s₀.Evolves (s.loadRoutes m) :=
  .frame (.loop (.loop h fun h => .loop h fun h => h.applyRoutePost) fun h => h.applyRoutePost.applyRoutePost)

theorem clearTraces : s₀.Evolves s.clearTraces :=
  .loop h.frame fun h => .loop h fun h => h.setReg

theorem loadDigest {m} : s₀.Evolves (s.loadDigest m) :=
  .frame (.loop h fun h => h.setReg)

theorem takeYunasil {m} : s₀.Evolves (s.takeYunasil m) :=
  .loadDigest (.loop h.frame.setReg64.setReg64.loadDram.clearTraces.loadCells.loadRoutes fun h => h.loadReg)

theorem execYunasilLoad {image} : s₀.Completes (execYunasilLoad image s) :=
  .branch (.next h) (by split; exacts [.next h.setReg, .next h.takeYunasil])

/-! ### The functions of Machine/Clock -/

theorem timerCycle : s₀.Evolves s.timerCycle :=
  .branch h.frame h

theorem unitCycle : s₀.Evolves s.unitCycle :=
  h.timerCycle.tmrCycle.encDrain.injectDrain.trvCycle.cairnDrain

end State.Evolves

/-! ### Commands, the idle cycle and steps -/

/-- The commands that set the powered time: POWER_ON and BROWN_OUT start it again, ELAPSED_WRAP takes its wrap off. -/
def setsElapsed : Instr → Bool
  | .powerOn _ | .brownOut | .elapsedWrap => true
  | _ => false

/-- Command `i` completes from `s` with outcome `o`, and passes time only where it is one that sets the powered time. -/
def State.CompletesAs (s : State) (i : Instr) (o : Host.Outcome State Fault Refusal) : Prop :=
  ∃ e, (setsElapsed i = false → e = s.elapsed) ∧ State.Completes { s with elapsed := e } o

namespace State.CompletesAs

variable {s : State} {i : Instr} {o : Host.Outcome State Fault Refusal}

theorem inTime (h : s.Completes o) : s.CompletesAs i o := ⟨s.elapsed, fun _ => rfl, h⟩

theorem retimed (h : ∃ e, State.Completes { s with elapsed := e } o) (hi : setsElapsed i = true := by rfl) :
    s.CompletesAs i o := by
  obtain ⟨e, h⟩ := h
  exact ⟨e, fun hn => absurd (hi.symm.trans hn) (by decide), h⟩

end State.CompletesAs

/-- Every command completes, keeps the grade and the queue, and keeps canonical form. -/
theorem State.Evolves.exec {s₀ s : State} (h : s₀.Evolves s) (i : Instr) : s₀.CompletesAs i (exec i s) :=
  match i with
  | .registerWrite .. => .inTime h.execRegisterWrite
  | .rcRead .. => .inTime h.execRcRead
  | .lowWordRead .. => .inTime h.execLowWordRead
  | .yunasilLoad .. => .inTime h.execYunasilLoad
  | .tick => .inTime h.execTick
  | .stepTimerStart .. => .inTime h.execStepTimerStart
  | .stepTimerStop .. => .inTime h.execStepTimerStop
  | .stpPeriodWrite .. => .inTime h.execStpPeriodWrite
  | .tickPacketSend => .inTime h.execTickPacketSend
  | .tickPacketReceive .. => .inTime h.execTickPacketReceive
  | .tickLeadExpiry => .inTime h.execTickLeadExpiry
  | .flywheelTick => .inTime h.execFlywheelTick
  | .tickInEdge => .inTime h.execTickInEdge
  | .heldTickRelease => .inTime h.execHeldTickRelease
  | .neuronUpdate .. => .inTime h.execNeuronUpdate
  | .cellUpdateDone .. => .inTime h.execCellUpdateDone
  | .blockUpdateDone .. => .inTime h.execBlockUpdateDone
  | .regionUpdateDone .. => .inTime h.execRegionUpdateDone
  | .cellQuiescent .. => .inTime h.execCellQuiescent
  | .blockQuiescent .. => .inTime h.execBlockQuiescent
  | .regionQuiescent .. => .inTime h.execRegionQuiescent
  | .cut => .inTime h.execCut
  | .collectionWave => .inTime h.execCollectionWave
  | .summit => .inTime h.execSummit
  | .summitRelease .. => .inTime h.execSummitRelease
  | .summitWatchdogExpiry => .inTime h.execSummitWatchdogExpiry
  | .elapsedWrap => .retimed h.execElapsedWrap
  | .fence .. => .inTime h.execFence
  | .fenceComplete .. => .inTime h.execFenceComplete
  | .satWindowWrite .. => .inTime h.execSatWindowWrite
  | .srSeedWrite .. => .inTime h.execSrSeedWrite
  | .postedCellWrite .. => .inTime h.execPostedCellWrite
  | .qdescWrite .. => .inTime h.execQdescWrite
  | .queueResetDone .. => .inTime h.execQueueResetDone
  | .eventEnqueue .. => .inTime h.execEventEnqueue
  | .queueHeadTake .. => .inTime h.execQueueHeadTake
  | .rowTableReadComplete .. => .inTime h.execRowTableReadComplete
  | .rowFetchComplete .. => .inTime h.execRowFetchComplete
  | .writeBackComplete .. => .inTime h.execWriteBackComplete
  | .handshakeStall .. => .inTime h.execHandshakeStall
  | .dramRequestServe .. => .inTime h.execDramRequestServe
  | .reservationWindow .. => .inTime h.execReservationWindow
  | .postedSynapseWrite .. => .inTime h.execPostedSynapseWrite
  | .postedWriteAdmit .. => .inTime h.execPostedWriteAdmit
  | .refreshChange .. => .inTime h.execRefreshChange
  | .rowRemapComplete .. => .inTime h.execRowRemapComplete
  | .patrolScrub .. => .inTime h.execPatrolScrub
  | .drmRemapAdd .. => .inTime h.execDrmRemapAdd
  | .slicePowerDown .. => .inTime h.execSlicePowerDown
  | .tarnAccess .. => .inTime h.execTarnAccess
  | .addS32 .. => .inTime h.execAddS32
  | .addFp32 .. => .inTime h.execAddFp32
  | .swap .. => .inTime h.execSwap
  | .tarOwnerWrite .. => .inTime h.execTarOwnerWrite
  | .handoverDrainDone .. => .inTime h.execHandoverDrainDone
  | .bankClearDone .. => .inTime h.execBankClearDone
  | .tarPwrWrite .. => .inTime h.execTarPwrWrite
  | .bankPowerChange .. => .inTime h.execBankPowerChange
  | .sidePortAccess .. => .inTime h.execSidePortAccess
  | .packetReceive .. => .inTime h.execPacketReceive
  | .packetForward .. => .inTime h.execPacketForward
  | .slotFrameEnd .. => .inTime h.execSlotFrameEnd
  | .starvation .. => .inTime h.execStarvation
  | .fabSwap .. => .inTime h.execFabSwap
  | .routeTableWrite .. => .inTime h.execRouteTableWrite
  | .rteAlloc .. => .inTime h.execRteAlloc
  | .rteRelease .. => .inTime h.execRteRelease
  | .spikeRecordTake .. => .inTime h.execSpikeRecordTake
  | .routeEntryFollow .. => .inTime h.execRouteEntryFollow
  | .chnTxGo .. => .inTime h.execChnTxGo
  | .ping .. => .inTime h.execPing
  | .inject .. => .inTime h.execInject
  | .readState .. => .inTime h.execReadState
  | .writeState .. => .inTime h.execWriteState
  | .setProfile .. => .inTime h.execSetProfile
  | .openQueue .. => .inTime h.execOpenQueue
  | .closeQueue .. => .inTime h.execCloseQueue
  | .readRow .. => .inTime h.execReadRow
  | .writeRow .. => .inTime h.execWriteRow
  | .rowApply .. => .inTime h.execRowApply
  | .routeInsert .. => .inTime h.execRouteInsert
  | .routeRelease .. => .inTime h.execRouteRelease
  | .gateSet .. => .inTime h.execGateSet
  | .softwareHandler => .inTime h.execSoftwareHandler
  | .answer .. => .inTime h.execAnswer
  | .retry .. => .inTime h.execRetry
  | .messageTimeout .. => .inTime h.execMessageTimeout
  | .chnCqPop .. => .inTime h.execChnCqPop
  | .chnRxNext .. => .inTime h.execChnRxNext
  | .sweeperRow .. => .inTime h.execSweeperRow
  | .sweeperPassDone .. => .inTime h.execSweeperPassDone
  | .checkpointComplete => .inTime h.execCheckpointComplete
  | .rulesetWrite .. => .inTime h.execRulesetWrite
  | .ckptBaseWrite .. => .inTime h.execCkptBaseWrite
  | .nop .. => .inTime h.execNop
  | .gemm .. => .inTime h.execGemm
  | .gemmAcc .. => .inTime h.execGemmAcc
  | .conv1d .. => .inTime h.execConv1d
  | .fft .. => .inTime h.execFft
  | .elt .. => .inTime h.execElt
  | .reduce .. => .inTime h.execReduce
  | .expNorm .. => .inTime h.execExpNorm
  | .quant .. => .inTime h.execQuant
  | .dequant .. => .inTime h.execDequant
  | .spkGather .. => .inTime h.execSpkGather
  | .spkEmit .. => .inTime h.execSpkEmit
  | .sgdUpdate .. => .inTime h.execSgdUpdate
  | .surrogate .. => .inTime h.execSurrogate
  | .jobEnd .. => .inTime h.execJobEnd
  | .pltDtTail .. => .inTime h.execPltDtTail
  | .detachedPreempt .. => .inTime h.execDetachedPreempt
  | .abortDt .. => .inTime h.execAbortDt
  | .pltSideAccess .. => .inTime h.execPltSideAccess
  | .linkEnable .. => .inTime h.execLinkEnable
  | .jesdSyncLock .. => .inTime h.execJesdSyncLock
  | .jesdEmbLock .. => .inTime h.execJesdEmbLock
  | .jesdAligned .. => .inTime h.execJesdAligned
  | .jesdLinkLoss .. => .inTime h.execJesdLinkLoss
  | .sysrefEdge .. => .inTime h.execSysrefEdge
  | .jesdMultiblock .. => .inTime h.execJesdMultiblock
  | .channelStart .. => .inTime h.execChannelStart
  | .channelStop .. => .inTime h.execChannelStop
  | .encPostedWrite .. => .inTime h.execEncPostedWrite
  | .level .. => .inTime h.execLevel
  | .delta .. => .inTime h.execDelta
  | .zc .. => .inTime h.execZc
  | .peak .. => .inTime h.execPeak
  | .latency .. => .inTime h.execLatency
  | .block .. => .inTime h.execBlock
  | .blockComplete .. => .inTime h.execBlockComplete
  | .csi2FrameStart .. => .inTime h.execCsi2FrameStart
  | .csi2LongPacket .. => .inTime h.execCsi2LongPacket
  | .templateWrite .. => .inTime h.execTemplateWrite
  | .aerWord .. => .inTime h.execAerWord
  | .aerAckRelease .. => .inTime h.execAerAckRelease
  | .mapLookup .. => .inTime h.execMapLookup
  | .mapMissFill .. => .inTime h.execMapMissFill
  | .evcMapFlush .. => .inTime h.execEvcMapFlush
  | .portTrainingStart .. => .inTime h.execPortTrainingStart
  | .detectRetry .. => .inTime h.execDetectRetry
  | .detectDone .. => .inTime h.execDetectDone
  | .eqDone .. => .inTime h.execEqDone
  | .laneTestDone .. => .inTime h.execLaneTestDone
  | .widthAgreed .. => .inTime h.execWidthAgreed
  | .laneFail .. => .inTime h.execLaneFail
  | .degradeWindow .. => .inTime h.execDegradeWindow
  | .portDown .. => .inTime h.execPortDown
  | .linkFrame .. => .inTime h.execLinkFrame
  | .replayRequestTimeout .. => .inTime h.execReplayRequestTimeout
  | .hello .. => .inTime h.execHello
  | .latencyMeasure .. => .inTime h.execLatencyMeasure
  | .latProbe .. => .inTime h.execLatProbe
  | .latEcho .. => .inTime h.execLatEcho
  | .trvAssign .. => .inTime h.execTrvAssign
  | .assign .. => .inTime h.execAssign
  | .trvChipId .. => .inTime h.execTrvChipId
  | .joinRequest .. => .inTime h.execJoinRequest
  | .joinReq .. => .inTime h.execJoinReq
  | .summitJoinReq .. => .inTime h.execSummitJoinReq
  | .joinGrant .. => .inTime h.execJoinGrant
  | .summitJoinRefuse .. => .inTime h.execSummitJoinRefuse
  | .joinRefuse .. => .inTime h.execJoinRefuse
  | .joinAck .. => .inTime h.execJoinAck
  | .mtable .. => .inTime h.execMtable
  | .joinTimeout => .inTime h.execJoinTimeout
  | .leaveRequest .. => .inTime h.execLeaveRequest
  | .leave .. => .inTime h.execLeave
  | .absentDeclare .. => .inTime h.execAbsentDeclare
  | .absent .. => .inTime h.execAbsent
  | .orphan => .inTime h.execOrphan
  | .probe .. => .inTime h.execProbe
  | .token .. => .inTime h.execToken
  | .release .. => .inTime h.execRelease
  | .freezePacket .. => .inTime h.execFreezePacket
  | .retrain .. => .inTime h.execRetrain
  | .trvSwap .. => .inTime h.execTrvSwap
  | .remoteAccess .. => .inTime h.execRemoteAccess
  | .readReq .. => .inTime h.execReadReq
  | .write .. => .inTime h.execWrite
  | .readRsp => .inTime h.execReadRsp
  | .completion => .inTime h.execCompletion
  | .remoteTimeout => .inTime h.execRemoteTimeout
  | .ethFrameReceive .. => .inTime h.execEthFrameReceive
  | .ethLinkChange .. => .inTime h.execEthLinkChange
  | .umhomaHello .. => .inTime h.execUmhomaHello
  | .helloClaim .. => .inTime h.execHelloClaim
  | .helloRelease .. => .inTime h.execHelloRelease
  | .attest .. => .inTime h.execAttest
  | .regRead .. => .inTime h.execRegRead
  | .regWrite .. => .inTime h.execRegWrite
  | .bulkRead .. => .inTime h.execBulkRead
  | .bulkWrite .. => .inTime h.execBulkWrite
  | .eventInject .. => .inTime h.execEventInject
  | .notify => .inTime h.execNotify
  | .notifyAck .. => .inTime h.execNotifyAck
  | .notifyResend => .inTime h.execNotifyResend
  | .ownerIdleTimeout => .inTime h.execOwnerIdleTimeout
  | .dropOwner .. => .inTime h.execDropOwner
  | .streamBufferSend .. => .inTime h.execStreamBufferSend
  | .ethSeTail .. => .inTime h.execEthSeTail
  | .streamRingSend .. => .inTime h.execStreamRingSend
  | .rawTx .. => .inTime h.execRawTx
  | .ethTsTxId .. => .inTime h.execEthTsTxId
  | .coreRun .. => .inTime h.execCoreRun
  | .coreReset .. => .inTime h.execCoreReset
  | .machineTimer .. => .inTime h.execMachineTimer
  | .crestWdogExpiry .. => .inTime h.execCrestWdogExpiry
  | .crsWdogKick .. => .inTime h.execCrsWdogKick
  | .l3Flush .. => .inTime h.execL3Flush
  | .l3FlushDone => .inTime h.execL3FlushDone
  | .heartbeatMiss .. => .inTime h.execHeartbeatMiss
  | .rfgRestart .. => .inTime h.execRfgRestart
  | .restartCopyDone .. => .inTime h.execRestartCopyDone
  | .restartDigestDone .. => .inTime h.execRestartDigestDone
  | .rfgHbKick .. => .inTime h.execRfgHbKick
  | .restartTimeout .. => .inTime h.execRestartTimeout
  | .crnPush .. => .inTime h.execCrnPush
  | .sourceAssert .. => .inTime h.execSourceAssert
  | .moderationExpiry .. => .inTime h.execModerationExpiry
  | .wfiEntry .. => .inTime h.execWfiEntry
  | .picClaim .. => .inTime h.execPicClaim
  | .picComplete .. => .inTime h.execPicComplete
  | .picPendSet .. => .inTime h.execPicPendSet
  | .picPendClr .. => .inTime h.execPicPendClr
  | .wakeLatchEdge .. => .inTime h.execWakeLatchEdge
  | .colSend .. => .inTime h.execColSend
  | .colLastWordRead .. => .inTime h.execColLastWordRead
  | .timerWrap .. => .inTime h.execTimerWrap
  | .compareMatch .. => .inTime h.execCompareMatch
  | .timerStart .. => .inTime h.execTimerStart
  | .timerStop .. => .inTime h.execTimerStop
  | .loadNow .. => .inTime h.execLoadNow
  | .tmrPeriodWrite .. => .inTime h.execTmrPeriodWrite
  | .tmrGstart .. => .inTime h.execTmrGstart
  | .captureEdge .. => .inTime h.execCaptureEdge
  | .captureRead .. => .inTime h.execCaptureRead
  | .crcInit .. => .inTime h.execCrcInit
  | .crcData8 .. => .inTime h.execCrcData8
  | .crcData16 .. => .inTime h.execCrcData16
  | .crcData32 .. => .inTime h.execCrcData32
  | .softReset .. => .inTime h.execSoftReset
  | .errorInject .. => .inTime h.execErrorInject
  | .pgIntSet .. => .inTime h.execPgIntSet
  | .pgLock .. => .inTime h.execPgLock
  | .pgSecWrite .. => .inTime h.execPgSecWrite
  | .errorRecordWrite => .inTime h.execErrorRecordWrite
  | .powerOn .. => .retimed ⟨0, h.execPowerOn⟩
  | .otpStage .. => .inTime h.execOtpStage
  | .dramTrain .. => .inTime h.execDramTrain
  | .dramRowTest .. => .inTime h.execDramRowTest
  | .bootLaneTest .. => .inTime h.execBootLaneTest
  | .imageFetch .. => .inTime h.execImageFetch
  | .imageVerify => .inTime h.execImageVerify
  | .chpBootImg .. => .inTime h.execChpBootImg
  | .knownAnswerRun .. => .inTime h.execKnownAnswerRun
  | .ready => .inTime h.execReady
  | .warmN => .inTime h.execWarmN
  | .chpReset .. => .inTime h.execChpReset
  | .warmPathDigest => .inTime h.execWarmPathDigest
  | .migrationComplete .. => .inTime h.execMigrationComplete
  | .blkMigrate .. => .inTime h.execBlkMigrate
  | .blkRestore .. => .inTime h.execBlkRestore
  | .restoreDone .. => .inTime h.execRestoreDone
  | .fabricProgressExpiry .. => .inTime h.execFabricProgressExpiry
  | .collectDone => .inTime h.execCollectDone
  | .collectTimeout => .inTime h.execCollectTimeout
  | .killDone .. => .inTime h.execKillDone
  | .recoveryRetrainDone .. => .inTime h.execRecoveryRetrainDone
  | .reloadDone => .inTime h.execReloadDone
  | .freezeNLow => .inTime h.execFreezeNLow
  | .freeze .. => .inTime h.execFreeze
  | .freezeStopped => .inTime h.execFreezeStopped
  | .resume .. => .inTime h.execResume
  | .freezeNRise => .inTime h.execFreezeNRise
  | .recover .. => .inTime h.execRecover
  | .resumeComplete => .inTime h.execResumeComplete
  | .jtagAccess .. => .inTime h.execJtagAccess
  | .pwrReqNap .. => .inTime h.execPwrReqNap
  | .pwrReqSleep .. => .inTime h.execPwrReqSleep
  | .pwrReqRun .. => .inTime h.execPwrReqRun
  | .entryComplete => .inTime h.execEntryComplete
  | .wake .. => .inTime h.execWake
  | .aonTimerExpiry => .inTime h.execAonTimerExpiry
  | .energyDetect .. => .inTime h.execEnergyDetect
  | .pllEnable .. => .inTime h.execPllEnable
  | .pllLock .. => .inTime h.execPllLock
  | .pllUnlock .. => .inTime h.execPllUnlock
  | .clkDsrc .. => .inTime h.execClkDsrc
  | .throttleRaise .. => .inTime h.execThrottleRaise
  | .throttleLower .. => .inTime h.execThrottleLower
  | .thermalShutdown .. => .inTime h.execThermalShutdown
  | .screeSample .. => .inTime h.execScreeSample
  | .epochFuseBurn => .inTime h.execEpochFuseBurn
  | .ledgerExport .. => .inTime h.execLedgerExport
  | .ledgerRestore .. => .inTime h.execLedgerRestore
  | .brownOut => .retimed ⟨0, h.execBrownOut⟩
  | .pgMainRise => .inTime h.execPgMainRise
  | .pwrVidWrite .. => .inTime h.execPwrVidWrite
  | .vidStep => .inTime h.execVidStep
  | .bdrVerify .. => .inTime h.execBdrVerify
  | .verifyDone => .inTime h.execVerifyDone
  | .slot .. => .inTime h.execSlot
  | .revoke .. => .inTime h.execRevoke
  | .arb .. => .inTime h.execArb
  | .config .. => .inTime h.execConfig
  | .epoch .. => .inTime h.execEpoch
  | .otpCmdDone .. => .inTime h.execOtpCmdDone
  | .drangeWrite .. => .inTime h.execDrangeWrite
  | .drangeClearDone => .inTime h.execDrangeClearDone
  | .newChallenge .. => .inTime h.execNewChallenge
  | .relock .. => .inTime h.execRelock
  | .dbgToken .. => .inTime h.execDbgToken
  | .tokenCheckDone => .inTime h.execTokenCheckDone
  | .trngTestFail .. => .inTime h.execTrngTestFail
  | .bdrTrngData .. => .inTime h.execBdrTrngData
  | .jesdCdrLock .. => .inTime h.execJesdCdrLock
  | .csi2LockChange .. => .inTime h.execCsi2LockChange
  | .aerReqFall .. => .inTime h.execAerReqFall
  | .crestCacheError .. => .inTime h.execCrestCacheError

/-- The idle cycle moves the powered time on, and keeps the grade, the queue and canonical form. -/
theorem State.Evolves.idleCycle {s₀ s : State} (h : s₀.Evolves s) :
    ∃ e, State.Evolves { s₀ with elapsed := e } s.idleCycle := by
  have ht : ∀ e, State.Evolves { s₀ with elapsed := e } { s with elapsed := e } :=
    fun _ => ⟨h.grade, h.queue, rfl, h.sound⟩
  unfold State.idleCycle
  split
  · exact ⟨_, .powerCycle (.branch (ht _).unitCycle (ht _))⟩
  · exact ⟨_, (ht _).powerCycle⟩

/-- A step leaves the rest of the queue, and changes the other fields only as a state may evolve. -/
theorem evolves_of_step {s t : State} (h : step s = .next t) :
    ∃ e, State.Evolves { s with pending := s.pending.tail, elapsed := e } t := by
  unfold step at h
  split at h
  · next hq =>
    obtain ⟨e, ht⟩ := (State.Evolves.refl s).idleCycle
    cases h
    refine ⟨e, ⟨ht.grade, ?_, ht.time, ht.sound⟩⟩
    rw [ht.queue]
    simp [hq]
  · next c rest hq =>
    obtain ⟨e, -, u, hu, ht⟩ := (State.Evolves.refl { s with pending := rest }).exec c
    cases h.symm.trans hu
    exact ⟨e, by simpa [hq] using ht⟩

/-- Settles O4: a step evolves the state, by the lemma of each function that it may call. -/
theorem stepKeepsSound : Obligations.StepKeepsSound := by
  intro s t hs h
  obtain ⟨e, ht⟩ := evolves_of_step h
  exact ht.sound hs

/-- Settles O3: out of reset no register and no byte is listed, and no command waits. -/
theorem resetIsSound : Obligations.ResetIsSound :=
  ⟨⟨rfl, rfl⟩, rfl⟩

end Sys2Proof.Machine
end

section
/-! # Registers: writes by type code, reads that clear, refusals -/
namespace Sys2Proof.Machine
open Sys2Proof

/-! ### What a register write leaves unchanged -/

namespace State

variable {s t : State}

theorem only_refl (s : State) (l : List Part) : s.only s l := by
  intro x _
  cases x <;> simp [Part.same]

theorem only_setReg {l : List Part} (h : s.only t l) (hl : Part.regs ∈ l) (p off : Nat) (v : W32) :
    s.only (t.setReg p off v) l := by
  intro x hx
  have hs := h x hx
  cases x with
  | regs => exact absurd hl hx
  | _ => exact hs

theorem only_answer {l : List Part} (h : s.only t l) (hl : Part.read ∈ l) (v : Nat) (b : Bool) :
    s.only (t.answer v b) l := by
  intro x hx
  have hs := h x hx
  cases x with
  | read => exact absurd hl hx
  | _ => exact hs

theorem regsBut_refl (s : State) (l : List (Nat × Nat)) : s.regsBut s l := fun _ _ _ _ => rfl

/-- Offsets lie below 4096, so two registers have one key only where page and offset agree. -/
theorem regsBut_setReg {l : List (Nat × Nat)} (h : s.regsBut t l) {p off : Nat} (ho : off < 4096) (hl : (p, off) ∈ l)
    (v : W32) : s.regsBut (t.setReg p off v) l := by
  intro q o hq hn
  have hne : (p, off) ≠ (q, o) := fun he => hn (he ▸ hl)
  have hk : q * 4096 + o ≠ p * 4096 + off := by
    intro hk
    exact hne (Prod.ext (by omega) (by omega))
  rw [t.reg_setReg_other v hk, h q o hq hn]

/-! ### Admission of a write (R71, R539, R540) -/

section

variable {r : Requester} {p off : Nat} {lock : Bool}

theorem reach_eq_served (hc : s.clocked = true) (hf : s.step.fences.contains r = false) : s.reach r p = .served := by
  simp only [reach, hf, hc]
  rfl

theorem admitWith_of_absent (hr : s.reach r p = .served) (hp : presentIn s.grade p = false) :
    s.admitWith lock r p off = (false, s.absentAcc) := by
  simp [admitWith, hr, hp]

theorem admitWith_of_barred (hr : s.reach r p = .served) (hp : presentIn s.grade p = true) (hk : pageKind p ≠ .col)
    (hb : s.secBars r p off = true ∨ ownerAdmits (s.regFld (owningPage p) Reg.PG_SEC 4 0) r = false) :
    s.admitWith lock r p off = (false, s.secRefused) := by
  by_cases hs : s.secBars r p off = true
  · simp [admitWith, hr, hp, hs, colError, hk]
  · simp [admitWith, hr, hp, hs, hb.resolve_left hs]

/-- Where page, attribute and owner admit the requester, only a lock on RW fields is left to bar the write. -/
theorem admitWith_of_owned (hr : s.reach r p = .served) (hp : presentIn s.grade p = true)
    (hs : s.secBars r p off = false) (ho : ownerAdmits (s.regFld (owningPage p) Reg.PG_SEC 4 0) r = true) :
    s.admitWith lock r p off
      = if lock && bit (s.reg (owningPage p) Reg.PG_LOCK) 0 && lockable p off then (false, s.lockRefused) else (true, s) := by
  simp [admitWith, hr, hp, hs, ho]

/-- A taken write is one that no check refused: it is taken whether a lock counts or not, and meets none. -/
theorem admitWith_of_takes (h : s.takes r p off) :
    s.admitWith false r p off = (true, s)
      ∧ (bit (s.reg (owningPage p) Reg.PG_LOCK) 0 && lockable p off) = false := by
  unfold takes judgeWrite admitWith at h
  unfold admitWith
  cases hr : s.reach r p with
  | held => simp [hr] at h
  | gated => simp [hr] at h
  | served =>
    simp only [hr] at h ⊢
    split_ifs at h with hp hs ho hl
    simpa [hp, hs, ho] using hl

/-! ### A refused write to a page -/

theorem ifAdmit_of_refused {t : State} {f : State → State} (h : s.admitWith true r p off = (false, t)) :
    s.ifAdmit r p off f = t := by
  simp [ifAdmit, judgeWrite, h]

theorem ifAdmitWord_of_refused {t : State} {v : W32} {f : State → W32 → State}
    (h : s.admitWith false r p off = (false, t)) : s.ifAdmitWord r p off v f = t := by
  simp [ifAdmitWord, h]

theorem ifAdmitWord_of_locked {v : W32} {f : State → W32 → State} (h : s.admitWith false r p off = (true, s))
    (hb : bit (s.reg (owningPage p) Reg.PG_LOCK) 0 = true) (hl : lockable p off = true) (hm : actBits p off = 0) :
    s.ifAdmitWord r p off v f = s.lockRefused := by
  simp [ifAdmitWord, h, hb, hl, hm]

theorem ifAdmitWord_of_takes {v : W32} {f : State → W32 → State} (h : s.takes r p off) :
    s.ifAdmitWord r p off v f = f s v := by
  obtain ⟨ha, hl⟩ := admitWith_of_takes h
  simp [ifAdmitWord, ha, hl]

/-- A refusal for page, attribute or owner is the whole effect of a write, whatever stands at the offset. -/
theorem write32_of_refused {t : State} {v : W32} (h : ∀ lock, s.admitWith lock r p off = (false, t)) :
    s.write32 r p off v = t := by
  unfold write32
  split
  · exact ifAdmit_of_refused (h true)
  split
  · exact ifAdmitWord_of_refused (h false)
  split
  · rw [h false]
  · split <;> exact ifAdmitWord_of_refused (h false)

/-- A lock on RW fields that have no bits of another type beside them counts the write and drops it. -/
theorem write32_of_locked {v : W32} (ha : s.admitWith false r p off = (true, s))
    (hw : s.admitWith true r p off = (false, s.lockRefused)) (hb : bit (s.reg (owningPage p) Reg.PG_LOCK) 0 = true)
    (hl : lockable p off = true) (hm : actBits p off = 0) : s.write32 r p off v = s.lockRefused := by
  unfold write32
  split
  · exact ifAdmit_of_refused hw
  split
  · exact ifAdmitWord_of_locked ha hb hl hm
  split
  · next hwin hoff _ hrow => simp [lockable, hwin, hoff, hrow] at hl
  · split <;> exact ifAdmitWord_of_locked ha hb hl hm

end

/-! ### A taken write to a 32-bit register -/

/-- What the register holds after a write, by its type code (R10). -/
def written (a : Access) (m x v : W32) : W32 :=
  match a with
  | .plain => (x &&& ~~~ m) ||| (v &&& m)
  | .w1c => x &&& ~~~ (v &&& m)
  | .w1s => x ||| (v &&& m)
  | _ => x

/-- A register that holds bits of its own, on a page that stands for itself, changes as its type code gives, alone. -/
theorem storeReg_written {p off : Nat} {row : RegRow} {v : W32} (ho : off < 4096) (hv : s.viewPage p off = some p)
    (hw : row.access ≠ .wo) :
    (s.storeReg p off row v).reg p off = written row.access (storeMask p off row) (s.reg p off) v
      ∧ s.only (s.storeReg p off row v) [.regs] ∧ s.regsBut (s.storeReg p off row v) [(p, off)] := by
  have hset : ∀ x, (s.setReg p off x).reg p off = x ∧ s.only (s.setReg p off x) [.regs]
      ∧ s.regsBut (s.setReg p off x) [(p, off)] := fun x =>
    ⟨s.reg_setReg_same p off x, only_setReg (only_refl s _) (by simp) p off x,
      regsBut_setReg (regsBut_refl s _) ho (by simp) x⟩
  unfold storeReg
  simp only [hv]
  cases hacc : row.access with
  | plain => exact hset _
  | w1c => exact hset _
  | w1s => exact hset _
  | wo => exact absurd hacc hw
  | rc => exact ⟨rfl, only_refl s _, regsBut_refl s _⟩

end State

/-! ### Addresses of registers -/

section

variable {p off : Nat}

theorem addrRegion_regAddr (hp : p < 0x100000) (ho : off < 4096) : addrRegion (regAddr p off) = .pages := by
  have hlo : 0x100000000 ≤ regAddr p off := by
    unfold regAddr Base.pages
    omega
  have hhi : regAddr p off < 0x200000000 := by
    unfold regAddr Base.pages
    omega
  unfold addrRegion Base.rfg Base.dump Base.pages
  rw [if_neg (by omega), if_neg (by omega), if_neg (by omega), if_pos (by omega)]

theorem pageAt_regAddr (ho : off < 4096) : pageAt (regAddr p off) = (p, off) := by
  have h : regAddr p off - Base.pages = p * 4096 + off := by
    unfold regAddr
    omega
  exact Prod.ext (by simp only [pageAt, h]; omega) (by simp only [pageAt, h]; omega)

theorem regSize_regAddr (ha : off % 4 = 0) : regSize (regAddr p off) 4 = true := by
  have h : regAddr p off % 4 = 0 := by
    unfold regAddr Base.pages
    omega
  simp [regSize, h]

/-- REGISTER_WRITE of 32 bits to a register is the write of its page. -/
theorem exec_registerWrite_regAddr {s : State} {req : Requester} {v : W32} (hp : p < 0x100000) (ho : off < 4096)
    (ha : off % 4 = 0) :
    exec (.registerWrite req (regAddr p off) 4 (v.setWidth 64)) s = .next (s.write32 req p off v) := by
  have hv : BitVec.ofNat 32 (v.setWidth 64).toNat = v := by
    rw [BitVec.ofNat_toNat]
    exact BitVec.setWidth_setWidth_of_le v (by decide)
  change Host.Outcome.next (s.busWrite req (regAddr p off) 4 (v.setWidth 64).toNat) = _
  simp only [State.busWrite, addrRegion_regAddr hp ho, regSize_regAddr ha, pageAt_regAddr ho, hv]
  rfl

/-- RC_READ of 32 bits of a register is the read of its page. -/
theorem exec_rcRead_regAddr {s : State} {req : Requester} (hp : p < 0x100000) (ho : off < 4096) (ha : off % 4 = 0) :
    exec (.rcRead req (regAddr p off) 4) s = .next (s.read32 req p off) := by
  change Host.Outcome.next (s.busRead req (regAddr p off) 4) = _
  simp [State.busRead, addrRegion_regAddr hp ho, regSize_regAddr ha, pageAt_regAddr ho]

end

/-- Settles O7: an admitted write that does no more than store is `storeReg`, which sets the one register. -/
theorem registerWriteActsByType : Obligations.RegisterWriteActsByType := by
  intro s req p off row v hp hlo ho ha hwin hrow hhalf hv hacts htakes hwo
  refine ⟨_, exec_registerWrite_regAddr hp ho ha, ?_⟩
  have hw : s.write32 req p off v = s.storeReg p off row v := by
    simp [State.write32, hwin, Nat.not_lt.mpr hlo, hrow, hhalf, State.ifAdmitWord_of_takes htakes, State.writeReg, hacts]
  rw [hw]
  exact State.storeReg_written ho hv hwo

/-! ### A read that clears -/

/-- A read of a 32-bit RC register whose read has no effect of its own answers its value and clears it. -/
theorem State.read32_of_rc {s : State} {r : Requester} {p off : Nat} {row : RegRow} (hlo : 0x40 ≤ off)
    (hwin : (pageKind p).window = false) (hrow : regRow p off = some row) (hhalf : row.half = .single)
    (hrc : row.access = .rc) (hk : pageKind p ≠ .drmSlice) (hv : s.viewPage p off = some p)
    (hacts : s.readActs r p off = none) (hmay : s.mayRead r p off = true) :
    s.read32 r p off = (s.answer (s.view p off).toNat false).setReg p off 0 := by
  have hva : (s.answer (s.view p off).toNat false).viewPage p off = some p := hv
  have hz : readsZero p off = false := by
    have h₁ : off ≠ Reg.PG_ERR_SET := Nat.ne_of_gt (Nat.lt_of_lt_of_le (by decide) hlo)
    have h₂ : off ≠ Reg.PG_INT_SET := Nat.ne_of_gt (Nat.lt_of_lt_of_le (by decide) hlo)
    simp [readsZero, hrow, hrc, h₁, h₂]
  have h64 : is64 p off = false := by simp [is64, hrow, hhalf]
  have hcl : isRc p off = true := by simp [isRc, hwin, hlo, hrow, hrc]
  simp [State.read32, hmay, hacts, hz, hrow, hhalf, hcl, State.latchRead, h64, State.clearRc, hk, hva]

/-- Settles O8: the read is an answer and one cleared register. -/
theorem rcReadClears : Obligations.RcReadClears := by
  intro s req p off row hp hlo ho ha hwin hrow hhalf hrc hk hv hacts hmay
  refine ⟨_, exec_rcRead_regAddr hp ho ha, ?_⟩
  rw [State.read32_of_rc hlo hwin hrow hhalf hrc hk hv hacts hmay]
  exact ⟨rfl, rfl, State.reg_setReg_same _ p off 0,
    State.only_setReg (State.only_answer (State.only_refl s _) (by simp) _ _) (by simp) p off 0,
    State.regsBut_setReg (State.regsBut_refl s _) ho (by simp) 0⟩

/-! ### Refusals -/

namespace State

/-- The counter of the chip page holds one more, and nothing changed but it and the listed registers. -/
def OnlyCounted (s t : State) (reg : Nat) (ints : List (Nat × Nat)) : Prop :=
  s.counted t Page.chp reg 1 ∧ s.only t [.regs] ∧ s.regsBut t ((Page.chp, reg) :: ints)

theorem onlyCounted_count (s : State) {reg : Nat} (hr : reg < 4096) : s.OnlyCounted (s.count Page.chp reg 1) reg [] :=
  ⟨s.count_reg Page.chp reg 1, only_setReg (only_refl s _) (by simp) _ _ _,
    regsBut_setReg (regsBut_refl s _) hr (by simp) _⟩

theorem bit_or_bitWord (v : W32) {b : Nat} (hb : b < 32) : bit (v ||| bitWord b) b = true := by
  rw [bit, bitWord, BitVec.getLsbD_or, BitVec.getLsbD_ofNat, Nat.testBit_two_pow_self]
  simp [hb]

/-- A count with its interrupt bit adds one to the counter, sets the bit, and changes nothing else. -/
theorem onlyCounted_countInt (s : State) {reg b : Nat} (hr : reg < 4096) (hne : reg ≠ Reg.PG_INT) (hb : b < 32) :
    s.OnlyCounted (s.countInt Page.chp reg b 1) reg [(Page.chp, Reg.PG_INT)]
      ∧ bit ((s.countInt Page.chp reg b 1).reg Page.chp Reg.PG_INT) b = true := by
  have e : s.countInt Page.chp reg b 1 = (s.count Page.chp reg 1).setReg Page.chp Reg.PG_INT
    ((s.count Page.chp reg 1).reg Page.chp Reg.PG_INT ||| bitWord b) := rfl
  rw [e]
  refine ⟨⟨?_, ?_, ?_⟩, ?_⟩
  · rw [State.counted, reg_setReg_other _ _ (by omega)]
    exact s.count_reg Page.chp reg 1
  · exact only_setReg (only_setReg (only_refl s _) (by simp) _ _ _) (by simp) _ _ _
  · exact regsBut_setReg (regsBut_setReg (regsBut_refl s _) hr (by simp) _) (by decide) (by simp) _
  · rw [reg_setReg_same]
    exact bit_or_bitWord _ hb

end State

/-- REGISTER_WRITE of 32 bits outside every range, by a requester that is served. -/
theorem exec_registerWrite_unmapped {s : State} {req : Requester} {a : Nat} {v : W64} (hr : addrRegion a = .unmapped)
    (ha : a % 4 = 0) (hs : s.serves req = true) : exec (.registerWrite req a 4 v) s = .next s.unmappedAcc := by
  change Host.Outcome.next (s.busWrite req a 4 v.toNat) = _
  simp [State.busWrite, hr, hs, memSize, sideAligned, ha, State.memWrite]

/-- Settles O10: each refusal ends in one counter of the chip page, with its interrupt bit where it has one. -/
theorem refusedWritesAreOnlyCounted : Obligations.RefusedWritesAreOnlyCounted := by
  intro s req p off v hc hf hp ho ha counted c
  have hreach : s.reach req p = .served := State.reach_eq_served hc hf
  refine ⟨fun a hr ha4 => ?_, fun habs => ?_, fun hpres hcol hbar => ?_, fun hpres hsec howner hlock hlockable hact => ?_⟩
  · exact ⟨_, exec_registerWrite_unmapped hr ha4 (by simp only [State.serves, hc, hf]; rfl),
      s.onlyCounted_countInt (by decide) (by decide) (by decide)⟩
  · refine ⟨_, exec_registerWrite_regAddr hp ho ha, ?_⟩
    rw [State.write32_of_refused fun _ => State.admitWith_of_absent hreach habs]
    exact s.onlyCounted_countInt (by decide) (by decide) (by decide)
  · refine ⟨_, exec_registerWrite_regAddr hp ho ha, ?_⟩
    rw [State.write32_of_refused fun _ => State.admitWith_of_barred hreach hpres hcol hbar]
    exact s.onlyCounted_countInt (by decide) (by decide) (by decide)
  · refine ⟨_, exec_registerWrite_regAddr hp ho ha, ?_⟩
    rw [State.write32_of_locked
      ((State.admitWith_of_owned hreach hpres hsec howner).trans (by simp))
      ((State.admitWith_of_owned hreach hpres hsec howner).trans (by simp [hlock, hlockable])) hlock hlockable hact]
    exact s.onlyCounted_count (by decide)

end Sys2Proof.Machine
end

section
/-! # The reports of a step -/
namespace Sys2Proof.Machine
open Sys2Proof

/-! ### Frames -/

namespace State

variable {s t : State} {l : List Part}

theorem only_setStep (h : s.only t l) (hl : Part.step ∈ l) (x : StepState) : s.only (t.setStep x) l := by
  intro y hy
  have hs := h y hy
  cases y with
  | step => exact absurd hl hy
  | _ => exact hs

theorem only_setCells (h : s.only t l) (hl : Part.cells ∈ l) (x : CellsState) : s.only { t with cells := x } l := by
  intro y hy
  have hs := h y hy
  cases y with
  | cells => exact absurd hl hy
  | _ => exact hs

theorem only_setLearn (h : s.only t l) (hl : Part.learn ∈ l) (x : LearnState) : s.only { t with learn := x } l := by
  intro y hy
  have hs := h y hy
  cases y with
  | learn => exact absurd hl hy
  | _ => exact hs

theorem only_setPlt (h : s.only t l) (hl : Part.plts ∈ l) (k : Nat) (x : PltState) : s.only (t.setPlt k x) l := by
  intro y hy
  have hs := h y hy
  cases y with
  | plts => exact absurd hl hy
  | _ => exact hs

theorem only_useFresh (h : s.only t l) (hl : Part.fresh ∈ l) : s.only t.useFresh l := by
  intro y hy
  have hs := h y hy
  cases y with
  | fresh => exact absurd hl hy
  | _ => exact hs

end State

theorem mem_setIns_self (l : List Nat) (x : Nat) : x ∈ setIns l x := by
  induction l with
  | nil => simp [setIns]
  | cons a l ih =>
    unfold setIns
    split_ifs <;> simp_all

/-! ### The start of array jobs -/

namespace State

variable {s t : State}

/-- A refused access to a bank is counted and flagged on the bank's page, no more. -/
theorem only_tarnRefuse {l : List Part} (h : s.only t l) (hl : Part.regs ∈ l) (b : Nat) : s.only (t.tarnRefuse b).2 l :=
  only_setReg (only_setReg (only_setReg h hl _ _ _) hl _ _ _) hl _ _ _

theorem only_pltFetch {l : List Part} (h : s.only t l) (hr : Part.regs ∈ l) (hf : Part.fresh ∈ l) (k off i : Nat) (r : Bool) :
    s.only (t.pltFetch k off i r).2 l := by
  obtain ⟨banks, hb⟩ : ∃ f, banksOf = f := ⟨_, rfl⟩
  have e : pltFetch = pltFetch := rfl
  conv_rhs at e => delta pltFetch
  rw [e, hb]
  dsimp only
  split
  · exact only_setReg (only_tarnRefuse h hr _) hr _ _ _
  · exact only_useFresh h hf

/-- The start of a job changes the arrays, and the numbering and the banks' registers where it reads a descriptor. -/
theorem only_pltStart {l : List Part} (h : s.only t l) (hp : Part.plts ∈ l) (hr : Part.regs ∈ l) (hf : Part.fresh ∈ l)
    (k : Nat) : s.only (t.pltStart k) l := by
  have hfetch : ∀ off i r, s.only (t.pltFetch k off i r).2 l := only_pltFetch h hr hf k
  obtain ⟨fetch, hb⟩ : ∃ f, pltFetch = f := ⟨_, rfl⟩
  have e : pltStart = pltStart := rfl
  conv_rhs at e => delta pltStart
  rw [e, hb]
  rw [hb] at hfetch
  dsimp only
  split
  · exact h
  split
  · exact only_setPlt h hp _ _
  split
  · exact h
  split
  · exact only_setPlt h hp _ _
  split
  · exact h
  split
  · exact hfetch _ _ _
  · exact only_setPlt (hfetch _ _ _) hp _ _

theorem only_pltStartAll {l : List Part} (h : s.only t l) (hp : Part.plts ∈ l) (hr : Part.regs ∈ l) (hf : Part.fresh ∈ l) :
    s.only t.pltStartAll l :=
  List.foldlRecOn (motive := fun b => s.only b l) _ _ h fun _ hb k _ => only_pltStart hb hp hr hf k

end State

/-! ### The reports -/

section

variable {s : State}

theorem exec_cellUpdateDone {cell : Fin 2048} (hm : s.mustUpdate cell = true) (hn : s.nextActive cell = none) :
    exec (.cellUpdateDone cell) s = .next { s with cells := { s.cells with updated := setIns s.cells.updated cell } } := by
  change execCellUpdateDone cell s = _
  exact if_pos (by simp [hm, hn])

theorem exec_blockUpdateDone {block : Fin 128} (hu : s.updating = true) (hb : s.blockCopies block = false)
    (hc : ∀ c ∈ blockCells block, c ∈ s.cells.updated) :
    exec (.blockUpdateDone block) s = .next (s.setStep { s.step with blkUpd := setIns s.step.blkUpd block }) := by
  change execBlockUpdateDone block s = _
  refine if_pos ?_
  simpa [hu, hb] using fun c h => Or.inl (hc c h)

/-- The step once the last block of a region has reported. -/
def State.regionUpdated (s : State) (region : Fin 8) : StepState :=
  { s.step with
    rgnUpd := setIns s.step.rgnUpd region
    rgnTimes := setNum s.step.rgnTimes region (s.elapsed - s.reg64 Page.stp Reg.STP_TICK_NS)
    phase := if (setIns s.step.rgnUpd region).length = 8 then .deliver else s.step.phase }

theorem exec_regionUpdateDone {region : Fin 8} (hu : s.updating = true) (hr : region.val ∉ s.step.rgnUpd)
    (hb : ∀ i, i < 16 → 16 * region.val + i ∈ s.step.blkUpd) :
    exec (.regionUpdateDone region) s = .next (s.setStep (s.regionUpdated region)).pltStartAll := by
  change execRegionUpdateDone region s = _
  refine if_pos ?_
  simpa [hu, hr] using hb

theorem exec_cellQuiescent {cell : Fin 2048} (hr : s.runs (11 + cell.val / 16) = true) (hq : s.cellQuiescent cell = true) :
    exec (.cellQuiescent cell) s = .next { s with cells := { s.cells with quiet := setIns s.cells.quiet cell } } := by
  change execCellQuiescent cell s = _
  exact if_pos (by simp [hr, hq])

theorem exec_blockQuiescent {block : Fin 128} (ht : s.timebase = true) (ho : s.stepOpen = true)
    (hb : block.val ∈ s.step.blkUpd) (he : s.outputEmpty block = true)
    (hc : ∀ c ∈ blockCells block, s.cellQuiescent c = true ∧ c ∈ s.cells.quiet) :
    exec (.blockQuiescent block) s = .next (s.setStep { s.step with blkQui := setIns s.step.blkQui block }) := by
  change execBlockQuiescent block s = _
  refine if_pos ?_
  simpa [ht, ho, hb, he] using fun c h => (hc c h).imp id Or.inl

/-- The step once a region has reported that it is quiescent. -/
def State.regionQuieted (s : State) (region : Fin 8) : StepState :=
  { s.step with
    rgnQui := setIns s.step.rgnQui region
    rgnTimes := setNum s.step.rgnTimes (8 + region) (s.elapsed - s.reg64 Page.stp Reg.STP_TICK_NS) }

/-- A region that no sweeper holds back reports; with the last such region the wait for sweepers ends. -/
theorem exec_regionQuiescent {region : Fin 8} (ht : s.timebase = true) (ho : s.stepOpen = true)
    (hu : region.val ∈ s.step.rgnUpd) (hclear : s.regionClear region = true)
    (hb : ∀ i, i < 16 → 16 * region.val + i ∈ s.step.blkQui)
    (hc : ∀ i, i < 256 → s.cellQuiescent (256 * region + i) = true) (hs : s.sweepLate region = false) :
    ∃ learn, exec (.regionQuiescent region) s = .next { s.setStep (s.regionQuieted region) with learn := learn } := by
  change ∃ learn, execRegionQuiescent region s = _
  unfold execRegionQuiescent
  rw [if_pos (by simpa [ht, ho, hu, hclear] using ⟨hb, hc⟩), if_neg (by simp [hs])]
  dsimp only
  split
  · exact ⟨_, rfl⟩
  · exact ⟨s.learn, rfl⟩

theorem exec_cut (ht : s.ticking = true) (ho : s.stepOpen = true) (hp : s.step.phase = .deliver)
    (hr : s.step.rgnQui.length = 8) (hd : s.pltsDone = true) :
    exec .cut s = .next (s.setStep { s.step with phase := .cut }) := by
  change execCut s = _
  exact if_pos (by simp [ht, ho, hp, hr, hd])

end

/-- Settles O20: each report inserts its unit into one list of the step or of the cells; REGION_UPDATE_DONE then starts
array jobs, which leave the step as it is. -/
theorem reportsOfAStep : Obligations.ReportsOfAStep := by
  intro s
  have hs : ∀ x, s.only (s.setStep x) [.step] := State.only_setStep (State.only_refl s _) (by simp)
  have hc : ∀ x : CellsState, s.only { s with cells := x } [.cells] := State.only_setCells (State.only_refl s _) (by simp)
  refine ⟨fun cell hm hn => ?_, fun block hu hb hcells => ?_, fun region hu hr hb => ?_, fun cell hr hq => ?_,
    fun block ht ho hb he hcells => ?_, fun region ht ho hu hclear hb hcells hsweep => ?_, fun ht ho hp hr hd => ?_⟩
  · exact ⟨_, exec_cellUpdateDone hm hn, mem_setIns_self _ _, hc _, rfl, rfl⟩
  · exact ⟨_, exec_blockUpdateDone hu hb hcells, mem_setIns_self _ _, rfl, hs _⟩
  · have hstep : (s.setStep (s.regionUpdated region)).pltStartAll.step = s.regionUpdated region :=
      State.only_pltStartAll (l := [.plts, .regs, .fresh]) (State.only_refl _ _) (by simp) (by simp) (by simp) .step (by simp)
    refine ⟨_, exec_regionUpdateDone hu hr hb, ?_, ?_, ?_⟩
    · rw [hstep]
      exact mem_setIns_self _ _
    · rw [hstep]
      exact fun h => if_pos h
    · exact State.only_pltStartAll (State.only_setStep (State.only_refl s _) (by simp) _) (by simp) (by simp) (by simp)
  · exact ⟨_, exec_cellQuiescent hr hq, mem_setIns_self _ _, rfl, hc _⟩
  · exact ⟨_, exec_blockQuiescent ht ho hb he hcells, mem_setIns_self _ _, rfl, hs _⟩
  · obtain ⟨learn, h⟩ := exec_regionQuiescent ht ho hu hclear hb hcells hsweep
    exact ⟨_, h, mem_setIns_self _ _,
      State.only_setLearn (State.only_setStep (State.only_refl s _) (by simp) _) (by simp) learn⟩
  · exact ⟨_, exec_cut ht ho hp hr hd, rfl, hs _⟩

end Sys2Proof.Machine
end

section
/-! # An image that resets the chip -/
namespace Sys2Proof.Machine
open Sys2Proof

namespace State

/-! ### A warm reset drops the reservations -/

section

variable (s : State)

theorem dram_setFld (p off hi lo x : Nat) : (s.setFld p off hi lo x).dram = s.dram := rfl
theorem dram_setInt (p b : Nat) : (s.setInt p b).dram = s.dram := rfl

variable {s}

/-- A loop whose body leaves DRAM's own state leaves it. -/
theorem dram_foldl {α : Type} {f : State → α → State} {l : List α} {d : DramState} (h : s.dram = d)
    (hf : ∀ {t x}, t.dram = d → (f t x).dram = d) : (l.foldl f s).dram = d :=
  List.foldlRecOn (motive := fun t => t.dram = d) l f h fun _ ht _ _ => hf ht

theorem dram_allSlices {d : DramState} (h : s.dram = d) (x : Nat) : (s.allSlices x).dram = d := dram_foldl h fun h => h

theorem dram_showRemaps {d : DramState} (h : s.dram = d) : s.showRemaps.dram = d := dram_foldl (dram_foldl h fun h => h) fun h => h

theorem rates_resetCompute (s : State) (k : ResetKind) : (s.resetCompute k).dram.rates = none := by
  unfold resetCompute
  dsimp only
  rw [dram_setFld]
  simp only [apply_ite State.dram, dram_setInt, ite_self]
  have hports : ∀ t : State, ((List.range 16).foldl (fun t p => t.setFld (Page.trv p) Reg.TRV_STAT 12 12 0) t).dram = t.dram :=
    fun _ => dram_foldl rfl fun h => h
  rw [hports, dram_allSlices rfl, dram_showRemaps rfl]
  rfl

/-- A warm reset that acts leaves no loaded division of bandwidth: the slices take the default one (R174). -/
theorem rates_warmReset (h : s.warmActs = true) (cause : Nat) : (s.warmReset cause).dram.rates = none := by
  have hreset := s.rates_resetCompute .warm
  unfold warmReset
  rw [if_neg (by simp [h])]
  generalize s.resetCompute .warm = t at hreset
  dsimp only
  split_ifs
  · exact hreset
  · exact (congrArg _ (dram_allSlices rfl _)).trans hreset

end

/-! ### The loader leaves the chip awake until it writes the configuration registers -/

/-- Past the first READY, not in SLEEP, and with the main supplies, so that a warm reset acts. -/
structure Awake (s : State) : Prop where
  ready : s.fault.readySeen = true
  awake : s.pwrState ≠ Pwr.sleep
  fed : s.power.waitMain = false

namespace Awake

variable {s : State}

theorem warmActs (h : s.Awake) : s.warmActs = true := by
  simp [State.warmActs, h.ready, h.awake, h.fed]

theorem setReg (h : s.Awake) {p off : Nat} (hp : Page.pwr * 4096 + Reg.PWR_STAT ≠ p * 4096 + off) (v : W32) :
    (s.setReg p off v).Awake := by
  refine ⟨h.ready, ?_, h.fed⟩
  rw [pwrState, regFld, reg_setReg_other s v hp]
  exact h.awake

theorem setReg64 (h : s.Awake) {p off : Nat} (hp : Page.pwr * 4096 + Reg.PWR_STAT < p * 4096 + off) (v : Nat) :
    (s.setReg64 p off v).Awake :=
  (h.setReg (by omega) _).setReg (by omega) _

theorem clearTraces (h : s.Awake) : s.clearTraces.Awake :=
  List.foldlRecOn (motive := Awake) _ _ ⟨h.ready, h.awake, h.fed⟩ fun _ ht c _ =>
    List.foldlRecOn (motive := Awake) _ _ ht fun _ hu off _ =>
      hu.setReg (by simp only [Page.pwr, Reg.PWR_STAT, Page.cell]; omega) 0

end Awake

/-- The loader writes a configuration register that asks for a warm reset (R567) as any other. -/
theorem loadReg_chpReset (s : State) :
    s.loadReg (Page.chp * 4096 + Reg.CHP_RESET, 0xB0070001) = s.warmReset 4 := rfl

end State

/-! ### The image -/

/-- An image that reserves 64 MB/s for requester 0 and writes `CHP_RESET` with the key and WARM. -/
def resettingImage : Image :=
  { rates := [(0, 4096)], rows := [], tables := [], profiles := [], queues := [], axons := [], neurons := [], routes := [],
    routeNeed := [], channels := [], regs := [(Page.chp * 4096 + Reg.CHP_RESET, 0xB0070001)], synBase := 0, synLimit := 0,
    raw := [] }

/-- The image is one that a sender can send. -/
theorem resettingImage_wf : resettingImage.wf = true := by decide +kernel

/-- A chip out of reset that has declared READY. -/
def readyChip : State :=
  { State.reset.setReg Page.chp Reg.CHP_BOOT_STAT 0x90000000 with fault := { readySeen := true } }

theorem readyChip_awake : readyChip.Awake := ⟨rfl, by decide +kernel, rfl⟩

theorem dram_loadDigest (s : State) (m : Image) : (s.loadDigest m).dram = s.dram :=
  State.dram_foldl rfl fun h => h

/-- The image's reservations are in force. -/
def State.reserved (s : State) (m : Image) : State :=
  { s with dram := { s.dram with rates := some (m.rates.foldl (fun t x => setNum t x.1 (x.2 % 2 ^ 22)) []) } }

/-- The state in which the loader comes to the configuration registers of the image. -/
def State.loadedTables (s : State) (m : Image) : State :=
  let s := ((s.reserved m).setReg64 (Page.die 0) Reg.DRM_SYN_BASE m.synBase).setReg64 (Page.die 0) Reg.DRM_SYN_LIMIT m.synLimit
  ((s.loadDram m).clearTraces.loadCells m).loadRoutes m

theorem takeYunasil_eq (s : State) (m : Image) :
    s.takeYunasil m = (m.regs.foldl State.loadReg (s.loadedTables m)).loadDigest m := rfl

theorem State.loadDram_resettingImage (s : State) : s.loadDram resettingImage = s := rfl

theorem State.loadCells_resettingImage (s : State) : s.loadCells resettingImage = s := rfl

theorem State.Awake.loadRoutes_resettingImage {s : State} (h : s.Awake) : (s.loadRoutes resettingImage).Awake :=
  ⟨h.ready, h.awake, h.fed⟩

theorem State.Awake.loadedTables {s : State} (h : s.Awake) : (s.loadedTables resettingImage).Awake := by
  have hrates : (s.reserved resettingImage).Awake := ⟨h.ready, h.awake, h.fed⟩
  have hbase := hrates.setReg64 (p := Page.die 0) (off := Reg.DRM_SYN_BASE) (by decide) 0
  have hlimit := hbase.setReg64 (p := Page.die 0) (off := Reg.DRM_SYN_LIMIT) (by decide) 0
  unfold State.loadedTables
  dsimp only
  rw [State.loadDram_resettingImage, State.loadCells_resettingImage]
  exact hlimit.clearTraces.loadRoutes_resettingImage

/-- The division that the image brings goes with the reset that its register asks for. -/
theorem rates_takeYunasil_resettingImage {s : State} (h : s.Awake) : (s.takeYunasil resettingImage).dram.rates = none := by
  rw [takeYunasil_eq, dram_loadDigest]
  have ht := h.loadedTables
  generalize s.loadedTables resettingImage = t at ht
  rw [resettingImage, List.foldl_cons, List.foldl_nil, State.loadReg_chpReset]
  exact State.rates_warmReset ht.warmActs 4

/-- YUNASIL_LOAD at READY of an image that no check refuses takes it. -/
theorem exec_yunasilLoad_of_accepted {s : State} {m : Image} (hr : s.atReady = true) (hc : s.clocked = true)
    (hm : s.loadRefusal m = none) : exec (.yunasilLoad m) s = .next (s.takeYunasil m) := by
  change execYunasilLoad m s = _
  unfold execYunasilLoad
  rw [if_neg (by simp [hr, hc]), hm]

/-- Refutes O13: an image that no check refuses may write `CHP_RESET`. The loader writes it as any other register, after the
reservations, and the warm reset that it begins drops them. -/
theorem not_imageReservationsFit : ¬ Obligations.ImageReservationsFit := by
  intro h
  have hr : readyChip.atReady = true := by decide +kernel
  have hc : readyChip.clocked = true := by decide +kernel
  have hm : readyChip.loadRefusal resettingImage = none := by decide +kernel
  obtain ⟨-, hloads⟩ := h readyChip resettingImage hr hc
  obtain ⟨t, ht, -, hrates, -⟩ := hloads hm
  obtain rfl : readyChip.takeYunasil resettingImage = t :=
    Host.Outcome.next.inj ((exec_yunasilLoad_of_accepted hr hc hm).symm.trans ht)
  rw [rates_takeYunasil_resettingImage readyChip_awake] at hrates
  cases hrates

end Sys2Proof.Machine
end

section
/-! # Elapsed time -/
namespace Sys2Proof.Machine
open Sys2Proof

/-- The idle cycle moves the powered time on by one cycle of the clock that runs (R73), and else evolves the state. -/
theorem State.evolves_idleCycle (s : State) :
    State.Evolves { s with elapsed := s.elapsed + (if s.timebase then 1 else 5) } s.idleCycle := by
  have later : ∀ e, State.Evolves { s with elapsed := e } { s with elapsed := e } := fun _ => .refl _
  unfold State.idleCycle
  cases s.timebase with
  | true => exact .powerCycle (.branch (later _).unitCycle (later _))
  | false => exact (later _).powerCycle

/-- Settles O2: a step on an empty queue is the idle cycle. -/
theorem emptyQueuePassesTime : Obligations.EmptyQueuePassesTime := by
  intro s hq
  have hstep : step s = .next s.idleCycle := by
    unfold step
    rw [hq]
  obtain ⟨hgrade, hqueue, htime, -⟩ := s.evolves_idleCycle
  exact ⟨_, hstep, htime, hqueue.trans hq, hgrade⟩

theorem setsElapsed_eq_false {c : Instr} (hon : ∀ src, c ≠ .powerOn src) (hbrown : c ≠ .brownOut) (hwrap : c ≠ .elapsedWrap) :
    setsElapsed c = false := by
  cases c with
  | powerOn src => exact absurd rfl (hon src)
  | brownOut => exact absurd rfl hbrown
  | elapsedWrap => exact absurd rfl hwrap
  | _ => rfl

/-- Settles O6: a command that does not set the powered time evolves the state, which keeps it. -/
theorem elapsedTimeIsKept : Obligations.ElapsedTimeIsKept := by
  intro c s t hon hbrown hwrap ht
  obtain ⟨e, hkept, u, hu, hevolves⟩ := (State.Evolves.refl s).exec c
  obtain rfl : u = t := Host.Outcome.next.inj (hu.symm.trans ht)
  exact hevolves.time.trans (hkept (setsElapsed_eq_false hon hbrown hwrap))

end Sys2Proof.Machine
end

section
/-! # A read of a low word -/
namespace Sys2Proof.Machine
open Sys2Proof

/-- LOW_WORD_READ of a register is the read of its page. -/
theorem exec_lowWordRead_regAddr {s : State} {req : Requester} {p off : Nat} (hp : p < 0x100000) (ho : off < 4096)
    (ha : off % 4 = 0) : exec (.lowWordRead req (regAddr p off)) s = .next (s.read32 req p off) :=
  exec_rcRead_regAddr hp ho ha

/-- A 64-bit register is named by its low word, on a page that is no window. -/
theorem is64_iff {p off : Nat} : is64 p off = true ↔
    (pageKind p).window = false ∧ 0x40 ≤ off ∧ ∃ row, regRow p off = some row ∧ row.half = .low := by
  simp [is64, Option.any_eq_true, and_assoc]

/-- A read of the low word of a 64-bit register that has no effect of its own latches the high word and answers the low
one. -/
theorem State.read32_of_low {s : State} {r : Requester} {p off : Nat} (h64 : is64 p off = true) (hrc : isRc p off = false)
    (hz : readsZero p off = false) (hacts : s.readActs r p off = none) (hmay : s.mayRead r p off = true) :
    s.read32 r p off = (s.latchHigh r (p * 4096 + off) (s.view p (off + 4))).answer (s.view p off).toNat false := by
  obtain ⟨-, -, row, hrow, hhalf⟩ := is64_iff.mp h64
  simp [State.read32, hmay, hacts, hz, hrc, hrow, hhalf, State.latchRead, h64]

/-- The next read of a latched high word answers what was latched for its requester (R527). -/
theorem State.highRead_of_latched {s u : State} {r : Requester} {p off : Nat} {v : W32}
    (h : u.latchedHigh = (s.latchHigh r (p * 4096 + off) v).latchedHigh) :
    (u.highRead r p (off + 4)).rdata = v.toNat := by
  have hkey : p * 4096 + (off + 4) - 4 = p * 4096 + off := by omega
  have hgone : (s.latchedHigh.filter (fun q => !(q.1 == r && q.2.1 == p * 4096 + off))).find?
      (fun q => q.1 == r && q.2.1 == p * 4096 + off) = none := by
    rw [List.find?_eq_none]
    intro q hq
    simpa only [Bool.not_eq_true', Bool.not_eq_true] using (List.mem_filter.mp hq).2
  have hfind : u.latchedHigh.find? (fun q => q.1 == r && q.2.1 == p * 4096 + off) = some (r, p * 4096 + off, v) := by
    rw [h, State.latchHigh, List.find?_append, hgone]
    simp
  simp [State.highRead, hkey, hfind]

/-- Settles O9: the read is a latched high word and an answer. -/
theorem lowWordReadLatchesHigh : Obligations.LowWordReadLatchesHigh := by
  intro s req p off hp ho ha h64 hrc hz hacts hmay
  refine ⟨_, exec_lowWordRead_regAddr hp (by omega) ha, ?_⟩
  rw [State.read32_of_low h64 hrc hz hacts hmay]
  refine ⟨rfl, fun u hu => State.highRead_of_latched hu, fun x hx => ?_, rfl⟩
  cases x with
  | read => simp at hx
  | halves => simp at hx
  | _ => rfl

end Sys2Proof.Machine
end

section
/-! # Fences and the period -/
namespace Sys2Proof.Machine
open Sys2Proof

namespace State

variable {s : State} {r : Requester} {p off : Nat}

/-- An admitted write finds the chip as it was: only a refusal is counted. -/
theorem admitWith_snd_of_fst {lock : Bool} (h : (s.admitWith lock r p off).1 = true) : (s.admitWith lock r p off).2 = s := by
  unfold admitWith at h ⊢
  cases hr : s.reach r p with
  | held => simp [hr] at h
  | gated => simp [hr] at h
  | served =>
    simp only [hr] at h ⊢
    split_ifs at h ⊢
    rfl

theorem ifAdmit_of_takes (h : s.takes r p off) (f : State → State) : s.ifAdmit r p off f = f s := by
  have hs : (s.judgeWrite r p off).2 = s := admitWith_snd_of_fst h
  have ht : (s.judgeWrite r p off).1 = true := h
  simp [ifAdmit, ht, hs]

theorem ifAdmitWo_of_takesWo (h : s.takesWo r p off) (f : State → State) : s.ifAdmitWo r p off f = f s := by
  have ht : (s.admitWith false r p off).1 = true := h
  simp [ifAdmitWo, ht, admitWith_snd_of_fst ht]

/-- A fence holds every write of its requester to a register (R71). -/
theorem admitWith_of_fenced (h : r ∈ s.step.fences) (lock : Bool) : s.admitWith lock r p off = (false, s) := by
  have hr : s.reach r p = .held := by simp [reach, h]
  simp [admitWith, hr]

theorem fenceWrite_step (s : State) (r : Requester) :
    s.fenceWrite r = s.setStep { s.step with fences := if r ∈ s.step.fences then s.step.fences else r :: s.step.fences } := by
  unfold fenceWrite
  by_cases h : r ∈ s.step.fences <;> simp [h, setStep]

/-! ### The period -/

/-- A write of the period in a cycle leaves the value that a reload of that cycle takes (R39). -/
theorem reloadValue_periodWrite {v : W32} (h : 10000 ≤ v.toNat ∧ v.toNat ≤ 100000000) :
    (s.periodWrite v).reloadValue = s.reloadValue := by
  simp [periodWrite, h, reloadValue]

theorem bit_setErr {b : Nat} (hb : b < 32) : bit ((s.setErr p b).reg p Reg.PG_ERR) b = true := by
  rw [setErr, orReg, reg_setReg_same]
  exact bit_or_bitWord _ hb

theorem bit_setInt {b : Nat} (hb : b < 32) : bit ((s.setInt p b).reg p Reg.PG_INT) b = true := by
  rw [setInt, orReg, reg_setReg_same]
  exact bit_or_bitWord _ hb

end State

/-- Settles O18: a value within the range is stored as the write of its cycle, another one sets the error bit. -/
theorem periodWriteIsRanged : Obligations.PeriodWriteIsRanged := by
  intro s req v htakes
  refine ⟨fun hin => ?_, fun hout => ?_⟩
  · refine ⟨s.periodWrite v, congrArg Host.Outcome.next (State.ifAdmit_of_takes htakes _), ?_⟩
    have heq : s.periodWrite v
        = (s.setStep { s.step with written := some (s.elapsed, s.reloadValue) }).setReg Page.stp Reg.STP_PERIOD v := if_pos hin
    refine ⟨?_, ?_, State.reloadValue_periodWrite hin, ?_, ?_⟩
    · rw [heq, State.reg_setReg_same]
    · rw [heq]; rfl
    · rw [heq]
      exact State.only_setReg (State.only_setStep (State.only_refl s _) (by simp) _) (by simp) _ _ _
    · rw [heq]
      exact State.regsBut_setReg (State.regsBut_refl s _) (by decide) (by simp) v
  · refine ⟨s.setErr Page.stp 0, congrArg Host.Outcome.next ((State.ifAdmit_of_takes htakes _).trans (if_neg (by omega))), ?_⟩
    exact ⟨s.reg_setReg_other _ (by decide), State.bit_setErr (by decide),
      State.only_setReg (State.only_refl s _) (by simp) _ _ _, State.regsBut_setReg (State.regsBut_refl s _) (by decide) (by simp) _⟩

/-- Settles O22: FENCE puts the requester on the list of fences, a listed one is held, and FENCE_COMPLETE takes it off once
its writes are done. -/
theorem fenceOrders : Obligations.FenceOrders := by
  intro s req
  have honly : ∀ x, s.only (s.setStep x) [.step] := State.only_setStep (State.only_refl s _) (by simp)
  refine ⟨fun htakes => ?_, fun hfenced p off v hp ho ha => ?_, fun hclock hdone => ?_, fun hwaits => ?_⟩
  · refine ⟨s.fenceWrite req, congrArg Host.Outcome.next (State.ifAdmitWo_of_takesWo htakes _), ?_⟩
    rw [State.fenceWrite_step]
    refine ⟨?_, honly _, fun r hr => ?_⟩
    · by_cases h : req ∈ s.step.fences <;> simp [h]
    · by_cases h : req ∈ s.step.fences <;> simp [h, hr]
  · exact ⟨_, exec_registerWrite_regAddr hp ho ha, State.write32_of_refused (State.admitWith_of_fenced hfenced)⟩
  · refine ⟨_, if_pos (by simp [hclock, hdone]), ?_, honly _, fun r hr => ?_⟩
    · simp
    · simp [hr]
  · exact ⟨s, if_neg (by simp [hwaits]), rfl⟩

end Sys2Proof.Machine
end

section
/-! # Statements about the tick and the timer that fail -/
namespace Sys2Proof.Machine
open Sys2Proof

/-- What a statement says of the next state holds of the state that the command leads to. -/
theorem State.after_of_does {s : State} {c : Instr} {p : State → Prop} (h : s.does c p) : p (after s (exec c s)) := by
  obtain ⟨t, ht, hp⟩ := h
  rw [ht]
  exact hp

/-- A chip out of reset whose step timer runs, in step 5. -/
def stepFive : State := (State.reset.setReg Page.stp Reg.PG_CTRL 1).setReg Page.stp Reg.STP_COUNT 5

/-- A posted write of a gate that waits in region 0, with every bit set that a gate write stores. -/
def State.withGatePost (s : State) (page off : Nat) : State :=
  { s with fabric := { s.fabric with posts := [(0, .gate (page * 4096 + off) 0xF8000000)] } }

/-! ### The tick writes memory -/

/-- Step 5 is closed and its timer at zero; array 0, whose completion queue has 4 places, still works on a step program of step
0, and owns bank 0, which is powered and holds its data. -/
def lateProgram : State :=
  let s := (stepFive.setReg (Page.bank 0) Reg.TAR_OWNER_ACK 1).setReg (Page.plt 0) Reg.PLT_CQ_SIZE 4
  { s with
    step := { s.step with summited := true }
    tarn := { s.tarn with banks := [(0, { power := 2, lost := false })] }
    plts := [(0, { job := some { ring := false, index := 0, words := [], step := 0, tick := 0, id := 1 } })] }

/-- Refutes O15: the tick ends a step program that is two steps late, and its completion record goes to memory. -/
theorem not_tickBeginsOrHolds : ¬ Obligations.TickBeginsOrHolds := by
  intro h
  obtain ⟨hbegins, -, -⟩ := h lateProgram (by decide +kernel)
  obtain ⟨-, -, -, -, -, -, -, honly⟩ := State.after_of_does (hbegins (by decide +kernel) (by decide +kernel)
    (by decide +kernel) (by decide +kernel) (by decide +kernel) (by decide +kernel))
  have hmem : (after lateProgram (exec .tick lateProgram)).mem ≠ lateProgram.mem := by decide +kernel
  exact hmem (honly .mem (by decide))

/-! ### A tick packet that finds no link -/

/-- The chip is the tick master and has a child at port 0, whose link is not up. -/
def childUnlinked : State :=
  (stepFive.setReg Page.stp Reg.STP_TICK_SRC 0x100).setReg Page.sum Reg.SUM_CHILD_MASK 1

/-- Refutes O19: a tick packet that the port to a child may not carry is dropped, and the port counts it (R383), in a
register. -/
theorem not_tickSources : ¬ Obligations.TickSources := by
  intro h
  obtain ⟨hsend, -⟩ := h childUnlinked (by decide +kernel)
  obtain ⟨-, -, honly⟩ := State.after_of_does (hsend (by decide +kernel) (by decide +kernel) (by decide +kernel)
    (by decide +kernel))
  have hregs : (after childUnlinked (exec .tickPacketSend childUnlinked)).regs ≠ childUnlinked.regs := by decide +kernel
  exact hregs (honly .regs (by decide))

/-! ### Posted writes to the step page -/

namespace State

/-- Nothing waits for a summit in the cells. -/
structure CellsSettled (s : State) : Prop where
  posts : s.cells.posts = []
  queues : s.cells.qreq = []
  seeds : s.cells.seeds = []

variable {s : State}

theorem applyCellPosts_of_cellsSettled (h : s.CellsSettled) (c : Nat) : s.applyCellPosts c = s := by
  have hs : { s with cells := { s.cells with posts := [] } } = s := by rw [← h.posts]
  simp [applyCellPosts, postsOf, h.posts, hs]

theorem applyQueues_of_cellsSettled (h : s.CellsSettled) (c : Nat) : s.applyQueues c = s := by
  have hs : { s with cells := { s.cells with qreq := [] } } = s := by rw [← h.queues]
  simp [applyQueues, h.queues, hs]

theorem applySeed_of_cellsSettled (h : s.CellsSettled) (page : Nat) : s.applySeed page = s := by
  simp [applySeed, h.seeds, Store.find]

/-- What a stop of the timer applies before it comes to the cells. -/
def applyPostedTables (s : State) : State :=
  let s := s.applyRules.encSummit.trvSwapSummit.flushSummit
  let s := (List.range 16).foldl (fun s i => s.swapSummit (0x20 + i)) s
  let s := (List.range 9).foldl (fun s r => s.applyRoutes r) s
  let s := (List.range 8).foldl (fun s r => s.applySyn r) s
  (List.range 128).foldl (fun s b => s.swapSummit (Page.block b + 2)) s

/-- Where nothing waits in the cells, a stop of the timer applies what waits in the tables alone. -/
theorem applyPosted_of_cellsSettled (h : s.applyPostedTables.CellsSettled) :
    s.applyPosted = s.applyPostedTables.setStep { s.applyPostedTables.step with posters := [] } := by
  have hcells : ∀ l : List Nat, l.foldl (fun s c => (s.applyCellPosts c).applyQueues c) s.applyPostedTables
      = s.applyPostedTables := fun l =>
    List.foldlRecOn (motive := (· = s.applyPostedTables)) _ _ rfl fun t ht c _ => by
      rw [ht, applyCellPosts_of_cellsSettled h, applyQueues_of_cellsSettled h]
  have hseeds := h.seeds
  unfold applyPosted
  unfold applyPostedTables at hcells hseeds ⊢
  simp only [hcells, hseeds, List.foldl_nil]

/-- A timer that runs is stopped before anything that waits is applied. -/
def stopped (s : State) : State :=
  let s := s.stopTimer
  s.setStep { s.step with heldTick := false, heldEdge := false, leadDue := none, flywheel := none, leadSent := false }

/-- STEP_TIMER_STOP by an admitted requester while the timer runs. -/
theorem exec_stepTimerStop_of_takes {r : Requester} (htakes : s.takes r Page.stp Reg.PG_CTRL) (hrun : s.running = true) :
    exec (.stepTimerStop r) s = .next s.stopped.applyPosted := by
  have hoff : s.timerOff = s.stopped.applyPosted := by simp [timerOff, stopped, hrun]
  exact congrArg Host.Outcome.next ((ifAdmit_of_takes htakes _).trans hoff)

/-- The step number after a stop of the timer, where nothing waits in the cells, is the one that the tables leave. -/
theorem stepNo_after_stepTimerStop {r : Requester} (htakes : s.takes r Page.stp Reg.PG_CTRL) (hrun : s.running = true)
    (hsettled : s.stopped.applyPostedTables.CellsSettled) :
    (after s (exec (.stepTimerStop r) s)).stepNo = s.stopped.applyPostedTables.stepNo := by
  rw [exec_stepTimerStop_of_takes htakes hrun, applyPosted_of_cellsSettled hsettled]
  rfl

end State

/-- Step 5, with a posted gate write that names `STP_COUNT`. -/
def countPosted : State := stepFive.withGatePost Page.stp Reg.STP_COUNT

/-- Refutes O17: nothing in the statement keeps the key of a posted gate write that waits within the gate windows, and one that
names `STP_COUNT` takes effect as the timer stops. -/
theorem not_timerStartsAndStops : ¬ Obligations.TimerStartsAndStops := by
  intro h
  have hrun : countPosted.running = true := by decide +kernel
  have htakes : countPosted.takes ⟨.rfg 0, true⟩ Page.stp Reg.PG_CTRL := by
    unfold State.takes
    decide +kernel
  have hsettled : countPosted.stopped.applyPostedTables.CellsSettled :=
    ⟨by decide +kernel, by decide +kernel, by decide +kernel⟩
  obtain ⟨-, -, hstep, -⟩ := State.after_of_does ((h countPosted ⟨.rfg 0, true⟩ htakes).2 hrun)
  have hcount : countPosted.stopped.applyPostedTables.stepNo ≠ countPosted.stepNo := by decide +kernel
  exact hcount ((State.stepNo_after_stepTimerStop htakes hrun hsettled).symm.trans hstep)

end Sys2Proof.Machine
end

section
/-! # A forced summit with a posted write to the step page -/
namespace Sys2Proof.Machine
open Sys2Proof
namespace State

variable {s : State}

/-- A forced summit up to its last regions. -/
def forcedRegions (s : State) : State :=
  let s := (s.orReg Page.stp Reg.STP_STAT (bitWord 8)).setStep { s.step with summited := true, relStep := s.stepNo }
  let s := (s.agePasses.chipPosted.seSummit s.stepNo true).tmrSource 17
  (List.range 8).foldl (fun s r => ((s.gatesSummit r).regionTimes r true).regionPosted r) s

/-- A forced summit after its regions: the blocks, of which no poster is left. -/
def forcedBlocks (s : State) : State :=
  let s := (List.range 128).foldl (fun s b => s.blockPosted b) s
  s.setStep { s.step with posters := [] }

theorem forcedSummit_eq (s : State) : s.forcedSummit = s.forcedRegions.forcedBlocks := rfl

/-- What a tick does once the open step `n` is closed by a forced summit. -/
def beginAfterForced (s : State) (n period : Nat) : State :=
  if s.running = false then s else
  let s := if s.policy = 1 then s.setInt Page.stp 3 else s
  let s := if s.reg64 Page.stp Reg.STP_TICK_NS = 0 then s else s.noteSlack.noteLength period
  let s := if s.tickMaster && !s.step.leadSent then s.sendTick s.elapsed (n + 1) none else s
  let s := ((s.setReg64 Page.stp Reg.STP_COUNT (n + 1)).setReg64 Page.stp Reg.STP_TICK_NS s.elapsed).setInt Page.stp 0
  ((List.range 4).foldl (fun s k => s.pltLate k) s).beginStep

theorem doTick_of_stepOpen (h : s.stepOpen = true) (period : Nat) :
    s.doTick period = s.countOverrun.forcedRegions.forcedBlocks.beginAfterForced s.stepNo period := by
  simp only [doTick, h, forcedSummit_eq, beginAfterForced, Bool.true_or, if_true, true_and]

/-- The state with other counts of saturation windows. -/
def withWindows (s : State) (w : Store Nat) : State := { s with cells := { s.cells with satWin := w } }

/-- No register of a cell's page holds a value of its own. -/
def CellPagesUnset (s : State) : Prop := ∀ e ∈ s.regs, e.1 < Page.cell 0 * 4096

theorem pageKind_cell {c : Nat} (hc : c < 2048) : pageKind (Page.cell c) = .cel := by
  have hin : 0x100000 ≤ Page.cell c ∧ Page.cell c < 0x100800 := by simp only [Page.cell]; omega
  have habove : ∀ n, n ≤ 0x22240 → ¬ Page.cell c < n := by omega
  simp [pageKind, habove, hin]

/-- The counts of a saturation window reset to zero on a cell's page. -/
theorem regDefault_satCnt {c n : Nat} (hc : c < 2048) (hn : n < 8) :
    regDefault (Page.cell c * 4096 + (Reg.SAT_CNTn + 4 * n)) = 0 := by
  have hrow : ∀ n, n < 8 → (match regRowsCel.find? (fun r => r.covers (Reg.SAT_CNTn + 4 * n)) with
      | some r => BitVec.ofNat 32 r.reset
      | none => 0) = (0 : W32) := by decide
  have hp : (Page.cell c * 4096 + (Reg.SAT_CNTn + 4 * n)) / 4096 = Page.cell c := by simp only [Reg.SAT_CNTn]; omega
  have ho : (Page.cell c * 4096 + (Reg.SAT_CNTn + 4 * n)) % 4096 = Reg.SAT_CNTn + 4 * n := by simp only [Reg.SAT_CNTn]; omega
  have hlow : ¬ Reg.SAT_CNTn + 4 * n < 0x40 := by simp only [Reg.SAT_CNTn]; omega
  rw [regDefault, hp, ho, pageReset, if_neg hlow, regRow, pageKind_cell hc]
  exact hrow n hn

/-- A new window of a cell whose page holds no value of its own changes only the count of its steps. -/
theorem newWindow_of_cellPagesUnset (h : s.CellPagesUnset) {c : Nat} (hc : c < 2048) :
    s.newWindow (Page.cell c) = s.withWindows (setNum s.cells.satWin (Page.cell c) 0) := by
  have hset : ∀ n, n < 8 → s.setReg (Page.cell c) (Reg.SAT_CNTn + 4 * n) 0 = s := by
    intro n hn
    have herase : Store.erase s.regs (Page.cell c * 4096 + (Reg.SAT_CNTn + 4 * n)) = s.regs :=
      List.filter_eq_self.mpr fun e he => by
        have := h e he
        simp only [Page.cell] at this ⊢
        simp only [bne_iff_ne]
        omega
    simp only [setReg, Store.set, regDefault_satCnt hc hn, if_true, herase]
  have hfold : (List.range 8).foldl (fun s n => s.setReg (Page.cell c) (Reg.SAT_CNTn + 4 * n) 0) s = s :=
    List.foldlRecOn (motive := (· = s)) _ _ rfl fun t ht n hn => by
      rw [ht, hset n (List.mem_range.mp hn)]
  simp only [newWindow, hfold, withWindows]

theorem windowSummit_of_cellPagesUnset (h : s.CellPagesUnset) {c : Nat} (hc : c < 2048) :
    ∃ w, s.windowSummit (Page.cell c) = s.withWindows w := by
  unfold windowSummit
  dsimp only
  split
  · exact ⟨_, newWindow_of_cellPagesUnset h hc⟩
  · exact ⟨_, rfl⟩

/-- Nothing waits for a summit in the blocks. -/
structure BlocksSettled (s : State) : Prop where
  cells : s.CellsSettled
  unset : s.CellPagesUnset
  swaps : ∀ b, b < 128 → bit (s.reg (Page.block b + 2) Reg.FAB_SWAP) 0 = false
  migrations : s.fault.migrations = []

theorem BlocksSettled.withWindows (h : s.BlocksSettled) (w : Store Nat) : (s.withWindows w).BlocksSettled :=
  ⟨⟨h.cells.posts, h.cells.queues, h.cells.seeds⟩, h.unset, h.swaps, h.migrations⟩

/-- Where nothing waits in the blocks, a summit only counts the saturation windows of a block's cells. -/
theorem blockPosted_of_blocksSettled (h : s.BlocksSettled) {b : Nat} (hb : b < 128) :
    ∃ w, s.blockPosted b = s.withWindows w := by
  obtain ⟨w, hw⟩ : ∃ w, (blockCells b).foldl
      (fun s c => ((s.applyCellPosts c).applyQueues c).numericSummit (Page.cell c)) s = s.withWindows w :=
    List.foldlRecOn (motive := fun t => ∃ w, t = s.withWindows w) _ _ ⟨_, rfl⟩ fun t ht c hc => by
      obtain ⟨w, rfl⟩ := ht
      have hs := h.withWindows w
      have hc : c < 2048 := by
        obtain ⟨i, hi, rfl⟩ := List.mem_map.mp hc
        have := List.mem_range.mp hi
        omega
      obtain ⟨v, hv⟩ := windowSummit_of_cellPagesUnset hs.unset hc
      refine ⟨v, ?_⟩
      rw [applyCellPosts_of_cellsSettled hs.cells, applyQueues_of_cellsSettled hs.cells, numericSummit, hv,
        applySeed_of_cellsSettled (hs.withWindows v).cells]
      rfl
  have hs := h.withWindows w
  have hnone : ∀ t : State, t.fault.migrations = [] → t.setMigrations [] = t := fun t ht => by
    rw [← ht]; rfl
  refine ⟨w, ?_⟩
  simp only [blockPosted, hw, swapSummit, hs.swaps b hb, hs.migrations, List.map_nil, hnone _ hs.migrations,
    Bool.false_eq_true, if_false]

/-- Where nothing waits in the blocks, a forced summit changes there only the counts of the saturation windows. -/
theorem forcedBlocks_of_blocksSettled (h : s.BlocksSettled) :
    s.forcedBlocks = (s.withWindows s.forcedBlocks.cells.satWin).setStep { s.step with posters := [] } := by
  obtain ⟨w, hw⟩ : ∃ w, (List.range 128).foldl (fun s b => s.blockPosted b) s = s.withWindows w :=
    List.foldlRecOn (motive := fun t => ∃ w, t = s.withWindows w) _ _ ⟨_, rfl⟩ fun t ht b hb => by
      obtain ⟨w, rfl⟩ := ht
      obtain ⟨v, hv⟩ := blockPosted_of_blocksSettled (h.withWindows w) (List.mem_range.mp hb)
      exact ⟨v, hv⟩
  have hall : s.forcedBlocks = (s.withWindows w).setStep { s.step with posters := [] } := by
    unfold forcedBlocks
    rw [hw]
    rfl
  rw [hall]
  rfl

/-- TICK at a chip that raises its own ticks, with its timer at zero and the step open, under DEFER or SHED, where nothing
waits in the blocks. -/
theorem after_tick_of_blocksSettled (hticking : s.ticking = true) (hzero : s.step.remaining = 0)
    (hsource : s.countWatchdog.tickSource = 0) (hpolicy : s.countWatchdog.policy ≠ 2)
    (hopen : s.countWatchdog.reload.stepOpen = true) {t : State} (ht : s.countWatchdog.reload.countOverrun.forcedRegions = t)
    (hsettled : t.BlocksSettled) :
    after s (exec .tick s)
      = ((t.withWindows t.forcedBlocks.cells.satWin).setStep { t.step with posters := [] }).beginAfterForced
      s.countWatchdog.reload.stepNo (s.countWatchdog.reg Page.stp Reg.STP_PERIOD_ACT).toNat := by
  have hexec : exec .tick s = .next (s.countWatchdog.reload.countOverrun.forcedRegions.forcedBlocks.beginAfterForced
      s.countWatchdog.reload.stepNo (s.countWatchdog.reg Page.stp Reg.STP_PERIOD_ACT).toNat) := by
    change execTick s = _
    simp only [execTick, hticking, hzero, hsource, hpolicy, tickNow, doTick_of_stepOpen hopen, Bool.true_eq_false, ne_eq,
      not_true_eq_false, or_self, if_false, if_true, false_and]
  have hnext : ∀ u, after s (.next u) = u := fun _ => rfl
  rw [hexec, hnext, ht]
  conv_lhs => rw [forcedBlocks_of_blocksSettled hsettled]

end State

/-- Step 5 is open, with a posted gate write that names `STP_OVERRUNS`. -/
def overrunPosted : State := stepFive.withGatePost Page.stp Reg.STP_OVERRUNS

/-- The forced summit of that step, before its blocks. -/
def overrunRegions : State := overrunPosted.countWatchdog.reload.countOverrun.forcedRegions

theorem overrunRegions_blocksSettled : overrunRegions.BlocksSettled := by
  have h : overrunRegions.cells.posts = [] ∧ overrunRegions.cells.qreq = [] ∧ overrunRegions.cells.seeds = []
      ∧ (∀ e ∈ overrunRegions.regs, e.1 < Page.cell 0 * 4096)
      ∧ (∀ b, b < 128 → bit (overrunRegions.reg (Page.block b + 2) Reg.FAB_SWAP) 0 = false)
      ∧ overrunRegions.fault.migrations = [] := by decide +kernel
  obtain ⟨hposts, hqueues, hseeds, hunset, hswaps, hmigrations⟩ := h
  exact ⟨⟨hposts, hqueues, hseeds⟩, hunset, hswaps, hmigrations⟩

/-- The tick as it ends; the counts of the windows are not read. -/
theorem overruns_after_tick : (after overrunPosted (exec .tick overrunPosted)).reg Page.stp Reg.STP_OVERRUNS = 0xF8000001 := by
  rw [State.after_tick_of_blocksSettled (by decide +kernel) (by decide +kernel) (by decide +kernel) (by decide +kernel)
    (by decide +kernel) overrunRegions.eq_def.symm overrunRegions_blocksSettled]
  decide +kernel

/-- Refutes O16: nothing in the statement keeps the key of a posted gate write that waits within the gate windows, and one that
names `STP_OVERRUNS` takes effect in the forced summit, after the overrun is counted. -/
theorem not_overrunForcesTheSummit : ¬ Obligations.OverrunForcesTheSummit := by
  intro h
  obtain ⟨-, -, hcount, -⟩ := State.after_of_does (h overrunPosted (by decide +kernel) (by decide +kernel) (by decide +kernel)
    (by decide +kernel) (by decide +kernel) (by decide +kernel))
  rw [overruns_after_tick] at hcount
  revert hcount
  decide +kernel

end Sys2Proof.Machine
end

section
/-! # What an operation leaves unchanged -/
namespace Sys2Proof.Machine
open Sys2Proof

/-! ### Parts -/

namespace State.only

variable {s t u : State} {l : List Part}

theorem trans {m : List Part} (h : s.only t l) (ht : t.only u m) (hm : ∀ x, x ∈ m → x ∈ l := by decide) : s.only u l := by
  intro x hx
  have hs := h x hx
  have hu := ht x fun hxm => hx (hm x hxm)
  cases x with
  | read => exact ⟨hu.1.trans hs.1, hu.2.trans hs.2⟩
  | halves => exact ⟨hu.1.trans hs.1, hu.2.trans hs.2⟩
  | _ => exact hu.trans hs

theorem branch {c : Prop} [Decidable c] (ht : s.only t l) (hu : s.only u l) : s.only (if c then t else u) l := by
  by_cases hc : c <;> simpa [hc]

/-- A fold keeps what every step of it keeps. -/
theorem foldl {α : Type} {f : State → α → State} {xs : List α} (h : s.only t l)
    (hf : ∀ {u a}, a ∈ xs → s.only u l → s.only (f u a) l) : s.only (xs.foldl f t) l :=
  List.foldlRecOn (motive := fun u => s.only u l) _ _ h fun _ hu _ ha => hf ha hu

variable (h : s.only t l)
include h

/-- A change of one listed part keeps the others. -/
theorem change (p : Part) (hu : ∀ x, x ≠ p → x.same t u) (hl : p ∈ l) : s.only u l :=
  h.trans (m := [p]) (fun x hx => hu x (by simpa using hx)) (by simpa using hl)

theorem fabric {x : FabricState} (hl : Part.fabric ∈ l := by decide) : s.only { t with fabric := x } l :=
  h.change .fabric (fun y hy => by cases y <;> simp_all [Part.same]) hl

theorem step {x : StepState} (hl : Part.step ∈ l := by decide) : s.only { t with step := x } l :=
  h.change .step (fun y hy => by cases y <;> simp_all [Part.same]) hl

theorem cells {x : CellsState} (hl : Part.cells ∈ l := by decide) : s.only { t with cells := x } l :=
  h.change .cells (fun y hy => by cases y <;> simp_all [Part.same]) hl

theorem fault {x : FaultState} (hl : Part.fault ∈ l := by decide) : s.only { t with fault := x } l :=
  h.change .fault (fun y hy => by cases y <;> simp_all [Part.same]) hl

theorem trv {x : TrvState} (hl : Part.trv ∈ l := by decide) : s.only { t with trv := x } l :=
  h.change .trv (fun y hy => by cases y <;> simp_all [Part.same]) hl

theorem setReg {p off : Nat} {v : W32} (hl : Part.regs ∈ l := by decide) : s.only (t.setReg p off v) l :=
  only_setReg h hl p off v

section
variable {p off b n : Nat}

theorem orReg {m : W32} (hl : Part.regs ∈ l := by decide) : s.only (t.orReg p off m) l := h.setReg hl
theorem clrReg {m : W32} (hl : Part.regs ∈ l := by decide) : s.only (t.clrReg p off m) l := h.setReg hl
theorem setFld {hi lo x : Nat} (hl : Part.regs ∈ l := by decide) : s.only (t.setFld p off hi lo x) l := h.setReg hl
theorem setReg64 (hl : Part.regs ∈ l := by decide) : s.only (t.setReg64 p off n) l := (h.setReg hl).setReg hl
theorem count (hl : Part.regs ∈ l := by decide) : s.only (t.count p off n) l := h.setReg hl
theorem setInt (hl : Part.regs ∈ l := by decide) : s.only (t.setInt p b) l := h.orReg hl
theorem setErr (hl : Part.regs ∈ l := by decide) : s.only (t.setErr p b) l := h.orReg hl

theorem countInt (hl : Part.regs ∈ l := by decide) : s.only (t.countInt p off b n) l :=
  .branch h ((h.count hl).setInt hl)

theorem record {r : ErrRecord} (hl : Part.regs ∈ l := by decide) (hf : Part.fault ∈ l := by decide) :
    s.only (t.record r) l :=
  .branch (h.fault hf) (h.count hl)

theorem detect {r : ErrRecord} (hl : Part.regs ∈ l := by decide) (hf : Part.fault ∈ l := by decide) :
    s.only (t.detect p b r) l :=
  .branch ((h.setErr hl).record hl hf) (h.setErr hl)

theorem consumed {unit par : Nat} (hl : Part.step ∈ l := by decide) : s.only (t.consumed unit par) l := h.step hl

end

end State.only

/-! ### Registers -/

namespace State

variable {s : State} {p off o b : Nat}

/-- A write of a register leaves the other registers of its page. -/
theorem reg_setReg_off {v : W32} (h : o ≠ off) : (s.setReg p off v).reg p o = s.reg p o :=
  s.reg_setReg_other v (by omega)

/-- A write of a register leaves the registers of the other pages. -/
theorem reg_setReg_page {q : Nat} {v : W32} (h : q ≠ p) (ho : o < 4096) (hoff : off < 4096) :
    (s.setReg p off v).reg q o = s.reg q o :=
  s.reg_setReg_other v (by omega)

theorem reg_countInt_same (h : off ≠ Reg.PG_INT) :
    ((s.countInt p off b 1).reg p off).toNat = min 0xFFFFFFFF ((s.reg p off).toNat + 1) := by
  have heq : (s.countInt p off b 1).reg p off = (s.count p off 1).reg p off := reg_setReg_off h
  rw [heq, s.count_reg]

/-- An error record touches no register outside the chip page. -/
theorem reg_record {r : ErrRecord} (hp : 0 < p) (ho : o < 4096) : (s.record r).reg p o = s.reg p o := by
  unfold record
  split
  · rfl
  · exact reg_setReg_page hp.ne' ho (by decide)

theorem bit_detect {r : ErrRecord} (hp : 0 < p) (hb : b < 32) : bit ((s.detect p b r).reg p Reg.PG_ERR) b = true := by
  unfold detect
  dsimp only
  split
  · rw [reg_record hp (by decide)]
    exact bit_setErr hb
  · exact bit_setErr hb

theorem reg_detect {r : ErrRecord} (hp : 0 < p) (ho : o < 4096) (hne : o ≠ Reg.PG_ERR) :
    (s.detect p b r).reg p o = s.reg p o := by
  have herr : (s.setErr p b).reg p o = s.reg p o := reg_setReg_off hne
  unfold detect
  dsimp only
  split
  · rw [reg_record hp ho, herr]
  · exact herr

@[simp] theorem fabric_setReg {v : W32} : (s.setReg p off v).fabric = s.fabric := rfl
@[simp] theorem fabric_countInt {n : Nat} : (s.countInt p off b n).fabric = s.fabric := by unfold countInt; split <;> rfl
@[simp] theorem fabric_record {r : ErrRecord} : (s.record r).fabric = s.fabric := by unfold record; split <;> rfl
@[simp] theorem fabric_detect {r : ErrRecord} : (s.detect p b r).fabric = s.fabric := by
  unfold detect; dsimp only; split <;> simp [setErr, orReg]

@[simp] theorem step_setReg {v : W32} : (s.setReg p off v).step = s.step := rfl
@[simp] theorem step_countInt {n : Nat} : (s.countInt p off b n).step = s.step := by unfold countInt; split <;> rfl
@[simp] theorem step_record {r : ErrRecord} : (s.record r).step = s.step := by unfold record; split <;> rfl
@[simp] theorem step_detect {r : ErrRecord} : (s.detect p b r).step = s.step := by
  unfold detect; dsimp only; split <;> simp [setErr, orReg]

end State

theorem regsBut_count {s t : State} {l : List (Nat × Nat)} (h : s.regsBut t l) {p off n : Nat} (ho : off < 4096)
    (hl : (p, off) ∈ l) : s.regsBut (t.count p off n) l :=
  State.regsBut_setReg h ho hl _

/-! ### Stores of numbers -/

theorem numAt_setNum_same (m : Store Nat) (k n : Nat) : numAt (setNum m k n) k = n := by
  simp [numAt, setNum]

theorem numAt_addNum_same (m : Store Nat) (k n : Nat) : numAt (addNum m k n) k = numAt m k + n :=
  numAt_setNum_same _ _ _

end Sys2Proof.Machine
end

section
/-! # Routers -/
namespace Sys2Proof.Machine
open Sys2Proof

namespace State

variable {s : State}

/-! ### Receiving -/

section
variable {router : Fin 272} {port : Fin 13} {f : Flit}
variable (hfind : s.fabric.links.find? (fun f => f.router == router.val && f.port == port.val) = some f)
  (hruns : s.runs (routerDomain router) = true) (hroom : s.bufCount router port f.pkt.vc < bufPlaces f.pkt.vc)
include hfind hruns hroom

theorem exec_packetReceive_of_checks (hok : f.pkt.headerOk = true) :
    exec (.packetReceive router port true) s = .next ((s.setLinks (eraseFirst f s.fabric.links)).acceptFlit f) := by
  change execPacketReceive router port true s = _
  simp [execPacketReceive, hfind, hruns, hok, Nat.not_le.mpr hroom]

theorem exec_packetReceive_of_retry (htries : f.tries = 0) :
    exec (.packetReceive router port false) s
      = .next ((s.setLinks (replaceFirst f { f with tries := 1 } s.fabric.links)).countInt
          (routerPage f.fromRouter) Reg.FAB_RETRY 0 1) := by
  change execPacketReceive router port false s = _
  simp [execPacketReceive, hfind, hruns, htries, Nat.not_le.mpr hroom]

/-- The error of a packet whose check fails a second time (R209). -/
def headerError (page : Nat) : ErrRecord :=
  { level := 2, cls := 2, esc := false, inj := false, code := 0x0305, unit := pageId page, addr := page }

theorem exec_packetReceive_of_drop (htries : f.tries ≠ 0) :
    exec (.packetReceive router port false) s
      = .next ((((s.setLinks (eraseFirst f s.fabric.links)).countInt (routerPage router) Reg.FAB_DROP_HDR 1 1).detect
          (routerPage router) 2 (headerError (routerPage router))).dropAt router f.pkt) := by
  change execPacketReceive router port false s = _
  simp [execPacketReceive, hfind, hruns, htries, Nat.not_le.mpr hroom, headerError]

end

theorem reg_dropAt {x : Nat} {k : Packet} {p off : Nat} : (s.dropAt x k).reg p off = s.reg p off := rfl

/-- A well-formed packet of the open step for this chip enters the buffer as it is. -/
theorem acceptFlit_of_local {f : Flit} (hform : malformed f.pkt = false) (hchip : f.pkt.chip = s.chipId)
    (hstep : s.stepOfPar f.pkt.par f.pkt.late = s.stepNo) (hyoung : s.tooOld s.stepNo = false) :
    s.acceptFlit f = s.setBufs (s.fabric.bufs ++ [{ f with tries := 0, wait := 0 }]) := by
  simp [acceptFlit, hform, hchip, hstep, hyoung]

end State

theorem length_replaceFirst {α : Type} [DecidableEq α] (x y : α) (l : List α) : (replaceFirst x y l).length = l.length := by
  induction l with
  | nil => rfl
  | cons a l ih =>
    unfold replaceFirst
    split <;> simp [ih]

theorem routerPage_pos (x : Nat) : 0 < routerPage x := by
  unfold routerPage Page.block
  split <;> omega

/-! ### Slot frames and starvation -/

/-- A packet as one more slot frame of router x has passed (R218). -/
def Flit.waitedAt (x : Nat) (f : Flit) : Flit := if f.router == x then { f with wait := f.wait + 1 } else f

theorem Flit.waitedAt_of_eq {x : Nat} {f : Flit} (h : f.router = x) : f.waitedAt x = { f with wait := f.wait + 1 } := by
  simp [waitedAt, h]

theorem Flit.waitedAt_of_ne {x : Nat} {f : Flit} (h : f.router ≠ x) : f.waitedAt x = f := by
  simp [waitedAt, h]

theorem Flit.pkt_waitedAt (x : Nat) (f : Flit) : (f.waitedAt x).pkt = f.pkt := by
  unfold waitedAt
  split <;> rfl

namespace State

variable {s : State}

theorem exec_slotFrameEnd_of_runs {router : Fin 272} (h : s.runs (routerDomain router) = true) :
    ∃ waits : Bool, exec (.slotFrameEnd router) s = .next
      (if waits then (s.setBufs (s.fabric.bufs.map (Flit.waitedAt router))).count (routerPage router) Reg.FAB_BACKLOG 1
        else s.setBufs (s.fabric.bufs.map (Flit.waitedAt router))) := by
  refine ⟨s.fabric.bufs.any (fun f => f.router == router.val && (f.pkt.vc == 1 || f.pkt.vc == 2)), ?_⟩
  change execSlotFrameEnd router s = _
  simp only [execSlotFrameEnd, h, Bool.true_eq_false, if_false]
  rfl

/-- The error of a packet that has waited too long for an output (R217). -/
def starvedError (page out : Nat) : ErrRecord :=
  { level := 2, cls := 2, esc := false, inj := false, code := 0x0306, unit := pageId page, addr := page + out * 2 ^ 24 }

theorem exec_starvation_of_waiting {router : Fin 272} {f : Flit} (hf : f ∈ s.fabric.bufs) (hr : f.router = router.val)
    (hvc : f.pkt.vc = 1) (hwait : max 1 (s.regFld (routerPage router) Reg.FAB_STARVE 15 0) ≤ f.wait)
    (hruns : s.runs (routerDomain router) = true) :
    ∃ out, exec (.starvation router) s = .next ((s.setFld (routerPage router) Reg.FAB_STARVE_PORT 3 0 out).detect
      (routerPage router) 1 (starvedError (routerPage router) out)) := by
  obtain ⟨g, hg⟩ := Option.isSome_iff_exists.mp (List.find?_isSome (p := fun g : Flit => g.router == router.val
    && (g.pkt.vc == 1 || g.pkt.vc == 2) && decide (max 1 (s.regFld (routerPage router) Reg.FAB_STARVE 15 0) ≤ g.wait))
    |>.mpr ⟨f, hf, by simpa [hr, hvc] using hwait⟩)
  refine ⟨(s.outPort g).getD 0, ?_⟩
  change execStarvation router s = _
  simp only [execStarvation, hg, hruns, Bool.true_eq_false, if_false]
  rfl

/-! ### Swaps of the slot tables -/

/-- Words copied within a page to places outside the source. -/
theorem reg_copyWords {p src dst n k : Nat} (hk : k < n) (h : ∀ i j, i < n → j < n → dst + 4 * i ≠ src + 4 * j) :
    (s.copyWords p src dst n).reg p (dst + 4 * k) = s.reg p (src + 4 * k) := by
  have hprefix : ∀ m, m ≤ n →
      (∀ j, j < n → (s.copyWords p src dst m).reg p (src + 4 * j) = s.reg p (src + 4 * j))
      ∧ ∀ i, i < m → (s.copyWords p src dst m).reg p (dst + 4 * i) = s.reg p (src + 4 * i) := by
    intro m hm
    induction m with
    | zero => exact ⟨fun _ _ => rfl, fun _ hi => absurd hi (Nat.not_lt_zero _)⟩
    | succ m ih =>
      obtain ⟨hsrc, hdst⟩ := ih (by omega)
      have hlast : s.copyWords p src dst (m + 1) = (s.copyWords p src dst m).setReg p (dst + 4 * m)
          ((s.copyWords p src dst m).reg p (src + 4 * m)) := by
        simp only [copyWords, List.range_succ, List.foldl_append, List.foldl_cons, List.foldl_nil]
      rw [hlast]
      refine ⟨fun j hj => ?_, fun i hi => ?_⟩
      · rw [reg_setReg_off (h m j (by omega) hj).symm, hsrc j hj]
      · by_cases him : i = m
        · rw [him, reg_setReg_same, hsrc m (by omega)]
        · rw [reg_setReg_off (by omega), hdst i (by omega)]
  exact (hprefix n le_rfl).2 k hk

theorem reg_copyWords_other {p src dst n o : Nat} (h : ∀ i, i < n → o ≠ dst + 4 * i) :
    (s.copyWords p src dst n).reg p o = s.reg p o :=
  List.foldlRecOn (motive := fun t : State => t.reg p o = s.reg p o) _ _ rfl fun t ht i hi => by
    rw [reg_setReg_off (h i (List.mem_range.mp hi)), ht]

theorem only.copyWords {t : State} {l : List Part} (h : s.only t l) {p src dst n : Nat}
    (hl : Part.regs ∈ l := by decide) : s.only (t.copyWords p src dst n) l :=
  h.foldl fun _ h => h.setReg hl

theorem only.doSwap {t : State} {l : List Part} (h : s.only t l) {p : Nat} (hl : Part.regs ∈ l := by decide) :
    s.only (t.doSwap p) l :=
  only.setReg (.branch ((h.copyWords hl).copyWords hl) (h.copyWords hl)) hl

/-- After a swap every word of the slot tables is its shadow. -/
theorem reg_doSwap_table {p k : Nat} (hk : k < 384) :
    (s.doSwap p).reg p (Reg.FAB_TABLE + 4 * k) = s.reg p (Reg.FAB_SHADOW + 4 * k) := by
  have hcopy := reg_copyWords (s := s) (p := p) (src := Reg.FAB_SHADOW) (dst := Reg.FAB_TABLE) hk
    (by simp only [Reg.FAB_SHADOW, Reg.FAB_TABLE]; omega)
  have hswap : Reg.FAB_TABLE + 4 * k ≠ Reg.FAB_SWAP := by simp only [Reg.FAB_TABLE, Reg.FAB_SWAP]; omega
  have hlocal : ∀ i, i < 16 → Reg.FAB_TABLE + 4 * k ≠ Reg.FAB_LOCAL + 4 * i := by
    simp only [Reg.FAB_TABLE, Reg.FAB_LOCAL]; omega
  rw [doSwap, reg_setReg_off hswap]
  split
  · rw [reg_copyWords_other hlocal, hcopy]
  · exact hcopy

theorem exec_fabSwap_of_takes {r : Requester} {page : Nat} (hkind : pageKind page = .fabBlock ∨ pageKind page = .fabNode)
    (htakes : s.takes r page Reg.FAB_SWAP) :
    exec (.fabSwap r page) s = .next (if s.swapOk page = false then s.setErr page 0
      else if s.running = false then s.doSwap page else s.setReg page Reg.FAB_SWAP 1) := by
  change execFabSwap r page s = _
  rw [execFabSwap, if_pos hkind, ifAdmit_of_takes htakes]

/-- Every register of a fabric page is one of 32 bits. -/
theorem half_of_fabPage {page off : Nat} {row : RegRow} (hkind : pageKind page = .fabBlock ∨ pageKind page = .fabNode)
    (hrow : regRow page off = some row) : row.half = .single := by
  have hblock : ∀ row ∈ regRowsFabBlock, row.half = .single := by decide
  have hnode : ∀ row ∈ regRowsFabNode, row.half = .single := by decide
  have hmem := List.mem_of_find?_eq_some hrow
  rcases hkind with hk | hk
  · rw [hk] at hmem
    exact hblock row hmem
  · rw [hk] at hmem
    exact hnode row hmem

/-- While a swap is requested, a write to a word of the shadow tables acts as nothing (R216). -/
theorem writeActs_of_swapBars {r : Requester} {page off : Nat} {v : W32}
    (hkind : pageKind page = .fabBlock ∨ pageKind page = .fabNode) (hswap : off ≠ Reg.FAB_SWAP)
    (hbars : s.swapBars page off = true) : s.writeActs r page off v = some s := by
  have hnumeric : numericPage page = false := by rcases hkind with hk | hk <;> simp [numericPage, hk]
  have hcell : pageKind page ≠ .cel := by rcases hkind with hk | hk <;> simp [hk]
  have hchip : s.writeChip r page off v = none := by rcases hkind with hk | hk <;> simp [writeChip, hk]
  have hstep : s.writeStep r page off v = none := by rcases hkind with hk | hk <;> simp [writeStep, hk, hswap]
  have hunit : s.writeUnit r page off v = none := by rcases hkind with hk | hk <;> simp [writeUnit, hk]
  simp [writeActs, hnumeric, hcell, hchip, hstep, hunit, hbars]

theorem write32_of_swapBars {r : Requester} {page off : Nat} {v : W32}
    (hkind : pageKind page = .fabBlock ∨ pageKind page = .fabNode) (htakes : s.takes r page off)
    (hlow : Reg.FAB_SHADOW ≤ off) (hbars : s.swapBars page off = true) : s.write32 r page off v = s := by
  have hwindow : (pageKind page).window = false := by rcases hkind with hk | hk <;> simp [hk, PageKind.window]
  have hoff : ¬ off < 0x40 := by simp only [Reg.FAB_SHADOW] at hlow; omega
  have hacts := writeActs_of_swapBars (r := r) (v := v) hkind (by simp only [Reg.FAB_SHADOW, Reg.FAB_SWAP] at *; omega) hbars
  simp only [write32, hwindow, hoff, Bool.false_eq_true, if_false]
  split
  · rw [(admitWith_of_takes htakes).1]
  · next row hrow =>
    rw [half_of_fabPage hkind hrow]
    simp only [ifAdmitWord_of_takes htakes, writeReg, hacts, Option.getD_some]

theorem swapBars_of_shadow {page off : Nat} (hkind : pageKind page = .fabBlock ∨ pageKind page = .fabNode)
    (hswap : bit (s.reg page Reg.FAB_SWAP) 0 = true) (hlow : Reg.FAB_SHADOW ≤ off) (hhigh : off < Reg.FAB_TABLE) :
    s.swapBars page off = true := by
  rcases hkind with hk | hk <;> simp [swapBars, hk, hswap, hlow, hhigh]

/-! ### Forwarding -/

theorem exec_packetForward_of_own {router : Fin 272} {out : Fin 12} {slot : Fin 64} {f : Flit} {n : Nat × Nat}
    (hruns : s.runs (routerDomain router) = true) (hchoice : s.slotChoice router out slot = some (f, false))
    (hnext : nextRouter router out = some n) :
    exec (.packetForward router out slot) s = .next
      (let t := (s.setBufs (eraseFirst f s.fabric.bufs)).count (routerPage router) Reg.FAB_PKTS 1
       let u := t.setFld (routerPage router) Reg.FAB_WAIT_MAX 15 0
         (min 65535 (max (t.regFld (routerPage router) Reg.FAB_WAIT_MAX 15 0) f.wait))
       u.setLinks (u.fabric.links ++ [{ f with router := n.1, port := n.2, fromRouter := router, fromPort := f.port }])) := by
  change execPacketForward router out slot s = _
  simp [execPacketForward, hruns, hchoice, sendOn, hnext]

end State

/-- Settles O33, by the equation of each command in the case that the statement names. -/
theorem routersMovePackets : Obligations.RoutersMovePackets := by
  intro s
  refine ⟨fun router port ok f hfind hruns hroom => ⟨?accept, ?retry, ?drop⟩,
    fun router out slot f n hruns hchoice hnext => ?forward, fun router hruns => ?frame,
    fun router f hf hr hvc hwait hruns => ?starve, fun req page hkind htakes => ⟨?refuse, ?wait, ?swap⟩,
    fun req page off v hp hkind hswap hlow hhigh ha htakes => ?bar⟩
  case accept =>
    rintro rfl hok hform hchip hstep hyoung
    refine ⟨_, State.exec_packetReceive_of_checks hfind hruns hroom hok, ?_⟩
    rw [State.acceptFlit_of_local (s := s.setLinks (eraseFirst f s.fabric.links)) hform hchip hstep hyoung]
    exact ⟨rfl, rfl, State.only.fabric (State.only_refl s _)⟩
  case retry =>
    rintro rfl htries
    refine ⟨_, State.exec_packetReceive_of_retry hfind hruns hroom htries, ?_, ?_, ?_, ?_⟩
    · simp [State.setLinks, length_replaceFirst]
    · simp [State.setLinks]
    · exact State.reg_countInt_same (by decide)
    · exact State.only.countInt (State.only.fabric (State.only_refl s _))
  case drop =>
    rintro rfl htries
    refine ⟨_, State.exec_packetReceive_of_drop hfind hruns hroom htries, ?_, ?_, ?_, ?_, ?_, ?_⟩
    · simp [State.dropAt, State.consumed, State.setLinks]
    · simp [State.dropAt, State.consumed, State.setLinks]
    · exact State.bit_detect (routerPage_pos _) (by decide)
    · rw [State.dropAt, State.consumed, numAt_addNum_same]
      simp [State.setLinks]
    · rw [State.reg_dropAt, State.reg_detect (routerPage_pos _) (by decide) (by decide), State.reg_countInt_same (by decide)]
      rfl
    · exact (State.only.detect (State.only.countInt (State.only.fabric (State.only_refl s _)))).consumed
  case forward =>
    refine ⟨_, State.exec_packetForward_of_own hruns hchoice hnext, rfl, rfl, ?_, ?_⟩
    · refine Eq.trans (congrArg BitVec.toNat ?_) (State.count_reg (s.setBufs (eraseFirst f s.fabric.bufs)) _ _ _)
      exact State.reg_setReg_off (by decide)
    · exact State.only.fabric (State.only.setFld (State.only.count (State.only.fabric (State.only_refl s _))))
  case frame =>
    obtain ⟨waits, hexec⟩ := State.exec_slotFrameEnd_of_runs hruns
    refine ⟨_, hexec, ?_⟩
    have hpkts : (s.fabric.bufs.map (Flit.waitedAt router)).map (·.pkt) = s.fabric.bufs.map (·.pkt) := by
      rw [List.map_map]
      exact List.map_congr_left fun f _ => f.pkt_waitedAt router
    have hhere : ∀ f ∈ s.fabric.bufs, f.router = router.val →
        { f with wait := f.wait + 1 } ∈ s.fabric.bufs.map (Flit.waitedAt router) :=
      fun f hf hr => List.mem_map.mpr ⟨f, hf, Flit.waitedAt_of_eq hr⟩
    have hthere : ∀ f ∈ s.fabric.bufs, f.router ≠ router.val → f ∈ s.fabric.bufs.map (Flit.waitedAt router) :=
      fun f hf hr => List.mem_map.mpr ⟨f, hf, Flit.waitedAt_of_ne hr⟩
    have honly : s.only (s.setBufs (s.fabric.bufs.map (Flit.waitedAt router))) [.fabric, .regs] :=
      State.only.fabric (State.only_refl s _)
    cases waits with
    | false => exact ⟨hpkts, hhere, hthere, honly, State.regsBut_refl s _⟩
    | true => exact ⟨hpkts, hhere, hthere, honly.count, regsBut_count (State.regsBut_refl s _) (by decide) (by simp)⟩
  case starve =>
    obtain ⟨out, hexec⟩ := State.exec_starvation_of_waiting hf hr hvc hwait hruns
    exact ⟨_, hexec, State.bit_detect (routerPage_pos _) (by decide), State.fabric_detect,
      State.only.detect (State.only.setFld (State.only_refl s _))⟩
  case refuse =>
    intro hok
    refine ⟨_, State.exec_fabSwap_of_takes hkind htakes, ?_⟩
    rw [if_pos hok]
    exact ⟨State.bit_setErr (by decide), (State.only_refl s _).setErr,
      State.regsBut_setReg (State.regsBut_refl s _) (by decide) (by simp) _⟩
  case wait =>
    intro hok hrun
    refine ⟨_, State.exec_fabSwap_of_takes hkind htakes, ?_⟩
    rw [if_neg (by simp [hok]), if_neg (by simp [hrun])]
    exact ⟨s.reg_setReg_same _ _ _, (State.only_refl s _).setReg,
      State.regsBut_setReg (State.regsBut_refl s _) (by decide) (by simp) _⟩
  case swap =>
    intro hok hrun
    refine ⟨_, State.exec_fabSwap_of_takes hkind htakes, ?_⟩
    rw [if_neg (by simp [hok]), if_pos hrun]
    exact ⟨fun k hk => State.reg_doSwap_table hk, State.reg_setReg_same _ _ _ _, (State.only_refl s _).doSwap⟩
  case bar =>
    exact ⟨_, exec_registerWrite_regAddr hp (by simp only [Reg.FAB_TABLE] at hhigh; omega) ha,
      State.write32_of_swapBars hkind htakes hlow (State.swapBars_of_shadow hkind hswap hlow hhigh)⟩

end Sys2Proof.Machine
end

section
/-! # Packets -/
namespace Sys2Proof.Machine
open Sys2Proof

/-! ### The header (R203, R204) -/

theorem crc8Byte_lt (c x : Nat) : crc8Byte c x < 256 := by
  have hlast : crc8Byte c x = (fun c => if c ≥ 128 then ((c * 2) % 256) ^^^ 0x07 else c * 2)
      ((List.range 7).foldl (fun c _ => if c ≥ 128 then ((c * 2) % 256) ^^^ 0x07 else c * 2) (c ^^^ x)) := by
    rw [crc8Byte, List.range_succ, List.foldl_append]
    rfl
  rw [hlast]
  dsimp only
  split
  · exact Nat.xor_lt_two_pow (n := 8) (Nat.mod_lt _ (by decide)) (by decide)
  · omega

/-- The header as a number: its fields above its check. -/
theorem toNat_header (ty chip vc count par : Nat) (late : Bool) : ∃ check < 256,
    (header ty chip vc count par late).toNat = ty % 16 * 2 ^ 28 + chip % 4096 * 2 ^ 16 + vc % 4 * 2 ^ 14 + count % 8 * 2 ^ 11
      + par % 4 * 2 ^ 9 + (if late then 256 else 0) + check := by
  obtain ⟨x, hx⟩ : ∃ x, ty % 16 * 2 ^ 28 + chip % 4096 * 2 ^ 16 + vc % 4 * 2 ^ 14 + count % 8 * 2 ^ 11
      + par % 4 * 2 ^ 9 + (if late then 256 else 0) = 2 ^ 8 * x :=
    ⟨ty % 16 * 2 ^ 20 + chip % 4096 * 2 ^ 8 + vc % 4 * 2 ^ 6 + count % 8 * 2 ^ 3 + par % 4 * 2 + (if late then 1 else 0), by
      split <;> omega⟩
  have hlt : 2 ^ 8 * x < 2 ^ 32 := by rw [← hx]; split <;> omega
  have hcheck : hchk (BitVec.ofNat 32 (2 ^ 8 * x)) < 256 := crc8Byte_lt _ _
  refine ⟨_, hcheck, ?_⟩
  unfold header
  dsimp only
  rw [hx, BitVec.toNat_or, BitVec.toNat_ofNat, BitVec.toNat_ofNat, Nat.mod_eq_of_lt hlt, Nat.mod_eq_of_lt (by omega),
    Nat.two_pow_add_eq_or_of_lt hcheck]

section
variable (ty chip vc count par : Nat) (late : Bool)

theorem ty_header : fld (header ty chip vc count par late) 31 28 = ty % 16 := by
  obtain ⟨check, hlt, h⟩ := toNat_header ty chip vc count par late
  rw [fld, bitsOf, h, Nat.shiftRight_eq_div_pow]
  split <;> omega

theorem chip_header : fld (header ty chip vc count par late) 27 16 = chip % 4096 := by
  obtain ⟨check, hlt, h⟩ := toNat_header ty chip vc count par late
  rw [fld, bitsOf, h, Nat.shiftRight_eq_div_pow]
  split <;> omega

theorem vc_header : fld (header ty chip vc count par late) 15 14 = vc % 4 := by
  obtain ⟨check, hlt, h⟩ := toNat_header ty chip vc count par late
  rw [fld, bitsOf, h, Nat.shiftRight_eq_div_pow]
  split <;> omega

theorem count_header : fld (header ty chip vc count par late) 13 11 = count % 8 := by
  obtain ⟨check, hlt, h⟩ := toNat_header ty chip vc count par late
  rw [fld, bitsOf, h, Nat.shiftRight_eq_div_pow]
  split <;> omega

theorem par_header : fld (header ty chip vc count par late) 10 9 = par % 4 := by
  obtain ⟨check, hlt, h⟩ := toNat_header ty chip vc count par late
  rw [fld, bitsOf, h, Nat.shiftRight_eq_div_pow]
  split <;> omega

theorem late_header : bit (header ty chip vc count par late) 8 = late := by
  obtain ⟨check, hlt, h⟩ := toNat_header ty chip vc count par late
  rw [bit, ← BitVec.testBit_toNat, h, Nat.testBit_eq_decide_div_mod_eq]
  cases late <;> simp <;> omega

variable (payload : List W32)

@[simp] theorem Packet.ty_mkPacket : (mkPacket ty chip vc par late payload).ty = ty % 16 := ty_header ..
@[simp] theorem Packet.chip_mkPacket : (mkPacket ty chip vc par late payload).chip = chip % 4096 := chip_header ..
@[simp] theorem Packet.vc_mkPacket : (mkPacket ty chip vc par late payload).vc = vc % 4 := vc_header ..
@[simp] theorem Packet.count_mkPacket : (mkPacket ty chip vc par late payload).count = payload.length % 8 := count_header ..
@[simp] theorem Packet.par_mkPacket : (mkPacket ty chip vc par late payload).par = par % 4 := par_header ..
@[simp] theorem Packet.late_mkPacket : (mkPacket ty chip vc par late payload).late = late := late_header ..
@[simp] theorem Packet.word_mkPacket (i : Nat) :
    (mkPacket ty chip vc par late payload).word (i + 1) = payload.getD i 0 := rfl

end

theorem fld_lt (v : W32) (hi lo : Nat) : fld v hi lo < 2 ^ (hi + 1 - lo) := Nat.mod_lt _ (Nat.two_pow_pos _)

end Sys2Proof.Machine
end

section
/-! # Route tables and route engines -/
namespace Sys2Proof.Machine
open Sys2Proof

/-! ### Registers of the step page -/

namespace State

variable {s : State} {p off : Nat} {v : W32}

theorem stepNo_setReg (hp : p ≠ Page.stp) (ho : off < 4096) : (s.setReg p off v).stepNo = s.stepNo := by
  simp only [stepNo, reg64, reg_setReg_page hp.symm (by decide : Reg.STP_COUNT < 4096) ho,
    reg_setReg_page hp.symm (by decide : Reg.STP_COUNT + 4 < 4096) ho]

theorem regFld_setReg_page {q o hi lo : Nat} (h : q ≠ p) (ho : o < 4096) (hoff : off < 4096) :
    (s.setReg p off v).regFld q o hi lo = s.regFld q o hi lo := by
  rw [regFld, reg_setReg_page h ho hoff, regFld]

theorem policy_setReg (hp : p ≠ Page.stp) (ho : off < 4096) : (s.setReg p off v).policy = s.policy := by
  simp only [policy, regFld_setReg_page hp.symm (by decide : Reg.STP_POLICY < 4096) ho]

theorem tooOld_setReg (hp : p ≠ Page.stp) (ho : off < 4096) (n : Nat) : (s.setReg p off v).tooOld n = s.tooOld n := by
  simp only [tooOld, policy_setReg hp ho, stepNo_setReg hp ho,
    regFld_setReg_page hp.symm (by decide : Reg.STP_DEFER_MAX < 4096) ho]

end State

theorem region_ne_stp (r k : Nat) : Page.region r + k ≠ Page.stp := by
  simp only [Page.region, Page.stp]
  omega

/-! ### Posted writes -/

namespace State

variable {s : State}

theorem postRoute_of_room {r : Nat} (hrun : s.running = true) (hroom : s.routePosts r < 256) (q : RoutePost) :
    s.postRoute r [q] = (true, { s with fabric := { s.fabric with posts := s.fabric.posts ++ [(r, q)] } }) := by
  simp [postRoute, hrun, Nat.not_lt.mpr (Nat.succ_le_of_lt hroom)]

theorem postRoute_of_full {r : Nat} (hrun : s.running = true) (hfull : 256 ≤ s.routePosts r) (q : RoutePost) :
    s.postRoute r [q] = (false, s.setErr (if r = 8 then Page.rteChip else Page.region r + 0x08) 0) := by
  simp [postRoute, hrun, Nat.lt_succ_of_le hfull]

theorem postRoute_of_stopped {r : Nat} (hrun : s.running = false) (q : RoutePost) :
    s.postRoute r [q] = (true, s.applyRoutePost q) := by
  simp [postRoute, hrun]

/-- A posted write makes its requester a poster. -/
theorem mem_posters_posted (s : State) (r : Requester) : r ∈ (s.posted r).step.posters := by
  unfold posted
  by_cases h : r ∈ s.step.posters <;> simp [h]

theorem fabric_posted (s : State) (r : Requester) : (s.posted r).fabric = s.fabric := by
  unfold posted
  split <;> rfl

theorem only.posted {t : State} {l : List Part} (h : s.only t l) {r : Requester} (hl : Part.step ∈ l := by decide) :
    s.only (t.posted r) l :=
  .branch h (h.step hl)

theorem exec_routeTableWrite_of_takes {r : Requester} {page off : Nat} {v : W32} (hw : postedWindow page = true)
    (ha : off % 4 = 0) (ho : off < 4096) (htakes : s.takes r page off) :
    exec (.routeTableWrite r page off v) s = .next (s.windowWrite r page off v) := by
  change execRouteTableWrite r page off v s = _
  simp [execRouteTableWrite, hw, ha, ho, ifAdmit_of_takes htakes]

theorem windowWrite_of_room {r : Requester} {page off : Nat} {v : W32} (ho : off < 4096) (hrun : s.running = true)
    (hroom : s.routePosts (windowRegion page) < 256) :
    s.windowWrite r page off v
      = State.posted { s with fabric := { s.fabric with
          posts := s.fabric.posts ++ [(windowRegion page, .word (page * 4096 + off) v)] } } r := by
  simp [windowWrite, postRoute_of_room hrun hroom, hrun, Nat.mod_eq_of_lt ho]

theorem windowWrite_of_full {r : Requester} {page off : Nat} {v : W32} (hrun : s.running = true)
    (hfull : 256 ≤ s.routePosts (windowRegion page)) :
    s.windowWrite r page off v
      = s.setErr (if windowRegion page = 8 then Page.rteChip else Page.region (windowRegion page) + 0x08) 0 := by
  simp [windowWrite, postRoute_of_full hrun hfull]

theorem windowWrite_of_stopped {r : Requester} {page off : Nat} {v : W32} (ho : off < 4096) (hrun : s.running = false) :
    s.windowWrite r page off v = s.applyRoutePost (.word (page * 4096 + off) v) := by
  simp [windowWrite, postRoute_of_stopped hrun, hrun, Nat.mod_eq_of_lt ho]

/-- A posted word changes its own register, and may put an entry back on the free list. -/
theorem applyRoutePost_word {page off : Nat} (v : W32) (ho : off < 4096) : ∃ taken,
    s.applyRoutePost (.word (page * 4096 + off) v)
      = { s.setReg page off
            ((s.reg page off &&& ~~~ windowMask s.grade page off) ||| (v &&& windowMask s.grade page off)) with
          fabric := { s.fabric with taken := taken } } := by
  have hpage : (page * 4096 + off) / 4096 = page := by omega
  have hoff : (page * 4096 + off) % 4096 = off := by omega
  simp only [applyRoutePost, setWindowWord, hpage, hoff]
  split
  · exact ⟨_, rfl⟩
  · exact ⟨s.fabric.taken, rfl⟩

theorem exec_rteRelease_of_room {r : Requester} {region : Fin 8} {v : W32}
    (htakes : s.takes r (Page.region region + 0x08) Reg.RTE_RELEASE) (hrun : s.running = true)
    (hroom : s.routePosts region < 256) :
    exec (.rteRelease r region v) s = .next (State.posted { s with fabric := { s.fabric with
      posts := s.fabric.posts ++ [(region.val, .release region (fld v 17 0))] } } r) := by
  change execRteRelease r region v s = _
  simp [execRteRelease, ifAdmit_of_takes htakes, postRoute_of_room hrun hroom, hrun]

/-! ### The free list -/

/-- A route entry taken off its free list. -/
def takenRoute (s : State) (r i : Nat) : State :=
  { s with fabric := { s.fabric with taken := setIns s.fabric.taken (r * 2 ^ 18 + i) } }

end State

theorem mem_setIns {l : List Nat} {x y : Nat} : y ∈ setIns l x ↔ y = x ∨ y ∈ l := by
  induction l with
  | nil => simp [setIns]
  | cons a l ih =>
    unfold setIns
    split_ifs with hlt heq
    · simp
    · simp [heq]
    · simp only [List.mem_cons, ih]
      tauto

namespace State

variable {s : State}

/-- Taking an entry takes it, and no other one, off the free list. -/
theorem routeFree_takenRoute (r i j : Nat) :
    (s.takenRoute r i).routeFree r j = (s.routeFree r j && decide (j ≠ i)) := by
  have htaken : (s.takenRoute r i).fabric.taken.contains (r * 2 ^ 18 + j)
      = (decide (j = i) || s.fabric.taken.contains (r * 2 ^ 18 + j)) := by
    rw [Bool.eq_iff_iff]
    simp [takenRoute, mem_setIns]
  have hvalid : (s.takenRoute r i).routeValid r j = s.routeValid r j := rfl
  have hposts : (s.takenRoute r i).fabric.posts = s.fabric.posts := rfl
  unfold routeFree
  rw [htaken, hvalid, hposts]
  by_cases hji : j = i <;> simp [hji]

theorem lt_of_routeFree {r i : Nat} (h : s.routeFree r i = true) : i < 262144 := by
  simp only [routeFree, Bool.and_eq_true, decide_eq_true_eq] at h
  exact h.1.1.1

theorem exec_rteAlloc_of_free {r : Requester} {region : Fin 8} {pick : Nat}
    (hread : s.mayRead r (Page.region region + 0x08) Reg.RTE_ALLOC = true) (hfree : s.routeFree region pick = true) :
    exec (.rteAlloc r region pick) s = .next ((s.takenRoute region pick).answer pick false) := by
  change execRteAlloc r region pick s = _
  simp [execRteAlloc, hread, takeRoute, hfree, takenRoute]

theorem exec_rteAlloc_of_none {r : Requester} {region : Fin 8} {pick : Nat}
    (hread : s.mayRead r (Page.region region + 0x08) Reg.RTE_ALLOC = true)
    (hnone : ∀ i, i < 262144 → s.routeFree region i = false) :
    exec (.rteAlloc r region pick) s = .next ((s.setInt (Page.region region + 0x08) 1).answer 0x80000000 false) := by
  have hpick : ¬ s.routeFree region pick = true := fun h => by simp [hnone pick (lt_of_routeFree h)] at h
  have hlowest : s.lowestFree region = none := by
    rw [lowestFree, List.find?_eq_none]
    intro i hi
    have := List.mem_range.mp hi
    simp [hnone i (by omega)]
  change execRteAlloc r region pick s = _
  simp [execRteAlloc, hread, takeRoute, hpick, hlowest]

/-! ### Spike records -/

/-- The chain that a spike record becomes (R222). -/
def recordChain (r : Nat) (k : Spike) : Chain :=
  { region := r, next := k.first, left := k.count, graded := k.graded, off := k.off, step := k.step }

/-- A spike record leaves its queue and is counted in its region. -/
def takeSpike (s : State) (r : Nat) (k : Spike) : State :=
  State.count { s with fabric := { s.fabric with spikes := eraseFirst k s.fabric.spikes } }
    (Page.region r + 0x08) Reg.RTE_SPIKES 1

theorem exec_spikeRecordTake_of_room {region : Fin 8} {k : Spike}
    (hfind : s.fabric.spikes.find? (fun k => k.cell / 256 == region.val) = some k) (hruns : s.runs (3 + region) = true)
    (hroom : (s.chainsOf region).length < 4) :
    exec (.spikeRecordTake region) s = .next (if k.count = 0 then s.takeSpike region k
      else (s.takeSpike region k).setChains (s.fabric.chains ++ [recordChain region k])) := by
  change execSpikeRecordTake region s = _
  simp only [execSpikeRecordTake, hfind, hruns, hroom, decide_true, Bool.and_self, if_true]
  split <;> rfl

/-! ### Route entries -/

/-- A chain that holds no packet under assembly flushes nothing. -/
theorem flushChain_of_empty {c : Chain} (h : c.words = []) : s.flushChain c = s := by
  simp [flushChain, h]

/-- An entry of a binary event begins a packet of one event word (R224). -/
theorem followEntry_of_empty {c : Chain} {w0 w1 : W32} (hwords : c.words = []) (hgraded : c.graded = none)
    (hyoung : s.tooOld c.step = false) :
    s.followEntry c w0 w1
      = ({ c with chip := fld w1 29 18,
                  block := fld (BitVec.ofNat 32 ((fld w1 17 0 * 4 + fld w0 31 30) * 4096 + fld w0 29 18)) 31 25,
                  binary := true,
                  words := [BitVec.ofNat 32 ((fld w1 17 0 * 4 + fld w0 31 30) * 4096 + fld w0 29 18)] },
         s.count (Page.region c.region + 0x08) Reg.RTE_EVENTS 1) := by
  have hyoung' : (s.count (Page.region c.region + 0x08) Reg.RTE_EVENTS 1).tooOld c.step = false :=
    (tooOld_setReg (region_ne_stp _ _) (by decide) _).trans hyoung
  simp [followEntry, entryWords, hgraded, hyoung', hwords, flushChain_of_empty hwords]

theorem region_of_chainsOf {r i : Nat} {c : Chain} (h : (s.chainsOf r)[i]? = some c) : c.region = r := by
  have hmem := List.mem_of_getElem? h
  simpa using (List.mem_filter.mp hmem).2

section
variable {region : Fin 8} {chain : Fin 4} {c : Chain}
variable (hchain : (s.chainsOf region)[chain.val]? = some c) (hruns : s.runs (3 + region) = true) (hwords : c.words = [])
include hchain hruns hwords

theorem exec_routeEntryFollow_of_invalid (hvalid : bit (s.routeWord region c.next 2) 31 = false) :
    exec (.routeEntryFollow region chain) s = .next ((s.setChains (eraseFirst c s.fabric.chains)).countInt
      (Page.region region + 0x08) Reg.RTE_CHAIN_ERR 0 1) := by
  change execRouteEntryFollow region chain s = _
  simp [execRouteEntryFollow, hchain, hruns, hvalid, flushChain_of_empty hwords]

/-- The chain after an entry that was not followed. -/
def passed (s : State) (region : Nat) (c : Chain) : Chain :=
  { c with next := fld (s.routeWord region c.next 2) 15 0 * 4 + fld (s.routeWord region c.next 1) 31 30, left := c.left - 1 }

theorem exec_routeEntryFollow_of_gated (hvalid : bit (s.routeWord region c.next 2) 31 = true)
    (halt : fld (s.routeWord region c.next 2) 30 28 ≠ 0)
    (hgate : fld (s.routeWord region c.next 2) 30 28
      ≠ s.regFld (gateKey region (fld (s.routeWord region c.next 2) 27 16)).1
          (gateKey region (fld (s.routeWord region c.next 2) 27 16)).2 2 0) :
    exec (.routeEntryFollow region chain) s = .next
      ((s.count (Page.region region + 0x08) Reg.RTE_GATED 1).setChains
        (if c.left ≤ 1 then eraseFirst c s.fabric.chains else replaceFirst c (s.passed region c) s.fabric.chains)) := by
  change execRouteEntryFollow region chain s = _
  by_cases hleft : c.left ≤ 1
  · simp [execRouteEntryFollow, hchain, hruns, hvalid, halt, hgate, hleft, flushChain_of_empty, hwords, State.count]
  · simp [execRouteEntryFollow, hchain, hruns, hvalid, halt, hgate, hleft, passed, State.count]

/-- The event word of a binary entry (R224). -/
def entryWord (s : State) (region : Nat) (c : Chain) : W32 :=
  BitVec.ofNat 32 ((fld (s.routeWord region c.next 1) 17 0 * 4 + fld (s.routeWord region c.next 0) 31 30) * 4096
    + fld (s.routeWord region c.next 0) 29 18)

theorem exec_routeEntryFollow_of_last (hvalid : bit (s.routeWord region c.next 2) 31 = true)
    (halt : fld (s.routeWord region c.next 2) 30 28 = 0) (hleft : c.left = 1) (hgraded : c.graded = none)
    (hyoung : s.tooOld c.step = false) :
    ∃ late, exec (.routeEntryFollow region chain) s = .next
      (((s.count (Page.region region + 0x08) Reg.RTE_EVENTS 1).setChains (eraseFirst c s.fabric.chains)).inject
        (128 + region) (128 + region) 12
        (mkPacket 1 (fld (s.routeWord region c.next 1) 29 18) 1 c.step late [s.entryWord region c])) := by
  refine ⟨decide (c.step < (s.count (Page.region region + 0x08) Reg.RTE_EVENTS 1).stepNo), ?_⟩
  change execRouteEntryFollow region chain s = _
  simp only [execRouteEntryFollow, hchain, hruns, hvalid, halt, hleft, followEntry_of_empty hwords hgraded hyoung,
    region_of_chainsOf hchain, Bool.true_eq_false, if_false, le_refl, if_true, beq_self_eq_true, Bool.true_or]
  rfl

end

end State

/-- Settles O34, by the equation of each command in the case that the statement names. -/
theorem routeTablesAndEngines : Obligations.RouteTablesAndEngines := by
  intro s
  refine ⟨fun req page off v hw ha ho htakes => ⟨?room, ?full, ?stopped⟩, fun req region pick hread => ⟨?free, ?none⟩,
    fun req region v htakes hrun hroom => ?release, fun region k hfind hruns hroom => ?record,
    fun region chain c hchain hruns hwords => ⟨?invalid, ?last, ?gated, ?passed⟩⟩
  case room =>
    intro hrun hroom
    refine ⟨_, State.exec_routeTableWrite_of_takes hw ha ho htakes, ?_⟩
    rw [State.windowWrite_of_room ho hrun hroom]
    exact ⟨by rw [State.fabric_posted], State.mem_posters_posted _ _, (State.only.fabric (State.only_refl s _)).posted⟩
  case full =>
    intro hrun hfull
    refine ⟨_, State.exec_routeTableWrite_of_takes hw ha ho htakes, ?_⟩
    rw [State.windowWrite_of_full hrun hfull]
    exact ⟨State.bit_setErr (by decide), (State.only_refl s _).setErr,
      State.regsBut_setReg (State.regsBut_refl s _) (by decide) (by simp) _⟩
  case stopped =>
    intro hrun
    obtain ⟨taken, heq⟩ := s.applyRoutePost_word (page := page) v ho
    refine ⟨_, State.exec_routeTableWrite_of_takes hw ha ho htakes, ?_⟩
    rw [State.windowWrite_of_stopped ho hrun, heq]
    exact ⟨s.reg_setReg_same _ _ _, ((State.only_refl s _).setReg).fabric,
      State.regsBut_setReg (State.regsBut_refl s _) ho (by simp) _⟩
  case free =>
    intro hfree
    refine ⟨_, State.exec_rteAlloc_of_free hread hfree, rfl, ?_, ?_, ?_⟩
    · change (s.takenRoute region pick).routeFree region pick = false
      simp [State.routeFree_takenRoute]
    · intro i _ hi
      change (s.takenRoute region pick).routeFree region i = _
      simp [State.routeFree_takenRoute, hi]
    · exact State.only_answer (State.only.fabric (State.only_refl s _)) (by decide) _ _
  case none =>
    intro hnone
    exact ⟨_, State.exec_rteAlloc_of_none hread hnone, rfl, State.bit_setInt (by decide),
      State.only_answer ((State.only_refl s _).setInt) (by decide) _ _⟩
  case release =>
    exact ⟨_, State.exec_rteRelease_of_room htakes hrun hroom, by rw [State.fabric_posted], State.mem_posters_posted _ _,
      (State.only.fabric (State.only_refl s _)).posted⟩
  case record =>
    refine ⟨_, State.exec_spikeRecordTake_of_room hfind hruns hroom, ?_⟩
    have honly : s.only (s.takeSpike region k) [.fabric, .regs] := State.only.count (State.only.fabric (State.only_refl s _))
    have hregs : s.regsBut (s.takeSpike region k) [(Page.region region + 0x08, Reg.RTE_SPIKES)] :=
      regsBut_count (State.regsBut_refl s _) (by decide) (by simp)
    split
    · next hk => exact ⟨rfl, rfl, fun _ => rfl, fun h => absurd hk h, honly, hregs⟩
    · next hk => exact ⟨rfl, rfl, fun h => absurd h hk, fun _ => ⟨_, rfl, rfl, rfl, rfl, rfl, rfl⟩, honly.fabric, hregs⟩
  case invalid =>
    intro hvalid
    refine ⟨_, State.exec_routeEntryFollow_of_invalid hchain hruns hwords hvalid, ?_, ?_, ?_, ?_⟩
    · simp [State.setChains]
    · simp [State.setChains]
    · exact State.reg_countInt_same (by decide)
    · exact State.only.countInt (State.only.fabric (State.only_refl s _))
  case last =>
    intro hvalid halt hleft hgraded hyoung
    obtain ⟨late, hexec⟩ := State.exec_routeEntryFollow_of_last hchain hruns hwords hvalid halt hleft hgraded hyoung
    refine ⟨_, hexec, rfl, ⟨_, rfl, rfl, ?_⟩, ?_⟩
    · exact ⟨by simp, by simp, by simpa using fld_lt _ 29 18, by simp, rfl⟩
    · exact State.only.step (State.only.fabric (State.only.fabric (State.only.count (State.only_refl s _))))
  case gated =>
    intro hvalid halt hgate hleft
    refine ⟨_, State.exec_routeEntryFollow_of_gated hchain hruns hwords hvalid halt hgate, ?_⟩
    rw [if_pos hleft.le]
    exact ⟨rfl, rfl, s.count_reg _ _ _, State.only.fabric (State.only.count (State.only_refl s _))⟩
  case passed =>
    intro hvalid halt hgate hleft
    refine ⟨_, State.exec_routeEntryFollow_of_gated hchain hruns hwords hvalid halt hgate, ?_⟩
    rw [if_neg (Nat.not_le.mpr hleft)]
    exact ⟨rfl, rfl, s.count_reg _ _ _, State.only.fabric (State.only.count (State.only_refl s _))⟩

end Sys2Proof.Machine
end

section
/-! # Events on their way into queues -/
namespace Sys2Proof.Machine
open Sys2Proof

namespace State

variable {s : State}

/-- The first event of an event packet of type 1 alone: its word, its step and its type are the packet's. -/
theorem splitPacket_event {p : Packet} (hty : p.ty = 1) :
    (splitPacket p).1.ty = 1 ∧ (splitPacket p).1.word 1 = p.word 1 ∧ (splitPacket p).1.par = p.par
      ∧ (splitPacket p).1.late = p.late := by
  have hone : (splitPacket p).1 = mkPacket p.ty p.chip p.vc p.par p.late ((p.words.drop 1).take 1) := by
    simp [splitPacket, hty]
  have hpar : p.par < 4 := fld_lt _ 10 9
  rw [hone]
  refine ⟨by simp [hty], ?_, by simp [Nat.mod_eq_of_lt hpar], by simp⟩
  rw [Packet.word_mkPacket]
  cases hw : p.words with
  | nil => simp [Packet.word, hw]
  | cons a l => cases l <;> simp [Packet.word, hw]

/-- A block that hands over a packet opens no other. -/
theorem openPacket_of_opened {b : Nat} {p : Packet} {rest : List (Nat × Packet)} (hopen : s.fabric.opened = (b, p) :: rest)
    (hevent : p.isEvent = true) : s.openPacket b = s := by
  simp [openPacket, hopen, hevent]

/-- An event that is not too old, for a cell in service that is not fenced, is judged at its queue (R128). -/
theorem arriveEvent_of_served {b : Nat} {p : Packet} (hty : p.ty = 1) (hyoung : s.tooOld (s.stepOfPar p.par p.late) = false)
    (hserved : s.offline (eventCell (p.word 1)) = false) (hfence : s.fenced (eventCell (p.word 1)) = false) :
    s.arriveEvent b p = s.placeEvent (eventCell (p.word 1)) (eventQueue (p.word 1)) (eventRow (p.word 1))
      (s.stepOfPar p.par p.late) false none 0 := by
  simp [arriveEvent, hyoung, hserved, hfence, placePacket, hty]

/-- The state without the first event of the packet that a block hands over. -/
def handOver (s : State) (b : Nat) (p : Packet) (rest : List (Nat × Packet)) : State :=
  { s with fabric := { s.fabric with opened := if p.events ≤ 1 then rest else (b, (splitPacket p).2) :: rest } }

theorem opened_handOver {b : Nat} {p : Packet} {rest : List (Nat × Packet)} (h : p.events ≤ 1) :
    (s.handOver b p rest).fabric.opened = rest := if_pos h

/-- EVENT_ENQUEUE hands over the first event of the open packet, which is consumed with its last one (R52). -/
theorem exec_eventEnqueue_of_served {block : Fin 128} {p : Packet} {rest : List (Nat × Packet)}
    (hruns : s.runs (11 + block) = true) (hopen : s.fabric.opened = (block.val, p) :: rest) (hty : p.ty = 1)
    (hyoung : s.tooOld (s.stepOfPar p.par p.late) = false) (hserved : s.offline (eventCell (p.word 1)) = false)
    (hfence : s.fenced (eventCell (p.word 1)) = false) {t : State}
    (ht : (s.handOver block p rest).placeEvent (eventCell (p.word 1)) (eventQueue (p.word 1)) (eventRow (p.word 1))
      (s.stepOfPar p.par p.late) false none 0 = t) :
    exec (.eventEnqueue block) s = .next (if p.events ≤ 1 then t.consumed block p.par else t) := by
  have hevent : p.isEvent = true := by simp [Packet.isEvent, hty]
  have hexec : exec (.eventEnqueue block) s = .next (if p.events ≤ 1
      then ((s.handOver block p rest).arriveEvent block (splitPacket p).1).consumed block p.par
      else (s.handOver block p rest).arriveEvent block (splitPacket p).1) := by
    change execEventEnqueue block s = _
    simp [execEventEnqueue, hruns, openPacket_of_opened hopen hevent, hopen, eraseFirst, handOver]
  obtain ⟨hty1, hword, hpar, hlate⟩ := splitPacket_event hty
  have harrive := arriveEvent_of_served (s := s.handOver block p rest) (b := block.val) hty1
    (by rw [hpar, hlate]; exact hyoung) (by rw [hword]; exact hserved) (by rw [hword]; exact hfence)
  rw [hword, hpar, hlate] at harrive
  rw [hexec, harrive.trans ht]

theorem placeEvent_of_placed {c q row step : Nat} (h : s.judge c q row = .placed) (force : Bool) (graded : Option W16)
    (off : W16) : s.placeEvent c q row step force graded off = s.enpool c q row step force graded off := by
  simp [placeEvent, h]

theorem placeEvent_of_full {c q row step : Nat} (h : s.judge c q row = .full) (force : Bool) (graded : Option W16)
    (off : W16) : s.placeEvent c q row step force graded off = s.cellDrop c Reg.CEL_DROP_FULL 1 := by
  simp [placeEvent, h, Placed.counter]

theorem reg_cellDrop_same {c off n : Nat} (hn : n ≠ 0) (ho : off < 4096) (hint : off ≠ Reg.PG_INT) :
    ((s.cellDrop c off n).reg (Page.cell c) off).toNat = min 0xFFFFFFFF ((s.reg (Page.cell c) off).toNat + n) := by
  have hkey : Page.cell c * 4096 + off ≠ Page.site (s.siteOf c) * 4096 + Reg.PG_INT := by
    simp only [Reg.PG_INT] at hint ⊢
    omega
  rw [cellDrop, if_neg hn, setInt, orReg, reg_setReg_other _ _ hkey, s.count_reg]

theorem cells_cellDrop (s : State) (c off n : Nat) : (s.cellDrop c off n).cells = s.cells := by
  unfold cellDrop
  split <;> rfl

theorem only.cellDrop {t : State} {l : List Part} (h : s.only t l) {c off n : Nat} (hl : Part.regs ∈ l := by decide) :
    s.only (t.cellDrop c off n) l :=
  .branch h ((h.count hl).setInt hl)

theorem only.enpool {t : State} {l : List Part} (h : s.only t l) {c q row step : Nat} {force : Bool} {graded : Option W16}
    {off : W16} (hl : Part.cells ∈ l := by decide) : s.only (t.enpool c q row step force graded off) l :=
  h.cells hl

end State

/-- Settles O25: the first event of the open packet is judged as the packet's own first word names it. -/
theorem eventsAreQueuedOrDropped : Obligations.EventsAreQueuedOrDropped := by
  intro s block p rest hruns hopen hty w c q step hyoung hserved hfence
  refine ⟨fun hjudge => ?placed, fun hjudge => ?full⟩
  case placed =>
    have hplace : (s.handOver block p rest).placeEvent c q (eventRow w) step false none 0
        = (s.handOver block p rest).enpool c q (eventRow w) step false none 0 := 
      State.placeEvent_of_placed (s := s.handOver block p rest) hjudge _ _ _
    refine ⟨_, State.exec_eventEnqueue_of_served hruns hopen hty hyoung hserved hfence hplace, ?_⟩
    have honly : s.only ((s.handOver block p rest).enpool c q (eventRow w) step false none 0) [.cells, .fabric, .step] :=
      State.only.enpool (State.only.fabric (State.only_refl s _))
    split
    · next hlast => exact ⟨⟨_, rfl, rfl, rfl, rfl, rfl, rfl⟩, fun h => State.opened_handOver h, rfl, honly.consumed⟩
    · next hlast => exact ⟨⟨_, rfl, rfl, rfl, rfl, rfl, rfl⟩, fun h => absurd h hlast, rfl, honly⟩
  case full =>
    have hplace : (s.handOver block p rest).placeEvent c q (eventRow w) step false none 0
        = (s.handOver block p rest).cellDrop c Reg.CEL_DROP_FULL 1 := 
      State.placeEvent_of_full (s := s.handOver block p rest) hjudge _ _ _
    refine ⟨_, State.exec_eventEnqueue_of_served hruns hopen hty hyoung hserved hfence hplace, ?_⟩
    have honly : s.only ((s.handOver block p rest).cellDrop c Reg.CEL_DROP_FULL 1) [.fabric, .step, .regs] :=
      State.only.cellDrop (State.only.fabric (State.only_refl s _))
    have hcount := State.reg_cellDrop_same (s := s.handOver block p rest) (c := c) (off := Reg.CEL_DROP_FULL) (n := 1)
      (by decide) (by decide) (by decide)
    have hcells : ((s.handOver block p rest).cellDrop c Reg.CEL_DROP_FULL 1).cells = s.cells := State.cells_cellDrop _ _ _ _
    split
    · exact ⟨hcount, hcells, honly.consumed⟩
    · exact ⟨hcount, hcells, honly⟩

end Sys2Proof.Machine
end

section
/-! # The update of a neuron -/
namespace Sys2Proof.Machine
open Sys2Proof

/-! ### Signed words -/

theorem toSigned_ofSigned {i : Int} (h : -32768 ≤ i ∧ i ≤ 32767) : toSigned 16 (ofSigned 16 i) = i := by
  have hcast : ((2 ^ 16 : Nat) : Int) = 65536 := rfl
  simp only [toSigned, ofSigned, hcast]
  split_ifs <;> omega

/-- A value of 16 bits passes a saturation to 16 bits as it is. -/
theorem toSigned_satInt {i : Int} (h : -32768 ≤ i ∧ i ≤ 32767) : toSigned 16 (satInt 16 i).code = i := by
  have hsat : (satInt 16 i).code = ofSigned 16 i := by
    simp only [satInt]
    rw [if_neg (by omega), if_neg (by omega)]
  rw [hsat, toSigned_ofSigned h]

theorem toSigned_bounds (x : Nat) : -32768 ≤ toSigned 16 x ∧ toSigned 16 x ≤ 32767 := by
  simp only [toSigned]
  split <;> omega

theorem getLsbD_packF_spk (prof refr : Nat) (spk pend : Bool) : (packF prof refr spk pend).getLsbD 4 = spk := by
  rw [packF, BitVec.getLsbD_ofNat, Nat.testBit_eq_decide_div_mod_eq]
  cases spk <;> cases pend <;> simp <;> omega

/-! ### What an update may change -/

namespace State

/-- The state may differ in registers off the step page, in what the cells hold beside neurons and pool, and in the spike
records `sent` at the end of the queue. -/
structure Updates (s t : State) (sent : List Spike) : Prop where
  parts : s.only t [.cells, .fabric, .regs]
  neurons : t.cells.neurons = s.cells.neurons
  pool : t.cells.pool = s.cells.pool
  spikes : t.fabric.spikes = s.fabric.spikes ++ sent
  stepNo : t.stepNo = s.stepNo

/-- The same, with one record more or none. -/
def UpdatesOnce (s t : State) (sent : List Spike) : Prop := ∃ rs : List Spike, rs.length ≤ 1 ∧ s.Updates t (sent ++ rs)

theorem UpdatesOnce.branch {s t u : State} {sent : List Spike} {p : Prop} [Decidable p] (ht : s.UpdatesOnce t sent)
    (hu : s.UpdatesOnce u sent) : s.UpdatesOnce (if p then t else u) sent := by
  by_cases hp : p <;> simpa [hp]

namespace Updates

variable {s t : State} {sent : List Spike} {c site : Nat}

theorem refl (s : State) : s.Updates s [] := ⟨State.only_refl s _, rfl, rfl, by simp, rfl⟩

variable (h : s.Updates t sent)
include h

theorem once : s.UpdatesOnce t sent := ⟨[], by simp, by simpa using h⟩

theorem setReg {p off : Nat} (hp : p ≠ Page.stp) (ho : off < 4096) (v : W32) : s.Updates (t.setReg p off v) sent :=
  ⟨h.parts.setReg, h.neurons, h.pool, h.spikes, (stepNo_setReg hp ho).trans h.stepNo⟩

theorem setLfsr {page : Nat} {x : W64} : s.Updates (t.setLfsr page site x) sent :=
  ⟨h.parts.cells, h.neurons, h.pool, h.spikes, h.stepNo⟩

theorem branch {p : Prop} [Decidable p] {u : State} (hu : s.Updates u sent) : s.Updates (if p then t else u) sent := by
  by_cases hp : p <;> simpa [hp]

/-- A conversion of a cell counts on the cell's page and on its site's. -/
theorem countConv (hsite : site < 8) (x : Conv) : s.Updates (t.countConv (Page.cell c) site x) sent := by
  have hcell : Page.cell c ≠ Page.stp := by simp only [Page.cell, Page.stp]; omega
  have hheader : ∀ u : State, u.headerPage (Page.cell c) ≠ Page.stp := by
    intro u
    have hlow : 0x100000 ≤ Page.cell c := by simp only [Page.cell]; omega
    simp only [headerPage, hlow, if_true, Page.site, Page.stp]
    omega
  have hoff : Reg.SAT_CNTn + 4 * site < 4096 := by simp only [Reg.SAT_CNTn]; omega
  have hnan := (h.setReg hcell (by decide : Reg.SAT_NAN < 4096)
    (BitVec.ofNat 32 (min 0xFFFFFFFF ((t.reg (Page.cell c) Reg.SAT_NAN).toNat + 1)))).branch (p := x.nan = true) h
  refine .branch (.branch ?_ ?_) hnan
  · exact (((hnan.setReg hcell hoff _).setReg hcell (by decide) _).setReg hcell (by decide) _).setReg (hheader _) (by decide) _
  · exact (hnan.setReg hcell hoff _).setReg hcell (by decide) _

theorem siteInt (hsite : site < 8) (w : Nat) (i : Int) : s.Updates (t.siteInt (Page.cell c) site w i).2 sent :=
  h.countConv hsite _

theorem siteConv (hsite : site < 8) (f : Nat) (x : Num) : s.Updates (t.siteConv (Page.cell c) site f x).2 sent :=
  h.countConv hsite _

theorem siteConvSr (hsite : site < 8) (f : Nat) (x : Num) (sr : Bool) :
    s.Updates (t.siteConvSr (Page.cell c) site f x sr).2 sent := by
  cases sr with
  | false => exact h.siteConv hsite f x
  | true => exact h.setLfsr.countConv hsite _

theorem sat16V (v : Int) : s.Updates (t.sat16V c v).2 sent := h.siteInt (by decide) _ _
theorem sat16UA (v : Int) : s.Updates (t.sat16UA c v).2 sent := h.siteInt (by decide) _ _

theorem sat16G (p : Profile) (g : Int) : s.Updates (t.sat16G c p g).2 sent := by
  unfold State.sat16G
  split
  · exact h.siteConv (by decide) _ _
  · exact h.siteInt (by decide) _ _

theorem membrane (p : Profile) (n : Neuron) (inp : Int) : s.Updates (t.membrane c p n inp).2 sent := by
  unfold State.membrane
  dsimp only
  split
  · exact h
  · split
    · exact h.sat16UA _
    · exact h

/-- A spike is counted on the cell's page. -/
theorem countSpike : s.Updates { t.count (Page.cell c) Reg.CEL_SPIKES 1 with
    cells := { t.cells with spikes := addNum t.cells.spikes c 1 } } sent := by
  have hcell : Page.cell c ≠ Page.stp := by simp only [Page.cell, Page.stp]; omega
  have hcount := h.setReg hcell (by decide : Reg.CEL_SPIKES < 4096)
    (BitVec.ofNat 32 (min 0xFFFFFFFF ((t.reg (Page.cell c) Reg.CEL_SPIKES).toNat + 1)))
  exact ⟨hcount.parts.cells, h.neurons, h.pool, h.spikes, hcount.stepNo⟩

theorem sendSpike_of_none {i : Nat} {p : Profile} (hp : p.outMode = 3) (value off : W16) :
    s.Updates (t.sendSpike c i p value off) sent := by
  simp only [State.sendSpike, hp, if_true]
  exact h.countSpike

theorem sendSpike_of_some {i : Nat} {p : Profile} (hp : p.outMode ≠ 3) (value off : W16) :
    ∃ r : Spike, r.cell = c ∧ r.step = s.stepNo ∧ s.Updates (t.sendSpike c i p value off) (sent ++ [r]) := by
  obtain ⟨hparts, hneurons, hpool, hspikes, hstep⟩ := h.countSpike (c := c)
  let ax := Store.get (fun _ => (0 : W32)) t.cells.axon (8192 * c + i)
  refine ⟨{ cell := c, first := fld ax 31 14, count := fld ax 13 0, step := (t.count (Page.cell c) Reg.CEL_SPIKES 1).stepNo
            graded := if p.outMode = 0 then none else some value, off := off }, rfl, hstep, ?_⟩
  simp only [State.sendSpike, hp, if_false]
  refine ⟨hparts.fabric, hneurons, hpool, ?_, hstep⟩
  rw [← List.append_assoc, ← h.spikes]
  rfl

/-- A spike leaves at most one record. -/
theorem sendSpike {i : Nat} (p : Profile) (value off : W16) : s.UpdatesOnce (t.sendSpike c i p value off) sent := by
  by_cases hp : p.outMode = 3
  · exact (h.sendSpike_of_none hp value off).once
  · obtain ⟨r, -, -, hr⟩ := h.sendSpike_of_some (i := i) hp value off
    exact ⟨[r], by simp, hr⟩

theorem fire (i : Nat) (p : Profile) (d : Upd) : s.UpdatesOnce (t.fire c i p d).2 sent := by
  simp only [State.fire]
  split
  · exact h.sendSpike _ _ _
  · exact (h.sat16G _ _).sendSpike _ _ _

/-- The threshold part leaves at most one record. -/
theorem threshold (i : Nat) (p : Profile) (n : Neuron) (d : Upd) : s.UpdatesOnce (t.threshold c i p n d).2 sent := by
  have hsd : s.UpdatesOnce ((if p.outMode = 3 then t else (t.sat16G c p (d.v - s16 n.a)).2).sendSpike c i p
      (if p.outMode = 3 then ((0 : W16), t) else t.sat16G c p (d.v - s16 n.a)).1 0) sent := by
    split
    · exact h.sendSpike _ _ _
    · exact (h.sat16G _ _).sendSpike _ _ _
  simp only [State.threshold, apply_ite Prod.snd]
  exact .branch h.once <| .branch (.branch (h.sendSpike _ _ _) h.once) <|
    .branch (.branch (h.sendSpike _ _ _) (.branch h.once h.once)) <| .branch (.branch hsd h.once) <|
    .branch h.once (.branch (h.fire _ _ _) h.once)

theorem learnUpdate (p : Profile) (n : Neuron) (spk : Bool) : s.Updates (t.learnUpdate c p n spk).2 sent := by
  have htrace := h.siteConvSr (c := c) (site := 4) (by decide) 10
    (.fin false (n.post.toNat * p.tdecay) 65536) (t.srOn (Page.cell c) 4)
  simp only [State.learnUpdate, apply_ite Prod.snd]
  exact .branch h (.branch (.branch (htrace.siteConv (by decide) _ _) htrace) (.branch h h))

end Updates

/-! ### The neuron after its update -/

theorem neuron_setNeuron_same {s : State} (c i : Nat) (n : Neuron) : (s.setNeuron c i n).neuron c i = n := by
  simp [neuron, setNeuron]

theorem neuron_setNeuron_other {s : State} {c i d j : Nat} (n : Neuron) (hi : i < 8192) (hj : j < 8192) (h : d ≠ c ∨ j ≠ i) :
    (s.setNeuron c i n).neuron d j = s.neuron d j := by
  simp only [neuron, setNeuron]
  exact Store.get_set_other _ _ n (by omega)

/-- The learning rules change the post-trace or A of a neuron (R270). -/
theorem learnUpdate_neuron {s : State} (c : Nat) (p : Profile) (n : Neuron) (spk : Bool) :
    (s.learnUpdate c p n spk).1.v = n.v ∧ (s.learnUpdate c p n spk).1.f = n.f ∧ (s.learnUpdate c p n spk).1.acc = n.acc := by
  unfold learnUpdate
  dsimp only
  split_ifs <;> exact ⟨rfl, rfl, rfl⟩

end State

/-- A neuron that snaps to rest did not spike; V goes to the rest value (R122). -/
theorem snap_cases (p : Profile) (n : Neuron) : snap p n = n
    ∨ (n.spk = false ∧ (snap p n).v = u16 p.vrest ∧ (snap p n).active = false ∧ (snap p n).acc = n.acc) := by
  by_cases h : n.spk = false ∧ n.pend = false ∧ n.refr = 0 ∧ absI (s16 n.v - p.vrest) ≤ p.eps ∧ absI (s16 n.u) ≤ p.eps
      ∧ absI (s16 n.a - if p.model = Model.sd then p.vrest else 0) ≤ p.eps
  · exact .inr (by simp only [snap, h, and_self, if_true])
  · exact .inl (by simp only [snap, h, if_false])

namespace State

variable {s : State} {c i : Nat}

/-- The profile of a neuron. -/
def profileAt (s : State) (c i : Nat) : Profile := s.profile c (s.neuron c i).prof

/-- The input of a neuron's update (R121). -/
def inputAt (s : State) (c i : Nat) : Int :=
  if (s.profileAt c i).perEvent then 0 else scaleIn (toSigned 32 (s.neuron c i).acc.toNat) (s.profileAt c i).inShift

/-- The update of a neuron up to its threshold part. -/
def thresholdAt (s : State) (c i : Nat) : Upd × State :=
  let d := s.membrane c (s.profileAt c i) (s.neuron c i) (s.inputAt c i)
  d.2.threshold c i (s.profileAt c i) (s.neuron c i) d.1

/-- An update up to its threshold part leaves at most one record. -/
theorem updatesOnce_thresholdAt (s : State) (c i : Nat) : s.UpdatesOnce (s.thresholdAt c i).2 [] :=
  ((Updates.refl s).membrane _ _ _).threshold _ _ _ _

/-- After its threshold part V is rounded to 16 bits, the accumulator is empty and F holds what the threshold part left. -/
theorem updateNeuron_eq (s : State) (c i : Nat) : ∃ u n, (s.thresholdAt c i).2.Updates u [] ∧ n.acc = 0
    ∧ n.v = u16 (toSigned 16 (satInt 16 (s.thresholdAt c i).1.v).code)
    ∧ n.f = packF (s.neuron c i).prof (s.thresholdAt c i).1.refr (s.thresholdAt c i).1.spk false
    ∧ s.updateNeuron c i = u.setNeuron c i (snap (s.profileAt c i) n) := by
  have hrounds := (((Updates.refl (s.thresholdAt c i).2).sat16V (c := c) (s.thresholdAt c i).1.v).sat16UA (c := c)
    (s.thresholdAt c i).1.u).sat16UA (c := c) (s.thresholdAt c i).1.a
  refine ⟨_, _, hrounds.learnUpdate _ _ _, ?_, ?_, ?_, rfl⟩
  · exact (learnUpdate_neuron _ _ _ _).2.2
  · exact (learnUpdate_neuron _ _ _ _).1
  · exact (learnUpdate_neuron _ _ _ _).2.1

theorem Updates.trans {t u : State} {sent more : List Spike} (h : s.Updates t sent) (hu : t.Updates u more) :
    s.Updates u (sent ++ more) :=
  ⟨h.parts.trans hu.parts, hu.neurons.trans h.neurons, hu.pool.trans h.pool, by
    rw [hu.spikes, h.spikes, List.append_assoc], hu.stepNo.trans h.stepNo⟩

/-! ### A LIF neuron outside its refractory time -/

/-- The conditions under which the statement gives the update of a LIF neuron. -/
structure LifAt (s : State) (c i : Nat) (v : Int) : Prop where
  model : (s.profileAt c i).model = Model.lif
  steps : (s.profileAt c i).perEvent = false
  refr : (s.neuron c i).refr = 0
  leaked : (s.profileAt c i).leak (s16 (s.neuron c i).v) (s.profileAt c i).dv
    + scaleIn (toSigned 32 (s.neuron c i).acc.toNat) (s.profileAt c i).inShift = v

theorem LifAt.membrane {v : Int} (h : s.LifAt c i v) :
    s.membrane c (s.profileAt c i) (s.neuron c i) (s.inputAt c i)
      = ({ v := v, u := s16 (s.neuron c i).u, a := s16 (s.neuron c i).a, refr := 0 }, s) := by
  simp [State.membrane, h.model, inputAt, h.steps, h.refr, h.leaked]

/-- Below the threshold a LIF neuron keeps what the membrane part gives. -/
theorem LifAt.thresholdAt_below {v : Int} (h : s.LifAt c i v) (hv : v < (s.profileAt c i).thr + s16 (s.neuron c i).a) :
    s.thresholdAt c i = ({ v := v, u := s16 (s.neuron c i).u, a := s16 (s.neuron c i).a, refr := 0 }, s) := by
  simp [thresholdAt, h.membrane, threshold, h.model, h.steps, not_le.mpr hv]

/-- At or above the threshold it fires. -/
theorem LifAt.thresholdAt_above {v : Int} (h : s.LifAt c i v) (hv : (s.profileAt c i).thr + s16 (s.neuron c i).a ≤ v) :
    s.thresholdAt c i = s.fire c i (s.profileAt c i)
      { v := v, u := s16 (s.neuron c i).u, a := s16 (s.neuron c i).a, refr := 0 } := by
  simp [thresholdAt, h.membrane, threshold, h.model, h.steps, hv]

theorem fire_fst (s : State) (c i : Nat) (p : Profile) (d : Upd) :
    (s.fire c i p d).1.spk = true ∧ (p.resetMode = 0 → (s.fire c i p d).1.v = p.vreset) :=
  ⟨rfl, fun h => if_pos h⟩

/-- A firing neuron sends exactly one record of the open step, unless its output is NONE. -/
theorem fire_records (s : State) (c i : Nat) (p : Profile) (d : Upd) :
    (p.outMode = 3 → s.Updates (s.fire c i p d).2 [])
    ∧ (p.outMode ≠ 3 → ∃ r : Spike, r.cell = c ∧ r.step = s.stepNo ∧ s.Updates (s.fire c i p d).2 [r]) := by
  have hvalue : s.Updates (if p.outMode = 0 ∨ p.outMode = 3 then ((0 : W16), s) else s.sat16G c p d.v).2 [] := by
    rw [apply_ite Prod.snd]
    exact .branch (.refl s) ((Updates.refl s).sat16G _ _)
  exact ⟨fun h => hvalue.sendSpike_of_none h _ _, fun h => hvalue.sendSpike_of_some h _ _⟩

end State

/-- A neuron that spiked does not snap to rest. -/
theorem snap_of_spk {p : Profile} {n : Neuron} (h : n.spk = true) : snap p n = n := by
  rcases snap_cases p n with hs | ⟨hs, -⟩
  · exact hs
  · rw [h] at hs
    cases hs

theorem vreset_bounds (s : State) (c i : Nat) : -32768 ≤ (s.profileAt c i).vreset ∧ (s.profileAt c i).vreset ≤ 32767 :=
  toSigned_bounds _

theorem nextActive_lt {s : State} {c i : Nat} (h : s.nextActive c = some i) : i < 8192 := by
  obtain ⟨e, he, rfl⟩ := Option.map_eq_some_iff.mp h
  have hrange := List.find?_some he
  simp only [Bool.and_eq_true, decide_eq_true_eq] at hrange
  omega

theorem exec_neuronUpdate_of_room {s : State} {cell : Fin 2048} {i : Nat} (hmust : s.mustUpdate cell = true)
    (hnext : s.nextActive cell = some i)
    (hroom : ((s.updateNeuron cell i).fabric.spikes.filter (fun k => k.cell / 16 == cell.val / 16)).length ≤ 256) :
    exec (.neuronUpdate cell) s = .next { s.updateNeuron cell i with
      cells := { (s.updateNeuron cell i).cells with updPos := setNum (s.updateNeuron cell i).cells.updPos cell (i + 1) } } := by
  change execNeuronUpdate cell s = _
  simp [execNeuronUpdate, hmust, hnext, Nat.not_lt.mpr hroom]

/-- Settles O24: the update of the neuron is its threshold part, a rounding and a snap; the threshold part of a LIF neuron
either leaves it or fires. -/
theorem neuronUpdateLaw : Obligations.NeuronUpdateLaw := by
  intro s cell i hmust hnext hroom n p v1 lif
  have hi := nextActive_lt hnext
  obtain ⟨u, m, hround, hacc, hv, hf, heq⟩ := s.updateNeuron_eq cell i
  obtain ⟨rs, hrs, hthr⟩ := s.updatesOnce_thresholdAt cell i
  obtain ⟨hparts, hneurons, hpool, hspikes, -⟩ := hthr.trans hround
  rw [List.nil_append, List.append_nil] at hspikes
  have hcount : ((s.updateNeuron cell i).fabric.spikes.filter (fun k => k.cell / 16 == cell.val / 16)).length ≤ 256 := by
    have hmore := List.length_filter_le (fun k : Spike => k.cell / 16 == cell.val / 16) rs
    have hlen : (s.updateNeuron cell i).fabric.spikes = s.fabric.spikes ++ rs := by
      rw [heq]
      exact hspikes
    rw [hlen, List.filter_append, List.length_append]
    omega
  have hn : (u.setNeuron cell i (snap p m)).neuron cell i = snap p m := State.neuron_setNeuron_same _ _ _
  have hlif : lif → s.LifAt cell i v1 := fun ⟨hmodel, hsteps, hrefr, _⟩ => ⟨hmodel, hsteps, hrefr, rfl⟩
  refine ⟨_, exec_neuronUpdate_of_room hmust hnext hcount, ?_⟩
  rw [heq]
  refine ⟨?acc, ?pos, ?others, ?below, ?above, hpool, ?only⟩
  case acc =>
    refine (congrArg Neuron.acc hn).trans ?_
    rcases snap_cases p m with h | ⟨-, -, -, h⟩ <;> rw [h, hacc]
  case pos => exact numAt_setNum_same u.cells.updPos cell (i + 1)
  case others =>
    intro c j hj hne
    refine (State.neuron_setNeuron_other (s := u) (snap p m) hi hj hne).trans ?_
    simp only [State.neuron, hneurons]
  case below =>
    intro hl hlow
    have hthr := (hlif hl).thresholdAt_below hlow
    rw [hthr] at hround hv
    have hsent : u.fabric.spikes = s.fabric.spikes := by simpa using hround.spikes
    refine ⟨hsent, ?_⟩
    have hm : m.v = u16 v1 := hv.trans (congrArg u16 (toSigned_satInt ⟨hl.2.2.2.1, hl.2.2.2.2⟩))
    rcases snap_cases p m with h | ⟨-, hrest, hquiet, -⟩
    · exact .inl ((congrArg Neuron.v (hn.trans h)).trans hm)
    · exact .inr ⟨(congrArg Neuron.v hn).trans hrest, (congrArg Neuron.active hn).trans hquiet⟩
  case above =>
    intro hl hhigh
    have hthr := (hlif hl).thresholdAt_above hhigh
    rw [hthr] at hround hv hf
    obtain ⟨hspk, hreset⟩ := State.fire_fst s cell i p { v := v1, u := s16 n.u, a := s16 n.a, refr := 0 }
    obtain ⟨hnone, hsome⟩ := State.fire_records s cell i p { v := v1, u := s16 n.u, a := s16 n.a, refr := 0 }
    have hmspk : m.spk = true := by
      rw [Neuron.spk, hf, getLsbD_packF_spk]
      exact hspk
    have hsnap : (u.setNeuron cell i (snap p m)).neuron cell i = m := hn.trans (snap_of_spk hmspk)
    refine ⟨(congrArg Neuron.spk hsnap).trans hmspk, fun hmode => ?_, fun hout => ?_, fun hout => ?_⟩
    · have hcode : toSigned 16 (satInt 16 p.vreset).code = p.vreset := toSigned_satInt (vreset_bounds s cell i)
      refine (congrArg Neuron.v hsnap).trans (hv.trans (congrArg u16 ?_))
      exact (congrArg (fun v => toSigned 16 (satInt 16 v).code) (hreset hmode)).trans hcode
    · have hsent : u.fabric.spikes = s.fabric.spikes := by simpa using ((hnone hout).trans hround).spikes
      exact hsent
    · obtain ⟨r, hcell, hrstep, hr⟩ := hsome hout
      have hsent : u.fabric.spikes = s.fabric.spikes ++ [r] := by simpa using (hr.trans hround).spikes
      exact ⟨r, hsent, hcell, hrstep⟩
  case only => exact hparts.cells.cells

end Sys2Proof.Machine
end

section
/-! # The summit actions of a unit -/
namespace Sys2Proof.Machine
open Sys2Proof

namespace State

/-- What the summit actions of a unit may change, beside the state of the step itself (R54). -/
def summitParts : List Part :=
  [.regs, .mem, .poison, .cells, .fabric, .trv, .ingress, .tmr, .learn, .dram, .tarn, .eth, .fault]

/-- The other parts are as they were. -/
def SummitOnly (s t : State) : Prop := s.only t summitParts

theorem only.mono {s t : State} {l m : List Part} (h : s.only t l) (hm : ∀ x, x ∈ l → x ∈ m) : s.only t m :=
  fun x hx => h x fun hl => hx (hm x hl)

namespace SummitOnly

variable {s t u : State}

theorem refl (s : State) : s.SummitOnly s := State.only_refl s _

theorem branch {c : Prop} [Decidable c] (ht : s.SummitOnly t) (hu : s.SummitOnly u) : s.SummitOnly (if c then t else u) :=
  only.branch ht hu

theorem foldl {α : Type} {f : State → α → State} {xs : List α} (h : s.SummitOnly t)
    (hf : ∀ {u a}, a ∈ xs → s.SummitOnly u → s.SummitOnly (f u a)) : s.SummitOnly (xs.foldl f t) :=
  only.foldl h hf

section
variable (h : s.SummitOnly t)
include h

/-! ### Changes of one part -/

theorem change (p : Part) (hu : ∀ x, x ≠ p → x.same t u) (hp : p ∈ summitParts) : s.SummitOnly u := only.change h p hu hp

theorem trv {x : TrvState} : s.SummitOnly { t with trv := x } := only.trv h (by decide)

theorem learn {x : LearnState} : s.SummitOnly { t with learn := x } :=
  h.change .learn (fun y hy => by cases y <;> simp_all [Part.same]) (by decide)

theorem ingress {x : IngressState} : s.SummitOnly { t with ingress := x } :=
  h.change .ingress (fun y hy => by cases y <;> simp_all [Part.same]) (by decide)

theorem tmr {x : TmrState} : s.SummitOnly { t with tmr := x } :=
  h.change .tmr (fun y hy => by cases y <;> simp_all [Part.same]) (by decide)

theorem dram {x : DramState} : s.SummitOnly { t with dram := x } :=
  h.change .dram (fun y hy => by cases y <;> simp_all [Part.same]) (by decide)

theorem tarn {x : TarnState} : s.SummitOnly { t with tarn := x } :=
  h.change .tarn (fun y hy => by cases y <;> simp_all [Part.same]) (by decide)

theorem eth {x : EthState} : s.SummitOnly { t with eth := x } :=
  h.change .eth (fun y hy => by cases y <;> simp_all [Part.same]) (by decide)

theorem mem {x : List Host.Cell} : s.SummitOnly { t with mem := x } :=
  h.change .mem (fun y hy => by cases y <;> simp_all [Part.same]) (by decide)

theorem poison {x : List Nat} : s.SummitOnly { t with poison := x } :=
  h.change .poison (fun y hy => by cases y <;> simp_all [Part.same]) (by decide)

theorem fabric {x : FabricState} : s.SummitOnly { t with fabric := x } := only.fabric h (by decide)
theorem cells {x : CellsState} : s.SummitOnly { t with cells := x } := only.cells h (by decide)
theorem fault {x : FaultState} : s.SummitOnly { t with fault := x } := only.fault h (by decide)

/-! ### Changes of registers -/

variable {p off b n : Nat}

theorem setReg {v : W32} : s.SummitOnly (t.setReg p off v) := only.setReg h (by decide)
theorem orReg {m : W32} : s.SummitOnly (t.orReg p off m) := h.setReg
theorem clrReg {m : W32} : s.SummitOnly (t.clrReg p off m) := h.setReg
theorem setFld {hi lo x : Nat} : s.SummitOnly (t.setFld p off hi lo x) := h.setReg
theorem setReg64 : s.SummitOnly (t.setReg64 p off n) := h.setReg.setReg
theorem count : s.SummitOnly (t.count p off n) := h.setReg
theorem setInt : s.SummitOnly (t.setInt p b) := h.orReg
theorem countInt : s.SummitOnly (t.countInt p off b n) := .branch h h.count.setInt
theorem cellDrop {c : Nat} : s.SummitOnly (t.cellDrop c off n) := .branch h h.count.setInt
theorem copyWords {src dst : Nat} : s.SummitOnly (t.copyWords p src dst n) := only.copyWords h (by decide)
theorem doSwap : s.SummitOnly (t.doSwap p) := only.doSwap h (by decide)

end

theorem setBytes {a : Nat} {b : List Byte} (h : s.SummitOnly t) : s.SummitOnly (t.setBytes a b) := by
  induction b generalizing t a with
  | nil => exact h
  | cons b bs ih => exact ih h.mem

end SummitOnly

namespace SummitActions

variable {s t : State}
variable (h : s.SummitOnly t)
include h

/-! ### Learning -/

theorem beginPass {r : Nat} : s.SummitOnly (t.beginPass r) := .branch h (.branch h.learn h.learn)

theorem agePasses : s.SummitOnly t.agePasses := h.foldl fun _ h => .branch (beginPass h) h

theorem latchModulators {k : Nat} : s.SummitOnly (t.latchModulators k) :=
  h.foldl fun _ h => .branch h.setReg h.setReg.setReg

theorem beginCheckpoint {e : Nat} : s.SummitOnly (t.beginCheckpoint e) := .branch h (.branch h.countInt h.learn)

theorem closeEpoch : s.SummitOnly t.closeEpoch :=
  beginCheckpoint (SummitOnly.foldl (SummitOnly.learn (latchModulators h).setReg64.setReg.setReg.setInt) fun _ h => beginPass h)

theorem stopOnDone : s.SummitOnly t.stopOnDone := .branch h.clrReg.orReg.setInt.clrReg h

theorem learnSummit : s.SummitOnly t.learnSummit :=
  stopOnDone (agePasses (.branch h (.branch (closeEpoch h) h.setReg)))

/-! ### Posted writes and windows -/

theorem applyRules : s.SummitOnly t.applyRules := h.learn.foldl fun _ h => h.setReg

theorem encSummit : s.SummitOnly t.encSummit :=
  h.foldl fun _ h => .branch h (SummitOnly.ingress (h.foldl fun _ h => h.setReg))

theorem trvSwapSummit : s.SummitOnly t.trvSwapSummit := h.foldl fun _ h => .branch h.copyWords.setReg h

theorem flushSummit : s.SummitOnly t.flushSummit := .branch h.ingress.setReg.setInt h

theorem swapSummit {p : Nat} : s.SummitOnly (t.swapSummit p) := .branch h.doSwap h

theorem setWindowWord {key : Nat} {v : W32} : s.SummitOnly (t.setWindowWord key v) := h.setReg

theorem applyRoutePost {q : RoutePost} : s.SummitOnly (t.applyRoutePost q) := by
  cases q with
  | entry => exact (setWindowWord (setWindowWord (setWindowWord h))).fabric
  | word => exact .branch (setWindowWord h).fabric (setWindowWord h)
  | release => exact h.setReg.fabric
  | gate => exact h.setReg

theorem applyRoutes {r : Nat} : s.SummitOnly (t.applyRoutes r) := h.fabric.foldl fun _ h => applyRoutePost h

theorem windowSummit {page : Nat} : s.SummitOnly (t.windowSummit page) :=
  .branch (SummitOnly.cells (h.foldl fun _ h => h.setReg)) h.cells

theorem applySeed {page : Nat} : s.SummitOnly (t.applySeed page) := by
  unfold State.applySeed
  split
  · exact h
  · exact SummitOnly.cells (h.foldl fun _ h => h.cells)

theorem numericSummit {page : Nat} : s.SummitOnly (t.numericSummit page) := applySeed (windowSummit h)

theorem chipPosted : s.SummitOnly t.chipPosted := by
  have htables := applyRoutes (r := 8) (flushSummit (trvSwapSummit (encSummit (applyRules h))))
  exact (htables.foldl fun _ h => swapSummit h).foldl fun _ h => numericSummit h

/-! ### Stream engines and timers -/

theorem seSummit {step : Nat} {forced : Bool} : s.SummitOnly (t.seSummit step forced) :=
  h.foldl fun _ h => .branch h (.branch h.countInt h.eth.setReg)

theorem tmrEvent {k e : Nat} : s.SummitOnly (t.tmrEvent k e) := by
  have hflag : s.SummitOnly ((t.orReg (tmrPage k) (tmrOff k Reg.TMR_FLAG) (bitWord e)).followFlag k) :=
    .branch h.orReg h.orReg.setInt
  exact .branch hflag hflag.tmr

theorem capture {k c : Nat} : s.SummitOnly (t.capture k c) :=
  tmrEvent (.branch h.setReg64.orReg (SummitOnly.orReg (SummitOnly.tmr (.branch h.count h))))

theorem tmrSource {src : Nat} : s.SummitOnly (t.tmrSource src) :=
  h.foldl fun _ h => .branch (.branch (capture h.tmr) h.tmr) h

/-! ### The tree of a group -/

theorem setMember {c v : Nat} : s.SummitOnly (t.setMember c v) := h.setFld

theorem applyAbsent {c : Nat} : s.SummitOnly (t.applyAbsent c) := by
  have hmarked : s.SummitOnly ((t.members.filter (t.inSubtree c)).foldl (fun s d => s.markAbsent d) t) :=
    h.foldl fun _ h => (setMember h).orReg
  exact .branch hmarked hmarked.count.setInt

theorem queueCtrl {p kind : Nat} {w : List (Nat × W32)} : s.SummitOnly (t.queueCtrl p kind w) := .branch h.trv h

theorem queueCtrlU {p kind : Nat} {w : List (Nat × W32)} : s.SummitOnly (t.queueCtrlU p kind w) := .branch h.trv h

theorem helloAll : s.SummitOnly t.helloAll := h.foldl fun _ h => queueCtrlU h

theorem setChild {p : Nat} {on : Bool} : s.SummitOnly (t.setChild p on) :=
  SummitOnly.trv (SummitOnly.setFld (SummitOnly.setFld (.branch h.orReg h.clrReg)))

theorem admitChild {p joiner : Nat} : s.SummitOnly (t.admitChild p joiner) := by
  unfold State.admitChild
  extract_lets d lone s₁ s₂ s₃ n step s₄ s₅
  have hchild : s.SummitOnly s₂ := (setChild h).trv
  have hsent : s.SummitOnly s₅ := (queueCtrl (.branch hchild.setFld hchild)).foldl fun _ h => queueCtrl h
  exact .branch (helloAll hsent) hsent

theorem finishGrant {g : Nat × Nat} : s.SummitOnly (t.finishGrant g) := by
  unfold State.finishGrant
  split
  · split
    · exact admitChild h
    · exact h
  · exact h

theorem applyGrant {g : Nat × Nat} : s.SummitOnly (t.applyGrant g) := (setMember h).clrReg.setInt

theorem applyGrants : s.SummitOnly t.applyGrants :=
  SummitOnly.foldl (SummitOnly.foldl h.trv fun _ h => applyGrant h) fun _ h => finishGrant h

theorem applyTree : s.SummitOnly t.applyTree :=
  applyGrants (SummitOnly.foldl h.trv fun _ h => applyAbsent h)

/-! ### Regions -/

theorem gatesSummit {r : Nat} : s.SummitOnly (t.gatesSummit r) :=
  h.foldl fun _ h => .branch h.setReg h.setReg.count

theorem regionSnap {r : Nat} : s.SummitOnly (t.regionSnap r) := h.setReg.setReg.setReg

theorem regionTimes {r : Nat} {forced : Bool} : s.SummitOnly (t.regionTimes r forced) :=
  SummitOnly.setReg (.branch h.setReg h)

theorem bankSummit {r : Nat} : s.SummitOnly (t.bankSummit r) := h.foldl fun _ h => .branch h.tarn h

theorem touchSlice {slice : Nat} : s.SummitOnly (t.touchSlice slice) := SummitOnly.dram (.branch h.setFld h)

theorem writeBeat {d : Nat} {b : List Byte} : s.SummitOnly (t.writeBeat d b) := .branch h.setBytes.poison h.setBytes

theorem dramStore {d : Nat} {b : List Byte} : s.SummitOnly (t.dramStore d b) :=
  SummitOnly.cells (SummitOnly.foldl (SummitOnly.foldl h fun _ h => touchSlice h) fun _ h => writeBeat h)

theorem applySyn {r : Nat} : s.SummitOnly (t.applySyn r) := h.dram.foldl fun _ h => dramStore h

theorem regionPosted {r : Nat} : s.SummitOnly (t.regionPosted r) :=
  numericSummit (applySyn (bankSummit (applyRoutes h)))

/-! ### Blocks -/

theorem cellSnap {c : Nat} : s.SummitOnly (t.cellSnap c) := .branch h.setReg.setReg.setReg.setReg h

theorem blockSnap {b : Nat} : s.SummitOnly (t.blockSnap b) :=
  SummitOnly.setReg (SummitOnly.setReg (SummitOnly.setReg (SummitOnly.setReg (SummitOnly.setReg (h.foldl fun _ h => cellSnap h)))))

theorem applyCellPost {c : Nat} {q : CellPost} : s.SummitOnly (t.applyCellPost c q) := by
  cases q with
  | profile => exact h.foldl fun _ h => h.setReg
  | preCtrl => exact h.setReg
  | modulator => exact h.setReg
  | _ => exact h.cells

theorem applyCellPosts {c : Nat} : s.SummitOnly (t.applyCellPosts c) := h.cells.foldl fun _ h => applyCellPost h

theorem changeQueue {c q x : Nat} : s.SummitOnly (t.changeQueue c q x) :=
  .branch h (.branch (SummitOnly.cells (SummitOnly.cellDrop h.cells)) h.cells)

theorem applyQueues {c : Nat} : s.SummitOnly (t.applyQueues c) := h.cells.foldl fun _ h => changeQueue h

theorem blockPosted {b : Nat} : s.SummitOnly (t.blockPosted b) :=
  SummitOnly.fault (swapSummit (h.foldl fun _ h => numericSummit (applyQueues (applyCellPosts h))))

end SummitActions

/-! ### The release at a unit -/

variable {s : State}

/-- A unit off the list of those that the release has still to reach. -/
def reached (s : State) (u : Nat) : State := s.setStep { s.step with release := s.step.release.filter (· != u) }

/-- The summit actions of a unit (R54). -/
def unitActions (s : State) (u : Nat) : State :=
  if u = 136 then
    let t := s.learnSummit.addCounts
    let t := ((t.chipPosted.seSummit t.step.relStep false).applyTree).tmrSource 17
    t.setStep { t.step with phase := .wait }
  else if 128 ≤ u then (((s.gatesSummit (u - 128)).regionSnap (u - 128)).regionTimes (u - 128) false).regionPosted (u - 128)
  else (s.blockSnap u).blockPosted u

theorem unitSummit_eq (s : State) (u : Nat) : s.unitSummit u
    = if ((s.reached u).unitActions u).step.release.isEmpty
      then ((s.reached u).unitActions u).setStep { ((s.reached u).unitActions u).step with posters := [] }
      else (s.reached u).unitActions u := rfl

theorem SummitOnly.step_eq {t : State} (h : s.SummitOnly t) : t.step = s.step := h .step (by decide)

theorem only.addCounts {t : State} (h : s.only t (.step :: summitParts)) : s.only t.addCounts (.step :: summitParts) :=
  only.step (((h.count (by decide)).count (by decide)).count (by decide)) (by decide)

/-- The chip adds up the counts of the step and begins to wait; no other action touches the state of the step. -/
theorem unitActions_parts (s : State) (u : Nat) :
    s.only (s.unitActions u) (.step :: summitParts) ∧ (s.unitActions u).step.release = s.step.release
      ∧ (u = 136 → (s.unitActions u).step.phase = .wait) := by
  have hkept : ∀ {t : State}, s.SummitOnly t → s.only t (.step :: summitParts) ∧ t.step.release = s.step.release :=
    fun h => ⟨h.mono fun _ => List.mem_cons_of_mem _, congrArg StepState.release h.step_eq⟩
  unfold unitActions
  split
  · next hu =>
    obtain ⟨hlearn, hrelease⟩ := hkept (SummitActions.learnSummit (.refl s))
    have hcounts : s.only s.learnSummit.addCounts (.step :: summitParts) := hlearn.addCounts
    have hposted := SummitActions.tmrSource (src := 17) (SummitActions.applyTree (SummitActions.seSummit
      (step := s.learnSummit.addCounts.step.relStep) (forced := false) (SummitActions.chipPosted
        (.refl s.learnSummit.addCounts))))
    exact ⟨(hcounts.trans hposted).step, (congrArg StepState.release (SummitOnly.step_eq hposted)).trans hrelease, fun _ => rfl⟩
  · next hu =>
    split
    · obtain ⟨honly, hrelease⟩ := hkept (SummitActions.regionPosted (r := u - 128) (SummitActions.regionTimes (forced := false)
        (r := u - 128) (SummitActions.regionSnap (r := u - 128) (SummitActions.gatesSummit (r := u - 128) (.refl s)))))
      exact ⟨honly, hrelease, fun h => absurd h hu⟩
    · obtain ⟨honly, hrelease⟩ := hkept (SummitActions.blockPosted (b := u) (SummitActions.blockSnap (b := u) (.refl s)))
      exact ⟨honly, hrelease, fun h => absurd h hu⟩

theorem unitSummit_parts (s : State) (u : Nat) :
    s.only (s.unitSummit u) (.step :: summitParts) ∧ u ∉ (s.unitSummit u).step.release
      ∧ (u = 136 → (s.unitSummit u).step.phase = .wait) := by
  obtain ⟨hparts, hrelease, hphase⟩ := (s.reached u).unitActions_parts u
  have hreached : s.only (s.reached u) [.step] := only_setStep (only_refl s _) (by simp) _
  have honly : s.only ((s.reached u).unitActions u) (.step :: summitParts) := (hreached.mono (by simp)).trans hparts
  have hgone : u ∉ ((s.reached u).unitActions u).step.release := by
    rw [hrelease]
    simp [reached]
  rw [unitSummit_eq]
  split
  · exact ⟨honly.step, hgone, hphase⟩
  · exact ⟨honly, hgone, hphase⟩

end State

end Sys2Proof.Machine
end

section
/-! # Waves, the summit and the wrap -/
namespace Sys2Proof.Machine
open Sys2Proof

namespace State

/-! ### Packets on the tree -/

/-- Nothing changes but what waits for the ports of the tree, its state, and registers of the ports' pages. -/
structure SendsOnly (s t : State) : Prop where
  parts : s.only t [.regs, .fabric, .trv]
  regs : ∀ p off, p < 0xC0 → off < 4096 → t.reg p off = s.reg p off

namespace SendsOnly

variable {s t : State}

theorem refl (s : State) : s.SendsOnly s := ⟨only_refl s _, fun _ _ _ _ => rfl⟩

theorem foldl {α : Type} {f : State → α → State} {xs : List α} (h : s.SendsOnly t)
    (hf : ∀ {u a}, s.SendsOnly u → s.SendsOnly (f u a)) : s.SendsOnly (xs.foldl f t) :=
  List.foldlRecOn (motive := fun u => s.SendsOnly u) _ _ h fun _ hu _ _ => hf hu

theorem branch {c : Prop} [Decidable c] {u : State} (h : s.SendsOnly t) (hu : s.SendsOnly u) :
    s.SendsOnly (if c then t else u) := by
  by_cases hc : c <;> simpa [hc]

variable (h : s.SendsOnly t)
include h

theorem updTree (f : TreeState → TreeState) : s.SendsOnly (t.updTree f) := ⟨h.parts.trv, h.regs⟩

/-- A SUMMIT packet goes to its port, or is dropped and counted there: it is neither consumed nor answered (R383). -/
theorem sendSummit (p kind wave subj last step : Nat) (counts : List W32) :
    s.SendsOnly (t.sendSummit p kind wave subj last step counts) := by
  have hdrop : s.SendsOnly (t.count (0xC0 + p) Reg.TRV_DROP 1) :=
    ⟨h.parts.count, fun q o hq ho => (reg_setReg_page (by omega) ho (by decide)).trans (h.regs q o hq ho)⟩
  refine .branch ⟨h.parts.fabric, h.regs⟩ ?_
  simpa [trvRefuse] using hdrop

theorem sendDown (kind wave subj last step : Nat) : s.SendsOnly (t.sendDown kind wave subj last step) :=
  h.foldl fun h => h.sendSummit _ _ _ _ _ _ _

theorem grantAtSummit (closes : Bool) : s.SendsOnly (t.grantAtSummit closes) :=
  .branch (.branch (.foldl (h.updTree _) fun h => h.sendDown _ _ _ _ _) h) h

theorem stepNo : t.stepNo = s.stepNo := by
  simp only [State.stepNo, reg64, h.regs Page.stp Reg.STP_COUNT (by decide) (by decide),
    h.regs Page.stp (Reg.STP_COUNT + 4) (by decide) (by decide)]

theorem elapsed : t.elapsed = s.elapsed := h.parts .elapsed (by decide)

end SendsOnly

variable {s : State}

/-! ### Collections (R53, R400) -/

theorem exec_collectionWave_of_busy (hlocal : s.localQuiet = false) (hnow : s.quietNow = false) :
    exec .collectionWave s = .next s := by
  have hbegin : s.beginWaves = s := by simp [beginWaves, hnow]
  change execCollectionWave s = _
  simp [execCollectionWave, hbegin, hlocal]

theorem childPorts_of_none (h : s.childMask = 0) : s.childPorts = [] := by
  simp [childPorts, h]

/-- A root without children sends nothing as it starts a wave. -/
theorem startWave_of_childless (h : s.childMask = 0) : ∃ tree : TreeState, s.startWave = s.setTree tree ∧ tree.tokens = []
    ∧ tree.joining = s.trv.tree.joining ∧ tree.relaxed = s.trv.tree.relaxed := by
  have hports : ∀ f, (s.updTree f).childPorts = [] := fun _ => childPorts_of_none h
  refine ⟨{ s.trv.tree with wave := (s.trv.tree.wave + 1) % 16, probe := some ((s.trv.tree.wave + 1) % 16, s.stepLow),
                            tokens := [] }, ?_, rfl, rfl, rfl⟩
  simp only [startWave, sendDown, hports, List.foldl_nil]
  rfl

theorem ensureWave_of_childless (h : s.childMask = 0) (htokens : s.trv.tree.tokens = []) : ∃ tree : TreeState,
    s.ensureWave = s.setTree tree ∧ tree.tokens = [] ∧ tree.joining = s.trv.tree.joining
      ∧ tree.relaxed = s.trv.tree.relaxed := by
  unfold ensureWave
  split
  · exact ⟨s.trv.tree, rfl, htokens, rfl, rfl⟩
  · exact startWave_of_childless h

/-- The chip's own counts as a wave carries them (R395). -/
def ownWave (s : State) : Nat × Nat := (s.ownCounts.1 % 2 ^ 48, s.ownCounts.2 % 2 ^ 48)

theorem ownWave_setTree {tree : TreeState} (h : tree.joining = s.trv.tree.joining) : (s.setTree tree).ownWave = s.ownWave := by
  have hcounts : (s.setTree tree).ownCounts = s.ownCounts := by
    have hjoining : (s.setTree tree).trv.tree.joining = s.trv.tree.joining := h
    simp only [ownCounts, hjoining]
    rfl
  rw [ownWave, hcounts, ownWave]

/-- A root without children closes a wave with its own counts; where they do not agree the next wave starts. -/
theorem closeWave_of_childless (h : s.childMask = 0) (htokens : s.trv.tree.tokens = []) :
    s.closeWave.step.wave = some s.ownWave
    ∧ (s.closeWave.step.agreed = true
        ↔ s.step.wave = some s.ownWave ∧ (s.ownWave.1 = s.ownWave.2 ∨ s.trv.tree.relaxed = true))
    ∧ s.only s.closeWave [.step, .trv, .regs] ∧ s.regsBut s.closeWave [(Page.sum, Reg.SUM_STAT)] := by
  have htotals : s.waveTotals = (s.ownWave.1, s.ownWave.2, 1) := by simp [waveTotals, htokens, ownWave]
  obtain ⟨u, hu⟩ : ∃ u, u = State.updTree { s.setFld Page.sum Reg.SUM_STAT 12 0 1 with step := { s.step with
      wave := some s.ownWave
      agreed := s.step.wave == some s.ownWave && (s.ownWave.1 == s.ownWave.2 || s.trv.tree.relaxed) } }
      (fun t => { t with probe := none, tokens := [] }) := ⟨_, rfl⟩
  have hstep : u.step.wave = some s.ownWave
      ∧ u.step.agreed = (s.step.wave == some s.ownWave && (s.ownWave.1 == s.ownWave.2 || s.trv.tree.relaxed)) := by
    rw [hu]
    exact ⟨rfl, rfl⟩
  have honly : s.only u [.step, .trv, .regs] := by
    rw [hu]
    exact only.trv (only.step (only.setFld (only_refl s _)))
  have hregs : s.regsBut u [(Page.sum, Reg.SUM_STAT)] := by
    rw [hu]
    exact regsBut_setReg (regsBut_refl s _) (by decide) (by simp) _
  have hmask : u.childMask = 0 := by
    have hreg : u.reg Page.sum Reg.SUM_CHILD_MASK = s.reg Page.sum Reg.SUM_CHILD_MASK :=
      hregs _ _ (by decide) (by decide)
    rw [childMask, regFld, hreg]
    exact h
  have hclose : s.closeWave = if s.step.wave == some s.ownWave && (s.ownWave.1 == s.ownWave.2 || s.trv.tree.relaxed)
      then u else u.startWave := by
    rw [hu]
    simp only [closeWave, htotals]
    rfl
  have hagreed : u.step.agreed = true
      ↔ s.step.wave = some s.ownWave ∧ (s.ownWave.1 = s.ownWave.2 ∨ s.trv.tree.relaxed = true) := by
    rw [hstep.2]
    simp
  rw [hclose]
  split
  · exact ⟨hstep.1, hagreed, honly, hregs⟩
  · obtain ⟨tree, htree, -⟩ := startWave_of_childless hmask
    rw [htree]
    exact ⟨hstep.1, hagreed, honly.trv, hregs⟩

theorem exec_collectionWave_of_childless (hticking : s.ticking = true) (hopen : s.stepOpen = true)
    (hagreed : s.step.agreed = false) (hphase : s.step.phase = .summitWait) (hquiet : s.localQuiet = true)
    (hroot : s.isRoot = true) (hmask : s.childMask = 0) :
    exec .collectionWave s = .next s.ensureWave.closeWave := by
  have hbegin : s.beginWaves = s := by simp [beginWaves, hphase]
  have htokens : s.ensureWave.tokensIn = true := by
    unfold ensureWave
    split
    · simp [tokensIn, childPorts_of_none hmask]
    · obtain ⟨tree, htree, -⟩ := startWave_of_childless hmask
      have hports : (s.setTree tree).childPorts = [] := childPorts_of_none hmask
      simp [htree, tokensIn, hports]
  change execCollectionWave s = _
  simp [execCollectionWave, hticking, hopen, hagreed, hbegin, hquiet, hroot, htokens]

/-! ### The summit (R53, R54) -/

theorem reg64_setReg64_same {p off n : Nat} : (s.setReg64 p off n).reg64 p off = n % 2 ^ 64 := by
  have hlow : (s.setReg64 p off n).reg p off = BitVec.ofNat 32 n := by
    rw [setReg64, reg_setReg_off (by omega), reg_setReg_same]
  have hhigh : (s.setReg64 p off n).reg p (off + 4) = BitVec.ofNat 32 (n / 2 ^ 32) := reg_setReg_same _ _ _ _
  rw [reg64, hlow, hhigh, join64, BitVec.toNat_ofNat, BitVec.toNat_ofNat]
  omega

/-- The registers as the summit leaves them (R54, R78). -/
def summitRegs (s : State) : State :=
  State.setInt (State.clrReg (State.setReg (State.setReg (State.setReg64 (s.setReg64 Page.stp Reg.STP_SUMMIT_NS s.elapsed)
    Page.sum Reg.SUM_LAST_STEP (s.setReg64 Page.stp Reg.STP_SUMMIT_NS s.elapsed).stepNo) Page.sum Reg.SUM_LAT_NS
    (BitVec.ofNat 32 (min 0xFFFFFFFF (s.elapsed - s.step.quietAt)))) Page.sum Reg.SUM_WDOG_CNT 0)
    Page.stp Reg.STP_STAT (bitWord 8)) Page.stp 1

theorem reachSummit_eq (s : State) : s.reachSummit = s.summitRegs.setStep
    { s.step with summited := true, release := releaseUnits, relStep := s.summitRegs.stepNo, agreed := false } := rfl

/-- At the summit the step page gets its time, and `STP_STAT` and `PG_INT` change a bit. -/
theorem reg_reachSummit {off : Nat} (ho : off < 4096) (hstat : off ≠ Reg.STP_STAT) (hint : off ≠ Reg.PG_INT) :
    s.reachSummit.reg Page.stp off = (s.setReg64 Page.stp Reg.STP_SUMMIT_NS s.elapsed).reg Page.stp off := by
  have hsum : ∀ (t : State) (o : Nat) (v : W32), o < 4096 → (t.setReg Page.sum o v).reg Page.stp off = t.reg Page.stp off :=
    fun _ _ _ h => reg_setReg_page (by decide) ho h
  rw [reachSummit_eq, reg_setStep, summitRegs, setInt, orReg, reg_setReg_off hint, clrReg, reg_setReg_off hstat,
    hsum _ _ _ (by decide), hsum _ _ _ (by decide), setReg64, hsum _ _ _ (by decide), hsum _ _ _ (by decide)]

theorem stepNo_reachSummit : s.reachSummit.stepNo = s.stepNo := by
  have hkept : ∀ off, off = Reg.STP_COUNT ∨ off = Reg.STP_COUNT + 4 →
      s.reachSummit.reg Page.stp off = s.reg Page.stp off := by
    rintro off (rfl | rfl) <;>
      rw [reg_reachSummit (by decide) (by decide) (by decide), setReg64, reg_setReg_off (by decide), reg_setReg_off (by decide)]
  rw [stepNo, reg64, hkept _ (.inl rfl), hkept _ (.inr rfl), ← reg64, ← stepNo]

theorem time_reachSummit : s.reachSummit.reg64 Page.stp Reg.STP_SUMMIT_NS = s.elapsed % 2 ^ 64 := by
  rw [reg64, reg_reachSummit (by decide) (by decide) (by decide), reg_reachSummit (by decide) (by decide) (by decide), ← reg64,
    reg64_setReg64_same]

theorem only.reachSummit {t : State} {l : List Part} (h : s.only t l) (hr : Part.regs ∈ l := by decide)
    (hs : Part.step ∈ l := by decide) : s.only t.reachSummit l :=
  only.step (((((((h.setReg64 hr).setReg64 hr).setReg hr).setReg hr).clrReg hr).setInt hr)) hs

/-- What the root sends down the tree at a summit (R389, R394, R400). -/
def summitSent (s : State) : State :=
  ((s.trv.tree.notices.foldl (fun s c => s.sendDown 6 0 c 0 s.stepLow) s).grantAtSummit s.wouldClose).sendDown 2 0 0 0
    ((s.trv.tree.notices.foldl (fun s c => s.sendDown 6 0 c 0 s.stepLow) s).grantAtSummit s.wouldClose).stepLow

theorem sendsOnly_summitSent (s : State) : s.SendsOnly s.summitSent :=
  (((SendsOnly.refl s).foldl fun h => h.sendDown _ _ _ _ _).grantAtSummit _).sendDown _ _ _ _ _

theorem exec_summit_of_agreed (hticking : s.ticking = true) (hopen : s.stepOpen = true) (hroot : s.isRoot = true)
    (hagreed : s.step.agreed = true) : exec .summit s = .next s.summitSent.reachSummit := by
  change execSummit s = _
  simp only [execSummit, hticking, hopen, hroot, hagreed, Bool.and_self, if_true]
  rfl

/-! ### The watchdog -/

/-- Only the error records and the registers of the pages of the chip and of freezing change. -/
structure ErrorOnly (s t : State) : Prop where
  parts : s.only t [.regs, .fault]
  regs : ∀ p off, p ≠ Page.chp → p ≠ Page.frz → off < 4096 → t.reg p off = s.reg p off

namespace ErrorOnly

variable {t : State}

theorem refl (s : State) : s.ErrorOnly s := ⟨only_refl s _, fun _ _ _ _ _ => rfl⟩

theorem branch {c : Prop} [Decidable c] {u : State} (h : s.ErrorOnly t) (hu : s.ErrorOnly u) :
    s.ErrorOnly (if c then t else u) := by
  by_cases hc : c <;> simpa [hc]

variable (h : s.ErrorOnly t)
include h

theorem setReg {p off : Nat} {v : W32} (hp : p = Page.chp ∨ p = Page.frz := by decide) (ho : off < 4096 := by decide) :
    s.ErrorOnly (t.setReg p off v) :=
  ⟨h.parts.setReg, fun q o hchp hfrz hoq => by
    rw [reg_setReg_page (by rintro rfl; rcases hp with hp | hp <;> contradiction) hoq ho, h.regs q o hchp hfrz hoq]⟩

theorem fault {x : FaultState} : s.ErrorOnly { t with fault := x } := ⟨h.parts.fault, h.regs⟩

theorem record {r : ErrRecord} : s.ErrorOnly (t.record r) := .branch h.fault h.setReg

theorem freeze {cause origin : Nat} : s.ErrorOnly (t.freeze cause origin) :=
  .branch h.setReg (.branch (h.setReg.setReg (off := Reg.FRZ_ENTRY_NS)).setReg.setReg h.setReg)

theorem beginRecovery {code : Nat} {unit : W32} : s.ErrorOnly (t.beginRecovery code unit) := fault (setReg h).setReg

/-- A FATAL error writes the record, and begins recovery or a freeze (R535, R583). -/
theorem fatal {code : Nat} {unit : W32} {addr : Nat} {inj : Bool} : s.ErrorOnly (t.fatal code unit addr inj) :=
  .branch h.record (.branch h.record.freeze h.record.beginRecovery)

theorem stepNo : t.stepNo = s.stepNo := by
  simp only [State.stepNo, reg64, h.regs Page.stp Reg.STP_COUNT (by decide) (by decide) (by decide),
    h.regs Page.stp (Reg.STP_COUNT + 4) (by decide) (by decide) (by decide)]

end ErrorOnly

theorem exec_summitWatchdogExpiry_of_limit (hticking : s.ticking = true)
    (hlimit : s.watchdogLimit ≤ s.regFld Page.sum Reg.SUM_WDOG_CNT 15 0) :
    exec .summitWatchdogExpiry s = .next ((s.setInt Page.sum 1).fatal 0x040A (pageId Page.sum) s.stepLow false) := by
  change execSummitWatchdogExpiry s = _
  simp [execSummitWatchdogExpiry, hticking, hlimit]

theorem exec_summitRelease_of_reached {unit : Fin 137} (htimebase : s.timebase = true)
    (hreaches : s.releaseReaches unit = true) : exec (.summitRelease unit) s = .next (s.unitSummit unit) := by
  change execSummitRelease unit s = _
  simp [execSummitRelease, htimebase, hreaches]

/-! ### The wrap (R74) -/

/-- The elapsed counter loses `n`, which powered time keeps (R622). -/
def wrapBy (s : State) (n : Nat) : State :=
  { s with elapsed := s.elapsed - n, scree := { s.scree with base := s.scree.base + n } }

theorem only_wrapBy (s : State) (n : Nat) : s.only (s.wrapBy n) [.elapsed, .scree] := by
  intro x hx
  cases x <;> simp_all [Part.same, wrapBy]

/-- The counter and its bits after a wrap of `n`. -/
def wrapMarked (s : State) (n : Nat) : State := ((s.wrapBy n).orReg Page.stp Reg.STP_ELAPSED_WRAP 1).setInt Page.stp 5

theorem elapsed_wrapMarked (s : State) (n : Nat) : (s.wrapMarked n).elapsed = s.elapsed - n := rfl

theorem poweredNs_wrapMarked {n : Nat} (h : n ≤ s.elapsed) : (s.wrapMarked n).poweredNs = s.poweredNs := by
  have hpowered : (s.wrapMarked n).poweredNs = s.scree.base + n + (s.elapsed - n) := rfl
  rw [hpowered, poweredNs]
  omega

theorem bit_wrapMarked (s : State) (n : Nat) : bit ((s.wrapMarked n).reg Page.stp Reg.STP_ELAPSED_WRAP) 0 = true := by
  have hreg : (s.wrapMarked n).reg Page.stp Reg.STP_ELAPSED_WRAP
      = (s.wrapBy n).reg Page.stp Reg.STP_ELAPSED_WRAP ||| bitWord 0 :=
    (reg_setReg_off (by decide)).trans (reg_setReg_same _ _ _ _)
  rw [hreg]
  exact bit_or_bitWord _ (by decide)

theorem regsBut_wrapMarked (s : State) (n : Nat) :
    s.regsBut (s.wrapMarked n) [(Page.stp, Reg.STP_ELAPSED_WRAP), (Page.stp, Reg.PG_INT)] :=
  regsBut_setReg (regsBut_setReg (regsBut_refl s _) (by decide) (by simp) _) (by decide) (by simp) _

theorem exec_elapsedWrap_of_full (h : 2 ^ 64 ≤ s.elapsed) : exec .elapsedWrap s = .next (s.wrapMarked (2 ^ 64)) := by
  change execElapsedWrap s = _
  rw [execElapsedWrap, if_pos h]
  rfl

end State

/-- Settles O21: a busy chip answers no wave; a childless root closes one with its own counts; what the root sends leaves the
step page alone; the actions of a unit leave the state of the step alone but for the chip's. -/
theorem summitAndRelease : Obligations.SummitAndRelease := by
  intro s
  refine ⟨fun hlocal hnow => ?busy, fun hticking hopen hagreed hphase hquiet hroot hmask htokens => ?wave,
    fun hticking hopen hroot hagreed => ?summit, fun unit htimebase hreaches => ?release, fun hticking hlimit => ?watchdog,
    fun hfull => ?wrap⟩
  case busy => exact ⟨s, State.exec_collectionWave_of_busy hlocal hnow, rfl⟩
  case wave =>
    obtain ⟨tree, htree, hnone, hjoining, hrelaxed⟩ := State.ensureWave_of_childless hmask htokens
    obtain ⟨hwave, hequal, hparts, hregs⟩ := State.closeWave_of_childless (s := s.setTree tree) hmask hnone
    have hown : (s.setTree tree).ownWave = s.ownWave := State.ownWave_setTree hjoining
    rw [hown] at hwave hequal
    refine ⟨_, State.exec_collectionWave_of_childless hticking hopen hagreed hphase hquiet hroot hmask, ?_⟩
    rw [htree]
    refine ⟨hwave, hequal.trans ?_, (State.only.trv (State.only_refl s _)).trans hparts, hregs⟩
    rw [← hrelaxed]
    rfl
  case summit =>
    have hsent := s.sendsOnly_summitSent
    refine ⟨_, State.exec_summit_of_agreed hticking hopen hroot hagreed, rfl, ?_, ?_, ?_, ?_, ?_⟩
    · change 136 ∈ releaseUnits
      decide
    · rw [State.stepNo_reachSummit, hsent.stepNo]
    · rw [State.time_reachSummit, hsent.elapsed]
    · rw [State.reachSummit_eq, State.reg_setStep]
      exact State.bit_setInt (by decide)
    · exact (hsent.parts.mono (by decide)).reachSummit
  case release =>
    obtain ⟨hparts, hgone, hphase⟩ := s.unitSummit_parts unit
    exact ⟨_, State.exec_summitRelease_of_reached htimebase hreaches, hgone, hphase, hparts.mono (by decide)⟩
  case watchdog =>
    have herror := (State.ErrorOnly.refl (s.setInt Page.sum 1)).fatal (code := 0x040A) (unit := pageId Page.sum)
      (addr := s.stepLow) (inj := false)
    refine ⟨_, State.exec_summitWatchdogExpiry_of_limit hticking hlimit, ?_, ?_, herror.parts .mem (by decide),
      herror.parts .cells (by decide)⟩
    · rw [herror.regs _ _ (by decide) (by decide) (by decide)]
      exact State.bit_setInt (by decide)
    · exact herror.stepNo.trans (State.stepNo_setReg (by decide) (by decide))
  case wrap =>
    exact ⟨_, State.exec_elapsedWrap_of_full hfull, s.elapsed_wrapMarked _, s.bit_wrapMarked _, State.bit_setInt (by decide),
      State.poweredNs_wrapMarked hfull, ((s.only_wrapBy _).mono (by decide)).orReg.setInt, s.regsBut_wrapMarked _⟩

end Sys2Proof.Machine
end

section
/-! # The numeric block: windows and seeds -/
namespace Sys2Proof.Machine
open Sys2Proof

/-! ### Listed values -/

section
variable {α : Type}

theorem Store.find_insert_same (m : Store α) (k : Nat) (v : α) (h : m.all (fun p => p.1 != k) = true) :
    Store.find (Store.insert m k v) k = some v := by
  induction m with
  | nil => simp [Store.insert, Store.find]
  | cons x m ih =>
    simp only [List.all_cons, Bool.and_eq_true, bne_iff_ne, ne_eq] at h
    by_cases hk : k < x.1
    · simp [Store.insert, hk, Store.find]
    · have hm := ih (by simpa using h.2)
      simp only [Store.find] at hm
      simp [Store.insert, hk, Store.find, h.1, hm]

theorem Store.find_insert_other (m : Store α) {k j : Nat} (v : α) (h : j ≠ k) :
    Store.find (Store.insert m k v) j = Store.find m j := by
  induction m with
  | nil => simp [Store.insert, Store.find, Ne.symm h]
  | cons x m ih =>
    obtain ⟨a, w⟩ := x
    by_cases hk : k < a
    · simp [Store.insert, hk, Store.find, Ne.symm h]
    · simp only [Store.find] at ih
      simp only [Store.insert, hk, if_false, Store.find, List.find?_cons]
      split
      · rfl
      · exact ih

theorem Store.find_erase_other (m : Store α) {k j : Nat} (h : j ≠ k) : Store.find (Store.erase m k) j = Store.find m j := by
  unfold Store.find Store.erase
  rw [List.find?_filter]
  congr 2
  funext x
  by_cases hx : x.1 = j <;> simp [hx, h]

@[simp] theorem Store.find_put_same (m : Store α) (k : Nat) (v : α) : Store.find (Store.put m k v) k = some v :=
  Store.find_insert_same _ k v (Store.erase_all_ne m k)

theorem Store.find_put_other (m : Store α) {k j : Nat} (v : α) (h : j ≠ k) :
    Store.find (Store.put m k v) j = Store.find m j := by
  rw [Store.put, Store.find_insert_other _ v h, Store.find_erase_other m h]

end

namespace State

variable {s : State}

/-! ### Saturation windows (R104) -/

section
variable {q : Nat}

/-- The counts of a page, cleared one after the other. -/
def clearCounts (s : State) (q : Nat) : State := (List.range 8).foldl (fun s n => s.setReg q (Reg.SAT_CNTn + 4 * n) 0) s

theorem newWindow_eq (s : State) (q : Nat) :
    s.newWindow q = (s.clearCounts q).withWindows (setNum (s.clearCounts q).cells.satWin q 0) := rfl

theorem reg_withWindows (s : State) (w : Store Nat) (p off : Nat) : (s.withWindows w).reg p off = s.reg p off := rfl

theorem reg_clearCounts_other {p off : Nat} (h : ∀ n, n < 8 → p * 4096 + off ≠ q * 4096 + (Reg.SAT_CNTn + 4 * n)) :
    (s.clearCounts q).reg p off = s.reg p off :=
  List.foldlRecOn (motive := fun t : State => t.reg p off = s.reg p off) _ _ rfl fun t ht n hn =>
    (t.reg_setReg_other 0 (h n (List.mem_range.mp hn))).trans ht

theorem reg_foldl_clear {l : List Nat} {n : Nat} (hn : n ∈ l) (s : State) :
    (l.foldl (fun s n => s.setReg q (Reg.SAT_CNTn + 4 * n) 0) s).reg q (Reg.SAT_CNTn + 4 * n) = 0 := by
  induction l using List.reverseRecOn with
  | nil => simp at hn
  | append_singleton l a ih =>
    rw [List.foldl_concat]
    by_cases ha : n = a
    · rw [ha, reg_setReg_same]
    · rw [reg_setReg_other _ _ (by omega)]
      exact ih (by simpa [ha] using hn)

theorem reg_clearCounts_same {n : Nat} (hn : n < 8) : (s.clearCounts q).reg q (Reg.SAT_CNTn + 4 * n) = 0 :=
  reg_foldl_clear (List.mem_range.mpr hn) s

theorem cells_clearCounts (s : State) (q : Nat) : (s.clearCounts q).cells = s.cells :=
  List.foldlRecOn (motive := fun t : State => t.cells = s.cells) _ _ rfl fun _ ht _ _ => ht

theorem reg_newWindow_same {n : Nat} (hn : n < 8) : (s.newWindow q).reg q (Reg.SAT_CNTn + 4 * n) = 0 := by
  rw [newWindow_eq, reg_withWindows]
  exact reg_clearCounts_same hn

theorem reg_newWindow_other {p off : Nat} (h : ∀ n, n < 8 → p * 4096 + off ≠ q * 4096 + (Reg.SAT_CNTn + 4 * n)) :
    (s.newWindow q).reg p off = s.reg p off := by
  rw [newWindow_eq, reg_withWindows]
  exact reg_clearCounts_other h

theorem satWin_newWindow (s : State) (q : Nat) : numAt (s.newWindow q).cells.satWin q = 0 := by
  rw [newWindow_eq]
  exact numAt_setNum_same _ q 0

theorem neurons_newWindow (s : State) (q : Nat) : (s.newWindow q).cells.neurons = s.cells.neurons := by
  have hcells : (s.newWindow q).cells.neurons = (s.clearCounts q).cells.neurons := by rw [newWindow_eq, withWindows]
  rw [hcells, cells_clearCounts]

theorem only.newWindow {t : State} {l : List Part} (h : s.only t l) (hl : Part.regs ∈ l := by decide)
    (hc : Part.cells ∈ l := by decide) : s.only (t.newWindow q) l :=
  (h.foldl fun _ hu => hu.setReg hl).cells hc

end

/-- SAT_WINDOW_WRITE to `SAT_LIMIT`, taken for the registers of page q. -/
theorem exec_satWindowWrite_of_takes {r : Requester} {page q : Nat} {v : W32} (hnum : numericPage page = true)
    (hlow : page < 0x20000) (hview : s.viewPage page Reg.SAT_LIMIT = some q) (htakes : s.takes r page Reg.SAT_LIMIT) :
    exec (.satWindowWrite r page true v) s = .next ((s.setReg q Reg.SAT_LIMIT v).newWindow q) := by
  change execSatWindowWrite r page true v s = _
  simp [execSatWindowWrite, hnum, hlow, ifAdmit_of_takes htakes, satWrite, hview]

/-! ### Seeds (R97, R98) -/

theorem lfsr_setLfsr_same {page site : Nat} {x : W64} : (s.setLfsr page site x).lfsr page site = x := by
  simp [lfsr, setLfsr]

theorem lfsr_setLfsr_other {page site n : Nat} {x : W64} (h : n ≠ site) :
    (s.setLfsr page site x).lfsr page n = s.lfsr page n := by
  simp only [lfsr, setLfsr]
  rw [Store.find_put_other _ _ (by omega)]

/-- The generator of a site is seeded once, the others of its page beside it. -/
theorem lfsr_foldl_setLfsr {page n : Nat} {f : Nat → W64} {l : List Nat} (hn : n ∈ l) (s : State) :
    (l.foldl (fun s n => s.setLfsr page n (f n)) s).lfsr page n = f n := by
  induction l using List.reverseRecOn with
  | nil => simp at hn
  | append_singleton l a ih =>
    rw [List.foldl_concat]
    by_cases ha : n = a
    · rw [ha, lfsr_setLfsr_same]
    · rw [lfsr_setLfsr_other ha]
      exact ih (by simpa [ha] using hn)

theorem lfsr_reseed {page n : Nat} (v : W64) (hn : n ∈ srSites page) :
    (s.reseed page v).lfsr page n = seedOf (v ^^^ BitVec.ofNat 64 n) :=
  lfsr_foldl_setLfsr (f := fun n => seedOf (v ^^^ BitVec.ofNat 64 n)) hn s

theorem neurons_reseed (s : State) (page : Nat) (v : W64) : (s.reseed page v).cells.neurons = s.cells.neurons :=
  List.foldlRecOn (motive := fun t : State => t.cells.neurons = s.cells.neurons) _ _ rfl fun _ ht _ _ => ht

theorem only.reseed {t : State} {l : List Part} (h : s.only t l) {page : Nat} {v : W64} (hl : Part.cells ∈ l := by decide) :
    s.only (t.reseed page v) l :=
  h.foldl fun _ hu => hu.cells hl

/-- A seed for page q: it waits for the summit while the step timer runs, and else is in force at once. -/
def takeSeed (s : State) (q : Nat) (v : W64) : State :=
  if s.running then { s with cells := { s.cells with seeds := Store.put s.cells.seeds q v } } else s.reseed q v

theorem takeSeed_of_running (h : s.running = true) (q : Nat) (v : W64) :
    s.takeSeed q v = { s with cells := { s.cells with seeds := Store.put s.cells.seeds q v } } := if_pos h

theorem takeSeed_of_stopped (h : s.running = false) (q : Nat) (v : W64) : s.takeSeed q v = s.reseed q v :=
  if_neg (by simp [h])

/-- SR_SEED_WRITE, taken for the generators of page q. -/
theorem exec_srSeedWrite_of_takesWo {r : Requester} {page q : Nat} {v : W64} (hnum : numericPage page = true)
    (hlow : page < 0x20000) (hview : s.viewPage page Reg.SR_SEED = some q) (htakes : s.takesWo r page Reg.SR_SEED) :
    exec (.srSeedWrite r page v) s = .next (s.takeSeed q v) := by
  change execSrSeedWrite r page v s = _
  simp [execSrSeedWrite, hnum, hlow, ifAdmitWo_of_takesWo htakes, seedWrite, hview, takeSeed]

end State

/-- Settles O23: a taken limit is one stored register and a new window; a taken seed goes to the page's generators at once,
or waits. -/
theorem numericBlockWrites : Obligations.NumericBlockWrites := by
  intro s req page q hnum hlow
  refine ⟨fun v hview htakes => ⟨_, State.exec_satWindowWrite_of_takes hnum hlow hview htakes, ?limit⟩,
    fun v hview htakes => ⟨_, State.exec_srSeedWrite_of_takesWo hnum hlow hview htakes, ?seed⟩⟩
  case limit =>
    refine ⟨?_, fun n hn => State.reg_newWindow_same hn, State.satWin_newWindow _ q, State.neurons_newWindow _ q,
      (State.only_refl s _).setReg.newWindow, fun p off hoff hp => ?_⟩
    · refine (State.reg_newWindow_other fun n _ => ?_).trans (s.reg_setReg_same q _ v)
      simp only [Reg.SAT_LIMIT, Reg.SAT_CNTn]
      omega
    · simp only [List.mem_cons, List.mem_map, List.mem_range, not_or, not_exists, not_and, Prod.mk.injEq] at hp
      obtain ⟨hlimit, hcounts⟩ := hp
      refine (State.reg_newWindow_other fun n hn => ?_).trans (s.reg_setReg_other v ?_)
      · have := hcounts n hn
        simp only [Reg.SAT_CNTn] at this ⊢
        omega
      · simp only [Reg.SAT_LIMIT] at hlimit ⊢
        omega
  case seed =>
    cases hrun : s.running with
    | true =>
      rw [State.takeSeed_of_running hrun]
      exact ⟨fun h => Bool.noConfusion h, fun _ => ⟨rfl, Store.find_put_same _ q v⟩, rfl, (State.only_refl s _).cells⟩
    | false =>
      rw [State.takeSeed_of_stopped hrun]
      exact ⟨fun _ n hn => State.lfsr_reseed v hn, fun h => Bool.noConfusion h, s.neurons_reseed q v, (State.only_refl s _).reseed⟩

end Sys2Proof.Machine
end

section
/-! # A late event on its way to the neurons -/
namespace Sys2Proof.Machine
open Sys2Proof

/-- An item of cell 0 that an event of step 4 has begun, late in step 5, and that has read a valid row table entry: a
SPARSE32 row of no words at offset 0 of DRAM. -/
def lateItem : Item :=
  { id := 1, cell := 0, stage := .row, tbl := 64, word := 2 ^ 40
    entry := { cell := 0, queue := 0, row := 0, due := 4, late := true, graded := none, off := 0 } }

/-- In step 5 the last granule of that item's row has arrived; the row's header gives S8 weights. -/
def lateFetched : State :=
  { stepFive.setByte (Base.dram + 3) 2 with cells := { items := [lateItem], mapped := true, updated := [0] } }

theorem lateFetched_takes : lateFetched.reqsDone 1 = true ∧ lateFetched.mayTake 0 = true := by decide +kernel

/-- The integration of a late event is counted (R61). -/
theorem late_after_rowFetchComplete :
    lateFetched.step.late = 0 ∧ (after lateFetched (exec (.rowFetchComplete 1) lateFetched)).step.late = 1 := by decide +kernel

/-- Refutes O27: the statement keeps the step, and the integration of a late event is counted there (R61). -/
theorem not_rowsReachTheNeurons : ¬ Obligations.RowsReachTheNeurons := by
  intro h
  obtain ⟨hdone, hmay⟩ := lateFetched_takes
  obtain ⟨hitems, -⟩ := h lateFetched
  obtain ⟨-, hrow⟩ := hitems 1 lateItem rfl hdone
  obtain ⟨-, -, -, honly⟩ := State.after_of_does (hrow rfl hmay)
  have hstep := honly .step (by decide)
  obtain ⟨hbefore, hafter⟩ := late_after_rowFetchComplete
  have hkept := congrArg StepState.late hstep
  rw [hbefore, hafter] at hkept
  cases hkept

end Sys2Proof.Machine
end

section
/-! # Tensors in memory -/
namespace Sys2Proof.Machine
open Sys2Proof

/-! ### Numbers as bytes -/

@[simp] theorem length_leBytes (n x : Nat) : (leBytes n x).length = n := by
  induction n generalizing x with
  | zero => rfl
  | succ n ih => simp [leBytes, ih]

theorem leNat_leBytes (n x : Nat) : leNat (leBytes n x) = x % 256 ^ n := by
  induction n generalizing x with
  | zero => simp [leBytes, leNat, Nat.mod_one]
  | succ n ih => simp [leBytes, leNat, ih, Nat.pow_succ', Nat.mod_mul]

/-- The elements that a number packs stand in its low bits, each in `w` of them. -/
theorem packElems_div (w i : Nat) (l : List Nat) : packElems w l / 2 ^ (w * i) = packElems w (l.drop i) := by
  induction i generalizing l with
  | zero => simp
  | succ i ih =>
    cases l with
    | nil => simp [packElems]
    | cons c l =>
      have hlow : packElems w (c :: l) / 2 ^ w = packElems w l := by
        have hc : c % 2 ^ w / 2 ^ w = 0 := Nat.div_eq_of_lt (Nat.mod_lt _ (Nat.two_pow_pos w))
        rw [packElems, Nat.add_mul_div_left _ _ (Nat.two_pow_pos w), hc, Nat.zero_add]
      rw [Nat.mul_succ, Nat.add_comm, Nat.pow_add, ← Nat.div_div_eq_div_mul, hlow, ih, List.drop_succ_cons]

theorem packElems_shift_mod {w i : Nat} {l : List Nat} (hi : i < l.length) :
    packElems w l / 2 ^ (w * i) % 2 ^ w = l[i] % 2 ^ w := by
  rw [packElems_div, List.drop_eq_getElem_cons hi, packElems, Nat.add_mul_mod_self_left, Nat.mod_mod]

/-- Bits above the packed elements do not change an element. -/
theorem packElems_add_shift_mod {w i total : Nat} {l : List Nat} (hi : i < l.length) (hbits : w * l.length ≤ total) (q : Nat) :
    (packElems w l + q * 2 ^ (w * l.length)) % 2 ^ total / 2 ^ (w * i) % 2 ^ w = l[i] % 2 ^ w := by
  have hroom : w * i + w ≤ w * l.length := by
    rw [← Nat.mul_succ]
    exact Nat.mul_le_mul_left w hi
  have hdvd : 2 ^ (w * i + w) ∣ 2 ^ total := Nat.pow_dvd_pow 2 (by omega)
  have hhigh : 2 ^ (w * i + w) ∣ q * 2 ^ (w * l.length) := (Nat.pow_dvd_pow 2 hroom).mul_left q
  rw [← packElems_shift_mod hi, ← Nat.mod_mul_right_div_self, ← Nat.mod_mul_right_div_self, ← Nat.pow_add,
    Nat.mod_mod_of_dvd _ hdvd, Nat.add_mod, Nat.mod_eq_zero_of_dvd hhigh, Nat.add_zero, Nat.mod_mod]

namespace State

variable {s : State}

theorem num_setBytes (s : State) (a : Nat) (l : List Byte) : (s.setBytes a l).num a l.length = leNat l := by
  have hbytes : (s.setBytes a l).bytes a l.length = l :=
    List.ext_getElem (by simp [bytes]) fun i _ hi => by simp [bytes, byte_setBytes l s a i hi]
  rw [num, hbytes]

/-! ### Stores in SRAM -/

theorem mem_sramStore (s : State) (a : Nat) (l : List Byte) : (s.sramStore a l).mem = (s.setBytes a l).mem :=
  List.foldlRecOn (motive := fun t : State => t.mem = (s.setBytes a l).mem) _ _ rfl fun t ht i _ => by
    dsimp only
    split <;> exact ht

theorem byte_sramStore (s : State) (a x : Nat) (l : List Byte) : (s.sramStore a l).byte x = (s.setBytes a l).byte x := by
  simp only [byte, mem_sramStore]

theorem num_sramStore (s : State) (a : Nat) (l : List Byte) : (s.sramStore a l).num a l.length = leNat l := by
  rw [← num_setBytes s a l]
  simp only [num, bytes, byte_sramStore]

/-! ### Tensors -/

section
variable {k : Nat} {x : PltOperand} {l : List Nat}

/-- The bytes that a written tensor leaves: its elements, and what its last byte held beside them. -/
def tensorBytes (s : State) (x : PltOperand) (l : List Nat) : List Byte :=
  leBytes x.bytes (packElems x.width l + s.num x.addr x.bytes / 2 ^ (x.count * x.width) * 2 ^ (x.count * x.width))

theorem writeElems_of_sram (h : x.addr < Base.dram) : s.writeElems k x l = s.sramStore x.addr (s.tensorBytes x l) :=
  if_neg (Nat.not_le.mpr h)

/-- A written tensor reads back (R85, R307). -/
theorem readElems_writeElems (h : x.addr < Base.dram) (hlen : l.length = x.count) (hl : ∀ c ∈ l, c < 2 ^ x.width) :
    (s.writeElems k x l).readElems x = l := by
  have hbits : x.width * l.length ≤ 8 * x.bytes := by
    rw [hlen, Nat.mul_comm, PltOperand.bytes]
    omega
  have hnum : (s.writeElems k x l).num x.addr x.bytes
      = (packElems x.width l + s.num x.addr x.bytes / 2 ^ (x.width * l.length) * 2 ^ (x.width * l.length)) % 2 ^ (8 * x.bytes) := by
    have hread := num_sramStore s x.addr (s.tensorBytes x l)
    rw [tensorBytes, length_leBytes, leNat_leBytes, ← hlen, Nat.mul_comm l.length] at hread
    rw [writeElems_of_sram h, tensorBytes, ← hlen, Nat.mul_comm l.length, hread, Nat.pow_mul 2 8]
  refine List.ext_getElem (by simp [readElems, hlen]) fun i _ hi => ?_
  simp only [readElems, List.getElem_map, List.getElem_range, hnum, Nat.shiftRight_eq_div_pow]
  rw [packElems_add_shift_mod hi hbits, Nat.mod_eq_of_lt (hl _ (List.getElem_mem hi))]

theorem bytesBut_writeElems (h : x.addr < Base.dram) : s.bytesBut (s.writeElems k x l) x.addr x.bytes := by
  intro a ha
  rw [writeElems_of_sram h, byte_sramStore]
  exact byte_setBytes_other _ s x.addr a (by simpa [tensorBytes] using ha)

end

end State

end Sys2Proof.Machine
end

section
/-! # Plateau jobs on operands in the array's own SRAM -/
namespace Sys2Proof.Machine
open Sys2Proof

/-- The operand lies in array k's own SRAM (R297, R308). -/
def PltOperand.inSram (k : Nat) (y : PltOperand) : Prop :=
  pltSram k ≤ y.addr ∧ y.addr + max 1 y.bytes ≤ pltSram k + 0x1000000

section
variable {k : Nat} {y : PltOperand}

theorem PltOperand.inSram.range (h : y.inSram k) (hk : k < 4) :
    Base.plt ≤ y.addr ∧ y.addr + y.bytes ≤ Base.plt + 0x4000000 ∧ y.addr < Base.plt + 0x4000000 := by
  obtain ⟨hlo, hhi⟩ := h
  unfold pltSram at hlo hhi
  omega

theorem PltOperand.inSram.below_dram (h : y.inSram k) (hk : k < 4) : y.addr + y.bytes < Base.dram ∧ y.addr < Base.dram := by
  obtain ⟨-, hbytes, haddr⟩ := h.range hk
  unfold Base.plt at hbytes haddr
  unfold Base.dram
  omega

theorem PltOperand.inSram.region (h : y.inSram k) (hk : k < 4) : addrRegion y.addr = .pltSram := by
  obtain ⟨hlo, -, hhi⟩ := h.range hk
  unfold Base.plt at hlo hhi
  unfold addrRegion Base.rfg Base.dump Base.pages Base.tarn Base.plt
  rw [if_neg (by omega), if_neg (by omega), if_neg (by omega), if_neg (by omega), if_neg (by omega), if_pos (by omega)]

theorem PltOperand.inSram.place (h : y.inSram k) (s : State) : s.pltPlace k y.addr (max 1 y.bytes) = some .sram := if_pos h

end

/-- Every operand of the job lies in array k's own SRAM. -/
def PltJob.inSram (j : PltJob) (k : Nat) : Prop := ∀ y ∈ j.operands.all, y.inSram k

/-- The operands that a job reads. -/
def PltOperands.read (x : PltOperands) : List PltOperand :=
  x.a.toList ++ x.b.toList ++ (if x.readO then x.o.toList else [])

theorem PltOperands.mem_all_of_mem_read {x : PltOperands} {y : PltOperand} (h : y ∈ x.read) : y ∈ x.all := by
  unfold PltOperands.read at h
  unfold PltOperands.all
  split at h
  · exact h
  · exact List.mem_append_left _ (by simpa using h)

namespace State

variable {s : State} {k : Nat} {j : PltJob}

/-- The elements of the operands that a job reads. -/
def pltIn (s : State) (x : PltOperands) : PltIn :=
  let codes (y : Option PltOperand) : List Nat := match y with
    | some y => s.readElems y
    | none => []
  { a := codes x.a, b := codes x.b, o := if x.readO then codes x.o else [] }

theorem pltHeld_of_inSram (h : j.inSram k) (hk : k < 4) : s.pltHeld j = false := by
  refine List.any_eq_false.mpr fun y hy => ?_
  simp [(h y hy).region hk]

theorem pltRefusal_of_inSram (h : j.inSram k) (hk : k < 4) (hformat : j.formatOk = true) (hshape : j.shapeOk = true) :
    s.pltRefusal k j = none := by
  have hplaced : j.operands.all.any (fun x => (s.pltPlace k x.addr (max 1 x.bytes)).isNone) = false :=
    List.any_eq_false.mpr fun y hy => by simp [(h y hy).place s]
  simp only [pltRefusal, hformat, hshape, hplaced]
  cases ho : j.operands.o with
  | none => rfl
  | some y =>
    have hy : y.inSram k := h y (by simp [PltOperands.all, ho])
    have hfree : s.inSynapses y.addr y.bytes = false := by
      obtain ⟨hend, -⟩ := hy.below_dram hk
      simp only [inSynapses, decide_eq_false_iff_not]
      omega
    simp [hfree]

theorem pltBarred_of_inSram {y : PltOperand} (h : y.inSram k) : s.pltBarred k y = (none, s) := by
  -- `banksOf` stands for some function, so that the kernel compares the branches and computes no banks
  have hplace := h.place s
  obtain ⟨banks, hb⟩ : ∃ f, banksOf = f := ⟨_, rfl⟩
  have e : pltBarred = pltBarred := rfl
  conv_rhs at e => delta pltBarred
  rw [e, hb]
  dsimp only
  rw [hplace]

theorem pltBars_of_inSram {l : List PltOperand} (h : ∀ y ∈ l, y.inSram k) : s.pltBars k l = (none, s) := by
  induction l with
  | nil => rfl
  | cons y l ih =>
    rw [pltBars, pltBarred_of_inSram (h y (by simp))]
    exact ih fun z hz => h z (by simp [hz])

theorem pltReqs_of_inSram (h : j.inSram k) (hk : k < 4) : s.pltReqs k j = s := by
  have hnone : ∀ y ∈ j.operands.read ++ j.operands.o.toList, ¬ Base.dram ≤ y.addr := by
    intro y hy
    have hall : y ∈ j.operands.all := by
      rcases List.mem_append.mp hy with hy | hy
      · exact PltOperands.mem_all_of_mem_read hy
      · exact List.mem_append_right _ hy
    exact Nat.not_le.mpr ((h y hall).below_dram hk).2
  unfold pltReqs
  refine List.foldlRecOn (motive := fun t => t = s) _ _ rfl fun t ht y hy => ?_
  rw [if_neg (hnone y hy), ht]

theorem operandPoison_of_clean (hp : s.poison = []) {y : PltOperand} (h : y.addr < Base.dram) : s.operandPoison y = false := by
  simp [operandPoison, Nat.not_le.mpr h, poisonWords, isPoison, hp]

/-- The work of a job that nothing refuses, bars or poisons. -/
def pltDone (s : State) (k : Nat) (j : PltJob) (go : Nat → PltJob → PltIn → State → PltResult × State) : Nat × State :=
  let r := go k j (s.pltIn j.operands) s
  match j.operands.o, r.1.2 with
  | some y, some l => (r.1.1, r.2.writeElems k y l)
  | _, _ => (r.1.1, r.2)

/-- A job on clean operands in the array's own SRAM is neither refused nor barred nor ended by poison: it runs its operation. -/
theorem pltWork_of_inSram (h : j.inSram k) (hk : k < 4) (hformat : j.formatOk = true) (hshape : j.shapeOk = true)
    (hp : s.poison = []) (go : Nat → PltJob → PltIn → State → PltResult × State) :
    s.pltWork k j go = s.pltDone k j go := by
  have hclean : ¬ j.operands.read.any s.operandPoison = true := by
    rw [List.any_eq_true]
    rintro ⟨y, hy, hpoison⟩
    rw [operandPoison_of_clean hp ((h y (PltOperands.mem_all_of_mem_read hy)).below_dram hk).2] at hpoison
    cases hpoison
  unfold pltWork
  rw [pltRefusal_of_inSram h hk hformat hshape]
  dsimp only
  rw [pltBars_of_inSram h]
  dsimp only
  rw [pltReqs_of_inSram h hk]
  exact if_neg hclean

end State

end Sys2Proof.Machine
end

section
/-! # Matrix products of integers -/
namespace Sys2Proof.Machine
open Sys2Proof

/-! ### Maps that take the state along -/

section
variable {α β : Type} {f : State → α → β × State}

theorem mapState_fst {g : α → β} (h : ∀ s x, (f s x).1 = g x) (s : State) (l : List α) : (mapState f s l).1 = l.map g := by
  induction l generalizing s with
  | nil => rfl
  | cons x l ih => simp [mapState, h, ih]

theorem State.only.mapState {s t : State} {parts : List Part} {l : List α} (h : s.only t parts)
    (hf : ∀ {u x}, s.only u parts → s.only (f u x).2 parts) : s.only (mapState f t l).2 parts := by
  induction l generalizing t with
  | nil => exact h
  | cons x l ih => exact ih (hf h)

end

/-! ### Conversions at a site -/

namespace State.only

variable {s t : State} {l : List Part} {page site : Nat} (h : s.only t l)
include h

theorem countConv {c : Conv} (hl : Part.regs ∈ l := by decide) : s.only (t.countConv page site c) l := by
  have hnan : s.only (if c.nan then t.count page Reg.SAT_NAN 1 else t) l := .branch (h.count hl) h
  exact .branch (.branch ((((hnan.count hl).count hl).orReg hl).setInt hl) ((hnan.count hl).count hl)) hnan

theorem siteInt {w : Nat} {i : Int} (hl : Part.regs ∈ l := by decide) : s.only (t.siteInt page site w i).2 l :=
  h.countConv hl

theorem siteConv {f : Nat} {x : Num} (hl : Part.regs ∈ l := by decide) : s.only (t.siteConv page site f x).2 l :=
  h.countConv hl

end State.only

/-! ### Integers of 32 bits -/

/-- An integer limited to the range of 32-bit two's complement (R103). -/
def limit32 (i : Int) : Int := max (-2 ^ 31) (min (2 ^ 31 - 1) i)

theorem limit32_bounds (i : Int) : -2 ^ 31 ≤ limit32 i ∧ limit32 i ≤ 2 ^ 31 - 1 := by
  unfold limit32
  omega

theorem limit32_of_bounds {i : Int} (h : -2 ^ 31 ≤ i ∧ i ≤ 2 ^ 31 - 1) : limit32 i = i := by
  unfold limit32
  omega

theorem code_satInt32 (i : Int) : (satInt 32 i).code = ofSigned 32 (limit32 i) := by
  have hcast : ((2 ^ (32 - 1) : Nat) : Int) = 2 ^ 31 := rfl
  simp only [satInt, limit32, hcast, apply_ite Conv.code]
  split_ifs <;> congr 1 <;> omega

theorem toSigned_ofSigned32 {i : Int} (h : -2 ^ 31 ≤ i ∧ i ≤ 2 ^ 31 - 1) : toSigned 32 (ofSigned 32 i) = i := by
  simp only [toSigned, ofSigned]
  split_ifs <;> omega

theorem ofSigned_lt (w : Nat) (i : Int) : ofSigned w i < 2 ^ w := by
  have hpos : (0 : Int) < (2 ^ w : Nat) := Int.natCast_pos.mpr (Nat.two_pow_pos w)
  have := Int.emod_lt_of_pos i hpos
  unfold ofSigned
  omega

theorem siteInt32_fst (s : State) (page site : Nat) (i : Int) : (s.siteInt page site 32 i).1 = limit32 i := by
  rw [State.siteInt, code_satInt32, toSigned_ofSigned32 (limit32_bounds i)]

/-- An integer converted to S32 is limited, and not rounded (R89, R93). -/
theorem encodeNum_s32_ofInt (e5inf : Bool) (i : Int) : encodeNum 4 e5inf (Num.ofInt i) none = satInt 32 i := by
  have hround : ∀ b, roundMag b i.natAbs 1 none = i.natAbs := fun b => by
    simp only [roundMag]
    omega
  have hsign : (if decide (i < 0) = true then -(i.natAbs : Int) else i.natAbs) = i := by
    simp only [decide_eq_true_eq]
    split <;> omega
  change satInt 32 (if decide (i < 0) = true then -(roundMag _ i.natAbs 1 none : Int) else roundMag _ i.natAbs 1 none) = _
  rw [hround, hsign]

/-! ### Scale one (R99) -/

theorem Num.ofInt_mul_one (i : Int) : (Num.ofInt i).mul (Num.ofInt 1) = Num.ofInt i := by
  simp [Num.ofInt, Num.mul]

theorem Num.ofInt_div_one_shift (i : Int) : ((Num.ofInt i).div (Num.ofInt 1)).shift (-0) = Num.ofInt i := by
  simp [Num.ofInt, Num.div, Num.shift, scale2]

/-- The scale of a job whose operands all have MULT 1 and EXP 0. -/
def PltJob.unitScale (j : PltJob) : Prop := ∀ x, x < 3 → j.mult x = 1 ∧ j.exp x = 0

theorem PltJob.unitScale.product {j : PltJob} (h : j.unitScale) :
    (realOf 4 1 (j.mult 0) (j.exp 0)).mul (realOf 4 1 (j.mult 1) (j.exp 1)) = Num.ofInt 1 := by
  obtain ⟨hm0, he0⟩ := h 0 (by decide)
  obtain ⟨hm1, he1⟩ := h 1 (by decide)
  rw [hm0, he0, hm1, he1]
  decide

namespace State

variable {s : State} {k : Nat} {j : PltJob}

/-- Integers go to O of format S32 and scale 1 as their patterns, limited. -/
theorem pltOut_ofInt (hscale : j.unitScale) (hfmt : j.fmtO = 4) (site : Nat) (s : State) (l : List Int) :
    (s.pltOut k j site false (l.map Num.ofInt)).1 = l.map (fun i => ofSigned 32 (limit32 i)) := by
  obtain ⟨hmult, hexp⟩ := hscale 2 (by decide)
  have hone : ∀ (t : State) (x : Num), (t.pltScaled k site j.fmtO (j.mult 2) (j.exp 2) false x).1
      = (encodeNum 4 false ((x.div (Num.ofInt 1)).shift (-0)) none).code := by
    intro t x
    rw [hmult, hexp, hfmt]
    rfl
  rw [pltOut, mapState_fst hone, List.map_map]
  refine List.map_congr_left fun i _ => ?_
  simp only [Function.comp_apply, Num.ofInt_div_one_shift, encodeNum_s32_ofInt, code_satInt32]

theorem only_pltOut {t : State} {parts : List Part} {site : Nat} {l : List Num} (h : s.only t parts) (hscale : j.unitScale)
    (hl : Part.regs ∈ parts := by decide) : s.only (t.pltOut k j site false l).2 parts := by
  obtain ⟨hmult, -⟩ := hscale 2 (by decide)
  refine h.mapState fun {u x} hu => ?_
  rw [pltScaled, if_neg (by simp [hmult])]
  exact hu.siteConv hl

end State

/-! ### Sums of products (R310) -/

/-- The sum of the products of the elements that the pairs name. -/
def dotInt (va vb : List Int) (t : List (Nat × Nat)) : Int := (t.map (fun p => va.getD p.1 0 * vb.getD p.2 0)).sum

/-- The elements of an operand of a job as integers. -/
def ints (f : Nat) (codes : List Nat) : List Int := codes.map (toSigned (fmtWidth f))

theorem map_range_getD (l : List Int) (f : Int → Num) : (List.range l.length).map (fun e => f (l.getD e 0)) = l.map f := by
  refine List.ext_getElem (by simp) fun i hi _ => ?_
  have hlen : i < l.length := by simpa using hi
  simp [hlen]

namespace State

variable {k : Nat} {j : PltJob} {x : PltIn} {order : List Nat} {ts : List (List (Nat × Nat))}

/-- The sums of products that an operation on integers accumulates at its site. -/
def intDots (s : State) (k : Nat) (j : PltJob) (x : PltIn) (ts : List (List (Nat × Nat))) : List Int × State :=
  mapState (fun s t => s.siteInt (Page.plt k) 0 32 (dotInt (ints j.fmtA x.a) (ints j.fmtB x.b) t)) s ts

theorem intDots_fst (s : State) :
    (s.intDots k j x ts).1 = ts.map (fun t => limit32 (dotInt (ints j.fmtA x.a) (ints j.fmtB x.b) t)) := by
  unfold intDots
  refine mapState_fst (g := fun t => limit32 (dotInt (ints j.fmtA x.a) (ints j.fmtB x.b) t)) (fun u t => ?_) s ts
  exact siteInt32_fst u _ _ _

theorem only_intDots (s : State) : s.only (s.intDots k j x ts).2 [.regs] :=
  (State.only_refl s _).mapState fun hu => hu.siteInt

/-- Sums of integers go to O with the product of the scales of A and B. -/
theorem pltDot_of_integers (hacc : j.fp32Acc = false) (hscale : j.unitScale) (s : State) :
    s.pltDot k j x order ts none
      = ((0, some ((s.intDots k j x ts).2.pltOut k j 0 false ((s.intDots k j x ts).1.map Num.ofInt)).1),
        ((s.intDots k j x ts).2.pltOut k j 0 false ((s.intDots k j x ts).1.map Num.ofInt)).2) := by
  have hlen : ts.length = (s.intDots k j x ts).1.length := by simp [intDots_fst]
  have hvals : (List.range ts.length).map (fun e => (Num.ofInt ((s.intDots k j x ts).1.getD e 0)).mul
      ((realOf 4 1 (j.mult 0) (j.exp 0)).mul (realOf 4 1 (j.mult 1) (j.exp 1)))) = (s.intDots k j x ts).1.map Num.ofInt := by
    simp only [hscale.product, Num.ofInt_mul_one, hlen]
    exact map_range_getD _ _
  rw [← hvals]
  unfold pltDot
  rw [if_neg (by simp [hacc])]
  rfl

/-- With O of format S32 and every scale 1, O gets the sums themselves. -/
theorem pltDot_of_integers_s32 (hacc : j.fp32Acc = false) (hscale : j.unitScale) (hfmt : j.fmtO = 4) (s : State) :
    (s.pltDot k j x order ts none).1
        = (0, some (ts.map (fun t => ofSigned 32 (limit32 (dotInt (ints j.fmtA x.a) (ints j.fmtB x.b) t)))))
      ∧ s.only (s.pltDot k j x order ts none).2 [.regs] := by
  rw [pltDot_of_integers hacc hscale]
  refine ⟨?_, only_pltOut (s.only_intDots) hscale⟩
  rw [pltOut_ofInt hscale hfmt, intDots_fst, List.map_map]
  simp only [Function.comp_def, limit32_of_bounds (limit32_bounds _)]

end State

/-! ### The job of an array -/

namespace State

variable {s : State} {k : Nat}

theorem plt_setPlt_same (s : State) (k : Nat) (x : PltState) : (s.setPlt k x).plt k = x := by
  simp [plt, setPlt]

/-- A job in progress whose array is enabled and whose operands wait for nothing does its work and takes its status. -/
theorem pltRun_of_job {j : PltJob} {op : Nat} (hjob : (s.plt k).job = some j) (hruns : s.runs (139 + k) = true)
    (hon : s.enabled (Page.plt k) = true) (hop : j.op = op) (hstatus : j.status = none) (hheld : s.pltHeld j = false)
    {go : Nat → PltJob → PltIn → State → PltResult × State} {st : Nat} {t : State} (hwork : s.pltWork k j go = (st, t)) :
    s.pltRun k op go = t.setPlt k { t.plt k with job := some { j with status := some st } } := by
  rw [pltRun, hjob]
  simp [hruns, hon, hop, hstatus, hheld, hwork]

end State

/-- The result of a matrix product has m × n elements. -/
theorem PltJob.operandO_gemm {j : PltJob} (h : j.op = 0x01) :
    j.operands.o = some ⟨j.addrO, j.m * j.n, fmtWidth j.fmtO⟩ := by
  simp [PltJob.operands, h]

/-- The sum that a matrix product of S8 operands gives to element e of O. -/
theorem dotInt_gemm {j : PltJob} (ca cb : List Nat) (e : Nat) :
    dotInt (ints 2 ca) (ints 2 cb) ((List.range j.k).map (fun t => (e / j.n * j.k + t, t * j.n + e % j.n)))
      = ((List.range j.k).map (fun t => (ca.map (toSigned 8)).getD (e / j.n * j.k + t) 0
          * (cb.map (toSigned 8)).getD (t * j.n + e % j.n) 0)).sum := by
  rw [dotInt, List.map_map]
  rfl

theorem readElems_setPlt (s : State) (k : Nat) (x : PltState) (y : PltOperand) :
    (s.setPlt k x).readElems y = s.readElems y := rfl

theorem State.bytesBut.setPlt {s t : State} {a n : Nat} (h : s.bytesBut t a n) (k : Nat) (x : PltState) :
    s.bytesBut (t.setPlt k x) a n := h

/-- The codes of a matrix product of S8 operands with O of format S32. -/
def PltJob.gemmCodes (j : PltJob) (ca cb : List Nat) : List Nat :=
  (gemmTerms j).map (fun t => ofSigned 32 (limit32 (dotInt (ints 2 ca) (ints 2 cb) t)))

theorem PltJob.gemmCodes_eq (j : PltJob) (ca cb : List Nat) : j.gemmCodes ca cb = (List.range (j.m * j.n)).map (fun e =>
    ofSigned 32 (limit32 ((List.range j.k).map (fun t => (ca.map (toSigned 8)).getD (e / j.n * j.k + t) 0
      * (cb.map (toSigned 8)).getD (t * j.n + e % j.n) 0)).sum)) := by
  simp only [gemmCodes, gemmTerms, List.map_map, Function.comp_def, dotInt_gemm]

/-- A matrix product of S8 operands with O of format S32 and every scale 1 changes registers alone. -/
theorem State.pltGemm_of_s8 {j : PltJob} {k : Nat} {order : List Nat} (hfa : j.fmtA = 2) (hfb : j.fmtB = 2) (hfo : j.fmtO = 4)
    (hacc : j.fp32Acc = false) (hscale : j.unitScale) (x : PltIn) (s : State) :
    (pltGemm order k j x s).1 = (0, some (j.gemmCodes x.a x.b)) ∧ s.only (pltGemm order k j x s).2 [.regs] := by
  have hdot := State.pltDot_of_integers_s32 (k := k) (x := x) (order := order) (ts := gemmTerms j) hacc hscale hfo s
  rw [hfa, hfb] at hdot
  exact hdot

/-- Settles O40: the operands lie in the array's SRAM, so the job runs; its sums are limited as they are added up, and with
every scale 1 nothing else happens to them on their way to O. -/
theorem integerGemmIsExact : Obligations.IntegerGemmIsExact := by
  intro s plt order j hjob hop hstatus hruns hon hpoison hformat hshape hfa hfb hfo hacc hscale hsram a b o ha hb ho va vb sum
  have hin : j.inSram plt := hsram
  have hlow : o.addr < Base.dram := ((hin o (by simp [PltOperands.all, ho])).below_dram plt.isLt).2
  obtain ⟨hcount, hwidth⟩ : o.count = j.m * j.n ∧ o.width = 32 := by
    have hshapeO := PltJob.operandO_gemm hop
    rw [ho, hfo] at hshapeO
    cases hshapeO
    exact ⟨rfl, rfl⟩
  let codes := j.gemmCodes (s.readElems a) (s.readElems b)
  obtain ⟨hcodes, honly⟩ := State.pltGemm_of_s8 (order := order) (k := plt) hfa hfb hfo hacc hscale (s.pltIn j.operands) s
  have hread : j.gemmCodes (s.pltIn j.operands).a (s.pltIn j.operands).b = codes := by
    rw [State.pltIn, ha, hb]
  rw [hread] at hcodes
  generalize ht : (pltGemm order plt j (s.pltIn j.operands) s).2 = t
  have hmem : t.mem = s.mem := by
    rw [← ht]
    exact honly .mem (by decide)
  have hwork : s.pltWork plt j (pltGemm order) = (0, t.writeElems plt o codes) := by
    rw [State.pltWork_of_inSram hin plt.isLt hformat hshape hpoison]
    simp only [State.pltDone, ho, hcodes, ht]
  have hexec : exec (.gemm plt order) s = .next ((t.writeElems plt o codes).setPlt plt
      { (t.writeElems plt o codes).plt plt with job := some { j with status := some 0 } }) :=
    congrArg Host.Outcome.next
      (State.pltRun_of_job hjob hruns hon hop hstatus (State.pltHeld_of_inSram hin plt.isLt) hwork)
  refine ⟨_, hexec, ?elements, ?status, ?bytes⟩
  case elements =>
    rw [readElems_setPlt, State.readElems_writeElems hlow]
    · exact j.gemmCodes_eq _ _
    · simp [codes, PltJob.gemmCodes, gemmTerms, hcount]
    · intro c hc
      obtain ⟨_, -, rfl⟩ := List.mem_map.mp hc
      rw [hwidth]
      exact ofSigned_lt 32 _
  case status => rw [State.plt_setPlt_same]
  case bytes =>
    refine State.bytesBut.setPlt (fun x hx => ?_) _ _
    rw [State.bytesBut_writeElems hlow x hx, State.byte, hmem, State.byte]

end Sys2Proof.Machine
end

section
/-! # The queue head that a cell takes -/
namespace Sys2Proof.Machine
open Sys2Proof

/-! ### The order of due entries (R129) -/

/-- The place of a due entry in its cell's order: late ones first and those by their due step, then the higher priority,
then the lower queue number (R129). -/
def State.rank (s : State) (e : PoolEntry) : Bool ×ₗ Nat ×ₗ Natᵒᵈ ×ₗ Nat :=
  toLex (!e.late, toLex (if e.late then e.due else 0, toLex (OrderDual.toDual (s.qprio e.cell e.queue), e.queue)))

/-- Stage 1 takes the due entry of the lower rank. -/
theorem State.before_iff_rank_lt {s : State} {a b : PoolEntry} : s.before a b = true ↔ s.rank a < s.rank b := by
  simp only [rank, before, Prod.Lex.toLex_lt_toLex, OrderDual.toDual_lt_toDual, EmbeddingLike.apply_eq_iff_eq]
  by_cases hlate : a.late = b.late
  · by_cases hdue : a.due = b.due <;> by_cases hprio : s.qprio a.cell a.queue = s.qprio b.cell b.queue <;>
      cases hb : b.late <;> simp [hlate, hb, hdue, hprio]
  · cases hb : b.late <;> simp_all

/-- The head of a cell is the due entry of the least rank. -/
theorem State.headOf_eq_argmin (s : State) (c : Nat) :
    s.headOf c = (s.cells.pool.filter (fun e => e.cell == c && decide (e.due ≤ s.stepNo))).argmin s.rank := by
  rw [headOf, List.argmin]
  congr 1
  funext best e
  cases best with
  | none => rfl
  | some b => simp only [List.argAux, before_iff_rank_lt]

/-- A head is due, and no due entry of its cell goes before it (R129). -/
theorem State.headOf_eq_some {s : State} {c : Nat} {e : PoolEntry} (h : s.headOf c = some e) :
    e ∈ s.cells.pool ∧ e.cell = c ∧ e.due ≤ s.stepNo
      ∧ ∀ x ∈ s.cells.pool, x.cell = c → x.due ≤ s.stepNo → s.before x e = false := by
  rw [headOf_eq_argmin] at h
  have hmem := List.argmin_mem h
  simp only [List.mem_filter, Bool.and_eq_true, beq_iff_eq, decide_eq_true_eq] at hmem
  obtain ⟨hpool, hcell, hdue⟩ := hmem
  refine ⟨hpool, hcell, hdue, fun x hx hxc hxd => Bool.eq_false_iff.mpr fun hbefore => ?_⟩
  exact List.not_lt_of_mem_argmin (List.mem_filter.mpr ⟨hx, by simp [hxc, hxd]⟩) h (before_iff_rank_lt.mp hbefore)

/-! ### Taking a head -/

namespace State

variable {s : State}

theorem only.dram {t : State} {l : List Part} (h : s.only t l) {x : DramState} (hl : Part.dram ∈ l := by decide) :
    s.only { t with dram := x } l :=
  h.change .dram (fun y hy => by cases y <;> simp_all [Part.same]) hl

/-- The item that an entry begins, which waits for its row table entry (R146). -/
def newItem (s : State) (e : PoolEntry) : Item :=
  { id := s.fresh + 1, cell := e.cell, entry := e, stage := .table, tbl := s.qrowt e.cell e.queue + 8 * e.row, word := 0 }

/-- An entry whose row table entry is not cached begins an item that reads it from DRAM. -/
theorem beginItem_of_uncached {e : PoolEntry}
    (h : s.cells.tblCache.contains (s.siteOf e.cell, s.qrowt e.cell e.queue + 8 * e.row) = false) :
    s.beginItem e = ((s.setItems (s.cells.items ++ [s.newItem e])).useFresh).pushReqs e.cell (s.newItem e).id
      (s.newItem e).tbl 8 :=
  if_neg (Bool.not_eq_true _ ▸ h)

section
variable {cell : Fin 2048} (hmay : s.mayTake cell = true)
  (hroom : (s.cells.items.filter (fun i => i.cell == cell.val)).length < 16)
include hmay hroom

theorem exec_queueHeadTake_of_none (hhead : s.headOf cell = none) : exec (.queueHeadTake cell) s = .next s := by
  change execQueueHeadTake cell s = _
  simp [execQueueHeadTake, hmay, hroom, hhead]

theorem exec_queueHeadTake_of_head {e : PoolEntry} (hhead : s.headOf cell = some e)
    (hreader : s.qreader e.cell e.queue = none) :
    exec (.queueHeadTake cell) s = .next ((s.takeEntry e).beginItem e) := by
  change execQueueHeadTake cell s = _
  simp [execQueueHeadTake, hmay, hroom, hhead, hreader]

end

end State

/-- Settles O26: the head has the least rank of the cell's due entries; taking it is a shorter pool, one count, and one new
item. -/
theorem queueHeadIsTheFirstDue : Obligations.QueueHeadIsTheFirstDue := by
  intro s cell hmay hroom
  refine ⟨fun hnone => ⟨s, State.exec_queueHeadTake_of_none hmay hroom hnone, rfl⟩, fun e hhead hreader htable => ?_⟩
  obtain ⟨hpool, hcell, hdue, hfirst⟩ := State.headOf_eq_some hhead
  refine ⟨_, State.exec_queueHeadTake_of_head hmay hroom hhead hreader, hpool, hcell, hdue, hfirst, ?_⟩
  rw [State.beginItem_of_uncached (s := s.takeEntry e) htable, ← hcell]
  exact ⟨rfl, ⟨_, rfl, rfl, rfl⟩, State.count_reg (s.setPool (eraseFirst e s.cells.pool)) _ _ _, rfl,
    State.only.dram (State.only_useFresh (State.only_refl s _).cells.count.cells (by simp)),
    regsBut_count (State.regsBut_refl s _) (by decide) (by simp)⟩

end Sys2Proof.Machine
end

section
/-! # Writes to a cell -/
namespace Sys2Proof.Machine
open Sys2Proof

/-! ### Fields of a word -/

theorem testBit_fld (v : W32) (hi lo i : Nat) : (fld v hi lo).testBit i = (decide (i < hi + 1 - lo) && v.getLsbD (lo + i)) := by
  rw [fld, bitsOf, Nat.testBit_mod_two_pow, Nat.testBit_shiftRight, BitVec.testBit_toNat]

/-- A field reads as what was written to it. -/
theorem fld_withFld_same (v : W32) {hi lo : Nat} (hhi : hi < 32) (x : Nat) :
    fld (withFld v hi lo x) hi lo = x % 2 ^ (hi + 1 - lo) := by
  refine Nat.eq_of_testBit_eq fun i => ?_
  rw [testBit_fld, Nat.testBit_mod_two_pow]
  by_cases hlt : i < hi + 1 - lo
  · have hword : lo + i < 32 := by omega
    simp [-BitVec.getLsbD_eq_getElem, withFld, hlt, hword, BitVec.getLsbD_ofNat, Nat.testBit_shiftLeft,
      Nat.testBit_two_pow_sub_one]
  · simp [hlt]

namespace State

variable {s t : State} {c q : Nat}

/-- An error bit is set in its register, and nothing else changes (R535). -/
theorem setErr_onlyErr (s : State) {p b : Nat} (hb : b < 32) :
    bit ((s.setErr p b).reg p Reg.PG_ERR) b = true ∧ s.only (s.setErr p b) [.regs]
      ∧ s.regsBut (s.setErr p b) [(p, Reg.PG_ERR)] :=
  ⟨bit_setErr hb, (only_refl s _).setErr, regsBut_setReg (regsBut_refl s _) (by decide) (by simp) _⟩

/-! ### Queue descriptors (R127, R130) -/

theorem qword_setQword_same (s : State) (c q w : Nat) (v : W32) : (s.setQword c q w v).qword c q w = v := by
  simp [qword, setQword]

/-- A write of a descriptor word leaves the other words of its queue. -/
theorem qword_setQword_word {w x : Nat} (v : W32) (h : x ≠ w) : (s.setQword c q w v).qword c q x = s.qword c q x := by
  simp only [qword, setQword]
  exact Store.get_set_other _ _ v (by omega)

theorem qstate_setQstate_same (s : State) (c q : Nat) {x : Nat} (hx : x < 4) : (s.setQstate c q x).qstate c q = x := by
  rw [qstate, setQstate, qword_setQword_same, fld_withFld_same _ (by decide)]
  exact Nat.mod_eq_of_lt hx

theorem qheld_flushQueue_same (s : State) (c q off : Nat) : (s.flushQueue c q off).qheld c q = 0 := by
  simp only [qheld, flushQueue, cells_cellDrop, setPool]
  simp

theorem only.flushQueue {l : List Part} (h : s.only t l) {off : Nat} (hc : Part.cells ∈ l := by decide)
    (hr : Part.regs ∈ l := by decide) : s.only (t.flushQueue c q off) l :=
  only.cellDrop (h.cells hc) hr

theorem neurons_flushQueue (s : State) (c q off : Nat) : (s.flushQueue c q off).cells.neurons = s.cells.neurons := by
  rw [flushQueue, cells_cellDrop, setPool]

/-- RESET of an open or closed queue frees its entries and changes no neuron (R130). -/
theorem resetQueue_of_working (h : s.qstate c q ≠ 2) :
    (s.resetQueue c q).qstate c q = 2 ∧ (s.resetQueue c q).qheld c q = 0
      ∧ (s.resetQueue c q).cells.neurons = s.cells.neurons ∧ s.only (s.resetQueue c q) [.cells, .regs] := by
  rw [resetQueue, if_neg h]
  exact ⟨(s.flushQueue c q Reg.CEL_DROP_RESET).qstate_setQstate_same c q (by decide), s.qheld_flushQueue_same c q _,
    s.neurons_flushQueue c q _, (State.only_refl s _).flushQueue.cells.cells⟩

theorem exec_queueResetDone_of_empty {cell : Fin 2048} {queue : Fin 512} (hstate : s.qstate cell queue = 2)
    (hempty : s.qheld cell queue = 0) : exec (.queueResetDone cell queue) s = .next (s.setQstate cell queue 1) :=
  if_pos ⟨hstate, hempty⟩

/-! ### Descriptor writes (R132) -/

section

variable {r : Requester} {site : Fin 2176} {v : W32}
variable (hcell : s.cellAt site = some c)
include hcell

theorem qdescApply_of_closed {w : Nat} (hw : 0 < w) (hstate : s.qstate c (s.regFld (Page.cell c) Reg.CEL_QSEL 8 0) = 1) :
    s.qdescApply r site w v = s.setQword c (s.regFld (Page.cell c) Reg.CEL_QSEL 8 0) w (v &&& qdescMask w) := by
  simp [qdescApply, hcell, hw.ne', hstate]

theorem qdescApply_of_unlike {w : Nat} (hw : 0 < w) (hstate : s.qstate c (s.regFld (Page.cell c) Reg.CEL_QSEL 8 0) ≠ 1)
    (hunlike : v &&& qdescMask w ≠ s.qword c (s.regFld (Page.cell c) Reg.CEL_QSEL 8 0) w) :
    s.qdescApply r site w v = s.setErr (Page.site site) 3 := by
  simp [qdescApply, hcell, hw.ne', hstate, hunlike]

/-- RESET written to an open queue whose other fields the word repeats. -/
theorem qdescApply_of_reset (hstate : s.qstate c (s.regFld (Page.cell c) Reg.CEL_QSEL 8 0) = 0) (hreset : fld v 31 30 = 2)
    (hlike : withFld v 31 30 0 = withFld (s.qword c (s.regFld (Page.cell c) Reg.CEL_QSEL 8 0) 0) 31 30 0) :
    s.qdescApply r site 0 v = s.resetQueue c (s.regFld (Page.cell c) Reg.CEL_QSEL 8 0) := by
  have hmask : v &&& qdescMask 0 = v := BitVec.and_allOnes
  simp [qdescApply, hcell, hstate, hmask, hlike, qstateWrite, hreset]

end

/-! ### Posted writes (R137, R139) -/

/-- A write of a cell that waits for the summit. -/
def addPost (s : State) (c : Nat) (p : CellPost) : State :=
  { s with cells := { s.cells with posts := s.cells.posts ++ [(c, p)] } }

theorem postCell_of_room (hrun : s.running = true) (hroom : (s.postsOf c).length < 64) (p : CellPost) :
    s.postCell c [p] = (true, s.addPost c p) := by
  simp [postCell, addPost, hrun, Nat.not_lt.mpr (Nat.succ_le_of_lt hroom)]

theorem postCell_of_full (hrun : s.running = true) (hfull : 64 ≤ (s.postsOf c).length) (p : CellPost) :
    s.postCell c [p] = (false, s) := by
  simp [postCell, hrun, Nat.lt_succ_of_le hfull]

theorem postCell_of_stopped (hrun : s.running = false) (p : CellPost) : s.postCell c [p] = (true, s.applyCellPost c p) := by
  simp [postCell, hrun]

/-- A posted write outside the profiles goes to the places of its cell without a check of its word. -/
theorem cellPostWrite_of_post {r : Requester} {site off : Nat} {v : W32} {p : CellPost} (hcell : s.cellAt site = some c)
    (hpost : s.cellPostAt c off v = some p) (hoff : off < Reg.CEL_PROF ∨ 0x900 ≤ off) :
    s.cellPostWrite r site off v = if (s.postCell c [p]).1
      then (if s.running then (s.postCell c [p]).2.posted r else (s.postCell c [p]).2)
      else s.setErr (Page.site site) 5 := by
  have hprofile : ∀ k w vals, p ≠ .profile k w vals := by
    rintro k w vals rfl
    have hrange : ¬ (Reg.CEL_PROF ≤ off ∧ off < 0x900 ∧ off % 4 = 0) := by omega
    simp only [cellPostAt, hrange, if_false] at hpost
    split_ifs at hpost <;> cases hpost
  simp only [cellPostWrite, hcell, hpost]
  cases p with
  | profile k w vals => exact absurd rfl (hprofile k w vals)
  | _ => simp

theorem cells_posted (s : State) (r : Requester) : (s.posted r).cells = s.cells := by
  unfold posted
  split <;> rfl

theorem exec_postedCellWrite_of_takes {r : Requester} {site : Fin 2176} {off : Nat} {v : W32}
    (htakes : s.takes r (Page.site site) off) :
    exec (.postedCellWrite r site off v) s = .next (s.cellPostWrite r site off v) :=
  congrArg Host.Outcome.next (ifAdmit_of_takes htakes _)

theorem exec_qdescWrite_of_takes {r : Requester} {site : Fin 2176} {word : Fin 4} {v : W32}
    (htakes : s.takes r (Page.site site) (Reg.CEL_QDESC0 + 4 * word.val)) :
    exec (.qdescWrite r site word v) s = .next (s.qdescApply r site word v) :=
  congrArg Host.Outcome.next (ifAdmit_of_takes htakes _)

theorem cellPostAt_ndata0 (s : State) (c : Nat) (v : W32) :
    s.cellPostAt c Reg.CEL_NDATA0 v = some (.neuron0 (s.regFld (Page.cell c) Reg.CEL_NSEL 12 0) v) := rfl

end State

/-! ### What an escalated error may change (R576, R579) -/

/-- Every `PG_ERR` register, every queue entry, and every part but the listed ones is the same. -/
structure State.Escalates (s t : State) : Prop where
  parts : s.only t [.cells, .fabric, .fault, .regs, .step]
  pool : t.cells.pool = s.cells.pool
  errs : ∀ p, t.reg p Reg.PG_ERR = s.reg p Reg.PG_ERR

namespace State.Escalates

variable {s t : State}

theorem refl (s : State) : s.Escalates s := ⟨State.only_refl s _, rfl, fun _ => rfl⟩

theorem branch {c : Prop} [Decidable c] {u : State} (ht : s.Escalates t) (hu : s.Escalates u) :
    s.Escalates (if c then t else u) := by
  by_cases hc : c <;> simpa [hc]

theorem foldl {α : Type} {f : State → α → State} {xs : List α} (h : s.Escalates t)
    (hf : ∀ {u a}, s.Escalates u → s.Escalates (f u a)) : s.Escalates (xs.foldl f t) :=
  List.foldlRecOn (motive := fun u => s.Escalates u) _ _ h fun _ hu _ _ => hf hu

variable (h : s.Escalates t)
include h

theorem fault {x : FaultState} : s.Escalates { t with fault := x } := ⟨h.parts.fault, h.pool, h.errs⟩
theorem fabric {x : FabricState} : s.Escalates { t with fabric := x } := ⟨h.parts.fabric, h.pool, h.errs⟩
theorem step {x : StepState} : s.Escalates { t with step := x } := ⟨h.parts.step, h.pool, h.errs⟩

theorem setReg {p off : Nat} {v : W32} (hoff : off < 4096 := by decide) (herr : off ≠ Reg.PG_ERR := by decide) :
    s.Escalates (t.setReg p off v) :=
  ⟨h.parts.setReg, h.pool, fun q => (t.reg_setReg_other v (by simp only [Reg.PG_ERR] at *; omega)).trans (h.errs q)⟩

theorem setCellMap {c : Nat} {m : CellMap} : s.Escalates (t.setCellMap c m) := ⟨h.parts.cells, h.pool, h.errs⟩
theorem setItems {l : List Item} : s.Escalates (t.setItems l) := ⟨h.parts.cells, h.pool, h.errs⟩

theorem record {r : ErrRecord} : s.Escalates (t.record r) := .branch h.fault h.setReg

theorem listSite {site src : Nat} : s.Escalates (t.listSite site src) := .branch h (.branch h.fault h.fault)

theorem answerBlock {b code : Nat} {p : Packet} {data : List W32} : s.Escalates (t.answerBlock b p code data) :=
  step (fabric (branch h.setReg h.setReg))

theorem goOffline {c : Nat} : s.Escalates (t.goOffline c) :=
  foldl (record (setReg (setReg (setItems (setCellMap h.fault))))) fun h => .branch h.setReg h.answerBlock

/-- The fence of a cell, or its way offline where no migration may begin. -/
theorem fenceCell {c code addr : Nat} {inj : Bool} : s.Escalates (t.fenceCell c code addr inj) :=
  have hlisted := setReg (setReg (listSite (record h)))
  .branch h (.branch hlisted.fault hlisted.goOffline)

end State.Escalates

/-- HANDSHAKE_STALL sets its error bit, and fences the site's cell where the bit is enabled (R115, R535). -/
theorem State.exec_handshakeStall_of_runs {s : State} {site : Fin 2176} {boundary : Fin 8} {c : Nat}
    (hruns : s.runs (11 + site.val / 17) = true) (hcell : s.cellAt site = some c) :
    exec (.handshakeStall site boundary) s = .next (if s.errOn (Page.site site) 2
      then (s.setErr (Page.site site) 2).fenceCell c 0x0104 (boundary.val * 2 ^ 16 + site.val) false
      else s.setErr (Page.site site) 2) := by
  have hcell' : (s.setErr (Page.site site) 2).cellAt site = some c := hcell
  have hon : (s.setErr (Page.site site) 2).errOn (Page.site site) 2 = s.errOn (Page.site site) 2 :=
    congrArg (bit · 2) (State.reg_setReg_off (by decide))
  change execHandshakeStall site boundary s = _
  simp only [execHandshakeStall, hruns, if_true, hcell', hon]
  split <;> rfl

/-- Settles O28: a taken write is its function at the cell's page or queue; a stalled handshake is one error bit, beside
which an escalation keeps every error bit and every queue entry. -/
theorem cellRegisterWrites : Obligations.CellRegisterWrites := by
  intro s req site c hcell
  refine ⟨fun off v p htakes hpost hoff => ?posted, fun word v htakes => ?desc,
    fun cell queue hstate hempty => ⟨_, State.exec_queueResetDone_of_empty hstate hempty,
      s.qstate_setQstate_same _ _ (by decide), rfl, (State.only_refl s _).cells⟩,
    fun boundary hruns => ?stall⟩
  case posted =>
    have hexec := State.exec_postedCellWrite_of_takes (v := v) htakes
    rw [State.cellPostWrite_of_post hcell hpost hoff] at hexec
    refine ⟨fun hrun hroom => ⟨_, hexec, ?_⟩, fun hrun hfull => ⟨_, hexec, ?_⟩, ?stopped⟩
    · rw [State.postCell_of_room hrun hroom, if_pos rfl, if_pos hrun]
      have hcells := State.cells_posted (s.addPost c p) req
      exact ⟨congrArg CellsState.posts hcells, State.mem_posters_posted _ req, (congrArg CellsState.neurons hcells).trans rfl,
        State.only.posted (State.only_refl s _).cells⟩
    · rw [State.postCell_of_full hrun hfull, if_neg (by simp)]
      exact s.setErr_onlyErr (by decide)
    · rintro hrun rfl
      obtain rfl : p = .neuron0 (s.regFld (Page.cell c) Reg.CEL_NSEL 12 0) v :=
        Option.some_injective _ (hpost.symm.trans (s.cellPostAt_ndata0 c v))
      have hsel : s.regFld (Page.cell c) Reg.CEL_NSEL 12 0 < 8192 := fld_lt _ 12 0
      refine ⟨_, hexec, ?_⟩
      rw [State.postCell_of_stopped hrun, if_pos rfl, if_neg (by simp [hrun]), State.applyCellPost]
      have hneuron := State.neuron_setNeuron_same (s := s) c (s.regFld (Page.cell c) Reg.CEL_NSEL 12 0)
        { s.neuron c (s.regFld (Page.cell c) Reg.CEL_NSEL 12 0) with
          u := BitVec.ofNat 16 (fld v 31 16), v := BitVec.ofNat 16 (fld v 15 0), active := true }
      exact ⟨congrArg Neuron.u hneuron, congrArg Neuron.v hneuron, congrArg Neuron.active hneuron,
        fun j hj hne => State.neuron_setNeuron_other _ hsel hj (.inr hne), (State.only_refl s _).cells⟩
  case desc =>
    intro q
    have hexec := State.exec_qdescWrite_of_takes (v := v) htakes
    refine ⟨fun hw hstate => ⟨_, hexec, ?_⟩, fun hw hstate hunlike => ⟨_, hexec, ?_⟩,
      fun hw hstate hreset hlike => ⟨_, hexec, ?_⟩⟩
    · rw [State.qdescApply_of_closed hcell hw hstate]
      have hword : (s.setQword c q word (v &&& qdescMask word)).qword c q 0 = s.qword c q 0 :=
        State.qword_setQword_word _ hw.ne
      exact ⟨s.qword_setQword_same c q word _, (congrArg (fld · 31 30) hword).trans hstate, rfl,
        (State.only_refl s _).cells⟩
    · rw [State.qdescApply_of_unlike hcell hw hstate hunlike]
      exact s.setErr_onlyErr (by decide)
    · rw [hw, State.qdescApply_of_reset hcell hstate hreset hlike]
      exact State.resetQueue_of_working (hstate.trans_ne (by decide))
  case stall =>
    refine ⟨_, State.exec_handshakeStall_of_runs hruns hcell, ?_⟩
    obtain ⟨herr, honly, hregs⟩ := s.setErr_onlyErr (p := Page.site site) (b := 2) (by decide)
    cases hon : s.errOn (Page.site site) 2 with
    | false =>
      exact ⟨herr, fun _ => ⟨honly, hregs⟩, rfl, honly.mono (by simp)⟩
    | true =>
      obtain ⟨hparts, hpool, herrs⟩ := (State.Escalates.refl (s.setErr (Page.site site) 2)).fenceCell (c := c)
        (code := 0x0104) (addr := boundary.val * 2 ^ 16 + site.val) (inj := false)
      rw [if_pos rfl]
      exact ⟨(congrArg (bit · 2) (herrs _)).trans herr, fun h => Bool.noConfusion h, hpool,
        (honly.mono (by simp)).trans hparts⟩

end Sys2Proof.Machine
end

section
/-! # What the cell handlers answer -/
namespace Sys2Proof.Machine
open Sys2Proof

/-! ### The answer of a block (R243) -/

namespace State

variable {s t : State} {b c code : Nat} {x : Nat × Packet} {data : List W32}

/-- A message leaves its block and counts as consumed (R52). -/
def takeMsg (s : State) (b : Nat) (x : Nat × Packet) : State :=
  State.consumed { s with fabric := { s.fabric with blockIn := eraseFirst x s.fabric.blockIn } } b x.2.par

/-- A block's message leaves the block and is answered. -/
def reply (s : State) (b : Nat) (x : Nat × Packet) (code : Nat) (data : List W32) : State :=
  (s.takeMsg b x).answerBlock b x.2 code data

/-- The step that external sources stamp is read from the step page and the state of the step alone. -/
theorem stamp_congr (hno : t.stepNo = s.stepNo) (hsummited : t.step.summited = s.step.summited)
    (hphase : t.step.phase = s.step.phase) : t.stamp = s.stamp := by
  rw [stamp, stamp, hno, hsummited, hphase]

theorem answerPacket_congr (h : t.stamp = s.stamp) (p : Packet) (code : Nat) (data : List W32) :
    t.answerPacket p code data = s.answerPacket p code data := by
  rw [answerPacket, answerPacket, h]

theorem ty_answerPacket (s : State) (p : Packet) (code : Nat) (data : List W32) : (s.answerPacket p code data).ty = 4 := by
  rw [answerPacket, Packet.ty_mkPacket]

/-- Counting an answer changes one counter of the region's channels (R259). -/
theorem countAnswer_eq (s : State) (r code : Nat) :
    ∃ off, off < 4096 ∧ off ≠ Reg.PG_ERR ∧ s.countAnswer r code = s.count (Page.chn r) off 1 := by
  unfold countAnswer
  split
  · exact ⟨_, by decide, by decide, rfl⟩
  · exact ⟨_, by decide, by decide, rfl⟩

/-- A reply takes the message, counts the answer, and sends it into the network of replies. -/
theorem reply_eq (s : State) (b : Nat) (x : Nat × Packet) (code : Nat) (data : List W32) :
    ∃ off, off < 4096 ∧ off ≠ Reg.PG_ERR ∧ s.reply b x code data
      = ((s.takeMsg b x).count (Page.chn (b / 16)) off 1).inject b (136 + b) 4 (s.answerPacket x.2 code data) := by
  obtain ⟨off, hlow, herr, hcount⟩ := (s.takeMsg b x).countAnswer_eq (b / 16) code
  refine ⟨off, hlow, herr, ?_⟩
  have hstamp : ((s.takeMsg b x).count (Page.chn (b / 16)) off 1).stamp = s.stamp :=
    stamp_congr (stepNo_setReg (region_ne_stp _ _) hlow) rfl rfl
  rw [reply, answerBlock, hcount, answerPacket_congr hstamp, sendBlock, ty_answerPacket]
  rfl

theorem cells_reply (s : State) (b : Nat) (x : Nat × Packet) (code : Nat) (data : List W32) :
    (s.reply b x code data).cells = s.cells := by
  obtain ⟨off, -, -, heq⟩ := s.reply_eq b x code data
  rw [heq]
  rfl

theorem err_reply (s : State) (p : Nat) : (s.reply b x code data).reg p Reg.PG_ERR = s.reg p Reg.PG_ERR := by
  obtain ⟨off, hlow, herr, heq⟩ := s.reply_eq b x code data
  rw [heq]
  exact (s.takeMsg b x).reg_setReg_other _ (by simp only [Reg.PG_ERR] at *; omega)

theorem only.reply {l : List Part} (h : s.only t l) (hf : Part.fabric ∈ l := by decide) (hs : Part.step ∈ l := by decide)
    (hr : Part.regs ∈ l := by decide) : s.only (t.reply b x code data) l := by
  obtain ⟨off, -, -, heq⟩ := t.reply_eq b x code data
  rw [heq]
  exact (((h.fabric hf).consumed hs).count hr |>.fabric hf).step hs

/-- The message leaves the block, and one answer with the code and the data leaves for its sender. -/
def Answered (s t : State) (b : Nat) (x : Nat × Packet) (code : Nat) (data : List W32) : Prop :=
  t.fabric.blockIn = eraseFirst x s.fabric.blockIn
    ∧ ∃ f, t.fabric.links = s.fabric.links ++ [f] ∧ f.router = 136 + b ∧ f.pkt = s.answerPacket x.2 code data

/-- A reply is the answer to the message of a state with the same fabric and the same stamp. -/
theorem answered_reply (hfabric : t.fabric = s.fabric) (hstamp : t.stamp = s.stamp) (b : Nat) (x : Nat × Packet) (code : Nat)
    (data : List W32) : s.Answered (t.reply b x code data) b x code data := by
  obtain ⟨off, -, -, heq⟩ := t.reply_eq b x code data
  rw [Answered, heq, answerPacket_congr hstamp, ← hfabric]
  exact ⟨rfl, _, rfl, rfl, rfl⟩

end State

/-! ### A message that its handler answers (R247, R644) -/

/-- The message is the next at its block, whose clock runs; its cell is in service, and neither security nor its step
refuses it. -/
structure State.Serves (s : State) (b : Nat) (x : Nat × Packet) : Prop where
  next : s.blockMsg b = some x
  runs : s.runs (11 + b) = true
  online : s.offline (msgCell x.2) = false
  unfenced : s.fenced (msgCell x.2) = false
  secure : msgSec x.2 = true ∨ bit (s.reg (Page.site (s.siteOf (msgCell x.2))) Reg.PG_SEC) 31 = false
  timely : s.msgLate x.2 = false

/-- A block replies with what the handler answers. -/
theorem State.Serves.serveBlock {s t : State} {b h code : Nat} {x : Nat × Packet} {data : List W32} (hs : s.Serves b x)
    (hhandler : msgHandler x.2 = h) {act : State → Nat → Packet → Handled × State}
    (hact : act s (msgCell x.2) x.2 = (.answer code data, t)) : s.serveBlock b h act = t.reply b x code data := by
  have hsecure : ¬ (msgSec x.2 = false ∧ bit (s.reg (Page.site (s.siteOf (msgCell x.2))) Reg.PG_SEC) 31 = true) := by
    rintro ⟨hplain, hpage⟩
    rcases hs.secure with h | h
    · rw [h] at hplain; cases hplain
    · rw [h] at hpage; cases hpage
  have htake : s.takeCell (msgCell x.2) x.2 act = (.answer code data, t) := by
    rw [takeCell, if_neg hsecure, if_neg (by simp [hs.timely]), hact]
  simp only [State.serveBlock, hs.next, hs.runs, hhandler, hs.online, hs.unfenced, htake, ne_eq, not_true_eq_false,
    Bool.true_eq_false, Bool.false_eq_true, or_self, if_false]
  rfl

namespace State

variable {s : State} {c : Nat} {p : Packet}

/-! ### The handlers (R252–R254) -/

theorem actInject_of_placed (h : s.judge c (msgQueue p) (fld (msgArg p 0) 11 0) = .placed) :
    ∃ step graded off, s.actInject c p
      = (.answer Code.done [], s.enpool c (msgQueue p) (fld (msgArg p 0) 11 0) step false graded off) := by
  simp only [actInject, h]
  exact ⟨_, _, _, rfl⟩

theorem actInject_of_full (h : s.judge c (msgQueue p) (fld (msgArg p 0) 11 0) = .full) :
    s.actInject c p = (.answer Code.queueFull [], s) := by
  simp only [actInject, h]

theorem actWriteState_of_room (hrun : s.running = true) (hroom : (s.postsOf c).length < 64) :
    s.actWriteState c p
      = (.answer Code.done [], s.addPost c (.neuron (fld (msgArg p 0) 12 0) (msgArg p 1) (msgArg p 2))) := by
  rw [actWriteState, postCell_of_room hrun hroom]
  rfl

section
variable {k w : Nat} {vals : List W32} (hk : fld (msgArg p 0) 5 0 = k) (hw : 3 * fld (msgArg p 0) 8 8 = w)
  (hvals : [msgArg p 1, msgArg p 2, msgArg p 3] = vals)
include hk hw hvals

theorem actSetProfile_of_bad (hbad : s.profileOk c k w vals = false) :
    s.actSetProfile c p = (.answer Code.refused [], s.setErr (Page.site (s.siteOf c)) 4) := by
  subst hk hw hvals
  simp only [actSetProfile, hbad, Bool.false_eq_true, if_false]

theorem actSetProfile_of_room (hok : s.profileOk c k w vals = true) (hrun : s.running = true)
    (hroom : (s.postsOf c).length < 64) :
    s.actSetProfile c p = (.answer Code.done [], s.addPost c (.profile k w vals)) := by
  subst hk hw hvals
  simp only [actSetProfile, hok, if_true, postCell_of_room hrun hroom]
  rfl

end

theorem msgQueueChange_of_reset (h : s.qstate c (msgQueue p) = 2) (want : Nat) :
    s.msgQueueChange c p want = (.answer Code.queueReset [], s) := if_pos h

/-- A change of a queue that waits for the summit (R130). -/
def askQueue (s : State) (c q want : Nat) : State :=
  { s with cells := { s.cells with qreq := Store.put s.cells.qreq (512 * c + q) want } }

theorem msgQueueChange_of_running (h : s.qstate c (msgQueue p) ≠ 2) (hrun : s.running = true) (want : Nat) :
    s.msgQueueChange c p want = (.answer Code.done [], s.askQueue c (msgQueue p) want) := by
  simp [msgQueueChange, requestQueue, h, hrun, askQueue]

end State

/-- Settles O35: each handler's answer is replied to the message, and the handler changes one list of the cells or one error
bit. -/
theorem cellHandlersAnswer : Obligations.CellHandlersAnswer := by
  intro s block x hnext hruns p c q i honline hunfenced hsecure htimely answered
  have hs : s.Serves block x := ⟨hnext, hruns, honline, hunfenced, hsecure, htimely⟩
  have hrefl : ∀ l, s.only s l := State.only_refl s
  have hanswers : ∀ {t : State} {code data}, t.fabric = s.fabric → t.stamp = s.stamp →
      answered (t.reply block x code data) code data := fun hfabric hstamp => State.answered_reply hfabric hstamp _ _ _ _
  refine ⟨fun hh => ⟨fun hplaced => ?placed, fun hfull => ?full⟩, fun hh => ?read, fun hh hrun hroom => ?write,
    fun hh => ?profile, fun h want m hm hh => ?queue⟩
  case placed =>
    obtain ⟨step, graded, off, hact⟩ := State.actInject_of_placed (p := p) hplaced
    refine ⟨_, congrArg Host.Outcome.next (hs.serveBlock hh hact), hanswers rfl rfl, ?_,
      (hrefl _).enpool.reply⟩
    exact ⟨_, congrArg CellsState.pool (State.cells_reply _ _ _ _ _), rfl, rfl, rfl⟩
  case full =>
    exact ⟨_, congrArg Host.Outcome.next (hs.serveBlock hh (State.actInject_of_full hfull)),
      hanswers rfl rfl, (hrefl _).reply⟩
  case read =>
    exact ⟨_, congrArg Host.Outcome.next (hs.serveBlock hh rfl), hanswers rfl rfl, (hrefl _).reply⟩
  case write =>
    have hcells := (s.addPost c (.neuron i (msgArg p 1) (msgArg p 2))).cells_reply block x Code.done []
    exact ⟨_, congrArg Host.Outcome.next (hs.serveBlock hh (State.actWriteState_of_room hrun hroom)),
      hanswers rfl rfl, congrArg CellsState.posts hcells,
      (congrArg CellsState.neurons hcells).trans rfl, (hrefl _).cells.reply⟩
  case profile =>
    intro k w vals
    refine ⟨fun hbad => ?_, fun hok hrun hroom => ?_⟩
    · have hstamp : (s.setErr (Page.site (s.siteOf c)) 4).stamp = s.stamp :=
        State.stamp_congr (State.stepNo_setReg (by simp only [Page.site, Page.stp]; omega) (by decide)) rfl rfl
      exact ⟨_, congrArg Host.Outcome.next (hs.serveBlock hh (State.actSetProfile_of_bad rfl rfl rfl hbad)),
        hanswers rfl hstamp,
        (congrArg (bit · 4) (State.err_reply _ _)).trans (State.bit_setErr (by decide)), (hrefl _).setErr.reply⟩
    · have hcells := (s.addPost c (.profile k w vals)).cells_reply block x Code.done []
      exact ⟨_, congrArg Host.Outcome.next (hs.serveBlock hh (State.actSetProfile_of_room rfl rfl rfl hok hrun hroom)),
        hanswers rfl rfl, congrArg CellsState.posts hcells, (hrefl _).cells.reply⟩
  case queue =>
    have hexec : ∀ {code data t}, s.msgQueueChange c p want = (.answer code data, t) →
        exec m s = .next (t.reply block x code data) := by
      intro code data t hact
      rcases hm with hm | hm <;> cases hm <;> exact congrArg Host.Outcome.next (hs.serveBlock hh hact)
    refine ⟨fun hreset => ?_, fun hworking hrun => ?_⟩
    · exact ⟨_, hexec (State.msgQueueChange_of_reset hreset want), hanswers rfl rfl, (hrefl _).reply⟩
    · have hcells := (s.askQueue c q want).cells_reply block x Code.done []
      refine ⟨_, hexec (State.msgQueueChange_of_running hworking hrun want), hanswers rfl rfl, ?_, ?_,
        (hrefl _).cells.reply⟩
      · rw [hcells]
        exact Store.find_put_same _ _ _
      · rw [State.qstate, State.qword, hcells]
        rfl

end Sys2Proof.Machine
end

section
/-! # The slices of the DRAM -/
namespace Sys2Proof.Machine
open Sys2Proof

/-! ### Charges as a store of numbers -/

section
variable {α : Type} {d : Nat → α} {m : Store α}

theorem Store.get_of_unlisted {k : Nat} (h : ∀ p ∈ m, p.1 ≠ k) : Store.get d m k = d k := by
  induction m with
  | nil => rfl
  | cons x m ih =>
    rw [Store.get, if_neg (h x (by simp))]
    exact ih fun p hp => h p (by simp [hp])

theorem Store.get_of_listed (hm : Store.sorted m = true) {p : Nat × α} (hp : p ∈ m) : Store.get d m p.1 = p.2 := by
  induction m with
  | nil => cases hp
  | cons x m ih =>
    simp only [Store.sorted, Bool.and_eq_true, List.all_eq_true, decide_eq_true_eq] at hm
    rcases List.mem_cons.mp hp with rfl | hp
    · exact if_pos rfl
    · rw [Store.get, if_neg (hm.1 p hp).ne]
      exact ih hm.2 hp

/-- A sorted store lists no key twice. -/
theorem Store.nodup_keys (hm : Store.sorted m = true) : (m.map (·.1)).Nodup := by
  induction m with
  | nil => exact List.nodup_nil
  | cons x m ih =>
    simp only [Store.sorted, Bool.and_eq_true, List.all_eq_true, decide_eq_true_eq] at hm
    refine List.nodup_cons.mpr ⟨fun hx => ?_, ih hm.2⟩
    obtain ⟨p, hp, hkey⟩ := List.mem_map.mp hx
    exact (hm.1 p hp).ne hkey.symm

end

section
variable {l : List (Nat × Nat)} {f : Nat × Nat → Nat}

theorem numAt_setNum_other (m : Store Nat) {k j : Nat} (n : Nat) (h : j ≠ k) : numAt (setNum m k n) j = numAt m j :=
  Store.get_set_other _ m n h

theorem numAt_foldl_setNum_of_unlisted {k : Nat} (h : ∀ p ∈ l, p.1 ≠ k) (m : Store Nat) :
    numAt (l.foldl (fun m p => setNum m p.1 (f p)) m) k = numAt m k :=
  List.foldlRecOn (motive := fun u => numAt u k = numAt m k) _ _ rfl fun _ hu p hp =>
    (numAt_setNum_other _ _ (h p hp).symm).trans hu

theorem numAt_foldl_setNum_of_listed (hl : (l.map (·.1)).Nodup) {p : Nat × Nat} (hp : p ∈ l) (m : Store Nat) :
    numAt (l.foldl (fun m p => setNum m p.1 (f p)) m) p.1 = f p := by
  induction l generalizing m with
  | nil => cases hp
  | cons x l ih =>
    obtain ⟨hx, hl⟩ := List.nodup_cons.mp hl
    rcases List.mem_cons.mp hp with rfl | hp
    · have hother : ∀ y ∈ l, y.1 ≠ p.1 := fun y hy he => hx (List.mem_map.mpr ⟨y, hy, he⟩)
      rw [List.foldl_cons, numAt_foldl_setNum_of_unlisted hother, numAt_setNum_same]
    · exact ih hl hp _

end

theorem page_slice_pos (slice : Nat) : 0 < Page.slice slice := by
  unfold Page.slice Page.region
  omega

namespace State

variable {s t u : State} {l : List Part} {p off slice : Nat}

/-! ### Reservation windows (R158) -/

/-- The charges of a slice at the end of a window: each falls by the credit of its requester. -/
def windowUsed (s : State) (slice : Nat) : Store Nat :=
  (s.dram.used.filter (fun p => p.1 / 4096 == slice)).foldl
    (fun m p => setNum m p.1 (p.2 - s.fullCredit slice (p.1 % 4096))) s.dram.used

theorem numAt_windowUsed (hwf : Store.wf (fun _ => 0) s.dram.used = true) {who : Nat} (hwho : who < 4096) :
    numAt (s.windowUsed slice) (slice * 4096 + who)
      = numAt s.dram.used (slice * 4096 + who) - s.fullCredit slice who := by
  have hsorted : Store.sorted s.dram.used = true := (Bool.and_eq_true _ _ ▸ hwf).1
  have hslice : (slice * 4096 + who) / 4096 = slice := by omega
  by_cases hlisted : ∃ p ∈ s.dram.used, p.1 = slice * 4096 + who
  · obtain ⟨p, hp, hkey⟩ := hlisted
    have hmine : p ∈ s.dram.used.filter (fun p => p.1 / 4096 == slice) := List.mem_filter.mpr ⟨hp, by simp [hkey, hslice]⟩
    have hnodup := Store.nodup_keys (Store.sorted_filter (fun p => p.1 / 4096 == slice) _ hsorted)
    have hvalue : numAt s.dram.used p.1 = p.2 := Store.get_of_listed hsorted hp
    have hwho' : p.1 % 4096 = who := by omega
    rw [← hkey, hvalue, windowUsed, numAt_foldl_setNum_of_listed hnodup hmine, hwho']
  · push Not at hlisted
    have hzero : numAt s.dram.used (slice * 4096 + who) = 0 := Store.get_of_unlisted hlisted
    rw [windowUsed, numAt_foldl_setNum_of_unlisted fun p hp => hlisted p (List.mem_filter.mp hp).1, hzero, Nat.zero_sub]

theorem only.followRefresh (h : s.only t l) (hd : Part.dram ∈ l := by decide) (hr : Part.regs ∈ l := by decide) :
    s.only (t.followRefresh slice) l :=
  (h.setReg hr).dram hd

/-- A new window lowers the charges of the slice and leaves the requests that wait. -/
theorem beginWindow_parts (s : State) (slice k : Nat) :
    s.only (s.beginWindow slice k) [.dram, .regs] ∧ ∃ waits refresh, (s.beginWindow slice k).dram
      = { s.dram with waits := waits, used := s.windowUsed slice, wins := setNum s.dram.wins slice k, refresh := refresh } := by
  have hcount : s.only (if (s.waiters slice).isEmpty then s else s.count (Page.slice slice) Reg.DRM_WAIT_ANY 1) [.regs] :=
    .branch (only_refl s _) (only_refl s _).count
  have hdram : (if (s.waiters slice).isEmpty then s else s.count (Page.slice slice) Reg.DRM_WAIT_ANY 1).dram = s.dram :=
    hcount .dram (by decide)
  refine ⟨.branch (hcount.mono (by decide)).dram.followRefresh (hcount.mono (by decide)).dram, ?_⟩
  unfold beginWindow
  dsimp only
  rw [hdram]
  split
  · exact ⟨_, _, rfl⟩
  · exact ⟨_, _, rfl⟩

/-- The time at which the window in progress of a slice ends (R158). -/
def windowDue (s : State) (slice : Nat) : Nat :=
  s.reg64 Page.stp Reg.STP_TICK_NS + numAt s.dram.wins slice * s.winNs
    + winLength s.winNs (s.reg Page.stp Reg.STP_PERIOD_ACT).toNat (numAt s.dram.wins slice)

section
variable {slice : Fin 128}

theorem exec_reservationWindow_of_due (hruns : s.runs (sliceDomain slice) = true)
    (hpresent : presentIn s.grade (Page.slice slice) = true) (hdue : s.windowDue slice ≤ s.elapsed) :
    exec (.reservationWindow slice) s = .next (s.beginWindow slice (numAt s.dram.wins slice + 1)) :=
  if_pos (by rw [hruns, hpresent]; exact decide_eq_true hdue)

theorem exec_reservationWindow_of_early (hearly : s.elapsed < s.windowDue slice) :
    exec (.reservationWindow slice) s = .next s :=
  if_neg fun h => Nat.not_le.mpr hearly (of_decide_eq_true (Bool.and_eq_true _ _ ▸ h).2)

end

/-! ### Power states (R171) -/

theorem slicePower_setSlicePower (s : State) (slice : Nat) {x : Nat} (hx : x < 4) :
    (s.setSlicePower slice x).slicePower slice = x := by
  rw [slicePower, setSlicePower, setFld, regFld, reg_setReg_same, fld_withFld_same _ (by decide)]
  exact Nat.mod_eq_of_lt hx

theorem slicePower_congr (h : t.reg (Page.slice slice) Reg.DRM_SLICE_STAT = s.reg (Page.slice slice) Reg.DRM_SLICE_STAT) :
    t.slicePower slice = s.slicePower slice := by
  rw [slicePower, regFld, h]
  rfl

theorem exec_slicePowerDown_of_idle {slice : Fin 128} (hruns : s.runs (sliceDomain slice) = true)
    (hpresent : presentIn s.grade (Page.slice slice) = true) (hactive : s.slicePower slice = 0)
    (hpd : s.regFld (Page.slice slice) Reg.DRM_PD_NS 15 0 ≠ 0) (hreqs : s.reqsAt slice = [])
    (hidle : numAt s.dram.lastAccess slice + s.regFld (Page.slice slice) Reg.DRM_PD_NS 15 0 ≤ s.elapsed) :
    exec (.slicePowerDown slice) s = .next (s.setSlicePower slice 1) := by
  change execSlicePowerDown slice s = _
  simp [execSlicePowerDown, hruns, hpresent, hactive, hpd, hreqs, hidle]

/-- An access touches the power state of its slice and the time of its last access. -/
theorem touchSlice_eq (s : State) (slice : Nat) :
    s.touchSlice slice = { (if s.slicePower slice = 1 then s.setSlicePower slice 0 else s) with
      dram := { s.dram with lastAccess := setNum s.dram.lastAccess slice s.elapsed } } := by
  unfold touchSlice
  split <;> rfl

theorem dram_touchSlice (s : State) (slice : Nat) :
    (s.touchSlice slice).dram = { s.dram with lastAccess := setNum s.dram.lastAccess slice s.elapsed } := by
  rw [touchSlice_eq]

theorem only.touchSlice (h : s.only t l) (hd : Part.dram ∈ l := by decide) (hr : Part.regs ∈ l := by decide) :
    s.only (t.touchSlice slice) l :=
  only.dram (.branch (h.setFld hr) h) hd

theorem regsBut_touchSlice (s : State) (slice : Nat) :
    s.regsBut (s.touchSlice slice) [(Page.slice slice, Reg.DRM_SLICE_STAT)] := by
  rw [touchSlice_eq]
  split
  · exact regsBut_setReg (regsBut_refl s _) (by decide) (by simp) _
  · exact regsBut_refl s _

theorem reg_touchSlice (ho : off < 4096) (hstat : off ≠ Reg.DRM_SLICE_STAT) : (s.touchSlice slice).reg p off = s.reg p off :=
  s.regsBut_touchSlice slice p off ho (by simp [hstat])

/-- A slice that serves is ACTIVE after an access. -/
theorem slicePower_touchSlice (h : s.slicePower slice < 2) : (s.touchSlice slice).slicePower slice = 0 := by
  rw [touchSlice_eq]
  split
  · exact slicePower_setSlicePower s slice (by decide)
  · next hdown => exact (by omega : s.slicePower slice = 0)

/-! ### Errors of a beat (R167–R170, R175) -/

/-- What the report of an error and the way of its row to a spare may change: the copies, the failed banks, the headers of
pages, and the records. -/
structure DramFails (s t : State) : Prop where
  parts : s.only t [.dram, .regs, .fault]
  dram : ∃ copies banks, t.dram = { s.dram with copies := copies, failedBanks := banks }
  regs : ∀ {p off}, 0 < p → 0x40 ≤ off → off < 4096 → t.reg p off = s.reg p off

/-- A corrected beat counts at the key of its row (R167). -/
def countBeat (s : State) (key : Nat) : State :=
  { s with dram := { s.dram with ceCount := addNum s.dram.ceCount key 1 } }

namespace DramFails

theorem refl (s : State) : s.DramFails s := ⟨only_refl s _, ⟨_, _, rfl⟩, fun _ _ _ => rfl⟩

theorem branch {c : Prop} [Decidable c] (ht : s.DramFails t) (hu : s.DramFails u) : s.DramFails (if c then t else u) := by
  split
  · exact ht
  · exact hu

variable (h : s.DramFails t)
include h

theorem setReg {v : W32} (ho : off < 0x40 := by decide) : s.DramFails (t.setReg p off v) :=
  ⟨h.parts.setReg, h.dram, fun hq hlo hhi => (t.reg_setReg_other _ (by omega)).trans (h.regs hq hlo hhi)⟩

theorem record {r : ErrRecord} : s.DramFails (t.record r) :=
  .branch ⟨h.parts.fault, h.dram, h.regs⟩
    ⟨h.parts.count, h.dram, fun hq hlo hhi => (reg_setReg_page hq.ne' hhi (by decide)).trans (h.regs hq hlo hhi)⟩

theorem detect {b : Nat} {r : ErrRecord} : s.DramFails (t.detect p b r) := .branch h.setReg.record h.setReg

theorem corrected {r : ErrRecord} : s.DramFails (t.corrected p r) := .branch h.setReg.record h.setReg

theorem countBeat (key : Nat) : (s.countBeat key).DramFails (t.countBeat key) := by
  obtain ⟨copies, banks, hdram⟩ := h.dram
  refine ⟨fun x hx => ?_, ⟨copies, banks, by rw [State.countBeat, hdram]; rfl⟩, h.regs⟩
  have hsame := h.parts x hx
  cases x with
  | dram => exact absurd (by decide) hx
  | _ => exact hsame

theorem remap {copies : List RemapReq} {banks : List Nat} :
    s.DramFails { t with dram := { t.dram with copies := copies, failedBanks := banks } } := by
  obtain ⟨_, _, hdram⟩ := h.dram
  exact ⟨h.parts.dram, ⟨copies, banks, by rw [hdram]⟩, h.regs⟩

theorem degradeBank {bank : Nat} : s.DramFails (t.degradeBank slice bank) :=
  .branch h.remap.setReg.setReg.record h.remap.setReg.setReg

theorem startRemap {pl : DramPlace} {src : Nat} : s.DramFails (t.startRemap pl src) :=
  .branch h (.branch h.degradeBank h.remap)

end DramFails

/-- The beat that begins at an address is poison and counts at the page of its slice (R167, R168). -/
def poisonBeat (s : State) (p a : Nat) : State := (s.poisonAt a).count p Reg.DRM_UE 1

/-- What the failing symbols of a beat leave before they are reported: a corrected one counts, more make the beat poison. -/
def beatMet (s : State) (d symbols : Nat) : State :=
  let t := s.setReg64 (Page.slice (dramPlace d).slice) Reg.DRM_LAST_ERR_ADDR d
  if symbols = 0 then s
  else if symbols = 1 then t.countBeat (rowKey (dramPlace d))
  else t.poisonBeat (Page.slice (dramPlace d).slice) (Base.dram + d / 64 * 64)

theorem beatMet_of_one (s : State) (d : Nat) : s.beatMet d 1
    = (s.setReg64 (Page.slice (dramPlace d).slice) Reg.DRM_LAST_ERR_ADDR d).countBeat (rowKey (dramPlace d)) := by
  unfold beatMet
  rw [if_neg (by decide), if_pos rfl]

theorem beatMet_of_many (s : State) (d : Nat) {symbols : Nat} (h : 2 ≤ symbols) :
    s.beatMet d symbols = (s.setReg64 (Page.slice (dramPlace d).slice) Reg.DRM_LAST_ERR_ADDR d).poisonBeat
      (Page.slice (dramPlace d).slice) (Base.dram + d / 64 * 64) := by
  unfold beatMet
  rw [if_neg (by omega), if_neg (by omega)]

theorem readBeat_zero (s : State) (d : Nat) : s.readBeat d 0 = s := by
  rw [readBeat, if_pos rfl]

theorem readBeat_fails (s : State) (d symbols : Nat) : (s.beatMet d symbols).DramFails (s.readBeat d symbols) := by
  unfold readBeat beatMet
  dsimp only
  split_ifs
  · exact .refl s
  · exact ((DramFails.refl _).corrected.countBeat _).startRemap
  · exact ((DramFails.refl _).corrected.countBeat _)
  · exact (DramFails.refl _).setReg.detect.startRemap

theorem only.poison (h : s.only t l) {x : List Nat} (hl : Part.poison ∈ l := by decide) :
    s.only { t with poison := x } l :=
  h.change .poison (fun y hy => by cases y <;> simp_all [Part.same]) hl

theorem only.countBeat (h : s.only t l) {key : Nat} (hd : Part.dram ∈ l := by decide) : s.only (t.countBeat key) l := h.dram hd

theorem isPoison_setReg (s : State) (p off : Nat) (v : W32) (a : Nat) : (s.setReg p off v).isPoison a = s.isPoison a := rfl

theorem dram_count (s : State) (p off n : Nat) : (s.count p off n).dram = s.dram := rfl

theorem dram_setReg64 (s : State) (p off n : Nat) : (s.setReg64 p off n).dram = s.dram := rfl

theorem dram_countBeat (h : t.dram = s.dram) (key : Nat) :
    (t.countBeat key).dram = { s.dram with ceCount := addNum s.dram.ceCount key 1 } := by
  rw [State.countBeat, h]

theorem slicePower_countBeat (s : State) (key : Nat) : (s.countBeat key).slicePower slice = s.slicePower slice := rfl

/-- A write of a register leaves the registers at other offsets, whatever their pages. -/
theorem reg_setReg_of_off_ne {q o : Nat} {v : W32} (h : o ≠ off) (ho : o < 4096) (hoff : off < 4096) :
    (s.setReg p off v).reg q o = s.reg q o :=
  s.reg_setReg_other v (by omega)

theorem slicePower_setReg {v : W32} (ho : off < 4096) (hstat : off ≠ Reg.DRM_SLICE_STAT) :
    (s.setReg p off v).slicePower slice = s.slicePower slice :=
  slicePower_congr (reg_setReg_of_off_ne hstat.symm (by decide) ho)

section
variable {a : Nat}

theorem only.poisonBeat (h : s.only t l) (hp : Part.poison ∈ l := by decide) (hr : Part.regs ∈ l := by decide) :
    s.only (t.poisonBeat p a) l :=
  (h.poison hp).count hr

theorem slicePower_poisonBeat : (s.poisonBeat p a).slicePower slice = s.slicePower slice :=
  (slicePower_setReg (by decide) (by decide)).trans rfl

theorem isPoison_poisonBeat : (s.poisonBeat p a).isPoison a = true := by
  have hpoison : (s.poisonBeat p a).poison = setIns s.poison a := rfl
  simpa [isPoison, hpoison] using mem_setIns_self s.poison a

theorem ue_poisonBeat :
    ((s.poisonBeat p a).reg p Reg.DRM_UE).toNat = min 0xFFFFFFFF ((s.reg p Reg.DRM_UE).toNat + 1) :=
  (s.poisonAt a).count_reg p Reg.DRM_UE 1

end

theorem beatMet_parts (s : State) (d symbols : Nat) : s.only (s.beatMet d symbols) [.dram, .regs, .poison]
    ∧ (∃ ce, (s.beatMet d symbols).dram = { s.dram with ceCount := ce })
    ∧ (s.beatMet d symbols).slicePower slice = s.slicePower slice := by
  have hlast : (s.setReg64 (Page.slice (dramPlace d).slice) Reg.DRM_LAST_ERR_ADDR d).slicePower slice = s.slicePower slice :=
    (slicePower_setReg (by decide) (by decide)).trans (slicePower_setReg (by decide) (by decide))
  obtain rfl | rfl | hmany : symbols = 0 ∨ symbols = 1 ∨ 2 ≤ symbols := by omega
  · exact ⟨only_refl s _, ⟨_, rfl⟩, rfl⟩
  · rw [beatMet_of_one]
    exact ⟨(only_refl s _).setReg64.countBeat, ⟨_, dram_countBeat (dram_setReg64 _ _ _ _) _⟩,
      (slicePower_countBeat _ _).trans hlast⟩
  · rw [beatMet_of_many s d hmany]
    have honly := (only_refl s [.regs, .poison]).setReg64 (p := Page.slice (dramPlace d).slice)
      (off := Reg.DRM_LAST_ERR_ADDR) (n := d) |>.poisonBeat (p := Page.slice (dramPlace d).slice)
      (a := Base.dram + d / 64 * 64)
    exact ⟨honly.mono (by decide), ⟨s.dram.ceCount, honly .dram (by decide)⟩, slicePower_poisonBeat.trans hlast⟩

/-- A corrected error changes the counts of the rows and the register of the last error (R167). -/
theorem beatMet_corrects (s : State) (d : Nat) : s.only (s.beatMet d 1) [.dram, .regs]
    ∧ (s.beatMet d 1).dram = { s.dram with ceCount := addNum s.dram.ceCount (rowKey (dramPlace d)) 1 } := by
  rw [beatMet_of_one]
  exact ⟨(only_refl s _).setReg64.countBeat, dram_countBeat (dram_setReg64 _ _ _ _) _⟩

/-- An uncorrectable error poisons the beat and counts at the page of its slice (R167, R168). -/
theorem beatMet_poisons (s : State) (d : Nat) {symbols : Nat} (h : 2 ≤ symbols) :
    (s.beatMet d symbols).isPoison (Base.dram + d / 64 * 64) = true
      ∧ ((s.beatMet d symbols).reg (Page.slice (dramPlace d).slice) Reg.DRM_UE).toNat
        = min 0xFFFFFFFF ((s.reg (Page.slice (dramPlace d).slice) Reg.DRM_UE).toNat + 1) := by
  rw [beatMet_of_many s d h, ue_poisonBeat, setReg64, reg_setReg_off (by decide), reg_setReg_off (by decide)]
  exact ⟨isPoison_poisonBeat, rfl⟩

/-- A beat that is read leaves the requests, the charges and the power states. -/
theorem readBeat_parts (s : State) (d symbols slice : Nat) : s.only (s.readBeat d symbols) [.dram, .regs, .poison, .fault]
    ∧ (∃ ce copies banks, (s.readBeat d symbols).dram
      = { s.dram with ceCount := ce, copies := copies, failedBanks := banks })
    ∧ (s.readBeat d symbols).slicePower slice = s.slicePower slice := by
  have hfails := s.readBeat_fails d symbols
  obtain ⟨hmet, ⟨ce, hce⟩, hpower⟩ := s.beatMet_parts (slice := slice) d symbols
  obtain ⟨copies, banks, hdram⟩ := hfails.dram
  rw [hce] at hdram
  exact ⟨(hmet.mono (by decide)).trans hfails.parts, ⟨ce, copies, banks, hdram⟩,
    (slicePower_congr (hfails.regs (page_slice_pos slice) (by decide) (by decide))).trans hpower⟩

theorem readBeat_corrects (s : State) (d : Nat) : (s.readBeat d 1).poison = s.poison
    ∧ (s.readBeat d 1).dram.ceCount = addNum s.dram.ceCount (rowKey (dramPlace d)) 1 := by
  have hfails := s.readBeat_fails d 1
  obtain ⟨hmet, hcount⟩ := s.beatMet_corrects d
  obtain ⟨copies, banks, hdram⟩ := hfails.dram
  rw [hcount] at hdram
  exact ⟨(hfails.parts .poison (by decide)).trans (hmet .poison (by decide)), congrArg DramState.ceCount hdram⟩

theorem readBeat_poisons (s : State) (d : Nat) {symbols : Nat} (h : 2 ≤ symbols) :
    (s.readBeat d symbols).isPoison (Base.dram + d / 64 * 64) = true
      ∧ ((s.readBeat d symbols).reg (Page.slice (dramPlace d).slice) Reg.DRM_UE).toNat
        = min 0xFFFFFFFF ((s.reg (Page.slice (dramPlace d).slice) Reg.DRM_UE).toNat + 1) := by
  have hfails := s.readBeat_fails d symbols
  have hpoison := hfails.parts .poison (by decide)
  obtain ⟨hbeat, hue⟩ := s.beatMet_poisons d h
  rw [isPoison, hpoison, hfails.regs (page_slice_pos _) (by decide) (by decide)]
  exact ⟨hbeat, hue⟩

/-! ### Requests (R158, R161) -/

/-- A request leaves its slice, and its bytes are charged to its requester. -/
def chargeRequest (s : State) (slice : Nat) (q : DramReq) : State :=
  let t := s.touchSlice slice
  let turn := if t.rate q.who = 0 ∧ unreservedRank q.who = 5 then setNum t.dram.turn slice (q.who + 1) else t.dram.turn
  { t with dram := { t.dram with
      reqs := eraseFirst q t.dram.reqs, turn := turn
      used := addNum t.dram.used (slice * 4096 + q.who) q.bytes
      bytes := addNum t.dram.bytes (slice * 4096 + q.who) q.bytes } }

theorem exec_dramRequestServe_of_mayServe {slice : Fin 128} {pick symbols : Nat} {q : DramReq}
    (hpick : (s.reqsAt slice)[pick]? = some q) (hserves : s.sliceServes slice = true) (hmay : s.mayServe slice q = true)
    (hcopies : s.dram.copies = []) :
    ∃ n, exec (.dramRequestServe slice pick symbols) s
      = .next (((s.chargeRequest slice q).readBeat q.addr symbols).count (Page.slice slice) Reg.DRM_POISON_RD n) := by
  have hexec : exec (.dramRequestServe slice pick symbols) s = execDramRequestServe slice pick symbols s := rfl
  rw [hexec]
  simp only [execDramRequestServe, hpick, hserves, hmay, hcopies, List.all_nil, Bool.and_self, if_true]
  exact ⟨_, rfl⟩

theorem chargeRequest_parts (s : State) (slice : Nat) (q : DramReq) : s.only (s.chargeRequest slice q) [.dram, .regs]
    ∧ ∃ last turn bytes, (s.chargeRequest slice q).dram = { s.dram with
        reqs := eraseFirst q s.dram.reqs, lastAccess := last, turn := turn, bytes := bytes
        used := addNum s.dram.used (slice * 4096 + q.who) q.bytes } := by
  refine ⟨(only_refl s _).touchSlice.dram, ?_⟩
  unfold chargeRequest
  dsimp only
  rw [dram_touchSlice]
  exact ⟨_, _, _, rfl⟩

theorem reg_chargeRequest (s : State) (slice : Nat) (q : DramReq) :
    (s.chargeRequest slice q).reg p off = (s.touchSlice slice).reg p off := rfl

theorem slicePower_chargeRequest (h : s.slicePower slice < 2) (q : DramReq) : (s.chargeRequest slice q).slicePower slice = 0 :=
  (slicePower_congr (s.reg_chargeRequest slice q)).trans (slicePower_touchSlice h)

theorem slicePower_lt_of_sliceServes (h : s.sliceServes slice = true) : s.slicePower slice < 2 :=
  of_decide_eq_true (Bool.and_eq_true _ _ ▸ h).2

/-! ### The scrubber (R168) -/

/-- The scrubber moves on by one beat, and at the end of a row begins its count anew. -/
theorem exec_patrolScrub_of_idle {slice : Fin 128} (hserves : s.sliceServes slice = true)
    (hscrub : s.reg (Page.die (slice.val % 16 / 8)) Reg.DRM_SCRUB_S ≠ 0) (hreqs : s.reqsAt slice = []) :
    ∃ ce, exec (.patrolScrub slice 0) s = .next { s.touchSlice slice with dram := { (s.touchSlice slice).dram with
      ceCount := ce, scrubPos := setNum s.dram.scrubPos slice ((numAt s.dram.scrubPos slice + 1) % 6291456) } } := by
  have hready : s.reservedReady slice = false := by rw [reservedReady, hreqs]; rfl
  have hexec : exec (.patrolScrub slice 0) s = execPatrolScrub slice 0 s := rfl
  rw [hexec]
  simp only [execPatrolScrub, hserves, hready, hreqs, bne_iff_ne.mpr hscrub, List.all_nil, Bool.and_self, Bool.not_false,
    if_true, readBeat_zero]
  rw [dram_touchSlice]
  exact ⟨_, rfl⟩

end State

/-- Settles O29: a served request is charged before its beat is read, whose failures touch neither charges nor requests; a
window is a fold over the charges of its slice; the scrubber and the idle slice read no failing beat. -/
theorem dramSlicesServe : Obligations.DramSlicesServe := by
  intro s slice
  refine ⟨fun pick symbols q hpick hserves hmay hcopies => ?serve,
    fun hruns hpresent => ⟨fun hdue hwf => ?window, fun hearly => ?early⟩,
    fun hserves hscrub hreqs => ?scrub, fun hruns hpresent hactive hpd hreqs hidle => ?down⟩
  case serve =>
    obtain ⟨n, hexec⟩ := State.exec_dramRequestServe_of_mayServe (symbols := symbols) hpick hserves hmay hcopies
    obtain ⟨hcharge, last, turn, bytes, hcharged⟩ := s.chargeRequest_parts slice q
    obtain ⟨hread, ⟨ce, copies, banks, hdram⟩, hpower⟩ := (s.chargeRequest slice q).readBeat_parts q.addr symbols slice
    rw [hcharged] at hdram
    have hfinal := (State.dram_count _ (Page.slice slice) Reg.DRM_POISON_RD n).trans hdram
    refine ⟨_, hexec, ?reqs, ?used, ?power, fun hnone => ?none, fun hone => ?one, fun hmany => ?many,
      ((hcharge.mono (by decide)).trans hread).count⟩
    case reqs => exact congrArg DramState.reqs hfinal
    case used =>
      have hused := congrArg DramState.used hfinal
      rw [hused, numAt_addNum_same]
    case power =>
      rw [State.count, State.slicePower_setReg (by decide) (by decide), hpower,
        State.slicePower_chargeRequest (State.slicePower_lt_of_sliceServes hserves)]
    case none =>
      rw [hnone, State.readBeat_zero]
      exact hcharge.count
    case one =>
      subst hone
      obtain ⟨hpoison, hcount⟩ := (s.chargeRequest slice q).readBeat_corrects q.addr
      have hold := congrArg DramState.ceCount hcharged
      rw [State.dram_count, hcount, hold, numAt_addNum_same, State.count, State.setReg_poison]
      exact ⟨rfl, hpoison.trans (hcharge .poison (by decide))⟩
    case many =>
      obtain ⟨hpoison, hue⟩ := (s.chargeRequest slice q).readBeat_poisons q.addr hmany
      rw [State.reg_chargeRequest, State.reg_touchSlice (by decide) (by decide)] at hue
      rw [State.count, State.isPoison_setReg, State.reg_setReg_of_off_ne (by decide) (by decide) (by decide)]
      exact ⟨hpoison, hue⟩
  case window =>
    obtain ⟨honly, waits, refresh, hdram⟩ := s.beginWindow_parts slice (numAt s.dram.wins slice + 1)
    refine ⟨_, State.exec_reservationWindow_of_due hruns hpresent hdue, ?_⟩
    have hwins := congrArg DramState.wins hdram
    have hused := congrArg DramState.used hdram
    have hreqs := congrArg DramState.reqs hdram
    refine ⟨?_, fun who hwho => ?_, hreqs, honly⟩
    · rw [hwins, numAt_setNum_same]
    · rw [hused, State.numAt_windowUsed hwf hwho]
  case early => exact ⟨s, State.exec_reservationWindow_of_early hearly, rfl⟩
  case scrub =>
    obtain ⟨ce, hexec⟩ := State.exec_patrolScrub_of_idle hserves hscrub hreqs
    exact ⟨_, hexec, numAt_setNum_same _ _ _, (State.only_refl s _).touchSlice.dram, s.regsBut_touchSlice slice⟩
  case down =>
    exact ⟨_, State.exec_slicePowerDown_of_idle hruns hpresent hactive hpd hreqs hidle,
      s.slicePower_setSlicePower slice (by decide), (State.only_refl s _).setFld,
      State.regsBut_setReg (State.regsBut_refl s _) (by decide) (by simp) _⟩

end Sys2Proof.Machine
end

section
/-! # Posted writes to the synapse store, refresh and remapping -/
namespace Sys2Proof.Machine
open Sys2Proof

/-- The thresholds of the multiplier, in units of 0.125 °C. -/
theorem refreshCode_spec (cur temp : Nat) : (760 < temp → refreshCode cur temp = 2)
    ∧ (temp < 656 → refreshCode cur temp = 0)
    ∧ (cur = 0 → 680 < temp → temp ≤ 760 → refreshCode cur temp = 1)
    ∧ (cur = 1 → 656 ≤ temp → temp ≤ 760 → refreshCode cur temp = 1) ∧ refreshCode cur temp < 4 := by
  unfold refreshCode
  split_ifs <;> omega

/-- The fields of a remap list entry. -/
theorem remapWord_fields (src slice bank row spare : Nat) :
    fld (remapWord src slice bank row spare) 28 23 = sliceInDie slice % 64
      ∧ fld (remapWord src slice bank row spare) 22 19 = bank % 16
      ∧ fld (remapWord src slice bank row spare) 18 5 = row % 2 ^ 14 := by
  unfold remapWord fld bitsOf
  rw [BitVec.toNat_ofNat, Nat.shiftRight_eq_div_pow, Nat.shiftRight_eq_div_pow, Nat.shiftRight_eq_div_pow]
  refine ⟨?_, ?_, ?_⟩ <;> omega

namespace State

variable {s t : State} {l : List Part} {d slice : Nat} {b : List Byte}

/-! ### Stores of part of a beat (R162, R164, R168) -/

theorem beatParts_of_beat (hb : b ≠ []) (hfit : d % 64 + b.length ≤ 64) : beatParts d b = [(d, b)] := by
  have htake : b.take (64 - d % 64) = b := List.take_of_length_le (by omega)
  have hrest : (b.length - (64 - d % 64) + 63) / 64 = 0 := by omega
  cases b with
  | nil => exact absurd rfl hb
  | cons x b => simp only [beatParts, htake, hrest, List.range_zero, List.map_nil]

theorem only.touchRange (h : s.only t l) {n : Nat} (hd : Part.dram ∈ l := by decide) (hr : Part.regs ∈ l := by decide) :
    s.only (t.touchRange d n) l :=
  h.foldl fun _ hu => hu.touchSlice hd hr

theorem only.setBytes (h : s.only t l) {a : Nat} (hm : Part.mem ∈ l := by decide) : s.only (t.setBytes a b) l := by
  induction b generalizing t a with
  | nil => exact h
  | cons x b ih => exact ih (h.change .mem (fun y hy => by cases y <;> simp_all [Part.same]) hm)

/-- A store to part of one beat: the slices of its bytes are touched, the bytes are written, and cached copies go. -/
theorem dramStore_of_beat (hb : b ≠ []) (hfit : d % 64 + b.length ≤ 64) :
    s.dramStore d b = ((s.touchRange d b.length).writeBeat d b).invalidate d b.length := by
  rw [dramStore, beatParts_of_beat hb hfit]
  rfl

theorem byte_writeBeat (s : State) (d : Nat) (b : List Byte) (x : Nat) :
    (s.writeBeat d b).byte x = (s.setBytes (Base.dram + d) b).byte x := by
  unfold writeBeat
  dsimp only
  split
  · rfl
  · rfl

theorem byte_invalidate (s : State) (d n x : Nat) : (s.invalidate d n).byte x = s.byte x := rfl

theorem byte_touchRange (s : State) (d n x : Nat) : (s.touchRange d n).byte x = s.byte x := by
  have honly : s.only (s.touchRange d n) [.dram, .regs] := (only_refl s _).touchRange
  have hmem := honly .mem (by decide)
  rw [byte, byte, hmem]

theorem bytes_setBytes (s : State) (a : Nat) (b : List Byte) : (s.setBytes a b).bytes a b.length = b :=
  List.ext_getElem (by simp [bytes]) fun i _ hi => by simp [bytes, byte_setBytes b s a i hi]

/-- The bytes of a store to part of one beat are in memory, and every other byte is as before. -/
theorem bytes_dramStore_of_beat (hb : b ≠ []) (hfit : d % 64 + b.length ≤ 64) :
    (s.dramStore d b).bytes (Base.dram + d) b.length = b ∧ s.bytesBut (s.dramStore d b) (Base.dram + d) b.length := by
  have hbyte : ∀ x, (s.dramStore d b).byte x = ((s.touchRange d b.length).setBytes (Base.dram + d) b).byte x := fun x => by
    rw [dramStore_of_beat hb hfit, byte_invalidate, byte_writeBeat]
  refine ⟨Eq.trans ?_ (bytes_setBytes (s.touchRange d b.length) (Base.dram + d) b), fun x hx => ?_⟩
  · simp only [bytes, hbyte]
  · rw [hbyte, byte_setBytes_other b _ _ x hx, byte_touchRange]

theorem only_dramStore_of_beat (hb : b ≠ []) (hfit : d % 64 + b.length ≤ 64) :
    s.only (s.dramStore d b) [.mem, .poison, .cells, .dram, .regs] := by
  rw [dramStore_of_beat hb hfit]
  have htouched : s.only (s.touchRange d b.length) [.mem, .poison, .cells, .dram, .regs] := (only_refl s _).touchRange
  exact only.cells (.branch htouched.setBytes.poison htouched.setBytes)

/-- Only a whole beat clears its poison (R168). -/
theorem only_dramStore_of_part (hb : b ≠ []) (hfit : d % 64 + b.length ≤ 64) (hpart : b.length ≠ 64) :
    s.only (s.dramStore d b) [.mem, .cells, .dram, .regs] := by
  have hwrite : (s.touchRange d b.length).writeBeat d b = (s.touchRange d b.length).setBytes (Base.dram + d) b := if_neg hpart
  rw [dramStore_of_beat hb hfit, hwrite]
  exact (only_refl s _).touchRange.setBytes.cells

/-! ### Posted writes (R162) -/

theorem dram_posted (s : State) (r : Requester) : (s.posted r).dram = s.dram := by
  unfold posted
  split
  · rfl
  · rfl

/-- A posted write of a requester to part of one beat. -/
def beatPost (r : Requester) (d : Nat) (b : List Byte) : SynPost :=
  { slice := (dramPlace d).slice, req := some r, addr := d, bytes := b }

theorem postSyn_of_room {r : Requester} (hroom : s.postedAt (dramPlace d).slice < 128)
    (hheld : ∀ h ∈ s.dram.held, h.slice ≠ (dramPlace d).slice) :
    s.postSyn (some r) d b = { s with dram := { s.dram with posts := s.dram.posts ++ [beatPost r d b] } } :=
  if_pos ⟨hroom, by simpa using hheld⟩

theorem postSyn_of_full {r : Requester} (hfull : 128 ≤ s.postedAt (dramPlace d).slice) :
    s.postSyn (some r) d b = { s with dram := { s.dram with held := s.dram.held ++ [beatPost r d b] } } :=
  if_neg fun h => Nat.not_lt.mpr hfull h.1

/-- The state with other counts of the bytes that each requester has moved (R159). -/
def withBytes (s : State) (m : Store Nat) : State := { s with dram := { s.dram with bytes := m } }

theorem chargeReq_eq (s : State) (r : Requester) (d n : Nat) : ∃ m, s.chargeReq r d n = s.withBytes m := by
  unfold chargeReq chargeBytes
  split
  · split
    · exact ⟨s.dram.bytes, rfl⟩
    · exact ⟨_, rfl⟩
  · exact ⟨s.dram.bytes, rfl⟩

section
variable {r : Requester} {sec : Bool} (hsize : d + b.length ≤ dramBytes s.grade)
  (hsecure : sec = true ∨ s.rangeSecure d b.length = false)
include hsize hsecure

theorem dramWrite_of_stopped (hstop : s.running = false) : s.dramWrite (some r) sec d b = s.dramStore d b := by
  unfold dramWrite
  rw [if_neg (Nat.not_lt.mpr hsize), if_neg (by rcases hsecure with h | h <;> simp [h]), if_neg (by simp [hstop])]

theorem dramWrite_of_running (hrun : s.running = true) (hin : s.inSynapseStore d = true) (hb : b ≠ [])
    (hfit : d % 64 + b.length ≤ 64) : s.dramWrite (some r) sec d b = (s.postSyn (some r) d b).posted r := by
  unfold dramWrite
  rw [if_neg (Nat.not_lt.mpr hsize), if_neg (by rcases hsecure with h | h <;> simp [h]), if_pos ⟨hrun, hin⟩,
    beatParts_of_beat hb hfit]
  rfl

end

/-- POSTED_SYNAPSE_WRITE is a write that the slices charge to its requester. -/
theorem exec_postedSynapseWrite_of_admitted {r : Requester} (hserves : s.serves r = true)
    (hin : s.inSynapseStore d = true) (hsize : d + b.length ≤ dramBytes s.grade) (hclear : s.clearingAny d b.length = false) :
    ∃ m, exec (.postedSynapseWrite r (Base.dram + d) b) s
      = .next ((s.withBytes m).dramWrite (some r) (s.isSecure r) d b) := by
  obtain ⟨m, hcharge⟩ := s.chargeReq_eq r d b.length
  have hdies : dramBytes s.grade ≤ 2 * dieBytes := Nat.mul_le_mul_right _ (by cases s.grade <;> decide)
  have hoff : Base.dram + d - Base.dram = d := Nat.add_sub_cancel_left ..
  have hrange : Base.dram ≤ Base.dram + d ∧ Base.dram + d + b.length ≤ Base.dram + 2 * dieBytes := by omega
  refine ⟨m, ?_⟩
  change execPostedSynapseWrite r (Base.dram + d) b s = _
  rw [execPostedSynapseWrite, hoff, if_pos (by simp only [hserves, hin, hclear, hrange]; decide), hcharge]

theorem exec_postedWriteAdmit_of_room {slice : Fin 128} {h : SynPost}
    (hfind : s.dram.held.find? (fun h => h.slice == slice.val) = some h) (hruns : s.runs (sliceDomain slice) = true)
    (hroom : s.postedAt slice < 128) : exec (.postedWriteAdmit slice) s = .next { s with dram := { s.dram with
      held := eraseFirst h s.dram.held, posts := s.dram.posts ++ [h] } } := by
  change execPostedWriteAdmit slice s = _
  simp [execPostedWriteAdmit, hfind, hruns, hroom]

/-! ### Refresh (R165, R173) -/

theorem regFld_setReg_off {p off o hi lo : Nat} {v : W32} (h : o ≠ off) :
    (s.setReg p off v).regFld p o hi lo = s.regFld p o hi lo := by
  rw [regFld, reg_setReg_off h, regFld]

theorem regFld_setFld_same (s : State) (p off : Nat) {hi lo x : Nat} (hhi : hi < 32) :
    (s.setFld p off hi lo x).regFld p off hi lo = x % 2 ^ (hi + 1 - lo) := by
  rw [setFld, regFld, reg_setReg_same, fld_withFld_same _ hhi]

/-- A new multiplier of a slice is shown and reported, and its bandwidth follows at the next window. -/
def changeRefresh (s : State) (slice new : Nat) : State :=
  let t := (s.setFld (Page.slice slice) Reg.DRM_SLICE_STAT 25 24 new).setInt (Page.slice slice) 3
  { t with dram := { t.dram with refresh := setIns t.dram.refresh slice } }

theorem changeRefresh_parts (s : State) (slice : Nat) {new : Nat} (hnew : new < 4) :
    (s.changeRefresh slice new).regFld (Page.slice slice) Reg.DRM_SLICE_STAT 25 24 = new
      ∧ bit ((s.changeRefresh slice new).reg (Page.slice slice) Reg.PG_INT) 3 = true
      ∧ slice ∈ (s.changeRefresh slice new).dram.refresh := by
  have hreg : ∀ p off, (s.changeRefresh slice new).reg p off
      = ((s.setFld (Page.slice slice) Reg.DRM_SLICE_STAT 25 24 new).setInt (Page.slice slice) 3).reg p off := fun _ _ => rfl
  refine ⟨?_, ?_, mem_setIns_self _ _⟩
  · rw [regFld, hreg, setInt, orReg, reg_setReg_off (by decide)]
    exact (regFld_setFld_same s _ _ (by decide)).trans (Nat.mod_eq_of_lt hnew)
  · rw [hreg]
    exact bit_setInt (by decide)

/-- The rest of the page stands as it was, but for the interrupt bit. -/
theorem regsBut_changeRefresh (h : s.regsBut t [(Page.slice slice, Reg.DRM_TEMP), (Page.slice slice, Reg.DRM_SLICE_STAT),
      (Page.slice slice, Reg.PG_INT)]) (new : Nat) :
    s.regsBut (t.changeRefresh slice new) [(Page.slice slice, Reg.DRM_TEMP), (Page.slice slice, Reg.DRM_SLICE_STAT),
      (Page.slice slice, Reg.PG_INT)] :=
  regsBut_setReg (regsBut_setReg h (by decide) (by simp) _) (by decide) (by simp) _

theorem exec_refreshChange_of_present {slice : Fin 128} {temp : Nat} (htemp : temp < 2048)
    (hpresent : presentIn s.grade (Page.slice slice) = true) {cur : Nat}
    (hcur : s.regFld (Page.slice slice) Reg.DRM_SLICE_STAT 25 24 = cur) :
    exec (.refreshChange slice temp) s = .next (if refreshCode cur temp = cur
      then s.setFld (Page.slice slice) Reg.DRM_TEMP 10 0 temp
      else (s.setFld (Page.slice slice) Reg.DRM_TEMP 10 0 temp).changeRefresh slice (refreshCode cur temp)) := by
  change execRefreshChange slice temp s = _
  simp only [execRefreshChange, hpresent, hcur, Nat.mod_eq_of_lt htemp, if_true]
  split
  · rfl
  · rfl

/-! ### Remapping (R169, R170) -/

/-- A row is listed once its entry stands in the remap list of its die. -/
theorem rowListed_of_mem {src bank row spare : Nat} (hslice : slice < 128) (hbank : bank < 16) (hrow : row < 2 ^ 14)
    (hmem : (slice % 16 / 8, remapWord src slice bank row spare) ∈ s.dram.remap) : s.rowListed slice bank row = true := by
  obtain ⟨hs, hb, hr⟩ := remapWord_fields src slice bank row spare
  have hdie : sliceInDie slice < 64 := by
    unfold sliceInDie
    omega
  rw [Nat.mod_eq_of_lt hdie] at hs
  rw [Nat.mod_eq_of_lt hbank] at hb
  rw [Nat.mod_eq_of_lt hrow] at hr
  have hlisted : (s.bankRemaps slice bank).any (fun e => fld e.2 18 5 == row) = true :=
    List.any_eq_true.mpr ⟨_, List.mem_filter.mpr ⟨hmem, by simp [hs, hb]⟩, by simp [hr]⟩
  rw [rowListed, hlisted, Bool.true_or]

/-- Entering a mapping adds one entry and shows it at the pages of the slice and of its die. -/
theorem enterRemap_parts (s : State) (c : RemapReq) : s.only (s.enterRemap c) [.dram, .regs]
    ∧ bit ((s.enterRemap c).reg (Page.slice c.slice) Reg.PG_INT) 0 = true
    ∧ (s.enterRemap c).dram.copies = s.dram.copies
    ∧ ∃ spare, (s.enterRemap c).dram.remap
      = s.dram.remap ++ [(c.slice % 16 / 8, remapWord c.src c.slice c.bank c.row spare)] := by
  have hpage : Page.slice c.slice ≠ Page.die (c.slice % 16 / 8) := by
    unfold Page.slice Page.region Page.die
    omega
  unfold enterRemap
  dsimp only
  split
  · refine ⟨(only_refl s _).dram.setFld.setFld.setFld.setInt.setInt, ?_, rfl, _, rfl⟩
    rw [setInt, orReg, reg_setReg_page hpage (by decide) (by decide), bit_setInt (by decide)]
  · exact ⟨(only_refl s _).dram.setFld.setFld.setFld.setInt, bit_setInt (by decide), rfl, _, rfl⟩

theorem dram_record (s : State) (r : ErrRecord) : (s.record r).dram = s.dram := by
  unfold record
  split
  · rfl
  · rfl

/-- A copy of a row leaves the list of copies. -/
def endCopy (s : State) (c : RemapReq) : State := { s with dram := { s.dram with copies := eraseFirst c s.dram.copies } }

/-- The record of a row that has been copied (R169). -/
def remapRecord (slice : Nat) (c : RemapReq) : ErrRecord :=
  { level := 2, cls := 1, esc := false, inj := false, code := 0x0302, unit := pageId (Page.slice slice)
    addr := dramOffset ⟨c.slice, c.bank, c.row, 0⟩ }

theorem exec_rowRemapComplete_of_copy {slice : Fin 128} {c : RemapReq}
    (hfind : s.dram.copies.find? (fun c => c.slice == slice.val) = some c) (hserves : s.sliceServes slice = true) :
    exec (.rowRemapComplete slice) s = .next (((s.endCopy c).enterRemap c).record (remapRecord slice c)) := by
  change execRowRemapComplete slice s = _
  simp only [execRowRemapComplete, hfind, hserves, if_true]
  rfl

theorem exec_drmRemapAdd_of_takes {r : Requester} {die : Fin 2} {v : W32}
    (htakes : s.takes r (Page.die die) Reg.DRM_REMAP_ADD) :
    exec (.drmRemapAdd r die v) s = .next (
      let slice := fld v 28 26 * 16 + 8 * die.val + fld v 25 23
      let bank := fld v 22 19
      let row := fld v 18 5
      if 12287 < row ∨ s.rowListed slice bank row then s.setErr (Page.die die) 0
      else if 4 ≤ s.sparesUsed slice bank then (s.poisonRow slice bank row).degradeBank slice bank
      else s.startRemap ⟨slice, bank, row, 0⟩ 3) := by
  change execDrmRemapAdd r die v s = _
  rw [execDrmRemapAdd, ifAdmit_of_takes htakes]

theorem startRemap_of_spare {p : DramPlace} (hlisted : s.rowListed p.slice p.bank p.row = false)
    (hspare : s.sparesUsed p.slice p.bank < 4) (src : Nat) : s.startRemap p src
      = { s with dram := { s.dram with copies := s.dram.copies ++ [⟨p.slice, p.bank, p.row, src⟩] } } := by
  unfold startRemap
  rw [if_neg (by simp [hlisted]), if_neg (by omega)]

end State

/-- Settles O30: a write to part of one beat is one post or one store, and each change of a slice's refresh or rows is one
entry with the bits that report it. -/
theorem synapseWritesAndRemaps : Obligations.SynapseWritesAndRemaps := by
  intro s
  refine ⟨fun r d b hserves hin hb hfit hsize hclear hsecure => ?write, fun slice h hfind hruns hroom => ?enter,
    fun slice temp htemp hpresent => ?refresh, fun slice c hfind hbank hrow hserves => ?complete,
    fun r die v htakes => ?add⟩
  case write =>
    obtain ⟨m, hexec⟩ := State.exec_postedSynapseWrite_of_admitted hserves hin hsize hclear
    have hcharged : s.only (s.withBytes m) [.dram] := (State.only_refl s _).dram
    refine ⟨fun hrun hroom hheld => ?room, fun hrun hfull => ?full, fun hstop => ?stopped⟩
    case room =>
      rw [State.dramWrite_of_running (s := s.withBytes m) hsize hsecure hrun hin hb hfit,
        State.postSyn_of_room (s := s.withBytes m) hroom hheld] at hexec
      exact ⟨_, hexec, congrArg DramState.posts (State.dram_posted _ r), State.mem_posters_posted _ r,
        ((hcharged.mono (by decide)).dram).posted⟩
    case full =>
      rw [State.dramWrite_of_running (s := s.withBytes m) hsize hsecure hrun hin hb hfit,
        State.postSyn_of_full (s := s.withBytes m) hfull] at hexec
      exact ⟨_, hexec, congrArg DramState.held (State.dram_posted _ r), State.mem_posters_posted _ r,
        ((hcharged.mono (by decide)).dram).posted⟩
    case stopped =>
      rw [State.dramWrite_of_stopped (s := s.withBytes m) hsize hsecure hstop] at hexec
      obtain ⟨hbytes, hrest⟩ := State.bytes_dramStore_of_beat (s := s.withBytes m) hb hfit
      exact ⟨_, hexec, hbytes, hrest, (hcharged.mono (by decide)).trans (State.only_dramStore_of_beat hb hfit)⟩
  case enter =>
    exact ⟨_, State.exec_postedWriteAdmit_of_room hfind hruns hroom, rfl, rfl, (State.only_refl s _).dram⟩
  case refresh =>
    intro p cur
    obtain ⟨hhot, hcold, hwarm, hstay, hcode⟩ := refreshCode_spec cur temp
    let u := s.setFld p Reg.DRM_TEMP 10 0 temp
    have htaken : u.regFld p Reg.DRM_TEMP 10 0 = temp :=
      (s.regFld_setFld_same p Reg.DRM_TEMP (by decide)).trans (Nat.mod_eq_of_lt htemp)
    have hkept : u.regFld p Reg.DRM_SLICE_STAT 25 24 = cur := State.regFld_setReg_off (by decide)
    have honly : s.only u [.regs, .dram] := (State.only_refl s _).setFld
    have hbut : s.regsBut u [(p, Reg.DRM_TEMP), (p, Reg.DRM_SLICE_STAT), (p, Reg.PG_INT)] :=
      State.regsBut_setReg (State.regsBut_refl s _) (by decide) (by simp) _
    have hexec := State.exec_refreshChange_of_present htemp hpresent (cur := cur) rfl
    by_cases hsame : refreshCode cur temp = cur
    · have hnew := hkept.trans hsame.symm
      refine ⟨u, hexec.trans (congrArg Host.Outcome.next (if_pos hsame)), ?_⟩
      dsimp only
      rw [hnew]
      exact ⟨htaken, hhot, hcold, hwarm, hstay, fun hne => absurd hsame hne, honly, hbut⟩
    · obtain ⟨hnew, hint, hfollows⟩ := u.changeRefresh_parts slice hcode
      refine ⟨u.changeRefresh slice (refreshCode cur temp), hexec.trans (congrArg Host.Outcome.next (if_neg hsame)), ?_⟩
      dsimp only
      rw [hnew]
      exact ⟨((State.regFld_setReg_off (by decide)).trans (State.regFld_setReg_off (by decide))).trans htaken, hhot, hcold,
        hwarm, hstay, fun _ => ⟨hint, hfollows⟩, honly.setFld.setInt.dram, State.regsBut_changeRefresh hbut _⟩
  case complete =>
    obtain ⟨hparts, hint, hcopies, spare, hremap⟩ := (s.endCopy c).enterRemap_parts c
    have hslice : c.slice = slice.val := by simpa using List.find?_some hfind
    have hended : s.only (s.endCopy c) [.dram, .regs] := (State.only_refl s _).dram
    have hdram := State.dram_record ((s.endCopy c).enterRemap c) (State.remapRecord slice c)
    have hmem : (slice.val % 16 / 8, remapWord c.src slice c.bank c.row spare)
        ∈ ((s.endCopy c).enterRemap c).dram.remap := by
      simp [hremap, hslice]
    refine ⟨_, State.exec_rowRemapComplete_of_copy hfind hserves, (congrArg DramState.copies hdram).trans hcopies, ?_,
      State.rowListed_of_mem slice.isLt hbank hrow (hdram ▸ hmem), ?_, ((hended.trans hparts).mono (by decide)).record⟩
    · rw [hdram, hremap, List.length_append]
      rfl
    · rw [State.reg_record (page_slice_pos slice) (by decide), ← hslice]
      exact hint
  case add =>
    intro slice bank row
    refine ⟨fun hbad => ?_, fun hrow hlisted hspare => ?_⟩
    · refine ⟨_, (State.exec_drmRemapAdd_of_takes htakes).trans (congrArg Host.Outcome.next (if_pos hbad)), ?_⟩
      exact s.setErr_onlyErr (by decide)
    · have hstart := State.startRemap_of_spare (s := s) (p := ⟨slice, bank, row, 0⟩) hlisted hspare 3
      have hgood : ¬ (12287 < row ∨ s.rowListed slice bank row = true) := by simp [hlisted, hrow]
      refine ⟨_, (State.exec_drmRemapAdd_of_takes htakes).trans (congrArg Host.Outcome.next
        ((if_neg hgood).trans ((if_neg (Nat.not_le.mpr hspare)).trans hstart))), rfl, (State.only_refl s _).dram⟩

end Sys2Proof.Machine
end

section
/-! # What the handlers of rows, regions and cores answer -/
namespace Sys2Proof.Machine
open Sys2Proof

theorem page_slice_ne_stp (slice : Nat) : Page.slice slice ≠ Page.stp := by
  simp only [Page.slice, Page.region, Page.stp]
  omega

namespace State

variable {s t : State} {l : List Part}

/-! ### The stamp of an answer -/

theorem stepNo_congr (h : t.regs = s.regs) : t.stepNo = s.stepNo := by
  simp only [stepNo, reg64, reg, h]

theorem stepNo_touchSlice (s : State) (slice : Nat) : (s.touchSlice slice).stepNo = s.stepNo := by
  rw [touchSlice_eq]
  split
  · exact stepNo_setReg (page_slice_ne_stp slice) (by decide)
  · rfl

theorem stepNo_touchRange (s : State) (d n : Nat) : (s.touchRange d n).stepNo = s.stepNo :=
  List.foldlRecOn (motive := fun t : State => t.stepNo = s.stepNo) _ _ rfl fun t ht _ _ => (stepNo_touchSlice t _).trans ht

theorem stamp_of_only (honly : s.only t l) (hl : Part.step ∉ l) (hno : t.stepNo = s.stepNo) : t.stamp = s.stamp := by
  have hstep : t.step = s.step := honly .step hl
  exact stamp_congr hno (by rw [hstep]) (by rw [hstep])

/-! ### Row handlers (R252, R284) -/

section
variable {d n : Nat}

theorem dramRead_of_clean (hsize : d + n ≤ dramBytes s.grade) (hclean : s.poison = []) : s.dramRead true d n
    = ((s.num (Base.dram + d) n, false), (s.touchRange d n).count (Page.slice (dramPlace d).slice) Reg.DRM_POISON_RD 0) := by
  have hbeat : ∀ x, s.beatPoison x = false := fun _ => by simp [beatPoison, isPoison, hclean]
  unfold dramRead
  rw [if_neg (Nat.not_lt.mpr hsize), if_neg (by simp)]
  simp [hbeat]

/-- A read of clean DRAM touches its slices alone. -/
theorem only_dramRead_of_clean (hsize : d + n ≤ dramBytes s.grade) (hclean : s.poison = []) :
    s.only (s.dramRead true d n).2 [.dram, .regs] ∧ (s.dramRead true d n).2.stamp = s.stamp := by
  have honly : s.only ((s.touchRange d n).count (Page.slice (dramPlace d).slice) Reg.DRM_POISON_RD 0) [.dram, .regs] :=
    (only_refl s _).touchRange.count
  rw [dramRead_of_clean hsize hclean]
  exact ⟨honly, stamp_of_only honly (by decide)
    ((stepNo_setReg (page_slice_ne_stp _) (by decide)).trans (stepNo_touchRange s d n))⟩

end

/-- A row that is not plastic is always up to date. -/
theorem msgBring_of_static {c : Nat} {p : Packet} (hplastic : Entry.plastic (s.msgEntry c p) = false) :
    s.msgBring c p = (none, s) := by
  simp only [msgBring, hplastic, Bool.false_eq_true, if_false]

section
variable {c : Nat} {p : Packet} (harg : s.rowArgBad c p = none)
include harg

section
variable (hplastic : Entry.plastic (s.msgEntry c p) = false)
include hplastic

/-- READ_ROW of words in clean DRAM reads them as they stand. -/
theorem actReadRow_of_clean {off n d : Nat} (hn : n = min 5 (Entry.len (s.msgEntry c p) + 2 - off))
    (hd : d = Entry.addr (s.msgEntry c p) + 4 * off) (ho : fld (msgArg p 0) 31 16 = off)
    (hoff : off < Entry.len (s.msgEntry c p) + 2) (hsec : msgSec p = true) (hsize : d + 4 * n ≤ dramBytes s.grade)
    (hclean : s.poison = []) : s.actReadRow c p = (.answer Code.done ((List.range n).map (fun i => s.dramWord (d + 4 * i))),
      (s.dramRead true d (4 * n)).2) := by
  subst hn hd
  have hread := dramRead_of_clean hsize hclean
  simp only [actReadRow, harg, ho, if_neg (Nat.not_le.mpr hoff), hsec, msgBring_of_static hplastic, hread,
    Bool.true_eq_false, Bool.false_eq_true, false_and, if_false]

theorem actRowApply_of_static : s.actRowApply c p = (.answer Code.done [], s) := by
  simp only [actRowApply, harg, msgBring_of_static hplastic, Option.getD_none]

end

/-- WRITE_ROW of one word while the timer is stopped is a store. -/
theorem actWriteRow_of_stopped {off d : Nat} (hd : d = Entry.addr (s.msgEntry c p) + 4 * off)
    (ho : fld (msgArg p 0) 31 16 = off) (hargs : msgArgs p = 2) (hoff : off < Entry.len (s.msgEntry c p) + 2)
    (hfmt : 2 ≤ Entry.rfmt (s.msgEntry c p)) (hsec : msgSec p = true) (hsize : d + 4 ≤ dramBytes s.grade)
    (hstop : s.running = false) :
    s.actWriteRow c p = (.answer Code.done [], s.dramStore d (leBytes 4 (msgArg p 1).toNat)) := by
  subst hd
  have hvals : (List.range (msgArgs p - 1)).map (fun i => msgArg p (1 + i)) = [msgArg p 1] := by rw [hargs]; rfl
  have hwrite := dramWrite_of_stopped (s := s) (b := leBytes 4 (msgArg p 1).toNat) (r := msgRequester p) (sec := true)
    (by simpa using hsize) (.inl rfl) hstop
  unfold actWriteRow
  rw [harg]
  dsimp only
  rw [hvals, ho, List.length_singleton, if_neg (by omega), if_neg (by omega), if_neg (by simp [hsec]),
    if_neg (by simp [hstop]), List.map_singleton, List.flatten_singleton, hwrite]

end

/-- A store to part of a beat changes neither the fabric nor the stamp of an answer. -/
theorem stamp_dramStore_of_part {d : Nat} {b : List Byte} (hb : b ≠ []) (hfit : d % 64 + b.length ≤ 64)
    (hpart : b.length ≠ 64) : (s.dramStore d b).stamp = s.stamp := by
  have hregs : (s.dramStore d b).regs = (s.touchRange d b.length).regs := by
    have hwrite : (s.touchRange d b.length).only ((s.touchRange d b.length).writeBeat d b) [.mem, .poison] :=
      .branch (only_refl _ _).setBytes.poison (only_refl _ _).setBytes
    rw [dramStore_of_beat hb hfit]
    exact hwrite .regs (by decide)
  exact stamp_of_only (only_dramStore_of_part hb hfit hpart) (by decide)
    ((stepNo_congr hregs).trans (stepNo_touchRange s d b.length))

theorem num_dramStore_of_beat {d : Nat} {b : List Byte} (hb : b ≠ []) (hfit : d % 64 + b.length ≤ 64) :
    (s.dramStore d b).num (Base.dram + d) b.length = leNat b := by
  rw [num, (bytes_dramStore_of_beat hb hfit).1]

theorem mem_reply (s : State) (b : Nat) (x : Nat × Packet) (code : Nat) (data : List W32) :
    (s.reply b x code data).mem = s.mem := by
  have honly : s.only (s.reply b x code data) [.fabric, .step, .regs] := (only_refl s _).reply
  exact honly .mem (by decide)

theorem byte_congr (h : t.mem = s.mem) (a : Nat) : t.byte a = s.byte a := by
  rw [byte, byte, h]

theorem num_congr (h : t.mem = s.mem) {a n : Nat} : t.num a n = s.num a n := by
  simp only [num, bytes, byte, h]

/-! ### Region handlers (R226, R227, R252) -/

/-- A region answers a message: the answer is counted, and leaves from the region's node. -/
def replyRegion (s : State) (r : Nat) (p : Packet) (code : Nat) (data : List W32) : State :=
  (s.countAnswer r code).inject (128 + r) (136 + 128 + r) 12 ((s.countAnswer r code).answerPacket p code data)

theorem msgLate_takeUnit (s : State) (x : Nat × Packet) (unit : Nat) (p : Packet) :
    (s.takeUnit x unit).msgLate p = s.msgLate p := rfl

/-- A region replies to a secure message in time with what its handler answers. -/
theorem serveRegion_of_served {r h page code : Nat} {x : Nat × Packet} {data : List W32} (hmsg : s.regionMsg r = some x)
    (hruns : s.runs (3 + r) = true) (hhandler : msgHandler x.2 = h) (hsec : msgSec x.2 = true)
    (hlate : s.msgLate x.2 = false) {act : State → Packet → (Nat × List W32) × State}
    (hact : act (s.takeUnit x (128 + r)) x.2 = ((code, data), t)) :
    s.serveRegion r h page act = t.replyRegion r x.2 code data := by
  simp only [serveRegion, hmsg, hruns, hhandler, hsec, msgLate_takeUnit, hlate, hact, ne_eq, not_true_eq_false,
    Bool.true_eq_false, Bool.false_eq_true, or_self, false_and, if_false]
  rfl

section
variable {r code : Nat} {p : Packet} {data : List W32}

theorem only.replyRegion (h : s.only t l) (hf : Part.fabric ∈ l := by decide) (hs : Part.step ∈ l := by decide)
    (hr : Part.regs ∈ l := by decide) : s.only (t.replyRegion r p code data) l := by
  obtain ⟨off, -, -, heq⟩ := t.countAnswer_eq r code
  rw [State.replyRegion, heq]
  exact ((h.count hr).fabric hf).step hs

/-- The answer is one packet more on the links; the posted writes and the free list stand as they are. -/
theorem replyRegion_fabric (t : State) (r : Nat) (p : Packet) (code : Nat) (data : List W32) :
    ∃ f, (t.replyRegion r p code data).fabric = { t.fabric with links := t.fabric.links ++ [f] } ∧ f.router = 264 + r
      ∧ f.pkt = t.answerPacket p code data := by
  obtain ⟨off, hlow, -, heq⟩ := t.countAnswer_eq r code
  have hstamp : (t.count (Page.chn r) off 1).stamp = t.stamp :=
    stamp_congr (stepNo_setReg (region_ne_stp _ _) hlow) rfl rfl
  rw [replyRegion, heq, answerPacket_congr hstamp]
  exact ⟨_, rfl, rfl, rfl⟩

end

/-- A route write of a region waits for the summit. -/
def addRoutePost (s : State) (r : Nat) (q : RoutePost) : State :=
  { s with fabric := { s.fabric with posts := s.fabric.posts ++ [(r, q)] } }

/-- A region's message leaves its unit, and its write waits. -/
def postForUnit (s : State) (r : Nat) (x : Nat × Packet) (q : RoutePost) : State := (s.takeUnit x (128 + r)).addRoutePost r q

theorem routeFree_of_taken {r i : Nat} (h : r * 2 ^ 18 + i ∈ s.fabric.taken) : s.routeFree r i = false := by
  rw [routeFree, List.contains_iff_mem.mpr h, Bool.not_true, Bool.and_false, Bool.false_and]

section
variable {r : Fin 8} {x : Nat × Packet} (hmsg : s.regionMsg r = some x) (hruns : s.runs (3 + r) = true)
  (hsec : msgSec x.2 = true) (hlate : s.msgLate x.2 = false) (hrun : s.running = true) (hroom : s.routePosts r < 256)
include hmsg hruns hsec hlate hrun hroom

theorem exec_routeInsert_of_free {pick : Nat} (hhandler : msgHandler x.2 = 0x0A) (hfree : s.routeFree r pick = true)
    (hlow : s.lowestFree r ≠ none) : exec (.routeInsert r pick) s = .next (((s.postForUnit r x
      (.entry ((routeKey r pick).1 * 4096 + (routeKey r pick).2) (msgArg x.2 0) (msgArg x.2 1) (msgArg x.2 2))).takenRoute r
      pick).replyRegion r x.2 Code.done [BitVec.ofNat 32 pick]) := by
  obtain ⟨low, hlow⟩ := Option.ne_none_iff_exists'.mp hlow
  have hlow' : (s.takeUnit x (128 + r)).lowestFree r = some low := hlow
  have hfree' : (s.takeUnit x (128 + r)).routeFree r pick = true := hfree
  have hrun' : (s.takeUnit x (128 + r)).running = true := hrun
  refine congrArg Host.Outcome.next (serveRegion_of_served hmsg hruns hhandler hsec hlate ?_)
  simp only [hlow', hfree', postRoute_of_room (s := s.takeUnit x (128 + r)) hrun hroom, hrun', if_true]
  rfl

theorem exec_routeRelease_of_room (hhandler : msgHandler x.2 = 0x0B) : exec (.routeRelease r) s
    = .next ((s.postForUnit r x (.release r (fld (msgArg x.2 0) 17 0))).replyRegion r x.2 Code.done []) := by
  refine congrArg Host.Outcome.next (serveRegion_of_served hmsg hruns hhandler hsec hlate ?_)
  simp only [postRoute_of_room (s := s.takeUnit x (128 + r)) hrun hroom, if_true]
  rfl

theorem exec_gateSet_of_room (hhandler : msgHandler x.2 = 0x0C) : exec (.gateSet r) s
    = .next ((s.postForUnit r x (.gate ((gateKey r (fld (msgArg x.2 0) 11 0)).1 * 4096
      + (gateKey r (fld (msgArg x.2 0) 11 0)).2) (msgArg x.2 1))).replyRegion r x.2 Code.done []) := by
  refine congrArg Host.Outcome.next (serveRegion_of_served hmsg hruns hhandler hsec hlate ?_)
  simp only [postRoute_of_room (s := s.takeUnit x (128 + r)) hrun hroom, if_true]
  rfl

end

/-! ### PING and software handlers (R243, R252, R255, R256) -/

/-- An answer of a chip unit at a node leaves into the network of replies. -/
theorem sendNode_answerPacket (s u : State) (node : Nat) (p : Packet) (code : Nat) (data : List W32) :
    s.sendNode node (u.answerPacket p code data) = s.inject 136 (264 + node) 11 (u.answerPacket p code data) := by
  have hrouter : typeNet 4 * 136 + 128 + node = 264 + node := rfl
  rw [sendNode, ty_answerPacket, hrouter]

theorem only.sendNode (h : s.only t l) {node : Nat} {p : Packet} (hf : Part.fabric ∈ l := by decide)
    (hs : Part.step ∈ l := by decide) : s.only (t.sendNode node p) l :=
  (h.fabric hf).step hs

theorem only.takeUnit (h : s.only t l) {x : Nat × Packet} {unit : Nat} (hf : Part.fabric ∈ l := by decide)
    (hs : Part.step ∈ l := by decide) : s.only (t.takeUnit x unit) l :=
  (h.fabric hf).step hs

theorem unitIn_takeUnit {x : Nat × Packet} {rest : List (Nat × Packet)} (h : s.fabric.unitIn = x :: rest) (unit : Nat) :
    (s.takeUnit x unit).fabric.unitIn = rest := by
  simp [takeUnit, consumed, h, eraseFirst]

theorem only.engines (h : s.only t l) {x : Store Engine} (hl : Part.engines ∈ l := by decide) :
    s.only { t with engines := x } l :=
  h.change .engines (fun y hy => by cases y <;> simp_all [Part.same]) hl

theorem engine_setEngine_same (s : State) (e : Nat) (x : Engine) : (s.setEngine e x).engine e = x := by
  simp [engine, setEngine]

section
variable {node : Fin 8} {p : Packet} {rest : List (Nat × Packet)} (hunit : s.fabric.unitIn = (node.val, p) :: rest)
  (hmsg : p.ty = 3) (hclock : s.clocked = true) (hlate : s.msgLate p = false)
include hunit hmsg hclock hlate

theorem exec_ping_of_head (hhandler : msgHandler p = 0) : exec (.ping node) s
    = .next ((s.takeUnit (node.val, p) 136).sendNode node
      ((s.takeUnit (node.val, p) 136).answerPacket p Code.done [BitVec.ofNat 32 s.chipId, BitVec.ofNat 32 s.stepNo])) := by
  change execPing node s = _
  simp only [execPing, hunit, List.find?_cons, hmsg, hhandler, hclock, msgLate_takeUnit, hlate, beq_self_eq_true, Bool.true_or,
    Bool.and_self, Bool.true_eq_false, Bool.false_eq_true, ne_eq, not_true_eq_false, if_false]
  rfl

end

/-- A message joins the receive queue of a core (R255). -/
def receive (s : State) (c : Nat) (p : Packet) : State :=
  (if (s.engine c).rx.isEmpty then s.setInt (Page.engine c) 1 else s).setEngine c
    { s.engine c with rx := (s.engine c).rx ++ [p] }

theorem only.receive (h : s.only t l) {c : Nat} {p : Packet} (he : Part.engines ∈ l := by decide)
    (hr : Part.regs ∈ l := by decide) : s.only (t.receive c p) l :=
  only.engines (.branch (h.setInt hr) h) he

theorem stamp_receive {c : Nat} (hc : c < 16) (p : Packet) : (s.receive c p).stamp = s.stamp := by
  have hpage : Page.engine c ≠ Page.stp := by
    simp only [Page.engine, Page.stp]
    omega
  have honly : s.only (s.receive c p) [.engines, .regs] := (only_refl s _).receive
  refine stamp_of_only honly (by decide) ?_
  unfold receive
  split
  · exact stepNo_setReg hpage (by decide)
  · rfl

theorem softMsg_of_room {p : Packet} {c : Nat} (hcore : msgDest p % 16 = c) (hpresent : c < s.grade.crests)
    (hon : s.handlerOn c (msgHandler p) = true) (hsec : msgSec p = true) (hlate : s.msgLate p = false)
    (hroom : (s.engine c).rx.length < 256) : s.softMsg p = (Code.done, s.receive c p) := by
  have hrefused : ¬ (s.grade.crests ≤ c ∨ s.handlerOn c (msgHandler p) = false) := by simp [hpresent, hon]
  simp only [softMsg, hcore, if_neg hrefused, hsec, hlate, if_neg (Nat.not_le.mpr hroom), Bool.true_eq_false,
    Bool.false_eq_true, false_and, if_false]
  rfl

theorem exec_softwareHandler_of_head {p : Packet} {rest : List (Nat × Packet)} (hunit : s.fabric.unitIn = (4, p) :: rest)
    (hmsg : p.ty = 3) (hclock : s.clocked = true) (hhandler : 0x40 ≤ msgHandler p) {code : Nat}
    (hsoft : (s.takeUnit (4, p) 136).softMsg p = (code, t)) :
    exec .softwareHandler s = .next (t.sendNode 4 (t.answerPacket p code [])) := by
  change execSoftwareHandler s = _
  simp only [execSoftwareHandler, hunit, List.find?_cons, hmsg, hhandler, hclock, hsoft, beq_self_eq_true, decide_true,
    Bool.and_self, Bool.true_eq_false, if_false]

theorem exec_chnRxNext_of_takes {r : Requester} {engine : Fin 20} {v : W32}
    (htakes : s.takes r (Page.engine engine) Reg.CHN_RX_NEXT) (hbit : bit v 0 = true) (hcore : engine.val < 16) :
    exec (.chnRxNext r engine v) s
      = .next (s.setEngine engine { s.engine engine with rx := (s.engine engine).rx.drop 1 }) :=
  congrArg Host.Outcome.next ((ifAdmit_of_takes htakes _).trans (if_pos ⟨hbit, hcore⟩))

end State

/-- Settles O36: each handler takes its message and answers it once; what it does besides is a store, one post, or one
message in a receive queue. -/
theorem otherHandlersAnswer : Obligations.OtherHandlersAnswer := by
  intro s sent
  refine ⟨?rows, ?regions, fun node p rest hunit hmsg hclock hlate => ⟨fun hhandler => ?ping, ?soft⟩,
    fun r engine v htakes hbit hcore => ?next⟩
  case rows =>
    intro block x hnext hruns p c e off d honline hunfenced hsec hlate harg hplastic
    have hs : s.Serves block x := ⟨hnext, hruns, honline, hunfenced, .inl hsec, hlate⟩
    have hanswer : ∀ {t : State} {data}, t.fabric = s.fabric → t.stamp = s.stamp →
        sent (t.reply block x Code.done data) (136 + block.val) (s.answerPacket p Code.done data) := fun hfabric hstamp =>
      (State.answered_reply hfabric hstamp _ _ _ _).2
    refine ⟨?read, ?write, fun hh => ?apply⟩
    case read =>
      intro hh hoff n hsize hclean
      obtain ⟨honly, hstamp⟩ := State.only_dramRead_of_clean hsize hclean
      exact ⟨_, congrArg Host.Outcome.next (hs.serveBlock hh
          (State.actReadRow_of_clean harg hplastic rfl rfl rfl hoff hsec hsize hclean)),
        hanswer (honly .fabric (by decide)) hstamp, (honly.mono (by decide)).reply⟩
    case write =>
      intro hh hargs hoff hfmt hsize hfit hstop
      have hlen : (leBytes 4 (msgArg p 1).toNat).length = 4 := length_leBytes _ _
      have hb : leBytes 4 (msgArg p 1).toNat ≠ [] := List.ne_nil_of_length_pos (by omega)
      have hbeat : d % 64 + (leBytes 4 (msgArg p 1).toNat).length ≤ 64 := by omega
      have honly := State.only_dramStore_of_part (s := s) hb hbeat (by omega)
      have hnum := State.num_dramStore_of_beat (s := s) hb hbeat
      have hrest := (State.bytes_dramStore_of_beat (s := s) hb hbeat).2
      have hmem := State.mem_reply (s.dramStore d (leBytes 4 (msgArg p 1).toNat)) block x Code.done []
      rw [hlen] at hnum hrest
      refine ⟨_, congrArg Host.Outcome.next (hs.serveBlock hh
          (State.actWriteRow_of_stopped harg rfl rfl hargs hoff hfmt hsec hsize hstop)),
        hanswer (honly .fabric (by decide)) (State.stamp_dramStore_of_part hb hbeat (by omega)), ?_, ?_,
        (honly.mono (by decide)).reply⟩
      · rw [State.num_congr hmem, hnum, leNat_leBytes]
        exact Nat.mod_eq_of_lt (msgArg p 1).isLt
      · exact fun a ha => (State.byte_congr hmem a).trans (hrest a ha)
    case apply =>
      exact ⟨_, congrArg Host.Outcome.next (hs.serveBlock hh (State.actRowApply_of_static harg hplastic)), hanswer rfl rfl,
        (State.only_refl s _).reply⟩
  case regions =>
    intro region x hmsg hruns p hsec hlate hrun
    refine ⟨fun pick hhandler hfree hlow hroom => ?insert, fun hhandler hroom => ?release, fun hhandler hroom => ?gate⟩
    case insert =>
      let k := routeKey region pick
      let q := RoutePost.entry (k.1 * 4096 + k.2) (msgArg p 0) (msgArg p 1) (msgArg p 2)
      obtain ⟨f, hfabric, hrouter, hpkt⟩ :=
        ((s.postForUnit region x q).takenRoute region pick).replyRegion_fabric region p Code.done [BitVec.ofNat 32 pick]
      refine ⟨_, State.exec_routeInsert_of_free hmsg hruns hsec hlate hrun hroom hhandler hfree hlow,
        ⟨f, congrArg FabricState.links hfabric, hrouter, hpkt⟩, congrArg FabricState.posts hfabric,
        State.routeFree_of_taken ?_, (State.only_refl s _).takeUnit.fabric.fabric.replyRegion⟩
      rw [hfabric]
      exact mem_setIns_self _ _
    case release =>
      obtain ⟨f, hfabric, hrouter, hpkt⟩ :=
        (s.postForUnit region x (.release region (fld (msgArg p 0) 17 0))).replyRegion_fabric region p Code.done []
      exact ⟨_, State.exec_routeRelease_of_room hmsg hruns hsec hlate hrun hroom hhandler,
        ⟨f, congrArg FabricState.links hfabric, hrouter, hpkt⟩, congrArg FabricState.posts hfabric,
        (State.only_refl s _).takeUnit.fabric.replyRegion⟩
    case gate =>
      let k := gateKey region (fld (msgArg p 0) 11 0)
      obtain ⟨f, hfabric, hrouter, hpkt⟩ :=
        (s.postForUnit region x (.gate (k.1 * 4096 + k.2) (msgArg p 1))).replyRegion_fabric region p Code.done []
      exact ⟨_, State.exec_gateSet_of_room hmsg hruns hsec hlate hrun hroom hhandler,
        ⟨f, congrArg FabricState.links hfabric, hrouter, hpkt⟩, congrArg FabricState.posts hfabric,
        (State.only_refl s _).takeUnit.fabric.replyRegion⟩
  case ping =>
    refine ⟨_, State.exec_ping_of_head hunit hmsg hclock hlate hhandler, ?_⟩
    rw [State.sendNode_answerPacket]
    exact ⟨⟨_, rfl, rfl, rfl⟩, State.unitIn_takeUnit hunit 136, (State.only_refl s _).takeUnit.fabric.step⟩
  case soft =>
    intro hnode hhandler c hcore hon hsec hroom
    rw [hnode] at hunit
    have hsoft := State.softMsg_of_room (s := s.takeUnit (4, p) 136) rfl hcore hon hsec hlate hroom
    have honly : (s.takeUnit (4, p) 136).only ((s.takeUnit (4, p) 136).receive c p) [.engines, .regs] :=
      (State.only_refl _ _).receive
    have hlinks := congrArg FabricState.links (honly .fabric (by decide))
    refine ⟨_, State.exec_softwareHandler_of_head hunit hmsg hclock hhandler hsoft, ?_⟩
    rw [State.sendNode_answerPacket, State.answerPacket_congr (State.stamp_receive (Nat.mod_lt _ (by decide)) p)]
    exact ⟨⟨_, congrArg (· ++ [_]) hlinks, rfl, rfl⟩, congrArg Engine.rx (State.engine_setEngine_same _ _ _),
      (State.only_refl s _).takeUnit.receive.fabric.step⟩
  case next =>
    have hengine := s.engine_setEngine_same engine { s.engine engine with rx := (s.engine engine).rx.drop 1 }
    refine ⟨_, State.exec_chnRxNext_of_takes htakes hbit hcore, ?_, ?_, ?_, (State.only_refl s _).engines⟩
    all_goals rw [hengine]

end Sys2Proof.Machine
end

section
/-! # Accesses of the ports of a Tarn bank -/
namespace Sys2Proof.Machine
open Sys2Proof

namespace State

variable {s t : State} {b owner o n : Nat} {r : Requester} {op : TarnOp} {l : List Part}

theorem only.tarn (h : s.only t l) {x : TarnState} (hl : Part.tarn ∈ l := by decide) : s.only { t with tarn := x } l :=
  h.change .tarn (fun y hy => by cases y <;> simp_all [Part.same]) hl

/-! ### Stores in a bank (R177, R178) -/

theorem bytes_congr (h : t.mem = s.mem) (a n : Nat) : t.bytes a n = s.bytes a n := by
  simp only [bytes, byte_congr h]

/-- What a change touches of memory is all that counts for the bytes it leaves. -/
theorem bytesBut_congr {s' t' : State} {a : Nat} (hs : s'.mem = s.mem) (ht : t'.mem = t.mem) (h : s.bytesBut t a n) :
    s'.bytesBut t' a n := fun x hx => (byte_congr ht x).trans ((h x hx).trans (byte_congr hs x).symm)

theorem only.sramStore (h : s.only t l) {a : Nat} {d : List Byte} (hm : Part.mem ∈ l := by decide)
    (hp : Part.poison ∈ l := by decide) : s.only (t.sramStore a d) l :=
  (h.setBytes hm).foldl fun _ hu => .branch (hu.poison hp) hu

theorem bytes_sramStore (s : State) (a : Nat) (d : List Byte) :
    (s.sramStore a d).bytes a d.length = d ∧ s.bytesBut (s.sramStore a d) a d.length := by
  refine ⟨Eq.trans ?_ (bytes_setBytes s a d), fun x hx => ?_⟩
  · simp only [bytes, byte_sramStore]
  · rw [byte_sramStore, byte_setBytes_other d s a x hx]

theorem word_setNumAt (s : State) (a : Nat) (v : W32) : (s.setNumAt a 4 v.toNat).word a = v := by
  have hnum := num_setBytes s a (leBytes 4 v.toNat)
  rw [length_leBytes, leNat_leBytes] at hnum
  rw [word, setNumAt, hnum]
  exact BitVec.eq_of_toNat_eq (by simp [v.isLt])

theorem bytesBut_setNumAt (s : State) (a n x : Nat) : s.bytesBut (s.setNumAt a n x) a n := fun y hy =>
  byte_setBytes_other _ s a y (by rwa [length_leBytes])

/-! ### One access at the bank -/

theorem tarnDo_load (hfit : o + n ≤ 0x80000) (hn : n ≤ 64) : s.tarnDo b (.load o n)
    = ((s.num (bankAddr b + o) n, !(s.poisonWords (bankAddr b + o) n).isEmpty), s) :=
  if_neg (by simp [hfit, hn])

theorem tarnDo_store {d : List Byte} (hfit : o + d.length ≤ 0x80000) (hd : d.length ≤ 64) :
    s.tarnDo b (.store o d) = ((0, false), s.sramStore (bankAddr b + o) d) :=
  if_neg (by simp [hfit, hd])

/-- A refusal counts and sets the bank's error bit (R183). -/
theorem tarnRefuse_parts (s : State) (b : Nat) : s.counted (s.tarnRefuse b).2 (Page.bank b) Reg.TAR_REFUSED 1
    ∧ bit ((s.tarnRefuse b).2.reg (Page.bank b) Reg.PG_ERR) 0 = true ∧ s.only (s.tarnRefuse b).2 [.regs] := by
  refine ⟨?_, bit_setErr (by decide), only_tarnRefuse (only_refl s _) (by decide) b⟩
  have hkept : (s.tarnRefuse b).2.reg (Page.bank b) Reg.TAR_REFUSED
      = (s.countInt (Page.bank b) Reg.TAR_REFUSED 1 1).reg (Page.bank b) Reg.TAR_REFUSED := reg_setReg_off (by decide)
  rw [counted, hkept, reg_countInt_same (by decide)]

/-- An aligned atomic on a clean word returns the old word, writes its result and counts a saturation (R184). -/
theorem tarnAtomic_of_clean {x : W32} (a : AtomicOp) (halign : o % 4 = 0) (hfit : o + 4 ≤ 0x80000)
    (hclean : s.poisonWords (bankAddr b + o) 4 = []) : s.tarnAtomic b a o x
      = let old := s.word (bankAddr b + o)
        let t := s.setNumAt (bankAddr b + o) 4 (atomicResult a old x).1.toNat
        ((old.toNat, false), if (atomicResult a old x).2 then t.count (Page.bank b) Reg.TAR_ATOM_SAT 1 else t) := by
  have hgood : ¬ (o % 4 ≠ 0 ∨ bankBytes < o + 4) := by simp [halign, hfit]
  simp only [tarnAtomic, if_neg hgood, hclean, List.isEmpty_nil, if_true]

/-! ### Accesses leave the ports of the bank open -/

/-- The registers of a bank's page that an access of a port may change (R181, R183, R184, R196). -/
def portRegs : List Nat := [Reg.TAR_CONFLICTS, Reg.TAR_REFUSED, Reg.TAR_ATOM_SAT, Reg.PG_INT, Reg.PG_ERR]

/-- What the accesses of a bank's ports may change at all: neither ownership nor power nor the accesses that wait. -/
structure OnlyAccessed (s : State) (b : Nat) (t : State) : Prop where
  banks : t.tarn.banks = s.tarn.banks
  held : t.tarn.held = s.tarn.held
  regs : s.regsBut t (portRegs.map (Page.bank b, ·))
  parts : s.only t [.mem, .poison, .read, .regs, .tarn]

/-- The bank takes the owner's accesses now, and holds none of them (R183, R186, R192). -/
structure ServesOwner (s : State) (b owner : Nat) (r : Requester) : Prop where
  owned : owner ≠ 0
  free : s.tarnHolds b owner = false
  taken : s.tarnTakes b owner r = true

namespace OnlyAccessed

variable (h : s.OnlyAccessed b t)

theorem refl (s : State) (b : Nat) : s.OnlyAccessed b s := ⟨rfl, rfl, regsBut_refl s _, only_refl s _⟩

include h

theorem trans {u : State} (hu : t.OnlyAccessed b u) : s.OnlyAccessed b u where
  banks := hu.banks.trans h.banks
  held := hu.held.trans h.held
  regs := fun p off ho hn => (hu.regs p off ho hn).trans (h.regs p off ho hn)
  parts := h.parts.trans hu.parts

theorem setReg {off : Nat} {v : W32} (hl : off ∈ portRegs := by decide) (ho : off < 4096 := by decide) :
    s.OnlyAccessed b (t.setReg (Page.bank b) off v) :=
  ⟨h.banks, h.held, regsBut_setReg h.regs ho (List.mem_map_of_mem hl) v, h.parts.setReg⟩

theorem reg_eq (p off : Nat) (hl : off ∉ portRegs := by decide) (ho : off < 4096 := by decide) :
    t.reg p off = s.reg p off :=
  h.regs p off ho (by simp [hl])

theorem bank_eq : t.bank b = s.bank b := by rw [State.bank, h.banks, State.bank]

theorem isSecure_eq : t.isSecure r = s.isSecure r := by
  simp only [isSecure, debugLevel, regFld, h.reg_eq _ Reg.CRS_SEC, h.reg_eq _ Reg.DBG_STAT]

theorem owner_eq : t.owner b = s.owner b := by simp only [State.owner, regFld, h.reg_eq _ Reg.TAR_OWNER_ACK]

theorem tarnHolds_eq : t.tarnHolds b owner = s.tarnHolds b owner := by
  simp only [tarnHolds, handover, newOwner, regFld, h.bank_eq, h.owner_eq, h.reg_eq _ Reg.TAR_STAT, h.reg_eq _ Reg.TAR_OWNER]

theorem tarnTakes_eq : t.tarnTakes b owner r = s.tarnTakes b owner r := by
  simp only [tarnTakes, bankSecure, h.bank_eq, h.owner_eq, h.isSecure_eq, h.reg_eq _ Reg.PG_SEC]

theorem servesOwner (hs : s.ServesOwner b owner r) : t.ServesOwner b owner r :=
  ⟨hs.owned, h.tarnHolds_eq.trans hs.free, h.tarnTakes_eq.trans hs.taken⟩

end OnlyAccessed

/-- A change of memory alone leaves the ports open. -/
theorem onlyAccessed_of_only (h : s.only t [.mem, .poison]) : s.OnlyAccessed b t := by
  have htarn : t.tarn = s.tarn := h .tarn (by decide)
  have hregs : t.regs = s.regs := h .regs (by decide)
  exact ⟨by rw [htarn], by rw [htarn], fun p off _ _ => by rw [reg, reg, hregs], h.mono (by decide)⟩

theorem onlyAccessed_tarnRefuse (s : State) (b : Nat) : s.OnlyAccessed b (s.tarnRefuse b).2 :=
  (OnlyAccessed.refl s b).setReg.setReg.setReg

theorem onlyAccessed_tarnAtomic (s : State) (b o : Nat) (a : AtomicOp) (x : W32) :
    s.OnlyAccessed b (s.tarnAtomic b a o x).2 := by
  have hstore : ∀ a n x, s.OnlyAccessed b (s.setNumAt a n x) := fun _ _ _ => onlyAccessed_of_only (only_refl s _).setBytes
  unfold tarnAtomic
  dsimp only
  split_ifs
  · exact (OnlyAccessed.refl s b).setReg
  · exact (hstore _ _ _).setReg
  · exact hstore _ _ _
  · exact .refl s b

theorem onlyAccessed_tarnDo (s : State) (b : Nat) (op : TarnOp) : s.OnlyAccessed b (s.tarnDo b op).2 := by
  cases op with
  | load o n =>
    unfold tarnDo
    dsimp only
    split
    · exact s.onlyAccessed_tarnRefuse b
    · exact .refl s b
  | store o d =>
    unfold tarnDo
    dsimp only
    split
    · exact s.onlyAccessed_tarnRefuse b
    · exact onlyAccessed_of_only (only_refl s _).sramStore
  | atomic a o x => exact s.onlyAccessed_tarnAtomic b o a x

/-! ### The ports of a cycle (R181, R182) -/

/-- What a port's access returned, kept beside the answer of the command. -/
def portAnswer (s : State) (a : Nat × Bool) : State :=
  ({ s with tarn := { s.tarn with results := s.tarn.results ++ [a] } } : State).answer a.1 a.2

/-- A cycle begins with no answers. -/
def noResults (s : State) : State := { s with tarn := { s.tarn with results := [] } }

/-- The cycles in which its ports stall each other are counted (R181). -/
def portCycle (s : State) (b n : Nat) : State := s.noResults.count (Page.bank b) Reg.TAR_CONFLICTS n

/-- A port's access takes effect at the bank, and its answer is kept. -/
def portServed (s : State) (b : Nat) (op : TarnOp) : State := (s.tarnDo b op).2.portAnswer (s.tarnDo b op).1

@[simp] theorem mem_portAnswer (a : Nat × Bool) : (s.portAnswer a).mem = s.mem := rfl
@[simp] theorem mem_noResults : s.noResults.mem = s.mem := rfl
@[simp] theorem mem_portCycle : (s.portCycle b n).mem = s.mem := rfl
@[simp] theorem reg_noResults (p off : Nat) : s.noResults.reg p off = s.reg p off := rfl
@[simp] theorem reg_portAnswer (a : Nat × Bool) (p off : Nat) : (s.portAnswer a).reg p off = s.reg p off := rfl

theorem only.portAnswer (h : s.only t l) {a : Nat × Bool} (hr : Part.read ∈ l := by decide)
    (ht : Part.tarn ∈ l := by decide) : s.only (t.portAnswer a) l :=
  only_answer (only.tarn h ht) hr _ _

theorem OnlyAccessed.portAnswer (h : s.OnlyAccessed b t) (a : Nat × Bool) : s.OnlyAccessed b (t.portAnswer a) :=
  ⟨h.banks, h.held, h.regs, h.parts.portAnswer⟩

theorem OnlyAccessed.portServed (h : s.OnlyAccessed b t) (op : TarnOp) : s.OnlyAccessed b (t.portServed b op) :=
  (h.trans (t.onlyAccessed_tarnDo b op)).portAnswer _

theorem onlyAccessed_noResults (s : State) (b : Nat) : s.OnlyAccessed b s.noResults :=
  ⟨rfl, rfl, regsBut_refl s _, (only_refl s _).tarn⟩

theorem onlyAccessed_portCycle (s : State) (b n : Nat) : s.OnlyAccessed b (s.portCycle b n) :=
  (s.onlyAccessed_noResults b).setReg

namespace ServesOwner

variable (h : s.ServesOwner b owner r)
include h

theorem tarnPort_eq : s.tarnPort b owner r op = s.portServed b op := by
  rw [tarnPort, if_neg (by simp [h.free]), if_pos ⟨h.owned, h.taken⟩]
  rfl

/-- Every access of a cycle is served, for none of them closes the ports. -/
theorem foldl_tarnPort (ops : List TarnOp) :
    ops.foldl (fun s op => s.tarnPort b owner r op) s = ops.foldl (fun s op => s.portServed b op) s := by
  induction ops generalizing s with
  | nil => rfl
  | cons op ops ih =>
    rw [List.foldl_cons, List.foldl_cons, h.tarnPort_eq]
    exact ih (((OnlyAccessed.refl s b).portServed op).servesOwner h)

end ServesOwner

theorem exec_tarnAccess_of_servesOwner {bank : Fin 128} {atomic dma loadStore : Option TarnOp}
    (hruns : s.runs (3 + bank / 16) = true) (h : s.ServesOwner bank owner r) :
    exec (.tarnAccess bank owner r atomic dma loadStore) s = .next (
      let ops := (atomic.toList ++ dma.toList) ++ loadStore.toList
      ops.foldl (fun s op => s.portServed bank op) (s.portCycle bank (ops.length * (ops.length - 1) / 2))) := by
  have hcleared := (s.onlyAccessed_noResults bank).servesOwner h
  change execTarnAccess bank owner r atomic dma loadStore s = _
  rw [execTarnAccess, if_pos hruns]
  dsimp only
  rw [if_pos ⟨hcleared.owned, hcleared.taken⟩]
  exact congrArg Host.Outcome.next (((s.onlyAccessed_portCycle bank _).servesOwner h).foldl_tarnPort _)

/-- One access of the load/store port meets no other. -/
theorem exec_loadStore_of_servesOwner {bank : Fin 128} (hruns : s.runs (3 + bank / 16) = true)
    (h : s.ServesOwner bank owner r) :
    exec (.tarnAccess bank owner r none none (some op)) s = .next ((s.portCycle bank 0).portServed bank op) := by
  simpa using exec_tarnAccess_of_servesOwner (atomic := none) (dma := none) (loadStore := some op) hruns h

/-- An access of the load/store port waits one cycle for one of the DMA engine. -/
theorem exec_dma_loadStore_of_servesOwner {bank : Fin 128} {first : TarnOp} (hruns : s.runs (3 + bank / 16) = true)
    (h : s.ServesOwner bank owner r) : exec (.tarnAccess bank owner r none (some first) (some op)) s
      = .next (((s.portCycle bank 1).portServed bank first).portServed bank op) := by
  simpa using exec_tarnAccess_of_servesOwner (atomic := none) (dma := some first) (loadStore := some op) hruns h

theorem portServed_store {d : List Byte} (hfit : o + d.length ≤ 0x80000) (hd : d.length ≤ 64) :
    (s.portServed b (.store o d)).bytes (bankAddr b + o) d.length = d
      ∧ s.bytesBut (s.portServed b (.store o d)) (bankAddr b + o) d.length
      ∧ ∀ p off, (s.portServed b (.store o d)).reg p off = s.reg p off := by
  have hmem : (s.portServed b (.store o d)).mem = (s.sramStore (bankAddr b + o) d).mem := by
    rw [portServed, tarnDo_store hfit hd, mem_portAnswer]
  have hstore : s.only (s.sramStore (bankAddr b + o) d) [.mem, .poison] := (only_refl s _).sramStore
  have hregs : (s.sramStore (bankAddr b + o) d).regs = s.regs := hstore .regs (by decide)
  obtain ⟨hbytes, hbut⟩ := s.bytes_sramStore (bankAddr b + o) d
  refine ⟨(bytes_congr hmem _ _).trans hbytes, fun x hx => (byte_congr hmem x).trans (hbut x hx), fun p off => ?_⟩
  rw [portServed, tarnDo_store hfit hd, reg_portAnswer, reg, hregs, reg]

theorem portServed_load (hfit : o + n ≤ 0x80000) (hn : n ≤ 64) : s.portServed b (.load o n)
    = s.portAnswer (s.num (bankAddr b + o) n, !(s.poisonWords (bankAddr b + o) n).isEmpty) := by
  rw [portServed, tarnDo_load hfit hn]

/-! ### Atomics (R184) -/

theorem tarnOne_of_servesOwner {bank : Fin 128} (hruns : s.runs (3 + bank / 16) = true)
    (h : s.ServesOwner bank owner r) : s.tarnOne bank owner r op = s.noResults.portServed bank op := by
  rw [tarnOne, if_pos hruns]
  exact ((s.onlyAccessed_noResults bank).servesOwner h).tarnPort_eq

theorem portServed_atomic {x : W32} (a : AtomicOp) (halign : o % 4 = 0) (hfit : o + 4 ≤ 0x80000)
    (hclean : s.poisonWords (bankAddr b + o) 4 = []) :
    let t := s.portServed b (.atomic a o x)
    let old := s.word (bankAddr b + o)
    t.rdata = old.toNat ∧ t.rpoison = false ∧ s.bytesBut t (bankAddr b + o) 4
      ∧ t.word (bankAddr b + o) = (atomicResult a old x).1
      ∧ ((atomicResult a old x).2 = true → s.counted t (Page.bank b) Reg.TAR_ATOM_SAT 1) := by
  intro t old
  let u := s.setNumAt (bankAddr b + o) 4 (atomicResult a old x).1.toNat
  have hregs : u.regs = s.regs := ((only_refl s [.mem]).setBytes) .regs (by decide)
  have ht : t = (if (atomicResult a old x).2 then u.count (Page.bank b) Reg.TAR_ATOM_SAT 1 else u).portAnswer
      (old.toNat, false) := by
    change (s.tarnAtomic b a o x).2.portAnswer (s.tarnAtomic b a o x).1 = _
    rw [tarnAtomic_of_clean a halign hfit hclean]
  have hmem : t.mem = u.mem := by
    rw [ht, mem_portAnswer]
    split <;> rfl
  refine ⟨by rw [ht]; rfl, by rw [ht]; rfl, fun y hy => ?_, ?_, fun hsat => ?_⟩
  · rw [byte_congr hmem]
    exact s.bytesBut_setNumAt _ 4 _ y hy
  · rw [word, num_congr hmem]
    exact s.word_setNumAt _ _
  · rw [ht, if_pos hsat, counted, reg_portAnswer, count_reg, reg, hregs, reg]

/-- An atomic of another is refused, for the side port takes none (R183, R189). -/
theorem tarnOne_of_stranger {bank : Fin 128} {a : AtomicOp} {x : W32} (hruns : s.runs (3 + bank / 16) = true)
    (hopen : s.tarnHolds bank owner = false) (hother : owner ≠ s.owner bank) :
    s.tarnOne bank owner r (.atomic a o x) = (s.noResults.tarnRefuse bank).2.portAnswer (0, true) := by
  have hcleared := s.onlyAccessed_noResults bank
  have hholds : s.noResults.tarnHolds bank owner = false := hcleared.tarnHolds_eq.trans hopen
  have htakes : s.noResults.tarnTakes bank owner r = false := by
    simp [tarnTakes, hcleared.owner_eq, hother]
  have hside : s.noResults.sideAdmits bank r (.atomic a o x) = false := by simp [sideAdmits]
  rw [tarnOne, if_pos hruns]
  change s.noResults.tarnPort bank owner r (.atomic a o x) = _
  rw [tarnPort, if_neg (by simp [hholds]), if_neg (by simp [htakes]), tarnSide, hside]
  rfl

end State

/-- The result of ADD_S32 is the sum limited to 32 bits, and saturation is what limits it (R103, R184). -/
theorem atomicResult_addS32 (old x : W32) :
    let sum := toSigned 32 old.toNat + toSigned 32 x.toNat
    toSigned 32 (atomicResult .addS32 old x).1.toNat = limit32 sum
      ∧ (sum < -2 ^ 31 ∨ 2 ^ 31 - 1 < sum → (atomicResult .addS32 old x).2 = true) := by
  intro sum
  have hcast : ((2 ^ (32 - 1) : Nat) : Int) = 2 ^ 31 := rfl
  refine ⟨?_, fun hout => ?_⟩
  · have hcode : (BitVec.ofNat 32 (satInt 32 sum).code).toNat = ofSigned 32 (limit32 sum) := by
      rw [code_satInt32, BitVec.toNat_ofNat, Nat.mod_eq_of_lt (ofSigned_lt 32 _)]
    exact (congrArg (toSigned 32) hcode).trans (toSigned_ofSigned32 (limit32_bounds sum))
  · change (satInt 32 sum).sat = true
    simp only [satInt, hcast]
    split_ifs with hhigh hlow
    · rfl
    · rfl
    · omega

/-- Settles O31: the ports of a bank that takes its accesses stay open through a cycle, so each access is served on the state
that the one before it left; an atomic of another meets the refusal of the side port. -/
theorem tarnAccessesByTheOwner : Obligations.TarnAccessesByTheOwner := by
  intro s bank owner req hruns howner hopen base frame
  have hframe : ∀ {t}, s.OnlyAccessed bank t → frame t := fun h => ⟨h.banks, h.held, h.parts⟩
  refine ⟨fun htaken => ⟨fun o d hfit hd => ⟨?store, ?load, ?both⟩, fun o x halign hfit hclean => ?atomics⟩,
    fun hother o x => ?refused⟩
  case store =>
    obtain ⟨hbytes, hbut, -⟩ := State.portServed_store (s := s.portCycle bank 0) (b := bank) hfit hd
    exact ⟨_, State.exec_loadStore_of_servesOwner hruns ⟨howner, hopen, htaken⟩, hbytes,
      State.bytesBut_congr State.mem_portCycle.symm rfl hbut,
      hframe ((s.onlyAccessed_portCycle bank 0).portServed _)⟩
  case load =>
    have hexec := State.exec_loadStore_of_servesOwner (op := .load o d.length) hruns ⟨howner, hopen, htaken⟩
    rw [State.portServed_load hfit hd] at hexec
    exact ⟨_, hexec, rfl, rfl, rfl, hframe ((s.onlyAccessed_portCycle bank 0).portAnswer _)⟩
  case both =>
    let u := (s.portCycle bank 1).portServed bank (.store o d)
    have hacc : s.OnlyAccessed bank u := (s.onlyAccessed_portCycle bank 1).portServed _
    have hexec := State.exec_dma_loadStore_of_servesOwner (first := .store o d) (op := .load o d.length) hruns
      ⟨howner, hopen, htaken⟩
    obtain ⟨hbytes, hbut, hregs⟩ := State.portServed_store (s := s.portCycle bank 1) (b := bank) hfit hd
    rw [State.portServed_load hfit hd] at hexec
    refine ⟨_, hexec, congrArg leNat hbytes,
      State.bytesBut_congr State.mem_portCycle.symm (State.mem_portAnswer _) hbut, ?_, hframe (hacc.portAnswer _)⟩
    rw [State.reg_portAnswer, hregs, State.portCycle, State.count_reg, State.reg_noResults]
  case atomics =>
    intro old done sum
    have hone := fun a => State.tarnOne_of_servesOwner (op := .atomic a o x) hruns ⟨howner, hopen, htaken⟩
    have hparts := fun a => State.portServed_atomic (s := s.noResults) (b := bank) (x := x) a halign hfit hclean
    have hdone : ∀ a, done (s.noResults.portServed bank (.atomic a o x)) := fun a => by
      obtain ⟨hread, hgood, hbut, -, -⟩ := hparts a
      exact ⟨hread, hgood, State.bytesBut_congr State.mem_noResults.symm rfl hbut, hframe ((s.onlyAccessed_noResults bank).portServed _)⟩
    obtain ⟨-, -, -, hadd, hsat⟩ := hparts .addS32
    obtain ⟨-, -, -, hfp, -⟩ := hparts .addFP32
    obtain ⟨-, -, -, hswap, -⟩ := hparts .swap
    obtain ⟨hsum, hlimits⟩ := atomicResult_addS32 old x
    refine ⟨⟨_, congrArg Host.Outcome.next (hone .addS32), hdone .addS32, ?_, fun hout => hsat (hlimits hout)⟩,
      ⟨_, congrArg Host.Outcome.next (hone .addFP32), hdone .addFP32, ?_⟩,
      _, congrArg Host.Outcome.next (hone .swap), hdone .swap, hswap⟩
    · exact (congrArg (fun w : W32 => toSigned 32 w.toNat) hadd).trans hsum
    · exact (congrArg BitVec.toNat hfp).trans (BitVec.toNat_ofNat _ _)
  case refused =>
    intro refused
    have hone := fun a => State.tarnOne_of_stranger (r := req) (a := a) (x := x) (o := o) hruns hopen hother
    obtain ⟨hcount, herr, honly⟩ := s.noResults.tarnRefuse_parts bank
    have hcleared : s.only s.noResults [.read, .regs, .tarn] := (State.only_refl s _).tarn
    have hrefused : refused ((s.noResults.tarnRefuse bank).2.portAnswer (0, true)) :=
      ⟨rfl, rfl, herr, hcount, (hcleared.trans honly).portAnswer⟩
    exact ⟨⟨_, congrArg Host.Outcome.next (hone .addS32), hrefused⟩, _, congrArg Host.Outcome.next (hone .swap), hrefused⟩

end Sys2Proof.Machine
end

section
/-! # The side port of a Tarn bank, its handover and its power states -/
namespace Sys2Proof.Machine
open Sys2Proof

/-- A filter on keys drops what is held at the other keys. -/
theorem Store.get_filter_key {α : Type} (d : Nat → α) (f : Nat → Bool) (m : Store α) (k : Nat) :
    Store.get d (m.filter fun p => f p.1) k = if f k = true then Store.get d m k else d k := by
  induction m with
  | nil => simp [Store.get]
  | cons x m ih =>
    obtain ⟨a, v⟩ := x
    by_cases hf : f a = true
    · by_cases hk : a = k
      · simp [Store.get, hk, hk ▸ hf]
      · simp [Store.get, hf, hk, ih]
    · by_cases hk : a = k
      · simp [hf, ih, hk ▸ hf]
      · simp [Store.get, hf, hk, ih]

theorem bit_withFld_same (v : W32) {i : Nat} (hi : i < 32) (x : Nat) : bit (withFld v i i x) i = decide (x % 2 = 1) := by
  have hbit := testBit_fld (withFld v i i x) i i 0
  rw [fld_withFld_same v hi] at hbit
  simpa [bit, Nat.testBit_zero] using hbit.symm

theorem fld_and_ones (v m : W32) {hi : Nat} (hm : ∀ i, i < hi + 1 → m.getLsbD i = true) :
    fld (v &&& m) hi 0 = fld v hi 0 := by
  refine Nat.eq_of_testBit_eq fun i => ?_
  rw [testBit_fld, testBit_fld]
  by_cases hlt : i < hi + 1
  · simp only [Nat.zero_add, BitVec.getLsbD_and, hm i hlt, Bool.and_true]
  · simp [hlt]

theorem le_64_of_sideAligned {o n : Nat} (h : sideAligned o n = true) : n ≤ 64 := by
  simp only [sideAligned, Bool.and_eq_true, List.contains_iff_mem, List.mem_cons, List.not_mem_nil, or_false] at h
  omega

namespace State

variable {s t : State} {b o : Nat} {r : Requester} {op : TarnOp} {l : List Part}

/-! ### The state of a bank -/

@[simp] theorem bank_setBank_same (s : State) (b : Nat) (x : BankState) : (s.setBank b x).bank b = x := by
  simp [bank, setBank]

@[simp] theorem bank_setReg (s : State) (p off : Nat) (v : W32) (b : Nat) : (s.setReg p off v).bank b = s.bank b := rfl
@[simp] theorem reg_setBank (s : State) (b : Nat) (x : BankState) (p off : Nat) :
    (s.setBank b x).reg p off = s.reg p off := rfl

theorem only.setBank (h : s.only t l) {x : BankState} (hl : Part.tarn ∈ l := by decide) : s.only (t.setBank b x) l :=
  only.tarn h hl

theorem only.showBank (h : s.only t l) (hl : Part.regs ∈ l := by decide) : s.only (t.showBank b) l := h.setFld hl

/-! ### The side port (R189, R190) -/

theorem exec_sidePortAccess_of_wait {bank : Fin 128} {waited : Nat} (hwait : waited < 64) :
    exec (.sidePortAccess bank r op waited true) s = .next s := by
  change execSidePortAccess bank r op waited true s = _
  simp [execSidePortAccess, Nat.not_le.mpr hwait]

theorem exec_sidePortAccess_of_turn {bank : Fin 128} {waited : Nat} {busy : Bool}
    (hruns : s.runs (3 + bank / 16) = true) (hturn : busy = false ∨ 64 ≤ waited) :
    exec (.sidePortAccess bank r op waited busy) s
      = .next ((s.tarnSide bank r op).2.answer (s.tarnSide bank r op).1.1 (s.tarnSide bank r op).1.2) := by
  change execSidePortAccess bank r op waited busy s = _
  rw [execSidePortAccess, if_pos (by simpa [hruns] using hturn)]

theorem tarnSide_of_barred (h : s.sideAdmits b r op = false) : s.tarnSide b r op = s.tarnRefuse b := by simp [tarnSide, h]

theorem tarnSide_of_admitted (h : s.sideAdmits b r op = true) : s.tarnSide b r op = s.tarnDo b op := by simp [tarnSide, h]

theorem tarnSide_load {n : Nat} (h : s.sideAdmits b r (.load o n) = true) (hfit : o + n ≤ 0x80000) :
    s.tarnSide b r (.load o n) = ((s.num (bankAddr b + o) n, !(s.poisonWords (bankAddr b + o) n).isEmpty), s) := by
  have haligned : sideAligned o n = true := by
    simp only [sideAdmits, Bool.and_eq_true] at h
    exact h.2
  rw [tarnSide_of_admitted h, tarnDo_load hfit (le_64_of_sideAligned haligned)]

theorem tarnSide_store {d : List Byte} (h : s.sideAdmits b r (.store o d) = true) (hfit : o + d.length ≤ 0x80000) :
    s.tarnSide b r (.store o d) = ((0, false), s.sramStore (bankAddr b + o) d) := by
  have haligned : sideAligned o d.length = true := by
    simp only [sideAdmits, Bool.and_eq_true] at h
    exact h.2.2
  rw [tarnSide_of_admitted h, tarnDo_store hfit (le_64_of_sideAligned haligned)]

/-! ### Handover (R186, R187) -/

theorem serveHeld_of_empty (h : s.tarn.held = []) (b : Nat) : s.serveHeld b = s := by
  simp only [serveHeld, h, List.filter_nil, List.foldl_nil]
  rw [← h]

/-- Step 4 of R186 at the bank itself. -/
def acked (s : State) (b : Nat) : State :=
  (((s.setReg (Page.bank b) Reg.TAR_OWNER_ACK (BitVec.ofNat 32 (s.newOwner b))).setFld (Page.bank b) Reg.TAR_STAT 16 16
    0).setBank b { s.bank b with draining := false, atSummit := false }).setInt (Page.bank b) 0

theorem ackOwner_of_empty (h : s.tarn.held = []) (b : Nat) : s.ackOwner b = s.acked b :=
  serveHeld_of_empty (s := s.acked b) h b

/-- The new owner is in force, and the handover is over. -/
theorem acked_parts (s : State) (b : Nat) : (s.acked b).owner b = s.newOwner b
    ∧ (s.acked b).handover b = false ∧ bit ((s.acked b).reg (Page.bank b) Reg.PG_INT) 0 = true
    ∧ ((s.acked b).bank b).clearing = (s.bank b).clearing ∧ s.only (s.acked b) [.regs, .tarn] := by
  have hcode : fld (BitVec.ofNat 32 (s.newOwner b)) 3 0 = s.newOwner b := by
    have hlt : s.newOwner b < 16 := fld_lt _ 3 0
    simp only [fld, bitsOf, BitVec.toNat_ofNat, Nat.shiftRight_zero]
    omega
  unfold acked
  refine ⟨?_, ?_, bit_setInt (by decide), ?_, (only_refl s _).setReg.setFld.setBank.setInt⟩
  · rw [owner, setInt, orReg, regFld_setReg_off (by decide), regFld, reg_setBank, setFld, reg_setReg_off (by decide),
      reg_setReg_same, hcode]
  · rw [handover, setInt, orReg, reg_setReg_off (by decide), reg_setBank, setFld, reg_setReg_same,
      bit_withFld_same _ (by decide)]
    rfl
  · rw [setInt, orReg, bank_setReg, bank_setBank_same]

theorem exec_tarOwnerWrite_of_busy {bank : Fin 128} {v : W32} (htakes : s.takes r (Page.bank bank) Reg.TAR_OWNER)
    (hbusy : s.handover bank = true) : exec (.tarOwnerWrite r bank v) s = .next (s.setErr (Page.bank bank) 1) := by
  change execTarOwnerWrite r bank v s = _
  rw [execTarOwnerWrite, ifAdmit_of_takes htakes, if_pos hbusy]

/-- A handover to another owner begins: its old owner drains, at once or from the next summit. -/
def beginHandover (s : State) (b : Nat) (v : W32) : State :=
  ((s.setReg (Page.bank b) Reg.TAR_OWNER (v &&& 0xC000000F)).setFld (Page.bank b) Reg.TAR_STAT 16 16 1).setBank b
    { s.bank b with draining := !(bit v 30), atSummit := bit v 30 }

theorem exec_tarOwnerWrite_of_other {bank : Fin 128} {v : W32} (htakes : s.takes r (Page.bank bank) Reg.TAR_OWNER)
    (hidle : s.handover bank = false) (hpresent : ownerPresent s.grade (fld v 3 0) = true)
    (hgood : s.faulted (Page.bank bank) = false) (hother : fld v 3 0 ≠ s.owner bank) :
    exec (.tarOwnerWrite r bank v) s = .next (s.beginHandover bank v) := by
  have hsame : (fld v 3 0 == s.owner bank) = false := beq_eq_false_iff_ne.mpr hother
  change execTarOwnerWrite r bank v s = _
  rw [execTarOwnerWrite, ifAdmit_of_takes htakes, if_neg (by simp [hidle]), if_neg (by simp [hpresent, hgood])]
  simp only [hsame]
  rfl

theorem beginHandover_parts (s : State) (b : Nat) (v : W32) : (s.beginHandover b v).handover b = true
    ∧ (s.beginHandover b v).newOwner b = fld v 3 0 ∧ (s.beginHandover b v).owner b = s.owner b
    ∧ s.only (s.beginHandover b v) [.regs, .tarn] := by
  unfold beginHandover
  refine ⟨?_, ?_, ?_, (only_refl s _).setReg.setFld.setBank⟩
  · rw [handover, reg_setBank, setFld, reg_setReg_same, bit_withFld_same _ (by decide)]
    rfl
  · rw [newOwner, regFld, reg_setBank, setFld, reg_setReg_off (by decide), reg_setReg_same]
    exact fld_and_ones v _ (by decide)
  · rw [owner, regFld, reg_setBank, setFld, reg_setReg_off (by decide), reg_setReg_off (by decide)]
    rfl

theorem exec_handoverDrainDone_of_drained {bank : Fin 128} (hruns : s.runs (3 + bank / 16) = true)
    (hhandover : s.handover bank = true) (hdrains : (s.bank bank).draining = true) (hclear : (s.bank bank).clearing = false)
    (hkeep : bit (s.reg (Page.bank bank) Reg.TAR_OWNER) 31 = false) (hheld : s.tarn.held = []) :
    exec (.handoverDrainDone bank) s = .next (s.acked bank) := by
  change execHandoverDrainDone bank s = _
  simp [execHandoverDrainDone, hruns, hhandover, hdrains, hclear, drained, hkeep, ackOwner_of_empty hheld]

/-! ### The clear of a bank (R186) -/

theorem byte_zeroBank (s : State) (b x : Nat) : (s.zeroBank b).byte x
    = if bankAddr b ≤ x ∧ x < bankAddr b + 0x80000 then 0 else s.byte x := by
  have hget := Store.get_filter_key memDefault (fun a => !(decide (bankAddr b ≤ a ∧ a < bankAddr b + bankBytes))) s.mem x
  rw [byte, zeroBank, hget]
  by_cases hin : bankAddr b ≤ x ∧ x < bankAddr b + 0x80000
  · simp [hin, memDefault]
  · simp [hin, byte]

theorem isPoison_zeroBank {x : Nat} (hlo : bankAddr b ≤ x) (hhi : x < bankAddr b + 0x80000) :
    (s.zeroBank b).isPoison x = false := by
  simp [isPoison, zeroBank, hlo, hhi]

theorem bytesBut_zeroBank (s : State) (b : Nat) : s.bytesBut (s.zeroBank b) (bankAddr b) 0x80000 := fun x hx => by
  rw [byte_zeroBank, if_neg (by omega)]

theorem only.zeroBank (h : s.only t l) (hm : Part.mem ∈ l := by decide) (hp : Part.poison ∈ l := by decide) :
    s.only (t.zeroBank b) l :=
  h.trans (m := [.mem, .poison]) (fun x hx => by cases x <;> simp_all [Part.same, State.zeroBank]) (by simp [hm, hp])

/-- The bank's lines are zero, and a bank on its way to ON is ON (R192). -/
def cleared (s : State) (b : Nat) : State :=
  let waking := (s.bank b).powerReq == some 2
  ((s.zeroBank b).setBank b { s.bank b with
    clearing := false, lost := false, powerReq := if waking then none else (s.bank b).powerReq
    power := if waking then 2 else (s.bank b).power }).showBank b

theorem cleared_parts (s : State) (b : Nat) : ((s.cleared b).bank b).clearing = false
    ∧ (s.zeroBank b).only (s.cleared b) [.regs, .tarn] :=
  ⟨by rw [cleared, showBank, setFld, bank_setReg, bank_setBank_same], (only_refl _ _).setBank.showBank⟩

/-- The clear was step 3 of a handover, which is now acknowledged (R186). -/
def ackDue (s : State) (b : Nat) : Bool :=
  (s.cleared b).handover b && !((s.cleared b).bank b).atSummit && !((s.bank b).powerReq == some 2)

theorem exec_bankClearDone_of_clearing {bank : Fin 128} (hruns : s.runs (3 + bank / 16) = true)
    (hclear : (s.bank bank).clearing = true) (hheld : s.tarn.held = []) : exec (.bankClearDone bank) s
      = .next (if s.ackDue bank then (s.cleared bank).acked bank else s.cleared bank) := by
  have hnone : (s.cleared bank).tarn.held = [] := hheld
  have hexec : exec (.bankClearDone bank) s = if s.ackDue bank then .next ((s.cleared bank).ackOwner bank)
      else .next ((s.cleared bank).serveHeld bank) := by
    change execBankClearDone bank s = _
    rw [execBankClearDone, if_pos (by simp [hruns, hclear])]
    rfl
  rw [hexec, ackOwner_of_empty hnone, serveHeld_of_empty hnone, apply_ite Host.Outcome.next]

/-! ### Power (R192, R193) -/

theorem exec_tarPwrWrite_of_takes {bank : Fin 128} {v : W32} (htakes : s.takes r (Page.bank bank) Reg.TAR_PWR)
    (hchange : powerCode (fld v 1 0) ≠ (s.bank bank).power) : exec (.tarPwrWrite r bank v) s
      = .next ((s.setReg (Page.bank bank) Reg.TAR_PWR (v &&& 0x3)).setBank bank
        { s.bank bank with powerReq := some (powerCode (fld v 1 0)) }) := by
  change execTarPwrWrite r bank v s = _
  rw [execTarPwrWrite, ifAdmit_of_takes htakes]
  dsimp only
  rw [bank_setReg, if_neg hchange]

/-- The state in force of a bank whose power goes down. -/
def lowerPower (s : State) (b x : Nat) : State :=
  (s.setBank b { s.bank b with power := x, powerReq := none, lost := (s.bank b).lost || x == 0 }).showBank b

theorem lowerPower_parts (s : State) (b x : Nat) : ((s.lowerPower b x).bank b).power = x
    ∧ ((s.lowerPower b x).bank b).powerReq = none ∧ s.only (s.lowerPower b x) [.regs, .tarn] := by
  unfold lowerPower
  rw [showBank, setFld, bank_setReg, bank_setBank_same]
  exact ⟨rfl, rfl, (only_refl s _).setBank.setReg⟩

theorem exec_bankPowerChange_of_lower {bank : Fin 128} {x : Nat} (hreq : (s.bank bank).powerReq = some x) (hx : x < 2)
    (hruns : s.runs (3 + bank / 16) = true) (hclear : (s.bank bank).clearing = false) :
    exec (.bankPowerChange bank) s = .next ((if x = 0 then s.zeroBank bank else s).lowerPower bank x) := by
  have hnot2 : x ≠ 2 := by omega
  change execBankPowerChange bank s = _
  simp [execBankPowerChange, hreq, hruns, hclear, hnot2, lowerPower]

end State

/-- Settles O32: where no access waits at the bank, each step of a handover or of a power change writes fields of the bank's
page and of its state, and the clear alone touches memory. -/
theorem tarnSidePortAndHandover : Obligations.TarnSidePortAndHandover := by
  intro s bank req base page
  refine ⟨fun op waited busy => ⟨fun hbusy hwait => ?wait, fun hruns hturn => ⟨fun hbar => ?barred, ?store, ?load⟩⟩,
    fun v htakes => ⟨fun hbusy => ?busy, fun hidle hpresent hgood hother => ?other⟩,
    fun hruns hhandover hdrains hclear hkeep hheld => ?drained, fun hruns hclear hheld => ?cleared,
    fun v htakes hchange => ?request, fun x hreq hx hruns hclear => ?power⟩
  case wait =>
    subst hbusy
    exact ⟨_, State.exec_sidePortAccess_of_wait hwait, rfl⟩
  case barred =>
    have hexec := State.exec_sidePortAccess_of_turn (r := req) (op := op) hruns hturn
    rw [State.tarnSide_of_barred hbar] at hexec
    obtain ⟨hcount, -, honly⟩ := s.tarnRefuse_parts bank
    exact ⟨_, hexec, rfl, hcount, State.only_answer (honly.mono (by decide)) (by decide) _ _⟩
  case store =>
    rintro o d rfl hadmits hfit
    have hexec := State.exec_sidePortAccess_of_turn (r := req) (op := .store o d) hruns hturn
    rw [State.tarnSide_store hadmits hfit] at hexec
    obtain ⟨hbytes, hbut⟩ := s.bytes_sramStore (bankAddr bank + o) d
    have hmem := (s.sramStore (bankAddr bank + o) d).answer_mem 0 false
    exact ⟨_, hexec, (State.bytes_congr hmem _ _).trans hbytes, fun x hx => (State.byte_congr hmem x).trans (hbut x hx),
      State.only_answer (State.only_refl s _).sramStore (by decide) _ _⟩
  case load =>
    rintro o n rfl hadmits hfit
    have hexec := State.exec_sidePortAccess_of_turn (r := req) (op := .load o n) hruns hturn
    rw [State.tarnSide_load hadmits hfit] at hexec
    exact ⟨_, hexec, rfl, State.only_answer (State.only_refl s _) (by decide) _ _⟩
  case busy =>
    exact ⟨_, State.exec_tarOwnerWrite_of_busy htakes hbusy, s.setErr_onlyErr (by decide)⟩
  case other =>
    exact ⟨_, State.exec_tarOwnerWrite_of_other htakes hidle hpresent hgood hother, s.beginHandover_parts bank v⟩
  case drained =>
    obtain ⟨howner, hdone, hint, -, honly⟩ := s.acked_parts bank
    exact ⟨_, State.exec_handoverDrainDone_of_drained hruns hhandover hdrains hclear hkeep hheld, howner, hdone, hint, honly⟩
  case cleared =>
    obtain ⟨hdone, hcleared⟩ := s.cleared_parts bank
    obtain ⟨-, -, -, hkept, hacked⟩ := (s.cleared bank).acked_parts bank
    have hexec := State.exec_bankClearDone_of_clearing hruns hclear hheld
    generalize ht : (if s.ackDue bank then (s.cleared bank).acked bank else s.cleared bank) = t at hexec
    have honly : (s.zeroBank bank).only t [.regs, .tarn] := ht ▸ .branch (hcleared.trans hacked) hcleared
    have hzero : s.only (s.zeroBank bank) [.mem, .poison, .regs, .tarn] := (State.only_refl s _).zeroBank
    have hmem : t.mem = (s.zeroBank bank).mem := honly .mem (by decide)
    have hpoison : t.poison = (s.zeroBank bank).poison := honly .poison (by decide)
    refine ⟨t, hexec, fun x hlo hhi => ⟨?_, ?_⟩, fun x hx => ?_, ?_, hzero.trans honly⟩
    · rw [State.byte_congr hmem, State.byte_zeroBank, if_pos ⟨hlo, hhi⟩]
    · rw [State.isPoison, hpoison]
      exact State.isPoison_zeroBank hlo hhi
    · exact (State.byte_congr hmem x).trans (s.bytesBut_zeroBank bank x hx)
    · rw [← ht]
      split
      · exact hkept.trans hdone
      · exact hdone
  case request =>
    refine ⟨_, State.exec_tarPwrWrite_of_takes htakes hchange, ?_, ?_, (State.only_refl s _).setReg.setBank,
      State.regsBut_setReg (State.regsBut_refl s _) (by decide) (List.mem_singleton_self _) _⟩
    all_goals rw [State.bank_setBank_same]
  case power =>
    have hexec := State.exec_bankPowerChange_of_lower hreq hx hruns hclear
    by_cases hoff : x = 0
    · obtain ⟨hpower, hdone, honly⟩ := (s.zeroBank bank).lowerPower_parts bank x
      have hbank : s.only (s.zeroBank bank) [.mem, .poison, .regs, .tarn] := (State.only_refl s _).zeroBank
      have hmem : ((s.zeroBank bank).lowerPower bank x).mem = (s.zeroBank bank).mem := honly .mem (by decide)
      rw [if_pos hoff] at hexec
      refine ⟨_, hexec, hpower, hdone, fun a ha => ?_, fun _ a hlo hhi => ?_, fun hret => ?_, hbank.trans honly⟩
      · exact (State.byte_congr hmem a).trans (s.bytesBut_zeroBank bank a ha)
      · rw [State.byte_congr hmem, State.byte_zeroBank, if_pos ⟨hlo, hhi⟩]
      · omega
    · obtain ⟨hpower, hdone, honly⟩ := s.lowerPower_parts bank x
      have hmem : (s.lowerPower bank x).mem = s.mem := honly .mem (by decide)
      rw [if_neg hoff] at hexec
      exact ⟨_, hexec, hpower, hdone, fun a _ => State.byte_congr hmem a, fun hzero => absurd hzero hoff, fun _ => hmem,
        honly.mono (by decide)⟩

end Sys2Proof.Machine
end

section
/-! # What the send engines do -/
namespace Sys2Proof.Machine
open Sys2Proof

/-! ### Outstanding messages and their completions (R248, R258) -/

namespace Outstanding

variable (o : Outstanding) (code : Nat) (data : List W32)

/-- The high word of a completion entry is the sum of its fields. -/
theorem toNat_hi_completion : (o.completion code data).hi.toNat = 2 ^ 31 + code % 16 * 2 ^ 27 + o.handler % 256 * 2 ^ 19
    + data.length % 8 * 2 ^ 16 + min 15 o.tries * 2 ^ 12 + o.tag % 4096 := by
  rw [Outstanding.completion, Machine.completion, BitVec.toNat_ofNat]
  exact Nat.mod_eq_of_lt (by omega)

theorem code_completion : fld (o.completion code data).hi 30 27 = code % 16 := by
  rw [fld, bitsOf, toNat_hi_completion, Nat.shiftRight_eq_div_pow]
  omega

theorem valid_completion : bit (o.completion code data).hi 31 = true := by
  rw [bit, ← BitVec.testBit_toNat, toNat_hi_completion, Nat.testBit_eq_decide_div_mod_eq, decide_eq_true_iff]
  omega

/-- A message that has been sent once more. -/
def again (now : Nat) : Outstanding := { o with backoff := none, tries := o.tries + 1, sentAt := now }

end Outstanding

theorem eraseFirst_head {α : Type} [DecidableEq α] (x : α) (l : List α) : eraseFirst x (x :: l) = l := if_pos rfl

namespace State

variable {s t : State} {e : Nat} {l : List Part}

/-! ### The state of an engine -/

theorem engine_congr (h : t.engines = s.engines) (e : Nat) : t.engine e = s.engine e := by
  rw [engine, engine, h]

theorem only.setEngine (h : s.only t l) {x : Engine} (hl : Part.engines ∈ l := by decide) : s.only (t.setEngine e x) l :=
  h.engines hl

theorem only.latchHigh (h : s.only t l) {r : Requester} {key : Nat} {v : W32} (hl : Part.halves ∈ l := by decide) :
    s.only (t.latchHigh r key v) l :=
  h.change .halves (fun y hy => by cases y <;> simp_all [Part.same, State.latchHigh]) hl

/-- A completion joins the queue of its engine, whatever its code. -/
theorem engine_postCompletion (s : State) (e code : Nat) (x : Completion) :
    (s.postCompletion e code x).engine e = { s.engine e with cq := (s.engine e).cq ++ [x] } := by
  rw [← s.engine_setEngine_same e { s.engine e with cq := (s.engine e).cq ++ [x] }]
  refine engine_congr ?_ e
  unfold postCompletion
  dsimp only
  split <;> rfl

theorem cq_postCompletion (s : State) (e code : Nat) (x : Completion) :
    ((s.postCompletion e code x).engine e).cq = (s.engine e).cq ++ [x] := by
  rw [engine_postCompletion]

theorem out_postCompletion (s : State) (e code : Nat) (x : Completion) :
    ((s.postCompletion e code x).engine e).out = (s.engine e).out := by
  rw [engine_postCompletion]

theorem out_setOut (s : State) (e : Nat) (m : List Outstanding) : ((s.setOut e m).engine e).out = m := by
  rw [setOut, engine_setEngine_same]

theorem cq_setOut (s : State) (e : Nat) (m : List Outstanding) : ((s.setOut e m).engine e).cq = (s.engine e).cq := by
  rw [setOut, engine_setEngine_same]

theorem only.postCompletion (h : s.only t l) {code : Nat} {x : Completion} (he : Part.engines ∈ l := by decide)
    (hr : Part.regs ∈ l := by decide) : s.only (t.postCompletion e code x) l :=
  .branch ((h.setEngine he).setInt hr) (((h.setEngine he).setInt hr).count hr |>.setInt hr)

/-! ### Sending (R240, R242, R245) -/

theorem chipId_lt (s : State) : s.chipId < 4096 := fld_lt _ 11 0

theorem ty_buildMsg (s : State) (lo hi : W32) (sec stepped : Bool) (n : Nat) :
    (s.buildMsg e lo hi sec stepped n).ty = 3 := by
  simp [buildMsg]

theorem chip_buildMsg (s : State) (lo hi : W32) (sec stepped : Bool) (n : Nat) :
    (s.buildMsg e lo hi sec stepped n).chip = if bit hi 27 then s.chipId else fld hi 18 7 := by
  have hfld : fld hi 18 7 < 4096 := fld_lt hi 18 7
  rw [buildMsg, Packet.chip_mkPacket]
  split
  · exact Nat.mod_eq_of_lt s.chipId_lt
  · exact Nat.mod_eq_of_lt hfld

/-- The channel that the staging registers of an engine name, and its entry (R241). -/
def stagedId (s : State) (e : Nat) : Nat := s.regFld (Page.engine e) Reg.CHN_TX_CHAN 14 0
def stagedChannel (s : State) (e : Nat) : W32 × W32 := s.channel (s.stagedId e)

/-- The message that the staging registers give, as its engine keeps it until it is answered (R245). -/
def staged (s : State) (e : Nat) (sec : Bool) (v : W32) : Outstanding :=
  let ch := s.stagedChannel e
  let p := s.buildMsg e ch.1 ch.2 sec (bit v 9) (min 5 (fld v 2 0))
  { packet := p, tag := s.regFld (Page.engine e) Reg.CHN_TX_CHAN 31 20, handler := fld ch.2 26 19, chip := p.chip
    dest := fld ch.1 19 0, notify := bit v 8, sentAt := s.elapsed }

/-- A message goes out and its engine awaits the answer. -/
def sendOut (s : State) (e : Nat) (o : Outstanding) : State :=
  ((s.setOut e ((s.engine e).out ++ [o])).count (Page.engine e) Reg.CHN_SENT 1).sendNode (engineNode e) o.packet

section
variable (s : State) (e : Nat) (sec : Bool) (v : W32)

theorem ty_staged : (s.staged e sec v).packet.ty = 3 := ty_buildMsg ..

theorem chip_staged : (s.staged e sec v).packet.chip
    = if bit (s.stagedChannel e).2 27 then s.chipId else fld (s.stagedChannel e).2 18 7 := chip_buildMsg ..

theorem handler_staged : (s.staged e sec v).handler = fld (s.stagedChannel e).2 26 19 := rfl
theorem dest_staged : (s.staged e sec v).dest = fld (s.stagedChannel e).1 19 0 := rfl

theorem out_sendOut (o : Outstanding) : ((s.sendOut e o).engine e).out = (s.engine e).out ++ [o] :=
  s.out_setOut e _

theorem cq_sendOut (o : Outstanding) : ((s.sendOut e o).engine e).cq = (s.engine e).cq :=
  s.cq_setOut e _

theorem links_sendOut (o : Outstanding) :
    ∃ f, (s.sendOut e o).fabric.links = s.fabric.links ++ [f] ∧ f.pkt = o.packet :=
  ⟨_, rfl, rfl⟩

end

theorem only.sendOut (h : s.only t l) {o : Outstanding}
    (he : Part.engines ∈ l := by decide) (hf : Part.fabric ∈ l := by decide) (hr : Part.regs ∈ l := by decide)
    (hs : Part.step ∈ l := by decide) : s.only (t.sendOut e o) l :=
  ((h.setEngine he).count hr).sendNode hf hs

/-- A valid channel that is open to every sender, secure or not, lets the staged message out. -/
theorem sendMsg_of_admitted {sec : Bool} {v : W32} (hvalid : bit (s.stagedChannel e).2 31 = true)
    (hopen : bit (s.stagedChannel e).2 30 = false) (hall : fld (s.stagedChannel e).2 29 28 = 0) :
    s.sendMsg e sec v = s.sendOut e (s.staged e sec v) := by
  have hpass : ¬ (senderAdmits (fld (s.stagedChannel e).2 29 28) e = false
      ∨ (bit (s.stagedChannel e).2 30 ∧ sec = false)) := by
    simp [hall, hopen, senderAdmits]
  exact (if_neg (ne_false_of_eq_true hvalid)).trans (if_neg hpass)

/-- A message on a channel that is not valid ends in a NO_ROUTE completion, and the region of the channel counts it. -/
theorem sendMsg_of_invalid {sec : Bool} {v : W32} (hinvalid : bit (s.stagedChannel e).2 31 = false) :
    s.sendMsg e sec v
      = (s.countInt (Page.chn (bitsOf (s.stagedId e) 14 12)) Reg.CHN_BADCHAN 0 1).postCompletion e Code.noRoute
        ((s.staged e sec v).completion Code.noRoute []) :=
  if_pos hinvalid

/-- CHN_TX_STAT shows whether the last start was refused (R245). -/
def showRefused (s : State) (e x : Nat) : State := s.setFld (Page.engine e) Reg.CHN_TX_STAT 0 0 x

theorem bit_showRefused (s : State) (e x : Nat) :
    bit ((s.showRefused e x).reg (Page.engine e) Reg.CHN_TX_STAT) 0 = decide (x % 2 = 1) := by
  rw [showRefused, setFld, reg_setReg_same, bit_withFld_same _ (by decide)]

theorem refused_showRefused (s : State) (e x : Nat) :
    (s.showRefused e x).reg (Page.engine e) Reg.CHN_TX_REFUSED = s.reg (Page.engine e) Reg.CHN_TX_REFUSED :=
  reg_setReg_off (by decide)

theorem channel_showRefused (he : e < 20) (x id : Nat) : (s.showRefused e x).channel id = s.channel id := by
  have hpage : (channelKey id).1 ≠ Page.engine e := by
    simp only [channelKey, Page.engine]
    omega
  have hlt : bitsOf id 8 0 < 512 := Nat.mod_lt _ (by decide)
  have hoff : (channelKey id).2 + 4 < 4096 := by
    simp only [channelKey]
    omega
  have hreg : ∀ off < 4096, (s.showRefused e x).reg (channelKey id).1 off = s.reg (channelKey id).1 off := fun off hlt =>
    reg_setReg_page hpage hlt (by decide)
  rw [channel, hreg _ (Nat.lt_of_add_right_lt hoff), hreg _ hoff, channel]

theorem stagedChannel_showRefused (he : e < 20) (x : Nat) : (s.showRefused e x).stagedChannel e = s.stagedChannel e := by
  have hid : (s.showRefused e x).stagedId e = s.stagedId e :=
    congrArg (fld · 14 0) (reg_setReg_off (by decide))
  rw [stagedChannel, channel_showRefused he, hid, stagedChannel]

theorem chipId_showRefused (he : e < 20) (x : Nat) : (s.showRefused e x).chipId = s.chipId := by
  have hpage : 0xD0 ≠ Page.engine e := by
    simp only [Page.engine]
    omega
  exact regFld_setReg_page hpage (by decide) (by decide)

theorem exec_chnTxGo_of_takes {r : Requester} {engine : Fin 20} {v : W32}
    (htakes : s.takes r (Page.engine engine) Reg.CHN_TX_GO) : exec (.chnTxGo r engine v) s
      = .next (if (s.engine engine).credits = 0 then (s.showRefused engine 1).count (Page.engine engine) Reg.CHN_TX_REFUSED 1
        else (s.showRefused engine 0).sendMsg engine (s.isSecure r) v) :=
  congrArg Host.Outcome.next (ifAdmit_of_takes htakes _)

/-! ### Answers (R245, R246) -/

theorem takeAnswer_of_unawaited {p : Packet} (hnone : (s.engine e).out.find? (fun o => o.awaits p) = none) :
    s.takeAnswer e p = s.count (Page.engine e) Reg.CHN_LATE_ANS 1 := by
  simp only [takeAnswer, hnone]

/-- DONE without data ends a message that asked for no notification, and nothing more. -/
theorem takeAnswer_of_done {p : Packet} {o : Outstanding} (hfind : (s.engine e).out.find? (fun o => o.awaits p) = some o)
    (hcode : fld (p.word 2) 23 20 = Code.done) (hcount : p.count = 2) (hquiet : o.notify = false) :
    s.takeAnswer e p = s.setOut e (eraseFirst o (s.engine e).out) := by
  simp [takeAnswer, hfind, hcode, hcount, hquiet, retried, Code.done]

theorem exec_answer_of_head {node : Fin 8} {engine : Fin 20} {p : Packet} {rest : List (Nat × Packet)}
    (hunit : s.fabric.unitIn = (node.val, p) :: rest) (hty : p.ty = 4) (hclock : s.clocked = true)
    (hengine : fld (p.word 1) 19 12 = engine.val) :
    exec (.answer node) s = .next ((s.takeUnit (node.val, p) 136).takeAnswer engine p) := by
  change execAnswer node s = _
  simp only [execAnswer, hunit, List.find?_cons, hty, hclock, hengine, beq_self_eq_true, Bool.and_self, Bool.true_eq_false,
    Nat.not_le.mpr engine.isLt, if_false]

/-! ### Retries and timeouts (R246, R248) -/

section
variable {engine : Fin 20} {o : Outstanding} {rest : List Outstanding}
  (hout : (s.engine engine).out = o :: rest) (hclock : s.clocked = true)
include hout hclock

theorem exec_retry_of_due {due : Nat} (hwaits : o.backoff = some due) (hdue : due ≤ s.elapsed) : exec (.retry engine) s
    = .next (((s.setOut engine ((o :: rest).map fun x => if x = o then o.again s.elapsed else x)).count (Page.engine engine)
      Reg.CHN_RETRIES 1).sendNode (engineNode engine) o.packet) := by
  change execRetry engine s = _
  simp only [execRetry, hout, List.find?_cons, hwaits, decide_eq_true hdue, hclock, Bool.true_eq_false, if_false]
  rfl

theorem exec_messageTimeout_of_due (hwaits : o.backoff = none) (hdue : o.sentAt + s.msgTimeout engine ≤ s.elapsed) :
    exec (.messageTimeout engine) s
      = .next ((s.setOut engine rest).postCompletion engine Code.timeout (o.completion Code.timeout [])) := by
  change execMessageTimeout engine s = _
  simp only [execMessageTimeout, hout, List.find?_cons, hwaits, Option.isNone_none, Bool.true_and, decide_eq_true hdue,
    hclock, Bool.true_eq_false, if_false, eraseFirst_head]

end

/-! ### Completions read (R258) -/

/-- The words of a list stand in the registers from an offset on. -/
def loadWords (s : State) (p off n : Nat) (data : List W32) : State :=
  (List.range n).foldl (fun s i => s.setReg p (off + 4 * i) (data.getD i 0)) s

theorem reg_loadWords (s : State) (p off : Nat) (data : List W32) {i n : Nat} (hi : i < n) :
    (s.loadWords p off n data).reg p (off + 4 * i) = data.getD i 0 := by
  induction n with
  | zero => omega
  | succ n ih =>
    have hlast : s.loadWords p off (n + 1) data = (s.loadWords p off n data).setReg p (off + 4 * n) (data.getD n 0) := by
      rw [loadWords, List.range_succ, List.foldl_append]
      rfl
    rw [hlast]
    by_cases heq : i = n
    · rw [heq, reg_setReg_same]
    · rw [reg_setReg_off (by omega), ih (by omega)]

theorem only.loadWords (h : s.only t l) {p off n : Nat} {data : List W32} (hl : Part.regs ∈ l := by decide) :
    s.only (t.loadWords p off n data) l :=
  h.foldl fun _ hu => hu.setReg hl

/-- A completion leaves the queue: its high word is latched for the reader, and its data stand in the registers (R258). -/
def popEntry (s : State) (r : Requester) (e : Nat) (x : Completion) (cq : List Completion) : State :=
  ((s.setEngine e { s.engine e with cq := cq }).latchHigh r (Page.engine e * 4096 + Reg.CHN_CQ_POP) x.hi).loadWords
    (Page.engine e) Reg.CHN_CQ_DATA0 5 x.data

theorem engine_popEntry (s : State) (r : Requester) (e : Nat) (x : Completion) (cq : List Completion) :
    (s.popEntry r e x cq).engine e = { s.engine e with cq := cq } := by
  have honly : ∀ u : State, u.only (u.loadWords (Page.engine e) Reg.CHN_CQ_DATA0 5 x.data) [.regs] := fun u =>
    (only_refl u _).loadWords
  exact (engine_congr (honly _ .engines (by decide)) e).trans (s.engine_setEngine_same e _)

theorem cq_popEntry (s : State) (r : Requester) (e : Nat) (x : Completion) (cq : List Completion) :
    ((s.popEntry r e x cq).engine e).cq = cq := by
  rw [engine_popEntry]

theorem out_popEntry (s : State) (r : Requester) (e : Nat) (x : Completion) (cq : List Completion) :
    ((s.popEntry r e x cq).engine e).out = (s.engine e).out := by
  rw [engine_popEntry]

theorem reg_popEntry (s : State) (r : Requester) (e : Nat) (x : Completion) (cq : List Completion) {i : Nat} (hi : i < 5) :
    (s.popEntry r e x cq).reg (Page.engine e) (Reg.CHN_CQ_DATA0 + 4 * i) = x.data.getD i 0 :=
  reg_loadWords _ _ _ _ hi

theorem only.popEntry (h : s.only t l) {r : Requester} {e : Nat} {x : Completion} {cq : List Completion}
    (he : Part.engines ∈ l := by decide) (hh : Part.halves ∈ l := by decide) (hr : Part.regs ∈ l := by decide) :
    s.only (t.popEntry r e x cq) l :=
  ((h.setEngine he).latchHigh hh).loadWords hr

section
variable {r : Requester} {engine : Fin 20} (hmay : s.mayRead r (Page.engine engine) Reg.CHN_CQ_POP = true)
include hmay

theorem exec_chnCqPop_of_empty (hcq : (s.engine engine).cq = []) : exec (.chnCqPop r engine) s
    = .next ((s.latchHigh r (Page.engine engine * 4096 + Reg.CHN_CQ_POP) 0).answer 0 false) := by
  change execChnCqPop r engine s = _
  simp only [execChnCqPop, hmay, hcq, Bool.true_eq_false, if_false]

theorem exec_chnCqPop_of_entry {x : Completion} {cq : List Completion} (hcq : (s.engine engine).cq = x :: cq) :
    exec (.chnCqPop r engine) s = .next ((s.popEntry r engine x cq).answer x.lo.toNat false) := by
  change execChnCqPop r engine s = _
  simp only [execChnCqPop, hmay, hcq, Bool.true_eq_false, if_false]
  rfl

end

end State

/-- Settles O37: a start, an answer, a retry, a timeout and a pop each change one message or one completion of the engine. -/
theorem sendEnginesComplete : Obligations.SendEnginesComplete := by
  intro s engine pg g
  refine ⟨fun r v htakes => ?go, fun node p rest hunit hty hclock hengine => ?answer,
    fun o rest hout hclock => ⟨fun due hwaits hdue => ?retry, fun hwaits hdue => ?timeout⟩,
    fun r hmay => ⟨fun hcq => ?empty, fun x cq hcq => ?entry⟩⟩
  case go =>
    intro ch
    have hexec := State.exec_chnTxGo_of_takes (v := v) htakes
    have hch := s.stagedChannel_showRefused engine.isLt 0
    refine ⟨fun hnone => ?refused, fun hcredit hvalid hopen hall => ?sent, fun hcredit hinvalid => ?invalid⟩
    case refused =>
      rw [if_pos hnone] at hexec
      refine ⟨_, hexec, ?_, ?_, (State.only_refl s _).setFld.count,
        regsBut_count (State.regsBut_setReg (State.regsBut_refl s _) (by decide)
          (List.mem_cons_of_mem _ (List.mem_singleton_self _)) _) (by decide) List.mem_cons_self⟩
      · exact (State.count_reg _ _ _ _).trans (by rw [State.refused_showRefused])
      · exact (congrArg (bit · 0) (State.reg_setReg_off (by decide))).trans (s.bit_showRefused engine 1)
    case sent =>
      rw [if_neg hcredit, State.sendMsg_of_admitted (by rwa [hch]) (by rwa [hch]) (by rwa [hch])] at hexec
      obtain ⟨f, hlinks, hpkt⟩ :=
        (s.showRefused engine 0).links_sendOut engine ((s.showRefused engine 0).staged engine (s.isSecure r) v)
      refine ⟨_, hexec, ⟨_, f, State.out_sendOut _ _ _, hlinks, hpkt.symm, ?_, ?_, ?_, ?_, rfl⟩,
        State.cq_sendOut _ _ _, (State.only_refl s _).setFld.sendOut⟩
      · rw [hpkt, State.ty_staged]
      · rw [hpkt, State.chip_staged, hch, State.chipId_showRefused engine.isLt]
        rfl
      · rw [State.handler_staged, hch]
        rfl
      · rw [State.dest_staged, hch]
        rfl
    case invalid =>
      rw [if_neg hcredit, State.sendMsg_of_invalid (by rwa [hch])] at hexec
      exact ⟨_, hexec,
        ⟨_, State.cq_postCompletion _ _ _ _, Outstanding.code_completion .., Outstanding.valid_completion ..⟩,
        State.out_postCompletion _ _ _ _, (State.only_refl s _).setFld.countInt.postCompletion⟩
  case answer =>
    have hexec := State.exec_answer_of_head hunit hty hclock hengine
    have hrest := State.unitIn_takeUnit hunit 136
    refine ⟨fun o hfind hcode hcount hquiet => ?done, fun hnone => ?late⟩
    case done =>
      rw [State.takeAnswer_of_done (s := s.takeUnit (node.val, p) 136) hfind hcode hcount hquiet] at hexec
      exact ⟨_, hexec, State.out_setOut _ _ _, State.cq_setOut _ _ _, hrest, (State.only_refl s _).takeUnit.setEngine⟩
    case late =>
      rw [State.takeAnswer_of_unawaited (s := s.takeUnit (node.val, p) 136) hnone] at hexec
      exact ⟨_, hexec, State.count_reg _ _ _ _, hrest, (State.only_refl s _).takeUnit.count⟩
  case retry =>
    have hmem : o.again s.elapsed ∈ (o :: rest).map fun x => if x = o then o.again s.elapsed else x :=
      List.mem_map.mpr ⟨o, List.mem_cons_self, if_pos rfl⟩
    exact ⟨_, State.exec_retry_of_due hout hclock hwaits hdue, ⟨_, rfl, rfl⟩,
      ⟨o.again s.elapsed, (s.out_setOut engine _).symm ▸ hmem, rfl, rfl, rfl⟩,
      (State.only_refl s _).setEngine.count.sendNode⟩
  case timeout =>
    exact ⟨_, State.exec_messageTimeout_of_due hout hclock hwaits hdue,
      (State.out_postCompletion _ _ _ _).trans (State.out_setOut _ _ _),
      ⟨o.completion Code.timeout [],
        (State.cq_postCompletion _ _ _ _).trans (congrArg (· ++ [_]) (State.cq_setOut _ _ _)), o.code_completion ..⟩,
      (State.only_refl s _).setEngine.postCompletion⟩
  case empty =>
    exact ⟨_, State.exec_chnCqPop_of_empty hmay hcq, rfl,
      State.only_answer (State.only_refl s _).latchHigh (by decide) _ _⟩
  case entry =>
    exact ⟨_, State.exec_chnCqPop_of_entry hmay hcq, rfl, s.cq_popEntry r engine x cq, s.out_popEntry r engine x cq,
      fun i hi => s.reg_popEntry r engine x cq hi, State.only_answer (State.only_refl s _).popEntry (by decide) _ _⟩

end Sys2Proof.Machine
end

section
/-! # What the learning engines do -/
namespace Sys2Proof.Machine
open Sys2Proof

/-! ### The slots of a checkpoint (R287) -/

/-- Each part of a byte string lies within the range that the string fills. -/
theorem range_of_mem_beatParts {d : Nat} {b : List Byte} {x : Nat × List Byte} (h : x ∈ beatParts d b) :
    d ≤ x.1 ∧ x.1 + x.2.length ≤ d + b.length := by
  cases b with
  | nil => simp [beatParts] at h
  | cons y b =>
    simp only [beatParts, List.mem_cons, List.mem_map, List.mem_range] at h
    rcases h with rfl | ⟨i, hi, rfl⟩
    · simp
    · simp only [List.length_take, List.length_drop, List.length_cons] at hi ⊢
      omega

theorem Neuron.length_bytes (n : Neuron) : n.bytes.length = 12 := by simp [Neuron.bytes]

theorem length_flatten_map {α β : Type} {f : α → List β} {n : Nat} (h : ∀ x, (f x).length = n) (l : List α) :
    (l.map f).flatten.length = l.length * n := by
  simp [List.length_flatten, Function.comp_def, h]

theorem Checkpoint.length_slot (k : Checkpoint) (c : Nat) : (k.slot c).length = 107576 := by
  simp only [Checkpoint.slot, List.length_append, length_flatten_map (fun _ => Neuron.length_bytes _),
    length_flatten_map (fun _ => length_leBytes 4 _), List.length_map, List.length_range, length_leBytes]

namespace State

variable {s t u : State} {l : List Part} {d a n c : Nat} {b : List Byte} {k : Checkpoint} {region : Fin 8}

/-! ### Stores that stay within a range of DRAM -/

/-- What stores to DRAM within [a, a + n) may change: its bytes and poison, cached copies, the times and power states of
slices. -/
structure StoresIn (s t : State) (a n : Nat) : Prop where
  parts : s.only t [.regs, .mem, .poison, .cells, .dram]
  neurons : t.cells.neurons = s.cells.neurons
  regs : ∀ {p off}, off < 4096 → off ≠ Reg.DRM_SLICE_STAT → t.reg p off = s.reg p off
  bytes : s.bytesBut t a n

namespace StoresIn

theorem refl (s : State) (a n : Nat) : s.StoresIn s a n := ⟨only_refl s _, rfl, fun _ _ => rfl, fun _ _ => rfl⟩

theorem trans (h : s.StoresIn t a n) (hu : t.StoresIn u a n) : s.StoresIn u a n :=
  ⟨h.parts.trans hu.parts, hu.neurons.trans h.neurons, fun hlt hne => (hu.regs hlt hne).trans (h.regs hlt hne),
    fun x hx => (hu.bytes x hx).trans (h.bytes x hx)⟩

theorem foldl {α : Type} {f : State → α → State} {xs : List α} (h : s.StoresIn t a n)
    (hf : ∀ u, ∀ x ∈ xs, s.StoresIn u a n → u.StoresIn (f u x) a n) : s.StoresIn (xs.foldl f t) a n :=
  List.foldlRecOn (motive := fun u => s.StoresIn u a n) _ _ h fun u hu x hx => hu.trans (hf u x hx hu)

theorem touchSlice (s : State) (slice a n : Nat) : s.StoresIn (s.touchSlice slice) a n := by
  have honly : s.only (s.touchSlice slice) [.dram, .regs] := (only_refl s _).touchSlice
  exact ⟨honly.mono (by decide), congrArg CellsState.neurons (honly .cells (by decide)), reg_touchSlice,
    fun x _ => byte_congr (honly .mem (by decide)) x⟩

theorem chargeBytes (s : State) (who d m a n : Nat) : s.StoresIn (s.chargeBytes who d m) a n := by
  unfold State.chargeBytes
  split
  · exact .refl s a n
  · exact ⟨(only_refl s _).dram, rfl, fun _ _ => rfl, fun _ _ => rfl⟩

theorem writeBeat (s : State) (hlo : a ≤ Base.dram + d) (hhi : Base.dram + d + b.length ≤ a + n) :
    s.StoresIn (s.writeBeat d b) a n := by
  have honly : s.only (s.writeBeat d b) [.mem, .poison] :=
    .branch (only_refl s _).setBytes.poison (only_refl s _).setBytes
  refine ⟨honly.mono (by decide), congrArg CellsState.neurons (honly .cells (by decide)), fun _ _ => ?_, fun x hx => ?_⟩
  · rw [reg, honly .regs (by decide), reg]
  · rw [byte_writeBeat, byte_setBytes_other b s _ x (by omega)]

/-- A store to DRAM touches its slices, writes its beats, and drops cached copies. -/
theorem dramStore (s : State) (hlo : a ≤ Base.dram + d) (hhi : Base.dram + d + b.length ≤ a + n) :
    s.StoresIn (s.dramStore d b) a n := by
  have htouched : s.StoresIn (s.touchRange d b.length) a n := (StoresIn.refl s a n).foldl fun u _ _ _ => .touchSlice u _ _ _
  have hwritten := htouched.foldl (f := fun u x => u.writeBeat x.1 x.2) (xs := beatParts d b) fun u x hx _ => by
    obtain ⟨hfirst, hlast⟩ := range_of_mem_beatParts hx
    exact .writeBeat u (by omega) (by omega)
  exact hwritten.trans ⟨(only_refl _ _).cells, rfl, fun _ _ => rfl, fun _ _ => rfl⟩

end StoresIn

/-! ### CHECKPOINT_COMPLETE (R287, R288) -/

/-- Offset of the first of the two checkpoint buffers. -/
def ckptStart (s : State) : Nat := bitsOf (s.reg64 Page.lrn Reg.LRN_CKPT_BASE) 35 20 * 2 ^ 20

/-- A cell writes its slot, which is charged to the sweepers' requester. -/
def writeSlot (k : Checkpoint) (s : State) (c : Nat) : State :=
  (s.chargeBytes 2086 (s.slotAt k.buf c) 107576).dramStore (s.slotAt k.buf c) (k.slot c)

/-- The slots of 2,048 cells fill a buffer, so the slot of a cell lies within the two. -/
theorem StoresIn.writeSlot (s : State) (hbuf : k.buf < 2) (hc : c < 2048) :
    s.StoresIn (s.writeSlot k c) (Base.dram + s.ckptStart) (2 * 0xE000000) := by
  have hslot : s.slotAt k.buf c = s.ckptStart + k.buf * 0xE000000 + c * 0x1C000 := rfl
  have hlen := k.length_slot c
  exact (StoresIn.chargeBytes s _ _ _ _ _).trans (.dramStore _ (by omega) (by omega))

theorem lt_of_mem_mappedCells (h : c ∈ s.mappedCells) : c < 2048 := by
  unfold mappedCells at h
  split at h
  · exact List.mem_range.mp (List.mem_filter.mp h).1
  · cases h

/-- Every mapped cell has written its slot. -/
def writeSlots (s : State) (k : Checkpoint) : State := s.mappedCells.foldl (writeSlot k) s

/-- The slots lie where the base register says, which no slot changes. -/
theorem StoresIn.writeSlots (s : State) (hbuf : k.buf < 2) :
    s.StoresIn (s.writeSlots k) (Base.dram + s.ckptStart) (2 * 0xE000000) :=
  (StoresIn.refl s _ _).foldl fun u c hc hu => by
    have hstart : u.ckptStart = s.ckptStart := by
      rw [ckptStart, reg64, hu.regs (by decide) (by decide), hu.regs (by decide) (by decide)]
      rfl
    exact hstart ▸ .writeSlot u hbuf (lt_of_mem_mappedCells hc)

/-- LRN_CKPT_LAST names the checkpoint, which is reported and no longer under way. -/
def finishCheckpoint (s : State) (k : Checkpoint) : State :=
  let t := (s.setReg64 Page.lrn Reg.LRN_CKPT_LAST (2 ^ 63 + k.buf * 2 ^ 56 + k.epoch % 2 ^ 48)).setInt Page.lrn 3
  { t with learn := { t.learn with ckpt := none } }

theorem exec_checkpointComplete_of_due (hckpt : s.learn.ckpt = some k) (hclock : s.clocked = true) :
    exec .checkpointComplete s = .next ((s.writeSlots k).finishCheckpoint k) := by
  change execCheckpointComplete s = _
  simp only [execCheckpointComplete, hckpt, hclock, Bool.true_eq_false, if_false]
  rfl

theorem only.learn (h : s.only t l) {x : LearnState} (hl : Part.learn ∈ l := by decide) : s.only { t with learn := x } l :=
  only_setLearn h hl x

theorem only_finishCheckpoint (s : State) (k : Checkpoint) : s.only (s.finishCheckpoint k) [.regs, .learn] :=
  (only_refl s _).setReg64.setInt.learn

theorem reg64_setLearn (s : State) (x : LearnState) (p off : Nat) : { s with learn := x }.reg64 p off = s.reg64 p off := rfl

theorem reg_setLearn (s : State) (x : LearnState) (p off : Nat) : { s with learn := x }.reg p off = s.reg p off := rfl

theorem reg64_setInt {p b off : Nat} (hlow : off ≠ Reg.PG_INT) (hhigh : off + 4 ≠ Reg.PG_INT) :
    (s.setInt p b).reg64 p off = s.reg64 p off := by
  rw [setInt, orReg, reg64, reg_setReg_off hlow, reg_setReg_off hhigh, reg64]

theorem last_finishCheckpoint (s : State) (hbuf : k.buf < 2) :
    (s.finishCheckpoint k).reg64 Page.lrn Reg.LRN_CKPT_LAST = 2 ^ 63 + k.buf * 2 ^ 56 + k.epoch % 2 ^ 48 := by
  rw [finishCheckpoint, reg64_setLearn, reg64_setInt (by decide) (by decide), reg64_setReg64_same]
  exact Nat.mod_eq_of_lt (by omega)

theorem done_finishCheckpoint (s : State) (k : Checkpoint) :
    bit ((s.finishCheckpoint k).reg Page.lrn Reg.PG_INT) 3 = true := by
  rw [finishCheckpoint, reg_setLearn]
  exact bit_setInt (by decide)

/-! ### SWEEPER_ROW (R279, R281) -/

theorem sweeper_setSweeper_same (s : State) (r : Nat) (x : Sweeper) : (s.setSweeper r x).sweeper r = x := by
  simp [sweeper, setSweeper]

theorem only.setSweeper (h : s.only t l) {r : Nat} {x : Sweeper} (hl : Part.learn ∈ l := by decide) :
    s.only (t.setSweeper r x) l :=
  h.learn hl

theorem only.pushReqs (h : s.only t l) {who item : Nat} (hd : Part.dram ∈ l := by decide) :
    s.only (t.pushReqs who item d n) l :=
  h.dram hd

/-- A row that is up to date and young is read, and nothing of it is written. -/
theorem sweepRow_of_young {r tbl : Nat} (hstamp : (s.loadRow c tbl (s.entryAt tbl)).stamp = s.epoch % 4)
    (hage : (s.stepNo + 128 - (s.loadRow c tbl (s.entryAt tbl)).age) % 128 < 64) :
    s.sweepRow r c tbl
      = (s.pushReqs 2086 0 tbl 8).pushReqs 2086 0 (s.loadRow c tbl (s.entryAt tbl)).addr 8 := by
  have hlag : (s.epoch + 4 - s.epoch % 4) % 4 = 0 := by omega
  simp [sweepRow, hstamp, hlag, Nat.not_le.mpr hage]

/-- The cell whose queue a sweeper walks, as the entry of its list names it (R279). -/
def sweptCell (s : State) (r : Nat) : Nat := bitsOf (s.sweepQueue r (s.sweeper r).entry) 19 9

/-- The queue of that cell. -/
def sweptQueue (s : State) (r : Nat) : Nat := bitsOf (s.sweepQueue r (s.sweeper r).entry) 8 0

/-- The entry of the queue's row table at which the sweeper stands. -/
def sweptTbl (s : State) (r : Nat) : Nat := s.qrowt (s.sweptCell r) (s.sweptQueue r) + 8 * (s.sweeper r).row

section
variable (hruns : s.runs (3 + region) = true) (hbusy : (s.sweeper region).busy = true)
  (hmore : (s.sweeper region).entry < s.sweepCount region)
include hruns hbusy hmore

/-- A sweeper in its list looks at one entry of a row table: past its last row, not for a sweep, held, or swept. -/
theorem exec_sweeperRow_of_listed : exec (.sweeperRow region) s = .next (
    let x := s.sweeper region
    let c := s.sweptCell region
    let tbl := s.sweptTbl region
    let e := s.entryAt tbl
    if s.offline c ∨ c / 256 ≠ region.val ∨ s.qrowsM1 c (s.sweptQueue region) < x.row then
      s.setSweeper region { x with entry := x.entry + 1, row := 0 }
    else if s.rowRefused tbl e ∨ Entry.plastic e = false then s.setSweeper region { x with row := x.row + 1 }
    else if s.rowBusy c (Entry.addr e) then s
    else (s.sweepRow region c tbl).setSweeper region { x with row := x.row + 1 }) := by
  change execSweeperRow region s = _
  rw [execSweeperRow, if_neg (by simp [hruns, hbusy, hmore])]
  simp only [apply_ite Host.Outcome.next]
  rfl

theorem exec_sweeperRow_of_past (hpast : s.qrowsM1 (s.sweptCell region) (s.sweptQueue region) < (s.sweeper region).row) :
    exec (.sweeperRow region) s = .next (s.setSweeper region
      { s.sweeper region with entry := (s.sweeper region).entry + 1, row := 0 }) :=
  (exec_sweeperRow_of_listed hruns hbusy hmore).trans (congrArg Host.Outcome.next (if_pos (.inr (.inr hpast))))

section
variable (hserves : s.offline (s.sweptCell region) = false) (hregion : s.sweptCell region / 256 = region.val)
  (hrow : (s.sweeper region).row ≤ s.qrowsM1 (s.sweptCell region) (s.sweptQueue region))
  (hgood : s.rowRefused (s.sweptTbl region) (s.entryAt (s.sweptTbl region)) = false)
  (hplastic : Entry.plastic (s.entryAt (s.sweptTbl region)) = true)
include hserves hregion hrow hgood hplastic

theorem exec_sweeperRow_of_held
    (hheld : s.rowBusy (s.sweptCell region) (Entry.addr (s.entryAt (s.sweptTbl region))) = true) :
    exec (.sweeperRow region) s = .next s :=
  (exec_sweeperRow_of_listed hruns hbusy hmore).trans (congrArg Host.Outcome.next
    ((if_neg (by simp [hserves, hregion, hrow])).trans ((if_neg (by simp [hgood, hplastic])).trans (if_pos hheld))))

theorem exec_sweeperRow_of_free
    (hfree : s.rowBusy (s.sweptCell region) (Entry.addr (s.entryAt (s.sweptTbl region))) = false) :
    exec (.sweeperRow region) s = .next ((s.sweepRow region (s.sweptCell region) (s.sweptTbl region)).setSweeper region
      { s.sweeper region with row := (s.sweeper region).row + 1 }) :=
  (exec_sweeperRow_of_listed hruns hbusy hmore).trans (congrArg Host.Outcome.next
    ((if_neg (by simp [hserves, hregion, hrow])).trans ((if_neg (by simp [hgood, hplastic])).trans
      (if_neg (ne_true_of_eq_false hfree)))))

end

end

/-! ### SWEEPER_PASS_DONE (R280, R283, R292) -/

/-- A pass of a length in steps is counted and reported on the page of its region. -/
def passShown (s : State) (r steps : Nat) : State :=
  let t := ((s.setReg (Page.lrnRegion r) Reg.LRN_RSW_PASS_STEPS (BitVec.ofNat 32 (min 65535 steps))).count
    (Page.lrnRegion r) Reg.LRN_RSW_PASSES 1).setInt (Page.lrnRegion r) 0
  if 64 < steps + t.ageSteps then t.setErr (Page.lrnRegion r) 0 else t

theorem only.passShown (h : s.only t l) {r steps : Nat} (hl : Part.regs ∈ l := by decide) :
    s.only (t.passShown r steps) l :=
  .branch ((((h.setReg hl).count hl).setInt hl).setErr hl) (((h.setReg hl).count hl).setInt hl)

theorem steps_passShown (s : State) (r steps : Nat) :
    ((s.passShown r steps).reg (Page.lrnRegion r) Reg.LRN_RSW_PASS_STEPS).toNat = min 65535 steps := by
  unfold passShown
  dsimp only
  split <;> simp [setErr, setInt, orReg, State.count, reg_setReg_off]

theorem int_passShown (s : State) (r steps : Nat) :
    bit ((s.passShown r steps).reg (Page.lrnRegion r) Reg.PG_INT) 0 = true := by
  unfold passShown
  dsimp only
  split
  · rw [setErr, orReg, reg_setReg_off (by decide), bit_setInt (by decide)]
  · exact bit_setInt (by decide)

/-- The pages of the regions lie above the chip's LRN page. -/
theorem lrn_ne_lrnRegion (r : Nat) : Page.lrn ≠ Page.lrnRegion r := by
  simp only [Page.lrnRegion, Page.region, Page.lrn]
  omega

theorem reg_passShown_lrn (s : State) (r steps : Nat) {off : Nat} (ho : off < 4096) :
    (s.passShown r steps).reg Page.lrn off = s.reg Page.lrn off := by
  have hpage : ∀ {t : State} {o : Nat} {v : W32}, o < 4096 →
      (t.setReg (Page.lrnRegion r) o v).reg Page.lrn off = t.reg Page.lrn off := reg_setReg_page (lrn_ne_lrnRegion r) ho
  unfold passShown
  dsimp only
  split
  · exact (hpage (by decide)).trans ((hpage (by decide)).trans ((hpage (by decide)).trans (hpage (by decide))))
  · exact (hpage (by decide)).trans ((hpage (by decide)).trans (hpage (by decide)))

theorem epoch_passShown (s : State) (r steps : Nat) : (s.passShown r steps).epoch = s.epoch := by
  rw [epoch, reg64, reg_passShown_lrn s r steps (by decide), reg_passShown_lrn s r steps (by decide)]
  rfl

theorem only.markSweep (h : s.only t l) {r : Nat} (hl : Part.regs ∈ l := by decide) : s.only (t.markSweep r) l :=
  .branch ((h.orReg hl).orReg hl) (h.orReg hl)

theorem bit_markSweep (s : State) {r : Nat} (hr : r < 32) :
    bit ((s.markSweep r).reg Page.lrn Reg.LRN_SWEEP_DONE) r = true := by
  have hset := bit_or_bitWord (s.reg Page.lrn Reg.LRN_SWEEP_DONE) hr
  unfold markSweep
  dsimp only
  split
  · rw [orReg, reg_setReg_same, orReg, reg_setReg_same, bit, BitVec.getLsbD_or]
    exact Bool.or_eq_true_iff.mpr (.inl hset)
  · rw [orReg, reg_setReg_same]
    exact hset

theorem reg_markSweep {p r off : Nat} (hp : p ≠ Page.lrn) (ho : off < 4096) :
    (s.markSweep r).reg p off = s.reg p off := by
  unfold markSweep
  dsimp only
  split
  · exact (reg_setReg_page hp ho (by decide)).trans (reg_setReg_page hp ho (by decide))
  · exact reg_setReg_page hp ho (by decide)

/-- The registers at the end of the pass of a region: one that began in the epoch that is open marks the region. -/
def passEnded (s : State) (r : Nat) : State :=
  let x := s.sweeper r
  let t := s.passShown r (s.stepNo - x.began)
  if x.epoch = t.epoch then t.markSweep r else t

theorem reg_passEnded (s : State) (r : Nat) {off : Nat} (ho : off < 4096) : (s.passEnded r).reg (Page.lrnRegion r) off
    = (s.passShown r (s.stepNo - (s.sweeper r).began)).reg (Page.lrnRegion r) off := by
  unfold passEnded
  dsimp only
  split
  · exact reg_markSweep (lrn_ne_lrnRegion r).symm ho
  · rfl

theorem bit_passEnded {r : Nat} (hr : r < 32) (hepoch : (s.sweeper r).epoch = s.epoch) :
    bit ((s.passEnded r).reg Page.lrn Reg.LRN_SWEEP_DONE) r = true := by
  unfold passEnded
  dsimp only
  rw [if_pos (by rw [epoch_passShown, hepoch])]
  exact bit_markSweep _ hr

theorem only_passEnded (s : State) (r : Nat) : s.only (s.passEnded r) [.regs] :=
  .branch (only_refl s _).passShown.markSweep (only_refl s _).passShown

theorem exec_sweeperPassDone_of_end (hruns : s.runs (3 + region) = true) (hbusy : (s.sweeper region).busy = true)
    (hend : s.sweepCount region ≤ (s.sweeper region).entry) (hdue : (s.sweeper region).due = false) :
    exec (.sweeperPassDone region) s = .next ((s.passEnded region).setSweeper region
      { s.sweeper region with busy := false, due := false, done := (s.sweeper region).epoch + 1 }) := by
  change execSweeperPassDone region s = _
  rw [execSweeperPassDone, if_neg (by simp [hruns, hbusy, hend])]
  simp only [hdue, Bool.false_eq_true, if_false]
  rfl

/-! ### RULESET_WRITE and CKPT_BASE_WRITE (R269, R289) -/

theorem exec_rulesetWrite_of_takes {r : Requester} {off : Nat} {v : W32} (hlo : Reg.LRN_RULESET ≤ off)
    (hhi : off < Reg.LRN_RULESET + 0x100) (halign : off % 4 = 0) (htakes : s.takes r Page.lrn off) :
    exec (.rulesetWrite r off v) s = .next (
      if (off / 4 % 4 = 1 ∧ fld v 10 9 = 3) ∨ (off / 4 % 4 = 2 ∧ bit v 15 = true) then s.setErr Page.lrn 0
      else if s.running = false then s.setReg Page.lrn off (v &&& ruleMask (off / 4 % 4))
      else ({ s with learn := { s.learn with
        posts := s.learn.posts ++ [(off, v &&& ruleMask (off / 4 % 4))] } }).posted r) := by
  change execRulesetWrite r off v s = _
  rw [execRulesetWrite, if_neg (by omega)]
  exact congrArg Host.Outcome.next (ifAdmit_of_takes htakes _)

theorem learn_posted (s : State) (r : Requester) : (s.posted r).learn = s.learn := by
  unfold posted
  split <;> rfl

theorem exec_ckptBaseWrite_of_takes {r : Requester} {v : W64} (htakes : s.takes r Page.lrn Reg.LRN_CKPT_BASE) :
    exec (.ckptBaseWrite r v) s = .next (
      let b := bitsOf v.toNat 35 20 * 2 ^ 20
      let lo := s.reg64 (Page.die 0) Reg.DRM_SYN_BASE
      let hi := s.reg64 (Page.die 0) Reg.DRM_SYN_LIMIT
      if dramBytes s.grade < b + 2 * 0xE000000 ∨ (lo < hi ∧ lo < b + 2 * 0xE000000 ∧ b < hi) then s.setErr Page.lrn 1
      else s.setReg64 Page.lrn Reg.LRN_CKPT_BASE b) :=
  congrArg Host.Outcome.next (ifAdmit_of_takes htakes _)

end State

/-- Settles O38: a row that needs nothing is two reads; a pass ends in registers of its region and a mark of the chip; a
checkpoint's slots lie in its two buffers; a taken write is one error bit, one register, or one post. -/
theorem learningEnginesAct : Obligations.LearningEnginesAct := by
  intro s
  refine ⟨fun region hruns => ?sweeper, fun k hckpt hbuf hclock => ?checkpoint,
    fun r off v hlo hhi halign htakes => ?ruleset, fun r v htakes => ?base⟩
  case sweeper =>
    intro x hbusy
    refine ⟨fun hmore => ⟨fun hpast => ?past, fun hserves hregion hrow hgood hplastic =>
      ⟨fun hheld => ?held, fun hfree hstamp hage => ?young⟩⟩, fun hend hdue => ?passDone⟩
    case past =>
      refine ⟨_, State.exec_sweeperRow_of_past hruns hbusy hmore hpast, ?_, ?_, (State.only_refl s _).setSweeper⟩
      · rw [State.sweeper_setSweeper_same]
      · rw [State.sweeper_setSweeper_same]
    case held =>
      exact ⟨s, State.exec_sweeperRow_of_held hruns hbusy hmore hserves hregion hrow hgood hplastic hheld, rfl⟩
    case young =>
      have hexec := State.exec_sweeperRow_of_free hruns hbusy hmore hserves hregion hrow hgood hplastic hfree
      have hsweep : s.sweepRow region (s.sweptCell region) (s.sweptTbl region) = _ := State.sweepRow_of_young hstamp hage
      rw [hsweep] at hexec
      refine ⟨_, hexec, ?_, ?_, (State.only_refl s _).pushReqs.pushReqs.setSweeper⟩
      · rw [State.sweeper_setSweeper_same]
      · rw [State.sweeper_setSweeper_same]
    case passDone =>
      refine ⟨_, State.exec_sweeperPassDone_of_end hruns hbusy hend hdue, ?_, ?_, ?_, ?_,
        State.bit_passEnded (Nat.lt_trans region.isLt (by decide)), ((s.only_passEnded region).mono (by decide)).setSweeper⟩
      · rw [State.sweeper_setSweeper_same]
      · rw [State.sweeper_setSweeper_same]
      · exact (congrArg BitVec.toNat (s.reg_passEnded region (by decide))).trans (s.steps_passShown _ _)
      · exact (congrArg (bit · 0) (s.reg_passEnded region (by decide))).trans (s.int_passShown _ _)
  case checkpoint =>
    have hstores := State.StoresIn.writeSlots s hbuf
    have hfinish := (s.writeSlots k).only_finishCheckpoint k
    exact ⟨_, State.exec_checkpointComplete_of_due hckpt hclock, rfl, State.last_finishCheckpoint _ hbuf,
      State.done_finishCheckpoint _ k, State.bytesBut_congr rfl (hfinish .mem (by decide)) hstores.bytes,
      (congrArg CellsState.neurons (hfinish .cells (by decide))).trans hstores.neurons,
      (hstores.parts.mono (by decide)).trans hfinish⟩
  case ruleset =>
    intro bad
    have hexec := State.exec_rulesetWrite_of_takes (v := v) hlo hhi halign htakes
    refine ⟨fun hbad => ?refused, fun hgood hstop => ?stored, fun hgood hrun => ?waits⟩
    case refused => exact ⟨_, hexec.trans (congrArg Host.Outcome.next (if_pos hbad)), s.setErr_onlyErr (by decide)⟩
    case stored =>
      have hoff : off < 4096 := Nat.lt_trans hhi (by decide)
      exact ⟨_, hexec.trans (congrArg Host.Outcome.next ((if_neg hgood).trans (if_pos hstop))), s.reg_setReg_same _ _ _,
        (State.only_refl s _).setReg, State.regsBut_setReg (State.regsBut_refl s _) hoff (by simp) _⟩
    case waits =>
      exact ⟨_, hexec.trans (congrArg Host.Outcome.next ((if_neg hgood).trans (if_neg (by simp [hrun])))),
        congrArg LearnState.posts (State.learn_posted _ r), State.mem_posters_posted _ r,
        (State.only_refl s _).learn.posted⟩
  case base =>
    intro b
    have hexec := State.exec_ckptBaseWrite_of_takes (v := v) htakes
    refine ⟨fun hlarge => ?refused, fun hfits hnone => ?stored⟩
    case refused =>
      exact ⟨_, hexec.trans (congrArg Host.Outcome.next (if_pos (.inl hlarge))), s.setErr_onlyErr (by decide)⟩
    case stored =>
      have hb : b < 2 ^ 64 := by
        have hfield : bitsOf v.toNat 35 20 < 2 ^ 16 := Nat.mod_lt _ (by decide)
        omega
      exact ⟨_, hexec.trans (congrArg Host.Outcome.next (if_neg (by omega))),
        State.reg64_setReg64_same.trans (Nat.mod_eq_of_lt hb), (State.only_refl s _).setReg64,
        State.regsBut_setReg (State.regsBut_setReg (State.regsBut_refl s _) (by decide) (by simp) _) (by decide)
          (by simp) _⟩

end Sys2Proof.Machine
end

section
/-! # What the operations of an array compute and change -/
namespace Sys2Proof.Machine
open Sys2Proof

/-- What an operation may change beside O: registers and generators of its sites, free values, and what SPK_EMIT sends. -/
def opParts : List Part := [.cells, .fabric, .fresh, .regs, .step]

namespace State.only

variable {s t : State} {l : List Part}

theorem branchSnd {α : Type} {c : Prop} [Decidable c] {a b : α × State} (ha : s.only a.2 l) (hb : s.only b.2 l) :
    s.only (if c then a else b).2 l := by
  by_cases hc : c <;> simpa [hc]

theorem fresh (h : s.only t l) {n : Nat} (hl : Part.fresh ∈ l := by decide) : s.only { t with fresh := n } l :=
  h.change .fresh (fun y hy => by cases y <;> simp_all [Part.same]) hl

/-! ### Conversions of results (R310) -/

section

variable {k site : Nat} {j : PltJob} (h : s.only t opParts)
include h

theorem siteConvSr {page f : Nat} {x : Num} {sr : Bool} : s.only (t.siteConvSr page site f x sr).2 opParts := by
  cases sr with
  | false => exact h.siteConv
  | true => exact (h.cells (x := { t.cells with lfsr := _ })).countConv

theorem pltScaled {f : Nat} {mult exp : Int} {sr : Bool} {x : Num} :
    s.only (t.pltScaled k site f mult exp sr x).2 opParts :=
  .branchSnd h.fresh h.siteConvSr

theorem pltOut {sr : Bool} {l : List Num} : s.only (t.pltOut k j site sr l).2 opParts :=
  h.mapState fun hu => hu.pltScaled

theorem pltSend {e : Nat} {g : Num} : s.only (t.pltSend k j e g).2 opParts :=
  .branchSnd h h.pltScaled

/-- An element of SPK_EMIT is dropped, counted as a NaN, or tested by the operation's mode. -/
theorem emitElem {e st : Nat} {v : Num} : s.only (t.emitElem k j e v st).2 opParts :=
  have hnan : s.only (t.count (Page.plt k) Reg.SAT_NAN 1) opParts := h.count
  have hsend : ∀ g, s.only (t.pltSend k j e g).2 opParts := fun _ => h.pltSend
  .branchSnd h <| .branchSnd hnan <| .branchSnd (.branchSnd (hsend _) h) <|
    .branchSnd (.branchSnd (hsend _) h) (.branchSnd (hsend _) h)

end

end State.only

/-! ### The operations (R309, R310, R316, R317) -/

/-- The operation ends with OK, or with SHAPE, and changes no more than an operation may. -/
structure State.Operates (s : State) (r : PltResult × State) : Prop where
  ends : r.1.1 = 0 ∨ r.1.1 = 3
  parts : s.only r.2 opParts

namespace State.Operates

variable {s : State} {k : Nat} {j : PltJob} {x : PltIn} {order : List Nat}

theorem ok {out : Option (List Nat)} {t : State} (h : s.only t opParts) : s.Operates ((0, out), t) := ⟨.inl rfl, h⟩

theorem branch {c : Prop} [Decidable c] {a b : PltResult × State} (ha : s.Operates a) (hb : s.Operates b) :
    s.Operates (if c then a else b) := by
  by_cases hc : c <;> simpa [hc]

theorem pltDot {ts : List (List (Nat × Nat))} {old : Option (List Num)} : s.Operates (s.pltDot k j x order ts old) :=
  have hs : s.only s opParts := State.only_refl s _
  .branch (.ok hs.pltOut) (.ok (hs.mapState fun hu => hu.siteInt).pltOut)

theorem pltFft : s.Operates (pltFft k j x s) := .ok (State.only_refl s _).fresh.pltOut
theorem pltElt : s.Operates (pltElt k j x s) := .ok (State.only_refl s _).pltOut
theorem pltReduce : s.Operates (pltReduce order k j x s) := .ok (State.only_refl s _).pltOut
theorem pltExpNorm : s.Operates (pltExpNorm order k j x s) := .ok (State.only_refl s _).fresh.pltOut
theorem pltRequant {site : Nat} : s.Operates (pltRequant site k j x s) := .ok (State.only_refl s _).pltOut
theorem pltSgd : s.Operates (pltSgd k j x s) := .ok (State.only_refl s _).pltOut
theorem pltSurrogate : s.Operates (pltSurrogate k j x s) := .ok (State.only_refl s _).fresh.pltOut

/-- Only a gather list that does not fit ends with SHAPE (R316). -/
theorem pltGather : s.Operates (pltGather k j x s) :=
  have hs : s.only s opParts := State.only_refl s _
  .branch ⟨.inr rfl, hs⟩ <| .branch (.ok hs.pltOut) <|
    .branch (.ok (hs.mapState fun hu => hu.siteConv)) (.ok (hs.mapState fun hu => hu.siteInt))

theorem pltEmit : s.Operates (pltEmit k j x s) :=
  have hs : s.only s opParts := State.only_refl s _
  .ok ((hs.mapState fun hu => hu.emitElem).count.foldl fun _ hu => hu.sendNode)

end State.Operates

/-! ### Jobs -/

namespace State

variable {s : State} {k : Nat} {j : PltJob} {go : Nat → PltJob → PltIn → State → PltResult × State} {y : PltOperand}

/-- A job whose formats the operation does not take ends with FORMAT before it touches memory (R305). -/
theorem pltWork_of_format (h : j.formatOk = false) : s.pltWork k j go = (1, s) := by
  simp [pltWork, pltRefusal, h]

theorem poison_sramStore_of_clean (h : s.poison = []) (a : Nat) (l : List Byte) : (s.sramStore a l).poison = [] := by
  have hbytes : (s.setBytes a l).poison = s.poison :=
    ((State.only_refl s [.mem]).setBytes (b := l) (a := a)) .poison (by decide)
  refine List.foldlRecOn (motive := fun t : State => t.poison = []) _ _ (hbytes.trans h) fun t ht i _ => ?_
  dsimp only
  split
  · simp [cleanAt, setDel, ht]
  · exact ht

/-- O in clean SRAM takes its elements, and nothing but memory changes. -/
theorem only_writeElems_of_clean (hy : y.addr < Base.dram) (hp : s.poison = []) (l : List Nat) :
    s.only (s.writeElems k y l) [.mem] := by
  rw [writeElems_of_sram hy]
  have hstore : s.only (s.sramStore y.addr (s.tensorBytes y l)) [.mem, .poison] := (State.only_refl s _).sramStore
  intro p hmem
  by_cases hpoison : p = .poison
  · subst hpoison
    exact (poison_sramStore_of_clean hp _ _).trans hp.symm
  · exact hstore p (by simp_all)

theorem fst_pltDone : (s.pltDone k j go).1 = (go k j (s.pltIn j.operands) s).1.1 := by
  simp only [pltDone]
  split <;> rfl

theorem snd_pltDone_of_some {l : List Nat} (ho : j.operands.o = some y)
    (hl : (go k j (s.pltIn j.operands) s).1.2 = some l) :
    (s.pltDone k j go).2 = (go k j (s.pltIn j.operands) s).2.writeElems k y l := by
  simp only [pltDone, ho, hl]

theorem snd_pltDone_of_none (ho : j.operands.o = none) :
    (s.pltDone k j go).2 = (go k j (s.pltIn j.operands) s).2 := by
  simp only [pltDone, ho]

section

variable (hin : j.inSram k) (hk : k < 4) (hgo : s.Operates (go k j (s.pltIn j.operands) s))
include hin hk hgo

theorem only_pltDone (hp : s.poison = []) : s.only (s.pltDone k j go).2 (.mem :: opParts) := by
  have hparts : s.only (go k j (s.pltIn j.operands) s).2 (.mem :: opParts) :=
    hgo.parts.mono fun _ => List.mem_cons_of_mem _
  unfold pltDone
  dsimp only
  split
  · next y l ho hl =>
    have hlow : y.addr < Base.dram := ((hin y (by simp [PltOperands.all, ho])).below_dram hk).2
    have hclean := (hgo.parts .poison (by decide)).trans hp
    exact hparts.trans (only_writeElems_of_clean hlow hclean l)
  · exact hparts

/-- O reads back as the elements that the operation gives it, and no other byte changes. -/
theorem readElems_pltDone {l : List Nat} (ho : j.operands.o = some y) (hl : (go k j (s.pltIn j.operands) s).1.2 = some l)
    (hlen : l.length = y.count) (hcodes : ∀ c ∈ l, c < 2 ^ y.width) :
    (s.pltDone k j go).2.readElems y = l ∧ s.bytesBut (s.pltDone k j go).2 y.addr y.bytes := by
  have hlow : y.addr < Base.dram := ((hin y (by simp [PltOperands.all, ho])).below_dram hk).2
  have hmem := hgo.parts .mem (by decide)
  rw [snd_pltDone_of_some ho hl]
  exact ⟨readElems_writeElems hlow hlen hcodes, bytesBut_congr hmem.symm rfl (bytesBut_writeElems hlow)⟩

end

end State

/-- Settles O39: a job that its formats refuse does no work; any other one runs its operation, since its operands lie in the
array's own SRAM and are clean, and the operation itself changes neither memory nor the arrays. -/
theorem plateauOperationsRun : Obligations.PlateauOperationsRun := by
  intro s plt order m op go j hwhich hjob hop hstatus hruns hon hheld x
  obtain ⟨hexec, hgo⟩ : exec m s = .next (s.pltRun plt op go) ∧ ∀ x, s.Operates (go plt j x s) := by
    rcases hwhich with ⟨rfl, rfl, rfl⟩ | ⟨rfl, rfl, rfl⟩ | ⟨rfl, rfl, rfl⟩ | ⟨rfl, rfl, rfl⟩ | ⟨rfl, rfl, rfl⟩
      | ⟨rfl, rfl, rfl⟩ | ⟨rfl, rfl, rfl⟩ | ⟨rfl, rfl, rfl⟩ | ⟨rfl, rfl, rfl⟩ | ⟨rfl, rfl, rfl⟩ | ⟨rfl, rfl, rfl⟩
      | ⟨rfl, rfl, rfl⟩ | ⟨rfl, rfl, rfl⟩ | ⟨rfl, rfl, rfl⟩
    · exact ⟨rfl, fun _ => .ok (State.only_refl s _)⟩
    · exact ⟨rfl, fun _ => .pltDot⟩
    · exact ⟨rfl, fun _ => .pltDot⟩
    · exact ⟨rfl, fun _ => .pltDot⟩
    · exact ⟨rfl, fun _ => .pltFft⟩
    · exact ⟨rfl, fun _ => .pltElt⟩
    · exact ⟨rfl, fun _ => .pltReduce⟩
    · exact ⟨rfl, fun _ => .pltExpNorm⟩
    · exact ⟨rfl, fun _ => .pltRequant⟩
    · exact ⟨rfl, fun _ => .pltRequant⟩
    · exact ⟨rfl, fun _ => .pltGather⟩
    · exact ⟨rfl, fun _ => .pltEmit⟩
    · exact ⟨rfl, fun _ => .pltSgd⟩
    · exact ⟨rfl, fun _ => .pltSurrogate⟩
  have hrun {st t} (hwork : s.pltWork plt j go = (st, t)) :=
    hexec.trans (congrArg Host.Outcome.next (State.pltRun_of_job hjob hruns hon hop hstatus hheld hwork))
  refine ⟨fun hformat => ?refused, fun hformat hshape hpoison hsram => ?run⟩
  case refused =>
    refine ⟨_, hrun (State.pltWork_of_format hformat), ?_, ?_, State.only_setPlt (State.only_refl s _) (by decide) _ _⟩
    · rw [State.plt_setPlt_same]
    · rw [State.plt_setPlt_same]
  case run =>
    have hin : j.inSram plt := hsram
    have hdone := hgo (s.pltIn x)
    have hparts := State.only_pltDone hin plt.isLt hdone hpoison
    have hst : (s.pltDone plt j go).1 = (go plt j (s.pltIn x) s).1.1 := State.fst_pltDone
    have hwork : s.pltWork plt j go = ((s.pltDone plt j go).1, (s.pltDone plt j go).2) :=
      State.pltWork_of_inSram hin plt.isLt hformat hshape hpoison go
    refine ⟨_, hrun hwork, ?status, hdone.ends,
      fun y l ho hl hlen hcodes => ?written, fun ho => ?unwritten,
      State.only_setPlt (hparts.mono (by decide)) (by decide) _ _⟩
    case status =>
      rw [State.plt_setPlt_same]
      exact congrArg (fun st => some { j with status := some st }) hst
    case written =>
      obtain ⟨hread, hbytes⟩ := State.readElems_pltDone hin plt.isLt hdone ho hl hlen hcodes
      exact ⟨hread, hbytes⟩
    case unwritten =>
      change (s.pltDone plt j go).2.mem = s.mem
      rw [State.snd_pltDone_of_none ho]
      exact hdone.parts .mem (by decide)

end Sys2Proof.Machine
end

section
/-! # How the jobs of an array end, yield and are aborted -/
namespace Sys2Proof.Machine
open Sys2Proof

theorem plt_ne_bank {k : Nat} (hk : k < 4) (b : Nat) : Page.plt k ≠ Page.bank b := by
  simp only [Page.plt, Page.bank, Page.region]
  omega

namespace State

variable {s t u : State} {k : Nat} {j : PltJob} {l : List Nat}

/-! ### The registers of one page -/

/-- Of the registers of a page, only those at the listed offsets may differ. -/
def pageBut (s t : State) (p : Nat) (l : List Nat) : Prop := ∀ off, off < 4096 → off ∉ l → t.reg p off = s.reg p off

namespace pageBut

variable {p off n b : Nat}

theorem refl (s : State) (p : Nat) (l : List Nat) : s.pageBut s p l := fun _ _ _ => rfl

variable (h : s.pageBut t p l)
include h

theorem mono {m : List Nat} (hm : ∀ x, x ∈ l → x ∈ m) : s.pageBut t p m :=
  fun off ho hn => h off ho fun hl => hn (hm off hl)

theorem branch {c : Prop} [Decidable c] (hu : s.pageBut u p l) : s.pageBut (if c then t else u) p l := by
  by_cases hc : c <;> simpa [hc]

theorem setReg {v : W32} (hl : off ∈ l := by decide) : s.pageBut (t.setReg p off v) p l := fun o ho hn => by
  have hne : o ≠ off := fun he => hn (he ▸ hl)
  rw [reg_setReg_off hne, h o ho hn]

theorem setReg_page {q : Nat} {v : W32} (hq : p ≠ q) (ho : off < 4096 := by decide) : s.pageBut (t.setReg q off v) p l :=
  fun o ho' hn => by rw [reg_setReg_page hq ho' ho, h o ho' hn]

theorem count (hl : off ∈ l := by decide) : s.pageBut (t.count p off n) p l := h.setReg hl
theorem setInt (hl : Reg.PG_INT ∈ l := by decide) : s.pageBut (t.setInt p b) p l := h.setReg hl

theorem countInt (hl : off ∈ l := by decide) (hi : Reg.PG_INT ∈ l := by decide) : s.pageBut (t.countInt p off b n) p l :=
  .branch h ((h.count hl).setInt hi)

theorem tarnRefuse (hp : p ≠ Page.bank b) : s.pageBut (t.tarnRefuse b).2 p l :=
  ((h.setReg_page hp).setReg_page hp).setReg_page hp

theorem sramStore {a : Nat} {d : List Byte} : s.pageBut (t.sramStore a d) p l := fun o ho hn => by
  have hregs : (t.sramStore a d).regs = t.regs :=
    ((State.only_refl t [.mem, .poison]).sramStore (a := a) (d := d)) .regs (by decide)
  rw [reg, hregs]
  exact h o ho hn

end pageBut

theorem reg_setPlt (s : State) (k : Nat) (x : PltState) (p off : Nat) : (s.setPlt k x).reg p off = s.reg p off := rfl
theorem plt_setReg (s : State) (p off : Nat) (v : W32) (k : Nat) : (s.setReg p off v).plt k = s.plt k := rfl

theorem plt_congr (h : t.plts = s.plts) (k : Nat) : t.plt k = s.plt k := by rw [plt, h, plt]

theorem only.setPlt {l : List Part} (h : s.only t l) {x : PltState} (hl : Part.plts ∈ l := by decide) :
    s.only (t.setPlt k x) l :=
  only_setPlt h hl k x

/-! ### The next job (R300, R303) -/

theorem pltReady_of_empty (h : (s.plt k).program = []) : s.pltReady k = false := by simp [pltReady, h]

/-- An array without step-program jobs whose ring is off starts nothing. -/
theorem pltStart_of_idle (hprogram : (s.plt k).program = []) (hoff : bit (s.reg (Page.plt k) Reg.PLT_CTRL) 1 = false) :
    s.pltStart k = s := by
  unfold pltStart
  simp only [pltReady_of_empty hprogram, hoff, Bool.false_eq_true, if_false, if_true, ite_self]

/-- A change that leaves PLT_CTRL leaves such an array idle. -/
theorem pltStart_of_pageBut (hprogram : (t.plt k).program = []) (hpage : s.pageBut t (Page.plt k) l)
    (hoff : bit (s.reg (Page.plt k) Reg.PLT_CTRL) 1 = false) (hn : Reg.PLT_CTRL ∉ l := by decide) : t.pltStart k = t :=
  pltStart_of_idle hprogram (by rw [hpage Reg.PLT_CTRL (by decide) hn, hoff])

theorem pltStart_of_busy (h : (s.plt k).job = some j) : s.pltStart k = s := by
  unfold pltStart
  dsimp only
  exact if_pos (by simp [h])

/-- An idle array that may run starts the first job of the step program once that job is ready. -/
theorem pltStart_of_ready (hjob : (s.plt k).job = none) (hruns : s.runs (139 + k) = true)
    (hpresent : presentIn s.grade (Page.plt k) = true) (hon : s.enabled (Page.plt k) = true)
    (hgood : s.faulted (Page.plt k) = false) (hready : s.pltReady k = true) :
    s.pltStart k
      = s.setPlt k { s.plt k with job := (s.plt k).program.head?, program := (s.plt k).program.drop 1 } := by
  unfold pltStart
  dsimp only
  rw [if_neg (by simp [hjob, hruns, hpresent, hon, hgood]), if_pos hready]

/-! ### The end of a job (R305, R321) -/

/-- The registers of the array's page that note the end of a job before it is counted as done. -/
def endRegs : List Nat :=
  [Reg.PLT_BUSY_CYC, Reg.PLT_JOB_ERR, Reg.PLT_LAST_STATUS, Reg.PG_INT, Reg.PLT_CQ_LOST, Reg.PLT_CQ_TAIL]

/-- The DRAM requests of a job are dropped. -/
def dropReqs (s : State) (k : Nat) (j : PltJob) : State :=
  { s with dram := { s.dram with reqs := s.dram.reqs.filter (fun q => !(q.who == pltWho k && q.item == j.id)) } }

/-- A job's requests are dropped, its cycles and status noted, and its completion record posted. -/
def pltNoted (s : State) (k : Nat) (j : PltJob) (st cycles : Nat) : State :=
  let pg := Page.plt k
  let s := (s.dropReqs k j).count pg Reg.PLT_BUSY_CYC cycles
  let s := if st = 0 then s
           else ((s.count pg Reg.PLT_JOB_ERR 1).setInt pg 1).setReg pg Reg.PLT_LAST_STATUS
             (BitVec.ofNat 32 (st * 2 ^ 28 + (if j.ring then 2 ^ 27 else 0) + j.op * 2 ^ 21 + j.index % 65536))
  let s := if j.irq then s.setInt pg 0 else s
  if j.ring || j.irq || st != 0 then s.pltRecord k j st cycles else s

section

variable {st cycles : Nat}

theorem pltEnd_of_ring (h : j.ring = true) : s.pltEnd k j st cycles
    = let u := s.pltNoted k j st cycles
      ((u.setPlt k { u.plt k with ended := (u.plt k).ended + 1 }).count (Page.plt k) Reg.PLT_DT_DONE 1).setReg (Page.plt k)
        Reg.PLT_DT_HEAD (BitVec.ofNat 32 ((u.regFld (Page.plt k) Reg.PLT_DT_HEAD 11 0 + 1)
          % 2 ^ u.regFld (Page.plt k) Reg.PLT_DT_SIZE 3 0)) :=
  if_pos h

theorem pltEnd_of_program (h : j.ring = false) :
    s.pltEnd k j st cycles = ((s.pltNoted k j st cycles).count (Page.plt k) Reg.PLT_SB_DONE 1).pltProgramEnd k j :=
  if_neg (by simp [h])

theorem only_dropReqs (s : State) (k : Nat) (j : PltJob) : s.only (s.dropReqs k j) [.dram] := only.dram (State.only_refl s _)

theorem only.pltRecord {l : List Part} (h : s.only t l) (hr : Part.regs ∈ l := by decide) (hm : Part.mem ∈ l := by decide)
    (hp : Part.poison ∈ l := by decide) : s.only (t.pltRecord k j st cycles) l := by
  have hstored : ∀ (o : Option Nat) (a : Nat) (d : List Byte), s.only (match o with
      | some b => (t.tarnRefuse b).2
      | none => t.sramStore a d) l
    | some b, _, _ => only_tarnRefuse h hr b
    | none, _, _ => h.sramStore hm hp
  exact .branch (h.countInt hr) ((hstored _ _ _).setReg hr)

theorem pageBut.pltRecord (h : s.pageBut t (Page.plt k) endRegs) (hk : k < 4) :
    s.pageBut (t.pltRecord k j st cycles) (Page.plt k) endRegs := by
  have hstored : ∀ (o : Option Nat) (a : Nat) (d : List Byte), s.pageBut (match o with
      | some b => (t.tarnRefuse b).2
      | none => t.sramStore a d) (Page.plt k) endRegs
    | some b, _, _ => h.tarnRefuse (plt_ne_bank hk b)
    | none, _, _ => h.sramStore
  exact .branch h.countInt ((hstored _ _ _).setReg)

theorem only_pltNoted : s.only (s.pltNoted k j st cycles) [.dram, .regs, .mem, .poison] := by
  unfold pltNoted
  extract_lets pg t₁ t₂ t₃
  have h₁ : s.only t₁ [.dram, .regs, .mem, .poison] := ((s.only_dropReqs k j).mono (by decide)).count
  have h₂ : s.only t₂ [.dram, .regs, .mem, .poison] := .branch h₁ h₁.count.setInt.setReg
  have h₃ : s.only t₃ [.dram, .regs, .mem, .poison] := .branch h₂.setInt h₂
  exact .branch h₃.pltRecord h₃

theorem pageBut_pltNoted (hk : k < 4) : s.pageBut (s.pltNoted k j st cycles) (Page.plt k) endRegs := by
  unfold pltNoted
  extract_lets pg t₁ t₂ t₃
  have hdrop : s.pageBut (s.dropReqs k j) pg endRegs := .refl s _ _
  have h₁ : s.pageBut t₁ pg endRegs := hdrop.count
  have h₂ : s.pageBut t₂ pg endRegs := .branch h₁ h₁.count.setInt.setReg
  have h₃ : s.pageBut t₃ pg endRegs := .branch h₂.setInt h₂
  exact .branch (h₃.pltRecord hk) h₃

/-- A job of the step program that ends well and asks for no interrupt posts no record. -/
theorem only_pltNoted_of_quiet (hring : j.ring = false) (hirq : j.irq = false) :
    s.only (s.pltNoted k j 0 cycles) [.dram, .regs] := by
  have hquiet : s.pltNoted k j 0 cycles = (s.dropReqs k j).count (Page.plt k) Reg.PLT_BUSY_CYC cycles := by
    simp [pltNoted, hring, hirq]
  rw [hquiet]
  exact ((s.only_dropReqs k j).mono (by decide)).count

theorem plt_pltNoted : (s.pltNoted k j st cycles).plt k = s.plt k :=
  plt_congr (only_pltNoted .plts (by decide)) k

theorem regFld_pltNoted (hk : k < 4) (off hi lo : Nat) (ho : off < 4096 := by decide) (hn : off ∉ endRegs := by decide) :
    (s.pltNoted k j st cycles).regFld (Page.plt k) off hi lo = s.regFld (Page.plt k) off hi lo := by
  rw [regFld, pageBut_pltNoted hk off ho hn, regFld]

theorem only.pltProgramEnd {l : List Part} (h : s.only t l) (hl : Part.regs ∈ l := by decide) :
    s.only (t.pltProgramEnd k j) l :=
  .branch h ((h.setReg hl).setReg hl)

theorem pageBut.pltProgramEnd (h : s.pageBut t (Page.plt k) l) (hlast : Reg.PLT_SB_LAST_NS ∈ l := by decide)
    (hmax : Reg.PLT_SB_MAX_NS ∈ l := by decide) : s.pageBut (t.pltProgramEnd k j) (Page.plt k) l :=
  .branch h ((h.setReg hlast).setReg hmax)

/-- A job of the ring that ends counts in PLT_DT_DONE, and the head moves on to the next descriptor. -/
theorem pltEnd_ring_parts (hk : k < 4) (hring : j.ring = true) :
    (s.pltEnd k j st cycles).plt k = { s.plt k with ended := (s.plt k).ended + 1 }
      ∧ s.counted (s.pltEnd k j st cycles) (Page.plt k) Reg.PLT_DT_DONE 1
      ∧ (s.pltEnd k j st cycles).regFld (Page.plt k) Reg.PLT_DT_HEAD 11 0
          = (s.regFld (Page.plt k) Reg.PLT_DT_HEAD 11 0 + 1) % 2 ^ s.regFld (Page.plt k) Reg.PLT_DT_SIZE 3 0 % 4096
      ∧ s.pageBut (s.pltEnd k j st cycles) (Page.plt k) (Reg.PLT_DT_DONE :: Reg.PLT_DT_HEAD :: endRegs)
      ∧ s.only (s.pltEnd k j st cycles) [.plts, .dram, .regs, .mem, .poison] := by
  have hpage : s.pageBut (s.pltNoted k j st cycles) (Page.plt k) endRegs := pageBut_pltNoted hk
  have hfield (x : Nat) : fld (BitVec.ofNat 32 x) 11 0 = x % 4096 := by
    simp only [fld, bitsOf, BitVec.toNat_ofNat, Nat.shiftRight_zero]
    omega
  rw [pltEnd_of_ring hring]
  dsimp only
  refine ⟨?_, ?_, ?_, ?_, (only_pltNoted.mono (by decide)).setPlt.count.setReg⟩
  · rw [plt_setReg, count, plt_setReg, plt_setPlt_same, plt_pltNoted]
  · rw [counted, reg_setReg_off (by decide), count_reg, reg_setPlt, hpage Reg.PLT_DT_DONE (by decide) (by decide)]
  · rw [regFld, reg_setReg_same, hfield, regFld_pltNoted hk Reg.PLT_DT_HEAD, regFld_pltNoted hk Reg.PLT_DT_SIZE]
  · exact pageBut.setReg (pageBut.count (t := State.setPlt _ _ _) (hpage.mono (by decide)))

/-- A job of the step program that ends well and quietly counts in PLT_SB_DONE; its step's figures may follow. -/
theorem pltEnd_program_parts (hk : k < 4) (hring : j.ring = false) (hirq : j.irq = false) :
    s.counted (s.pltEnd k j 0 cycles) (Page.plt k) Reg.PLT_SB_DONE 1
      ∧ s.pageBut (s.pltEnd k j 0 cycles) (Page.plt k)
          (Reg.PLT_SB_DONE :: Reg.PLT_SB_LAST_NS :: Reg.PLT_SB_MAX_NS :: endRegs)
      ∧ s.only (s.pltEnd k j 0 cycles) [.dram, .regs] := by
  have hnoted : s.pageBut (s.pltNoted k j 0 cycles) (Page.plt k) endRegs := pageBut_pltNoted hk
  have hparts := only_pltNoted_of_quiet (s := s) (k := k) (cycles := cycles) hring hirq
  rw [pltEnd_of_program hring]
  refine ⟨?_, ?_, hparts.count.pltProgramEnd⟩
  · have hfigures := (pageBut.refl ((s.pltNoted k j 0 cycles).count (Page.plt k) Reg.PLT_SB_DONE 1) (Page.plt k)
      [Reg.PLT_SB_LAST_NS, Reg.PLT_SB_MAX_NS]).pltProgramEnd (j := j)
    rw [counted, hfigures Reg.PLT_SB_DONE (by decide) (by decide), count_reg,
      hnoted Reg.PLT_SB_DONE (by decide) (by decide)]
  · exact (hnoted.mono (m := Reg.PLT_SB_DONE :: Reg.PLT_SB_LAST_NS :: Reg.PLT_SB_MAX_NS :: endRegs)
      (by decide)).count.pltProgramEnd

end

/-! ### JOB_END -/

section

variable {plt : Fin 4} {st cycles : Nat}

theorem exec_jobEnd_of_status (hjob : (s.plt plt).job = some j) (hstatus : j.status = some st)
    (hruns : s.runs (139 + plt) = true) (hserved : s.dram.reqs = []) : exec (.jobEnd plt cycles) s
      = .next (((s.pltClear plt).pltEnd plt j st (if st = 0 then max cycles (pltCycles j) else cycles)).pltStart plt) := by
  change execJobEnd plt cycles s = _
  simp [execJobEnd, hjob, hstatus, hruns, hserved]

theorem plt_pltClear (s : State) (k : Nat) : (s.pltClear k).plt k = { s.plt k with job := none } := plt_setPlt_same _ _ _

end

/-! ### Preemption (R303) -/

/-- A detached job at a preemption point is set aside. -/
def preempted (s : State) (k : Nat) (j : PltJob) : State :=
  (s.setPlt k { s.plt k with job := none, held := some j }).count (Page.plt k) Reg.PLT_PREEMPT 1

theorem plt_preempted : (s.preempted k j).plt k = { s.plt k with job := none, held := some j } := by
  rw [preempted, count, plt_setReg, plt_setPlt_same]

/-- Only the counter of preemptions differs in the registers. -/
theorem regsBut_preempted (s : State) (k : Nat) (j : PltJob) : s.regsBut (s.preempted k j) [(Page.plt k, Reg.PLT_PREEMPT)] :=
  regsBut_count (t := s.setPlt k _) (fun _ _ _ _ => rfl) (by decide) (by simp)

theorem only_preempted (s : State) (k : Nat) (j : PltJob) : s.only (s.preempted k j) [.plts, .regs] :=
  (State.only_refl s _).setPlt.count

theorem reg_preempted {q off : Nat} (hq : q ≠ Page.plt k) (ho : off < 4096) : (s.preempted k j).reg q off = s.reg q off :=
  regsBut_preempted s k j q off ho (by simp [hq])

/-- Whether a clock domain runs does not depend on the arrays. -/
theorem runs_preempted (hk : k < 4) (d : Nat) : (s.preempted k j).runs d = s.runs d := by
  have hfrz : (s.preempted k j).reg Page.frz Reg.FRZ_STAT = s.reg Page.frz Reg.FRZ_STAT :=
    reg_preempted (by simp only [Page.plt, Page.frz]; omega) (by decide)
  have hpower : (s.preempted k j).power = s.power := only_preempted s k j .power (by decide)
  have hpll : ∀ x, x < 8 → (s.preempted k j).reg Page.clk (Reg.CLK_PLLn_STAT + 8 * (x - 1))
      = s.reg Page.clk (Reg.CLK_PLLn_STAT + 8 * (x - 1)) := fun x hx =>
    reg_preempted (by simp only [Page.plt, Page.clk]; omega) (by simp only [Reg.CLK_PLLn_STAT]; omega)
  have hdomain : (s.preempted k j).domain d = s.domain d := by rw [domain, hpower, domain]
  have hlost : (s.preempted k j).domainLost d = s.domainLost d := by
    simp only [domainLost, hdomain, hpll _ (fld_lt _ 2 0)]
  rw [runs, hlost, clocked, frzState, regFld, hfrz, hpower]
  rfl

/-- Where an operand lies depends on the owners of the banks alone. -/
theorem pltPlace_congr (hgrade : t.grade = s.grade) (howner : ∀ b, t.owner b = s.owner b) (k a n : Nat) :
    t.pltPlace k a n = s.pltPlace k a n := by
  simp only [pltPlace, hgrade, howner]

theorem pltWaits_congr (hgrade : t.grade = s.grade) (howner : ∀ b, t.owner b = s.owner b) (hmem : t.mem = s.mem) (k : Nat)
    (j : PltJob) : t.pltWaits k j = s.pltWaits k j := by
  simp only [pltWaits, pltPlace_congr hgrade howner, readElems, num_congr hmem]

/-- Which regions the next job waits for does not depend on the job in progress. -/
theorem pltReady_preempted (hk : k < 4) : (s.preempted k j).pltReady k = s.pltReady k := by
  have honly := only_preempted s k j
  have howner : ∀ b, (s.preempted k j).owner b = s.owner b := fun b => by
    rw [owner, regFld, reg_preempted (plt_ne_bank hk b).symm (by decide), owner, regFld]
  have hwaits := pltWaits_congr (honly .grade (by decide)) howner (honly .mem (by decide)) k
  have hstep : (s.preempted k j).step = s.step := honly .step (by decide)
  simp only [pltReady, plt_preempted, hwaits, hstep]

/-- With the detached job aside, the first job of the step program starts. -/
theorem pltStart_preempted (hk : k < 4) (hruns : s.runs (139 + k) = true) (hpresent : presentIn s.grade (Page.plt k) = true)
    (hon : s.enabled (Page.plt k) = true) (hgood : s.faulted (Page.plt k) = false) (hready : s.pltReady k = true) :
    (s.preempted k j).pltStart k = (s.preempted k j).setPlt k { s.plt k with
      job := (s.plt k).program.head?, program := (s.plt k).program.drop 1, held := some j } := by
  have hgrade : (s.preempted k j).grade = s.grade := only_preempted s k j .grade (by decide)
  have hkept : ∀ off, off < 4096 → off ≠ Reg.PLT_PREEMPT → (s.preempted k j).reg (Page.plt k) off = s.reg (Page.plt k) off :=
    fun off ho hne => regsBut_preempted s k j _ off ho (by simp [hne])
  have hon' : (s.preempted k j).enabled (Page.plt k) = true := by
    rwa [enabled, hkept _ (by decide) (by decide)]
  have hgood' : (s.preempted k j).faulted (Page.plt k) = false := by
    rwa [faulted, regFld, hkept _ (by decide) (by decide)]
  rw [pltStart_of_ready (by rw [plt_preempted]) ((runs_preempted hk _).trans hruns) (hgrade ▸ hpresent) hon' hgood'
    ((pltReady_preempted hk).trans hready), plt_preempted]

theorem exec_detachedPreempt_of_ready {plt : Fin 4} (hjob : (s.plt plt).job = some j) (hring : j.ring = true)
    (hkeep : (s.plt plt).abort = false) (hruns : s.runs (139 + plt) = true) (hready : s.pltReady plt = true) :
    exec (.detachedPreempt plt) s = .next ((s.preempted plt j).pltStart plt) := by
  change execDetachedPreempt plt s = _
  simp [execDetachedPreempt, hjob, hring, hkeep, hruns, hready, preempted]

/-! ### PLT_CTRL and PLT_DT_TAIL (R301, R303) -/

/-- A detached job in progress is marked to end. -/
theorem exec_abortDt_of_ring {r : Requester} {plt : Fin 4} {v : W32} (htakes : s.takes r (Page.plt plt) Reg.PLT_CTRL)
    (hjob : (s.plt plt).job = some j) (hring : j.ring = true) : exec (.abortDt r plt v) s
      = .next ((s.setReg (Page.plt plt) Reg.PLT_CTRL ((v ||| 0x10) &&& 0xF)).setPlt plt { s.plt plt with abort := true }) := by
  have hbit : bit (v ||| 0x10) 4 = true := by simp [bit]
  have habort : (s.setReg (Page.plt plt) Reg.PLT_CTRL ((v ||| 0x10) &&& 0xF)).pltAbort plt
      = (s.setReg (Page.plt plt) Reg.PLT_CTRL ((v ||| 0x10) &&& 0xF)).setPlt plt { s.plt plt with abort := true } := by
    simp [pltAbort, plt_setReg, hjob, hring]
  refine congrArg Host.Outcome.next ?_
  rw [ifAdmitWord_of_takes htakes, pltCtrl]
  dsimp only
  rw [if_pos hbit, habort, pltStart_of_busy (j := j)]
  rw [plt_setPlt_same, hjob]

theorem exec_pltDtTail_of_idle {r : Requester} {plt : Fin 4} {v : W32} (htakes : s.takes r (Page.plt plt) Reg.PLT_DT_TAIL)
    (hoff : bit (s.reg (Page.plt plt) Reg.PLT_CTRL) 1 = false) (hprogram : (s.plt plt).program = []) :
    exec (.pltDtTail r plt v) s = .next (s.setReg (Page.plt plt) Reg.PLT_DT_TAIL (v &&& 0xFFF)) := by
  refine congrArg Host.Outcome.next ?_
  rw [ifAdmit_of_takes htakes]
  exact pltStart_of_pageBut (l := [Reg.PLT_DT_TAIL]) hprogram (pageBut.refl _ _ _).setReg hoff

/-! ### The side port (R298) -/

section

variable {plt : Fin 4} {r : Requester} {op : TarnOp} {waited o n : Nat} {d : List Byte}

theorem exec_pltSideAccess_of_turn (hserves : s.serves r = true) : exec (.pltSideAccess r plt op waited false) s
    = .next ((s.pltSide plt op).2.answer (s.pltSide plt op).1.1 (s.pltSide plt op).1.2) := by
  change execPltSideAccess r plt op waited false s = _
  simp [execPltSideAccess, hserves]

variable (hpresent : presentIn s.grade (Page.plt k) = true)
include hpresent

theorem pltSide_load (hopen : bit (s.reg (Page.plt k) Reg.PLT_CTRL) 2 = true) (halign : sideAligned o n = true)
    (hfit : o + n ≤ 0x1000000) :
    s.pltSide k (.load o n) = ((s.num (pltSram k + o) n, !(s.poisonWords (pltSram k + o) n).isEmpty), s) := by
  simp [pltSide, hpresent, hopen, halign, hfit]

theorem pltSide_store (hopen : bit (s.reg (Page.plt k) Reg.PLT_CTRL) 2 = true)
    (hwrite : bit (s.reg (Page.plt k) Reg.PLT_CTRL) 3 = true) (halign : sideAligned o d.length = true)
    (hfit : o + d.length ≤ 0x1000000) :
    s.pltSide k (.store o d) = ((0, false), s.sramStore (pltSram k + o) d) := by
  simp [pltSide, hpresent, hopen, hwrite, halign, hfit]

theorem pltSide_of_closed (hclosed : bit (s.reg (Page.plt k) Reg.PLT_CTRL) 2 = false) :
    s.pltSide k (.store o d) = ((0, true), s) := by
  simp [pltSide, hpresent, hclosed]

end

end State

/-- Settles O41: the array is left idle by JOB_END and by a written tail; DETACHED_PREEMPT leaves the next job of the step
program ready, so that it starts; a job in progress keeps ABORT_DT from starting another. -/
theorem plateauJobsEndAndYield : Obligations.PlateauJobsEndAndYield := by
  intro s plt p pg
  have hk : plt.val < 4 := plt.isLt
  refine ⟨fun j st cycles hjob hstatus hruns hreqs hprogram hoff => ⟨fun hring hirq hst => ?quiet, fun hring => ?ring⟩,
    fun j r hjob hring hkeep hruns hready hhead hpresent hon hgood => ?preempt, fun req v j htakes _ hjob hring => ?abort,
    fun req v htakes hoff hprogram => ?tail, fun req waited o d hserves hpresent halign hfit =>
      ⟨fun hopen => ?load, fun hopen hwrite => ?store, fun hclosed => ?closed⟩⟩
  case quiet =>
    subst hst
    obtain ⟨hdone, hpage, hparts⟩ := State.pltEnd_program_parts (s := s.pltClear plt) (cycles := max cycles (pltCycles j)) hk
      hring hirq
    have hplt := (State.plt_congr (hparts .plts (by decide)) plt).trans (s.plt_pltClear plt)
    have hexec := State.exec_jobEnd_of_status (cycles := cycles) hjob hstatus hruns hreqs
    rw [if_pos rfl, State.pltStart_of_pageBut (by rw [hplt]; exact hprogram) hpage hoff] at hexec
    exact ⟨_, hexec, by rw [hplt], hdone, (State.only_refl s _).setPlt.trans hparts⟩
  case ring =>
    obtain ⟨hplt, hdone, hhead, hpage, hparts⟩ := State.pltEnd_ring_parts (s := s.pltClear plt) (st := st)
      (cycles := if st = 0 then max cycles (pltCycles j) else cycles) hk hring
    rw [s.plt_pltClear plt] at hplt
    have hexec := State.exec_jobEnd_of_status (cycles := cycles) hjob hstatus hruns hreqs
    rw [State.pltStart_of_pageBut (by rw [hplt]; exact hprogram) hpage hoff] at hexec
    exact ⟨_, hexec, by rw [hplt], by rw [hplt], hdone, hhead, (State.only_refl s _).setPlt.trans hparts⟩
  case preempt =>
    have hexec := State.exec_detachedPreempt_of_ready hjob hring hkeep hruns hready
    rw [State.pltStart_preempted hk hruns hpresent hon hgood hready] at hexec
    refine ⟨_, hexec, ?_, ?_, ?_, s.count_reg _ _ _, (s.only_preempted plt j).setPlt, s.regsBut_preempted plt j⟩
    · rw [State.plt_setPlt_same]
    · rw [State.plt_setPlt_same]
      exact hhead
    · rw [State.plt_setPlt_same]
  case abort =>
    refine ⟨_, State.exec_abortDt_of_ring htakes hjob hring, ?_, ?_, (State.only_refl s _).setReg.setPlt, ?_⟩
    · rw [State.plt_setPlt_same]
    · rw [State.plt_setPlt_same]
      exact hjob
    · exact State.regsBut_setReg (State.regsBut_refl s _) (by decide) (by simp [pg]) _
  case tail =>
    exact ⟨_, State.exec_pltDtTail_of_idle htakes hoff hprogram, s.reg_setReg_same _ _ _, (State.only_refl s _).setReg,
      State.regsBut_setReg (State.regsBut_refl s _) (by decide) (by simp [pg]) _⟩
  case load =>
    refine ⟨_, State.exec_pltSideAccess_of_turn hserves, ?_⟩
    rw [State.pltSide_load hpresent hopen halign hfit]
    exact ⟨rfl, State.only_answer (State.only_refl s _) (by decide) _ _⟩
  case store =>
    obtain ⟨hread, hbytes⟩ := s.bytes_sramStore (pltSram plt + o) d
    refine ⟨_, State.exec_pltSideAccess_of_turn hserves, ?_⟩
    rw [State.pltSide_store hpresent hopen hwrite halign hfit]
    have hmem := State.answer_mem (s.sramStore (pltSram plt + o) d) 0 false
    exact ⟨(State.bytes_congr hmem _ _).trans hread, State.bytesBut_congr rfl hmem hbytes,
      State.only_answer (State.only_refl s _).sramStore (by decide) _ _⟩
  case closed =>
    refine ⟨_, State.exec_pltSideAccess_of_turn hserves, ?_⟩
    rw [State.pltSide_of_closed hpresent hclosed]
    exact ⟨rfl, State.only_answer (State.only_refl s _) (by decide) _ _⟩

end Sys2Proof.Machine
end

section
/-! # Words, registers and parts at the signal ingress -/
namespace Sys2Proof.Machine
open Sys2Proof

/-! ### Fields of a word -/

theorem getLsbD_withFld_of_outside (v : W32) {hi lo i : Nat} (hout : i < lo ∨ hi < i) (x : Nat) :
    (withFld v hi lo x).getLsbD i = v.getLsbD i := by
  by_cases hword : i < 32
  · have hfield : ¬ (lo ≤ i ∧ i - lo < hi + 1 - lo) := by omega
    have hmask : (2 ^ (hi + 1 - lo) - 1).testBit (i - lo) = true → i < lo := by
      rw [Nat.testBit_two_pow_sub_one, decide_eq_true_iff]
      omega
    have hval : (x % 2 ^ (hi + 1 - lo)).testBit (i - lo) = true → i < lo := by
      rw [Nat.testBit_mod_two_pow, Bool.and_eq_true, decide_eq_true_iff]
      omega
    simp only [withFld, BitVec.getLsbD_or, BitVec.getLsbD_and, BitVec.getLsbD_not, BitVec.getLsbD_ofNat,
      Nat.testBit_shiftLeft, hword]
    by_cases hlo : i < lo
    · simp [Nat.not_le.mpr hlo]
    · simp [mt hmask hlo, mt hval hlo]
  · simp [BitVec.getLsbD_of_ge _ _ (Nat.le_of_not_lt hword)]

theorem fld_congr {v w : W32} {hi lo : Nat} (h : ∀ i, lo ≤ i → i ≤ hi → v.getLsbD i = w.getLsbD i) :
    fld v hi lo = fld w hi lo := by
  refine Nat.eq_of_testBit_eq fun i => ?_
  rw [testBit_fld, testBit_fld]
  by_cases hlt : i < hi + 1 - lo
  · rw [h (lo + i) (by omega) (by omega)]
  · simp [hlt]

/-- A write to a field leaves a field that has no bit in common with it. -/
theorem fld_withFld_other (v : W32) {hi lo hi' lo' : Nat} (hdis : hi' < lo ∨ hi < lo') (x : Nat) :
    fld (withFld v hi lo x) hi' lo' = fld v hi' lo' :=
  fld_congr fun _ _ _ => getLsbD_withFld_of_outside v (by omega) x

/-- A mask that has every bit of a field leaves the field. -/
theorem fld_and_of_ones (v m : W32) {hi lo : Nat} (hm : ∀ i, i < hi + 1 → lo ≤ i → m.getLsbD i = true) :
    fld (v &&& m) hi lo = fld v hi lo :=
  fld_congr fun i hlo hhi => by rw [BitVec.getLsbD_and, hm i (by omega) hlo, Bool.and_true]

/-- A mask that has no bit of a field clears the field. -/
theorem fld_and_of_zeros (v m : W32) {hi lo : Nat} (hm : ∀ i, i < hi + 1 → lo ≤ i → m.getLsbD i = false) :
    fld (v &&& m) hi lo = 0 := by
  refine (fld_congr (w := 0) fun i hlo hhi => ?_).trans (by simp [fld, bitsOf])
  rw [BitVec.getLsbD_and, hm i (by omega) hlo, Bool.and_false]
  simp

theorem getLsbD_bitWord {b i : Nat} (hi : i < 32) : (bitWord b).getLsbD i = decide (b = i) := by
  rw [bitWord, BitVec.getLsbD_ofNat, Nat.testBit_two_pow]
  simp [hi]

theorem bit_and_not_bitWord (v : W32) {b : Nat} (hb : b < 32) : bit (v &&& ~~~ bitWord b) b = false := by
  simp [-BitVec.getLsbD_eq_getElem, bit, getLsbD_bitWord hb, hb]

/-- Clearing a bit leaves a field that does not hold it. -/
theorem fld_and_not_bitWord (v : W32) {b hi lo : Nat} (hhi : hi < 32) (hb : b < lo ∨ hi < b) :
    fld (v &&& ~~~ bitWord b) hi lo = fld v hi lo :=
  fld_and_of_ones v _ fun i hi' hlo => by
    rw [BitVec.getLsbD_not, getLsbD_bitWord (by omega)]
    simp only [Bool.and_eq_true, decide_eq_true_iff, Bool.not_eq_true', decide_eq_false_iff_not]
    omega

/-! ### Parts and registers -/

namespace State

variable {s t : State} {l : List Part} {p off b : Nat}

theorem only.ingress (h : s.only t l) {x : IngressState} (hl : Part.ingress ∈ l := by decide) :
    s.only { t with ingress := x } l :=
  h.change .ingress (fun y hy => by cases y <;> simp_all [Part.same]) hl

theorem bit_clrReg {b : Nat} (hb : b < 32) : bit ((s.clrReg p off (bitWord b)).reg p off) b = false := by
  rw [clrReg, reg_setReg_same, bit_and_not_bitWord _ hb]

theorem bit_countInt (hb : b < 32) : bit ((s.countInt p off b 1).reg p Reg.PG_INT) b = true := bit_setInt (s := s.count p off 1) hb

theorem regsBut_countInt {m : List (Nat × Nat)} (h : s.regsBut t m) (ho : off < 4096) (hl : (p, off) ∈ m)
    (hi : (p, Reg.PG_INT) ∈ m) : s.regsBut (t.countInt p off b 1) m :=
  regsBut_setReg (regsBut_count h ho hl) (by decide) hi _

end State

end Sys2Proof.Machine
end

section
/-! # Passes over the encoder channels -/
namespace Sys2Proof.Machine
open Sys2Proof

theorem Page.enc_injective {c d : Nat} (h : Page.enc c = Page.enc d) : c = d := by
  simp only [Page.enc] at h
  omega

theorem page_ing_ne_enc (c : Nat) : Page.ing ≠ Page.enc c := by
  simp only [Page.ing, Page.enc]
  omega

namespace State

variable {s t u : State} {c d k : Nat} {l : List Part}

/-! ### The state of a channel -/

@[simp] theorem encState_setEnc_same (s : State) (c : Nat) (x : EncState) : (s.setEnc c x).encState c = x := by
  simp [encState, setEnc]

theorem encState_setEnc_other {x : EncState} (h : d ≠ c) : (s.setEnc c x).encState d = s.encState d := by
  simp only [encState, setEnc, Store.find_put_other _ x h]

@[simp] theorem reg_setEnc (s : State) (c : Nat) (x : EncState) (p off : Nat) : (s.setEnc c x).reg p off = s.reg p off := rfl

theorem encState_congr (h : t.ingress = s.ingress) (c : Nat) : t.encState c = s.encState c := by
  rw [encState, h, encState]

theorem only.setEnc (h : s.only t l) {x : EncState} (hl : Part.ingress ∈ l := by decide) : s.only (t.setEnc c x) l :=
  h.ingress hl

theorem encRunning_congr (hg : t.grade = s.grade) (hr : t.reg (Page.enc c) Reg.ENC_CFG = s.reg (Page.enc c) Reg.ENC_CFG) :
    t.encRunning c = s.encRunning c := by
  unfold encRunning encMode regFld
  rw [hg, hr]

theorem encLink_congr (hr : t.reg (Page.enc c) Reg.ENC_SRC = s.reg (Page.enc c) Reg.ENC_SRC) : t.encLink c = s.encLink c := by
  rw [encLink, regFld, hr, encLink, regFld]

section
variable {m : List (Nat × Nat)} (h : s.regsBut t m) (hm : ∀ x ∈ m, x.1 = Page.ing)
include h hm

/-- A change of the ING page alone leaves the pages of the channels. -/
theorem reg_enc_of_regsBut (c : Nat) {off : Nat} (ho : off < 4096) : t.reg (Page.enc c) off = s.reg (Page.enc c) off :=
  h _ _ ho fun hx => page_ing_ne_enc c (hm _ hx).symm

theorem encRunning_of_regsBut (hg : t.grade = s.grade) (c : Nat) : t.encRunning c = s.encRunning c :=
  encRunning_congr hg (reg_enc_of_regsBut h hm c (by decide))

theorem encLink_of_regsBut (c : Nat) : t.encLink c = s.encLink c :=
  encLink_congr (reg_enc_of_regsBut h hm c (by decide))

end

/-! ### What a channel sees -/

/-- All that channel c sees is the same: the grade, its state, and every register that lies on no other channel's page. -/
structure SameFor (s t : State) (c : Nat) : Prop where
  grade : t.grade = s.grade
  regs : ∀ p off, off < 4096 → (∀ d, d ≠ c → p ≠ Page.enc d) → t.reg p off = s.reg p off
  state : t.encState c = s.encState c

namespace SameFor

theorem refl (s : State) (c : Nat) : s.SameFor s c := ⟨rfl, fun _ _ _ _ => rfl, rfl⟩

/-- A change of another channel. -/
theorem setEnc {x : EncState} (hc : d ≠ c) : s.SameFor (s.setEnc c x) d :=
  ⟨rfl, fun _ _ _ _ => rfl, encState_setEnc_other hc⟩

variable (h : s.SameFor t c)
include h

theorem trans (hu : t.SameFor u c) : s.SameFor u c :=
  ⟨hu.grade.trans h.grade, fun p off ho hp => (hu.regs p off ho hp).trans (h.regs p off ho hp), hu.state.trans h.state⟩

theorem own (off : Nat) (ho : off < 4096 := by decide) : t.reg (Page.enc c) off = s.reg (Page.enc c) off :=
  h.regs _ off ho fun _ hd he => hd (Page.enc_injective he).symm

theorem ing (off : Nat) (ho : off < 4096 := by decide) : t.reg Page.ing off = s.reg Page.ing off :=
  h.regs _ off ho fun d _ => page_ing_ne_enc d

theorem encRunning : t.encRunning c = s.encRunning c := encRunning_congr h.grade (h.own _)

theorem encLink : t.encLink c = s.encLink c := encLink_congr (h.own _)

end SameFor

/-! ### Passes -/

section
variable {f : State → Nat → State} (hf : ∀ (u : State) (c d : Nat), c < 64 → d ≠ c → u.SameFor (f u c) d)
include hf

/-- A pass that works on one channel at a time leaves what the channels that it does not name see. -/
theorem sameFor_foldl {cs : List Nat} (hcs : ∀ c ∈ cs, c < 64) (hd : d ∉ cs) (s : State) : s.SameFor (cs.foldl f s) d :=
  List.foldlRecOn (motive := fun u => s.SameFor u d) _ _ (.refl s d) fun u hu c hc =>
    hu.trans (hf u c d (hcs c hc) fun he => hd (he ▸ hc))

/-- What a pass does to a channel is what its own turn does, in a state that is the same for the channel. -/
theorem turn_of_foldl (hc : c < 64) (s : State) :
    ∃ u, s.SameFor u c ∧ (f u c).SameFor ((List.range 64).foldl f s) c := by
  obtain ⟨before, after, hsplit⟩ := List.append_of_mem (List.mem_range.mpr hc)
  have hlt : ∀ d ∈ before ++ c :: after, d < 64 := fun d hd => List.mem_range.mp (hsplit ▸ hd)
  have hnodup : (before ++ c :: after).Nodup := hsplit ▸ List.nodup_range
  have hbefore : c ∉ before := fun hm => List.disjoint_of_nodup_append hnodup hm (by simp)
  have hafter : c ∉ after := (List.nodup_cons.mp (List.Nodup.of_append_right hnodup)).1
  refine ⟨before.foldl f s, sameFor_foldl hf (fun d hd => hlt d (by simp [hd])) hbefore s, ?_⟩
  rw [hsplit, List.foldl_append, List.foldl_cons]
  exact sameFor_foldl hf (fun d hd => hlt d (by simp [hd])) hafter _

/-- A pass over the channels leaves the ING page; 64 names no channel. -/
theorem ing_of_foldl (s : State) (off : Nat) (ho : off < 4096 := by decide) :
    ((List.range 64).foldl f s).reg Page.ing off = s.reg Page.ing off :=
  (sameFor_foldl hf (d := 64) (fun _ => List.mem_range.mp) (by simp) s).ing off ho

end

section
variable {f : Nat → Bool} {g : Nat → EncState → EncState}

theorem encState_mapEnc (hc : c < 64) : (s.mapEnc f g).encState c
    = if s.encRunning c = true ∧ f c = true then g c (s.encState c) else s.encState c := by
  obtain ⟨u, hu, ht⟩ := turn_of_foldl
    (f := fun s c => if s.encRunning c && f c then s.setEnc c (g c (s.encState c)) else s)
    (fun u c d _ hd => by split; exacts [.setEnc hd, .refl u d]) hc s
  refine ht.state.trans ?_
  simp only [hu.encRunning, hu.state, Bool.and_eq_true]
  split
  · exact encState_setEnc_same _ _ _
  · exact hu.state

theorem only.mapEnc (h : s.only t l) (hl : Part.ingress ∈ l := by decide) : s.only (t.mapEnc f g) l :=
  h.foldl fun _ hu => .branch (hu.setEnc hl) hu

theorem regs_mapEnc (s : State) : (s.mapEnc f g).regs = s.regs :=
  only.mapEnc (State.only_refl s [.ingress]) (by decide) .regs (by decide)

theorem reg_mapEnc (s : State) (p off : Nat) : (s.mapEnc f g).reg p off = s.reg p off := by rw [reg, regs_mapEnc, reg]

theorem lemc_mapEnc (s : State) : (s.mapEnc f g).ingress.lemc = s.ingress.lemc := by
  unfold mapEnc
  refine List.foldlRecOn (motive := fun t : State => t.ingress.lemc = s.ingress.lemc) _ _ rfl fun t ht c _ => ?_
  split <;> exact ht

end

end State

end Sys2Proof.Machine
end

section
/-! # JESD204C links -/
namespace Sys2Proof.Machine
open Sys2Proof

/-! ### Registers of a link -/

theorem linkReg_lt (k : Fin 4) {off : Nat} (h : off < 0x100 := by decide) : off + 0x20 * k.val < 4096 := by omega

theorem linkReg_ne (k : Nat) {off o : Nat} (h : off ≠ o := by decide) : off + 0x20 * k ≠ o + 0x20 * k := by omega

theorem linkReg_ne_low (k : Nat) {off o : Nat} (h : o < off := by decide) : off + 0x20 * k ≠ o := by omega

namespace State

variable {s t : State} {k x : Nat} {l : List Part}

/-- The set of links whose LEMC is aligned. -/
def setLemc (s : State) (m : List Nat) : State := { s with ingress := { s.ingress with lemc := m } }

@[simp] theorem reg_setLemc (s : State) (m : List Nat) (p off : Nat) : (s.setLemc m).reg p off = s.reg p off := rfl

theorem regsBut_setLemc {m : List (Nat × Nat)} (h : s.regsBut t m) (x : List Nat) : s.regsBut (t.setLemc x) m := h

/-! ### LINK_ENABLE (R330, R333) -/

/-- The link is configured and trains from the start. -/
def linkBegun (s : State) (k : Nat) (w : W32) : State :=
  (((s.setLink k Reg.ING_LCFGk w).setLinkState k 0).setFld Page.ing (Reg.ING_LSTATk + 0x20 * k) 7 0 0).setLemc
    (setDel s.ingress.lemc k)

theorem exec_linkEnable_of_refused {r : Requester} {k : Fin 4} {v w : W32} (hw : (v ||| 1) &&& 0xFFFFFFC3 = w)
    (htakes : s.takes r Page.ing (Reg.ING_LCFGk + 0x20 * k.val)) (hoff : s.linkOn k = false) (href : s.linkRefused k w = true) :
    exec (.linkEnable r k v) s = .next ((s.setLink k Reg.ING_LCFGk (w &&& 0xFFFFFFFE)).setErr Page.ing 0) := by
  have hen : bit w 0 = true := by simp [← hw, bit]
  refine congrArg Host.Outcome.next ?_
  rw [ifAdmit_of_takes htakes, linkWrite, hw]
  simp [hen, hoff, href]

theorem exec_linkEnable_of_accepted {r : Requester} {k : Fin 4} {v w : W32} (hw : (v ||| 1) &&& 0xFFFFFFC3 = w)
    (htakes : s.takes r Page.ing (Reg.ING_LCFGk + 0x20 * k.val)) (hoff : s.linkOn k = false)
    (hok : s.linkRefused k w = false) : exec (.linkEnable r k v) s = .next (s.linkBegun k w) := by
  refine congrArg Host.Outcome.next ?_
  rw [ifAdmit_of_takes htakes, linkWrite, hw]
  simp only [hok, hoff, Bool.and_false, Bool.false_eq_true, if_false]
  rfl

theorem linkState_setLinkState (s : State) (k x : Nat) : (s.setLinkState k x).linkState k = x % 8 :=
  regFld_setFld_same s _ _ (by decide)

/-- The lock bits of the lanes lie beside the state of the link. -/
theorem linkState_setFld_lanes (s : State) (k x : Nat) :
    (s.setFld Page.ing (Reg.ING_LSTATk + 0x20 * k) 7 0 x).linkState k = s.linkState k := by
  rw [linkState, link, setFld, reg_setReg_same, fld_withFld_other _ (by decide), linkState, link]

theorem lanes_linkBegun (s : State) (k : Nat) (w : W32) :
    fld ((s.linkBegun k w).reg Page.ing (Reg.ING_LSTATk + 0x20 * k)) 7 0 = 0 := by
  rw [linkBegun, reg_setLemc]
  exact regFld_setFld_same _ _ _ (by decide)

theorem linkState_linkBegun (s : State) (k : Nat) (w : W32) : (s.linkBegun k w).linkState k = 0 := by
  rw [linkState, link, linkBegun, reg_setLemc]
  exact (linkState_setFld_lanes _ k 0).trans (linkState_setLinkState _ k 0)

theorem cfg_linkBegun (s : State) (k : Nat) (w : W32) :
    (s.linkBegun k w).reg Page.ing (Reg.ING_LCFGk + 0x20 * k) = w := by
  have hne : Reg.ING_LCFGk + 0x20 * k ≠ Reg.ING_LSTATk + 0x20 * k := linkReg_ne k
  rw [linkBegun, reg_setLemc, setFld, reg_setReg_off hne, setLinkState, setFld, reg_setReg_off hne, setLink, reg_setReg_same]

theorem regsBut_linkBegun (s : State) (k : Fin 4) (w : W32) : s.regsBut (s.linkBegun k w)
    [(Page.ing, Reg.ING_LCFGk + 0x20 * k.val), (Page.ing, Reg.ING_LSTATk + 0x20 * k.val)] :=
  regsBut_setLemc (regsBut_setReg (regsBut_setReg (regsBut_setReg (regsBut_refl s _) (linkReg_lt k) (by simp) _)
    (linkReg_lt k) (by simp) _) (linkReg_lt k) (by simp) _) _

theorem only_linkBegun (s : State) (k : Nat) (w : W32) : s.only (s.linkBegun k w) [.regs, .ingress] :=
  (State.only_refl s _).setReg.setFld.setFld.ingress

/-! ### The states of a link (R330) -/

section
variable {link : Fin 4} (hclk : s.clocked = true) (hon : s.linkOn link = true)
include hclk hon

theorem exec_jesdCdrLock_of_down (hst : s.linkState link = 0) :
    exec (.jesdCdrLock link) s = .next (s.setLinkState link 1) := by
  change execJesdCdrLock link s = _
  simp [execJesdCdrLock, hclk, hon, hst]

theorem exec_jesdSyncLock_of_cdrLock (hst : s.linkState link = 1) :
    exec (.jesdSyncLock link) s = .next ((s.setLinkState link 2).lanesLocked link) := by
  change execJesdSyncLock link s = _
  simp [execJesdSyncLock, hclk, hon, hst]

theorem exec_jesdEmbLock_of_sync (hst : s.linkState link = 2) :
    exec (.jesdEmbLock link) s = .next ((s.setLinkState link 3).lanesLocked link) := by
  change execJesdEmbLock link s = _
  simp [execJesdEmbLock, hclk, hon, hst]

end

/-- A move to a state in which every lane is locked. -/
theorem lanesLocked_parts (s : State) (k : Fin 4) {x : Nat} (hx : x < 8) :
    ((s.setLinkState k x).lanesLocked k).linkState k = x
      ∧ fld (((s.setLinkState k x).lanesLocked k).reg Page.ing (Reg.ING_LSTATk + 0x20 * k.val)) 7 0
        = (2 ^ fld (s.reg Page.ing (Reg.ING_LCFGk + 0x20 * k.val)) 27 24 - 1) % 256
      ∧ s.only ((s.setLinkState k x).lanesLocked k) [.regs]
      ∧ s.regsBut ((s.setLinkState k x).lanesLocked k) [(Page.ing, Reg.ING_LSTATk + 0x20 * k.val)] := by
  have hcfg : (s.setLinkState k x).link k Reg.ING_LCFGk = s.reg Page.ing (Reg.ING_LCFGk + 0x20 * k.val) :=
    reg_setReg_off (linkReg_ne k)
  refine ⟨?_, ?_, (State.only_refl s _).setFld.setFld,
    regsBut_setReg (regsBut_setReg (regsBut_refl s _) (linkReg_lt k) (by simp) _) (linkReg_lt k) (by simp) _⟩
  · exact (linkState_setFld_lanes _ _ _).trans ((linkState_setLinkState s k x).trans (Nat.mod_eq_of_lt hx))
  · rw [← hcfg]
    exact regFld_setFld_same _ _ _ (by decide)

/-- The link is aligned, and the time from its LEMC boundary is shown (R330, R332). -/
def linkAligned (s : State) (k lat : Nat) : State :=
  (s.setLinkState k 4).setLink k Reg.ING_LAT_NSk (BitVec.ofNat 32 (lat % 65536))

theorem linkState_linkAligned (s : State) (k lat : Nat) : (s.linkAligned k lat).linkState k = 4 := by
  have hreg : (s.linkAligned k lat).linkState k = (s.setLinkState k 4).linkState k := by
    rw [linkAligned, linkState, link, setLink, reg_setReg_off (linkReg_ne k), linkState, link]
  rw [hreg, linkState_setLinkState]

theorem regsBut_linkAligned (s : State) (k : Fin 4) (lat : Nat) :
    s.regsBut (s.linkAligned k lat) [(Page.ing, Reg.ING_LSTATk + 0x20 * k.val), (Page.ing, Reg.ING_LAT_NSk + 0x20 * k.val)] :=
  regsBut_setReg (regsBut_setReg (regsBut_refl s _) (linkReg_lt k) (by simp) _) (linkReg_lt k) (by simp) _

/-- The channels that a link feeds start their mode state again. -/
def restartFed (s : State) (k : Nat) : State := s.mapEnc (fun c => s.encLink c == k) (fun _ e => { e with first := true })

theorem exec_jesdAligned_of_embLock {link : Fin 4} {jitter : Bool} (hclk : s.clocked = true) (hon : s.linkOn link = true)
    (hst : s.linkState link = 3) (hlemc : link.val ∈ s.ingress.lemc) :
    ∃ lat, exec (.jesdAligned link jitter) s = .next ((s.linkAligned link lat).restartFed link) := by
  change ∃ lat, execJesdAligned link jitter s = _
  rw [execJesdAligned, if_pos (by simp [hclk, hon, hst, hlemc])]
  exact ⟨_, rfl⟩

theorem encState_restartFed {c : Nat} (hc : c < 64) : (s.restartFed k).encState c
    = if s.encRunning c = true ∧ s.encLink c = k then { s.encState c with first := true } else s.encState c := by
  rw [restartFed, encState_mapEnc hc]
  simp only [beq_iff_eq]

theorem aligned_parts (s : State) (k : Fin 4) (lat : Nat) :
    let t := (s.linkAligned k lat).restartFed k
    t.linkState k = 4
      ∧ (∀ c, c < 64 → t.encState c = if s.encRunning c = true ∧ s.encLink c = k.val then { s.encState c with first := true }
          else s.encState c)
      ∧ s.only t [.regs, .ingress]
      ∧ s.regsBut t [(Page.ing, Reg.ING_LSTATk + 0x20 * k.val), (Page.ing, Reg.ING_LAT_NSk + 0x20 * k.val)] := by
  have hregs := s.regsBut_linkAligned k lat
  have hkept (p off : Nat) : ((s.linkAligned k lat).restartFed k).reg p off = (s.linkAligned k lat).reg p off :=
    reg_mapEnc _ p off
  refine ⟨?_, fun c hc => ?_, only.mapEnc (State.only_refl s _).setFld.setReg,
    fun p off ho hn => (hkept p off).trans (hregs p off ho hn)⟩
  · rw [linkState, link, hkept]
    exact s.linkState_linkAligned k lat
  · rw [encState_restartFed hc, encRunning_of_regsBut hregs (by simp) rfl, encLink_of_regsBut hregs (by simp)]
    rfl

/-! ### JESD_LINK_LOSS (R330) -/

/-- An aligned link that has lost a lane trains again. -/
def linkLost (s : State) (k lane : Nat) : State :=
  (((s.setLinkState k 2).clrReg Page.ing (Reg.ING_LSTATk + 0x20 * k) (bitWord lane)).countInt Page.ing
    (Reg.ING_LOSSk + 0x20 * k) 0 1).setLemc (setDel s.ingress.lemc k)

/-- The channels that a link feeds report. -/
def reportFed (s : State) (k : Nat) : State :=
  (List.range 64).foldl (fun s c => if s.encRunning c && s.encLink c == k then s.setInt (Page.enc c) 0 else s) s

theorem exec_jesdLinkLoss_of_aligned {link : Fin 4} {lane : Fin 8} (hclk : s.clocked = true) (hon : s.linkOn link = true)
    (hst : s.linkState link = 4) : exec (.jesdLinkLoss link lane) s = .next ((s.linkLost link lane).reportFed link) := by
  change execJesdLinkLoss link lane s = _
  rw [execJesdLinkLoss, if_pos (by simp [hclk, hon, hst])]
  rfl

theorem stat_linkLost (s : State) (k lane : Nat) : (s.linkLost k lane).reg Page.ing (Reg.ING_LSTATk + 0x20 * k)
    = (s.setLinkState k 2).link k Reg.ING_LSTATk &&& ~~~ bitWord lane := by
  have hloss : Reg.ING_LSTATk + 0x20 * k ≠ Reg.ING_LOSSk + 0x20 * k := linkReg_ne k
  have hint : Reg.ING_LSTATk + 0x20 * k ≠ Reg.PG_INT := linkReg_ne_low k
  rw [linkLost, reg_setLemc]
  exact (reg_setReg_off hint).trans ((reg_setReg_off hloss).trans (reg_setReg_same _ _ _ _))

theorem linkState_linkLost (s : State) (k : Nat) {lane : Nat} (hlane : lane < 8) : (s.linkLost k lane).linkState k = 2 := by
  have hset : fld ((s.setLinkState k 2).link k Reg.ING_LSTATk) 31 29 = 2 := linkState_setLinkState s k 2
  rw [linkState, link, stat_linkLost, fld_and_not_bitWord _ (by decide) (by omega), hset]

theorem counted_linkLost (s : State) (k lane : Nat) :
    s.counted (s.linkLost k lane) Page.ing (Reg.ING_LOSSk + 0x20 * k) 1 := by
  have hstat : Reg.ING_LOSSk + 0x20 * k ≠ Reg.ING_LSTATk + 0x20 * k := linkReg_ne k
  rw [counted, linkLost, reg_setLemc, reg_countInt_same (linkReg_ne_low k), clrReg, reg_setReg_off hstat, setLinkState, setFld,
    reg_setReg_off hstat]

theorem regsBut_linkLost (s : State) (k : Fin 4) (lane : Nat) : s.regsBut (s.linkLost k lane)
    [(Page.ing, Reg.ING_LSTATk + 0x20 * k.val), (Page.ing, Reg.ING_LOSSk + 0x20 * k.val), (Page.ing, Reg.PG_INT)] :=
  regsBut_setLemc (regsBut_countInt (regsBut_setReg (regsBut_setReg (regsBut_refl s _) (linkReg_lt k) (by simp) _)
    (linkReg_lt k) (by simp) _) (linkReg_lt k) (by simp) (by simp)) _

theorem only_linkLost (s : State) (k lane : Nat) : s.only (s.linkLost k lane) [.regs, .ingress] :=
  (State.only_refl s _).setFld.clrReg.countInt.ingress

theorem sameFor_reportFed_turn (k : Nat) (u : State) (c d : Nat) (_ : c < 64) (hd : d ≠ c) :
    u.SameFor (if u.encRunning c && u.encLink c == k then u.setInt (Page.enc c) 0 else u) d := by
  split
  · exact ⟨rfl, fun p off ho hp => reg_setReg_page (hp c hd.symm) ho (by decide), rfl⟩
  · exact .refl u d

theorem ing_reportFed (s : State) (k off : Nat) (ho : off < 4096) : (s.reportFed k).reg Page.ing off = s.reg Page.ing off :=
  ing_of_foldl (sameFor_reportFed_turn k) s off ho

theorem int_reportFed {c : Nat} (hc : c < 64) (hrun : s.encRunning c = true) (hlink : s.encLink c = k) :
    bit ((s.reportFed k).reg (Page.enc c) Reg.PG_INT) 0 = true := by
  obtain ⟨u, hu, ht⟩ := turn_of_foldl (sameFor_reportFed_turn k) hc s
  rw [if_pos (by simp [hu.encRunning, hu.encLink, hrun, hlink])] at ht
  rw [reportFed, ht.own Reg.PG_INT]
  exact bit_setInt (by decide)

theorem only_reportFed (s : State) (k : Nat) : s.only (s.reportFed k) [.regs] :=
  (State.only_refl s _).foldl fun _ hu => .branch hu.setInt hu

theorem linkLoss_parts (s : State) (k : Fin 4) (lane : Fin 8) :
    let t := (s.linkLost k lane).reportFed k
    t.linkState k = 2 ∧ bit (t.reg Page.ing (Reg.ING_LSTATk + 0x20 * k.val)) lane = false
      ∧ s.counted t Page.ing (Reg.ING_LOSSk + 0x20 * k.val) 1 ∧ bit (t.reg Page.ing Reg.PG_INT) 0 = true
      ∧ k.val ∉ t.ingress.lemc
      ∧ (∀ c, c < 64 → s.encRunning c = true → s.encLink c = k.val → bit (t.reg (Page.enc c) Reg.PG_INT) 0 = true)
      ∧ t.ingress.enc = s.ingress.enc ∧ s.only t [.regs, .ingress] := by
  have hing (off : Nat) (ho : off < 4096) := (s.linkLost k lane).ing_reportFed k off ho
  have hparts := (s.linkLost k lane).only_reportFed k
  have hlost : ((s.linkLost k lane).reportFed k).ingress = (s.linkLost k lane).ingress := hparts .ingress (by decide)
  have hregs := s.regsBut_linkLost k lane
  refine ⟨?_, ?_, ?_, ?_, ?_, fun c hc hrun hlink => int_reportFed hc ?_ ?_, ?_, (s.only_linkLost k lane).trans hparts⟩
  · rw [linkState, link, hing _ (linkReg_lt k)]
    exact s.linkState_linkLost k lane.isLt
  · rw [hing _ (linkReg_lt k), stat_linkLost]
    exact bit_and_not_bitWord _ (by omega)
  · rw [counted, hing _ (linkReg_lt k)]
    exact s.counted_linkLost k lane
  · rw [hing _ (by decide), linkLost, reg_setLemc]
    exact bit_countInt (by decide)
  · rw [hlost, linkLost]
    simp [setLemc, setDel]
  · rw [encRunning_of_regsBut hregs (by simp) ((s.only_linkLost k lane) .grade (by decide)), hrun]
  · rw [encLink_of_regsBut hregs (by simp), hlink]
  · rw [hlost]
    rfl

end State

end Sys2Proof.Machine
end

section
/-! # SYSREF edges -/
namespace Sys2Proof.Machine
open Sys2Proof

theorem mem_foldl_setIns {p : Nat → Bool} {y : Nat} (ks l : List Nat) :
    y ∈ ks.foldl (fun l k => if p k then setIns l k else l) l ↔ y ∈ l ∨ (y ∈ ks ∧ p y = true) := by
  induction ks generalizing l with
  | nil => simp
  | cons k ks ih =>
    rw [List.foldl_cons, ih]
    by_cases hk : p k = true
    · rw [if_pos hk, mem_setIns, List.mem_cons]
      constructor
      · rintro ((rfl | hl) | ⟨hks, hp⟩)
        exacts [.inr ⟨.inl rfl, hk⟩, .inl hl, .inr ⟨.inr hks, hp⟩]
      · rintro (hl | ⟨rfl | hks, hp⟩)
        exacts [.inl (.inr hl), .inl (.inl rfl), .inr ⟨hks, hp⟩]
    · rw [if_neg hk, List.mem_cons]
      have hne : p y = true → y ≠ k := fun hp he => hk (he ▸ hp)
      tauto

namespace State

variable {s t u : State} {l : List Part}

/-! ### What an edge at the timers may change (R514) -/

theorem only.tmr (h : s.only t l) {x : TmrState} (hl : Part.tmr ∈ l := by decide) : s.only { t with tmr := x } l :=
  h.change .tmr (fun y hy => by cases y <;> simp_all [Part.same]) hl

/-- Only the timers and registers from their pages on may differ. -/
structure TimersOnly (s t : State) : Prop where
  parts : s.only t [.regs, .tmr]
  regs : ∀ p off, p < 0x74 → off < 4096 → t.reg p off = s.reg p off

namespace TimersOnly

theorem refl (s : State) : s.TimersOnly s := ⟨State.only_refl s _, fun _ _ _ _ => rfl⟩

theorem branch {c : Prop} [Decidable c] (ht : s.TimersOnly t) (hu : s.TimersOnly u) : s.TimersOnly (if c then t else u) := by
  split
  exacts [ht, hu]

section
variable {i off n : Nat} (h : s.TimersOnly t)
include h

theorem setReg {v : W32} (ho : off < 4096) : s.TimersOnly (t.setReg (tmrPage i) off v) :=
  ⟨h.parts.setReg, fun p o hp ho' => by
    have hne : p ≠ tmrPage i := by
      unfold tmrPage
      omega
    rw [reg_setReg_page hne ho' ho, h.regs p o hp ho']⟩

theorem setTmr {x : TmrState} : s.TimersOnly (t.setTmr x) := ⟨h.parts.tmr, h.regs⟩

end

theorem tmrOff_lt (i : Nat) {off : Nat} (ho : off < 0x200 := by decide) : tmrOff i off < 4096 := by
  unfold tmrOff
  omega

theorem tmrEvent {i e : Nat} (h : s.TimersOnly t) : s.TimersOnly (t.tmrEvent i e) := by
  have hset : s.TimersOnly (t.orReg (tmrPage i) (tmrOff i Reg.TMR_FLAG) (bitWord e)) := h.setReg (tmrOff_lt i)
  have hflag : s.TimersOnly ((t.orReg (tmrPage i) (tmrOff i Reg.TMR_FLAG) (bitWord e)).followFlag i) :=
    .branch hset (hset.setReg (by decide))
  exact .branch hflag hflag.setTmr

theorem capture {i k : Nat} (hk : k < 4) (h : s.TimersOnly t) : s.TimersOnly (t.capture i k) := by
  have hcap : chanOff i k Reg.TMR_CAPk + 4 < 4096 := by
    unfold chanOff tmrOff Reg.TMR_CAPk
    omega
  have hfirst (v : Nat) : s.TimersOnly (t.setReg64 (tmrPage i) (chanOff i k Reg.TMR_CAPk) v) :=
    (h.setReg (by omega)).setReg hcap
  have hlost : s.TimersOnly (t.count (tmrPage i) (tmrOff i Reg.TMR_CAP_LOST) 1) := h.setReg (tmrOff_lt i)
  exact tmrEvent (.branch ((hfirst _).setReg (tmrOff_lt i)) ((branch hlost h).setTmr.setReg (tmrOff_lt i)))

theorem tmrSource {src : Nat} (h : s.TimersOnly t) : s.TimersOnly (t.tmrSource src) :=
  List.foldlRecOn (motive := fun u => s.TimersOnly u) _ _ h fun _ hu i _ =>
    .branch (.branch (capture (Nat.mod_lt i (by decide)) hu.setTmr) hu.setTmr) hu

end TimersOnly

/-! ### An accepted edge (R331) -/

/-- The time of the edge is latched and the edge counted; a one-shot mode is over. -/
def edgeShown (s : State) : State :=
  ((s.setReg64 Page.ing Reg.ING_SYSREF_NS s.elapsed).count Page.ing Reg.ING_SYSREF_CNT 1).setFld Page.ing Reg.ING_SYSREF_CTRL
    1 0 0

/-- The LEMC of every link that is on and not aligned is aligned. -/
def alignLemc (s : State) : State := s.setLemc
  ((List.range 4).foldl (fun l k => if s.linkOn k && s.linkState k != 4 then setIns l k else l) s.ingress.lemc)

/-- The phase accumulators of the channels that follow SYSREF are loaded. -/
def loadPhases (s : State) : State := s.mapEnc (fun c => bit (s.reg (Page.enc c) Reg.ENC_CFG) 24)
  (fun c e => { e with phase := (s.reg (Page.enc c) Reg.ENC_NCO_PHASE).toNat })

theorem exec_sysrefEdge_of_oneShot (hclk : s.clocked = true) (hgrade : s.grade.ingress = true)
    (hmode : s.regFld Page.ing Reg.ING_SYSREF_CTRL 1 0 = 1) :
    exec (.sysrefEdge false) s = .next (s.edgeShown.alignLemc.loadPhases.tmrSource 18) := by
  change execSysrefEdge false s = _
  unfold execSysrefEdge
  dsimp only
  rw [if_pos (by simp [hclk, hgrade, hmode]), if_pos hmode, if_neg (by simp)]
  rfl

theorem regsBut_edgeShown (s : State) : s.regsBut s.edgeShown [(Page.ing, Reg.ING_SYSREF_NS), (Page.ing, Reg.ING_SYSREF_NS + 4),
    (Page.ing, Reg.ING_SYSREF_CNT), (Page.ing, Reg.ING_SYSREF_CTRL)] :=
  regsBut_setReg (regsBut_count (regsBut_setReg (regsBut_setReg (regsBut_refl s _) (by decide) (by simp) _) (by decide)
    (by simp) _) (by decide) (by simp)) (by decide) (by simp) _

theorem link_edgeShown (s : State) {k off : Nat} (hk : k < 4) (hoff : 0x80 ≤ off) (ho : off < 0x100) :
    s.edgeShown.link k off = s.link k off := by
  refine regsBut_edgeShown s Page.ing _ (by omega) ?_
  simp only [List.mem_cons, Prod.mk.injEq, List.not_mem_nil, or_false, true_and, Reg.ING_SYSREF_NS, Reg.ING_SYSREF_CNT,
    Reg.ING_SYSREF_CTRL]
  omega

theorem mem_lemc_alignLemc {j : Nat} (hj : j < 4) (hon : s.linkOn j = true) (hst : s.linkState j ≠ 4) :
    j ∈ s.alignLemc.ingress.lemc :=
  (mem_foldl_setIns _ _).mpr (.inr ⟨List.mem_range.mpr hj, by simp [hon, hst]⟩)

theorem time_edgeShown (s : State) : s.edgeShown.reg64 Page.ing Reg.ING_SYSREF_NS = s.elapsed % 2 ^ 64 := by
  have hlow : s.edgeShown.reg Page.ing Reg.ING_SYSREF_NS
      = (s.setReg64 Page.ing Reg.ING_SYSREF_NS s.elapsed).reg Page.ing Reg.ING_SYSREF_NS :=
    (reg_setReg_off (by decide)).trans (reg_setReg_off (by decide))
  have hhigh : s.edgeShown.reg Page.ing (Reg.ING_SYSREF_NS + 4)
      = (s.setReg64 Page.ing Reg.ING_SYSREF_NS s.elapsed).reg Page.ing (Reg.ING_SYSREF_NS + 4) :=
    (reg_setReg_off (by decide)).trans (reg_setReg_off (by decide))
  rw [reg64, hlow, hhigh, ← reg64, reg64_setReg64_same]

theorem counted_edgeShown (s : State) : s.counted s.edgeShown Page.ing Reg.ING_SYSREF_CNT 1 := by
  rw [counted, edgeShown, setFld, reg_setReg_off (by decide), count_reg, setReg64, reg_setReg_off (by decide),
    reg_setReg_off (by decide)]

/-- All that follows the latched time leaves the ING page. -/
theorem ing_sysref (s : State) (src : Nat) {off : Nat} (ho : off < 4096) :
    (s.alignLemc.loadPhases.tmrSource src).reg Page.ing off = s.reg Page.ing off := by
  rw [(TimersOnly.refl s.alignLemc.loadPhases).tmrSource.regs _ _ (by decide) ho, loadPhases, reg_mapEnc]
  rfl

theorem sysref_parts (s : State) :
    let t := s.edgeShown.alignLemc.loadPhases.tmrSource 18
    t.reg64 Page.ing Reg.ING_SYSREF_NS = s.elapsed % 2 ^ 64 ∧ s.counted t Page.ing Reg.ING_SYSREF_CNT 1
      ∧ t.regFld Page.ing Reg.ING_SYSREF_CTRL 1 0 = 0
      ∧ (∀ j, j < 4 → s.linkOn j = true → s.linkState j ≠ 4 → j ∈ t.ingress.lemc) ∧ s.only t [.regs, .ingress, .tmr] := by
  have hing (off : Nat) (ho : off < 4096) := s.edgeShown.ing_sysref 18 ho
  have hparts := (TimersOnly.refl s.edgeShown.alignLemc.loadPhases).tmrSource (src := 18) |>.parts
  have hlemc : (s.edgeShown.alignLemc.loadPhases.tmrSource 18).ingress = s.edgeShown.alignLemc.loadPhases.ingress :=
    hparts .ingress (by decide)
  refine ⟨?_, ?_, ?_, fun j hj hon hst => ?_,
    only.trans (only.mapEnc (only.ingress (State.only_refl s _).setReg64.count.setFld)) hparts⟩
  · rw [reg64, hing _ (by decide), hing _ (by decide)]
    exact s.time_edgeShown
  · rw [counted, hing _ (by decide)]
    exact s.counted_edgeShown
  · rw [regFld, hing _ (by decide)]
    exact regFld_setFld_same _ _ _ (by decide)
  · rw [hlemc, loadPhases, lemc_mapEnc]
    refine mem_lemc_alignLemc hj ?_ ?_
    · rw [linkOn, s.link_edgeShown hj (by decide) (by decide)]
      exact hon
    · rw [linkState, s.link_edgeShown hj (by decide) (by decide)]
      exact hst

end State

end Sys2Proof.Machine
end

section
/-! # Multiblocks -/
namespace Sys2Proof.Machine
open Sys2Proof

/-- The registers of a channel's page that its conversions at MIX and DEC may change (R103–R105). -/
def siteRegs : List Nat :=
  [Reg.SAT_NAN, Reg.SAT_CNTn, Reg.SAT_CNTn + 4, Reg.SAT_TOTAL, Reg.SAT_FLAG, Reg.PG_INT]

namespace State

variable {s t u : State} {c d k : Nat} {l : List Part}

/-- What the conversions of channel c may change: the registers of its sites, and free values. -/
structure Converts (s t : State) (c : Nat) : Prop where
  parts : s.only t [.regs, .fresh]
  regs : s.regsBut t (siteRegs.map (Page.enc c, ·))

namespace Converts

theorem refl (s : State) (c : Nat) : s.Converts s c := ⟨State.only_refl s _, regsBut_refl s _⟩

theorem branch {p : Prop} [Decidable p] (ht : s.Converts t c) (hu : s.Converts u c) : s.Converts (if p then t else u) c := by
  split
  exacts [ht, hu]

variable (h : s.Converts t c)
include h

theorem setReg {off : Nat} {v : W32} (hl : off ∈ siteRegs := by decide) : s.Converts (t.setReg (Page.enc c) off v) c :=
  have hlt : ∀ o ∈ siteRegs, o < 4096 := by decide
  ⟨h.parts.setReg, regsBut_setReg h.regs (hlt off hl) (List.mem_map_of_mem hl) v⟩

theorem count {off n : Nat} (hl : off ∈ siteRegs := by decide) : s.Converts (t.count (Page.enc c) off n) c := h.setReg hl

theorem fresh {n : Nat} : s.Converts { t with fresh := n } c := ⟨h.parts.fresh, h.regs⟩

theorem siteInt {site w : Nat} {i : Int} (hc : c < 64) (hsite : Reg.SAT_CNTn + 4 * site ∈ siteRegs := by decide) :
    s.Converts (t.siteInt (Page.enc c) site w i).2 c := by
  have hheader (u : State) : u.headerPage (Page.enc c) = Page.enc c := if_neg (by unfold Page.enc; omega)
  have hnan : s.Converts (if (satInt w i).nan then t.count (Page.enc c) Reg.SAT_NAN 1 else t) c := branch h.setReg h
  have hcounted := (hnan.count (n := 1) hsite).count (off := Reg.SAT_TOTAL) (n := 1)
  refine branch (branch ?_ hcounted) hnan
  rw [hheader]
  exact hcounted.setReg.setReg

theorem encMix {e : EncState} {i q : Int} (hc : c < 64) : s.Converts (t.encMix c e i q).2 c := by
  unfold State.encMix
  dsimp only
  split
  exacts [(h.siteInt hc).siteInt hc, h]

theorem encOut {e : EncState} {i q : Int} (hc : c < 64) : s.Converts (t.encOut c e i q).2 c := by
  unfold State.encOut
  dsimp only
  split
  · exact h
  · exact (branch h h.fresh |>.siteInt hc).siteInt hc

/-- A register that no conversion changes. -/
theorem own (off : Nat) (ho : off < 4096 := by decide) (hn : off ∉ siteRegs := by decide) :
    t.reg (Page.enc c) off = s.reg (Page.enc c) off :=
  h.regs _ _ ho (by simp [hn])

/-- The other channels see no conversion. -/
theorem sameFor (hd : d ≠ c) : s.SameFor t d where
  grade := h.parts .grade (by decide)
  regs p off ho hp := h.regs p off ho fun hm => by
    obtain ⟨o, -, he⟩ := List.mem_map.mp hm
    exact hp c hd.symm (Prod.mk.inj he).1.symm
  state := encState_congr (h.parts .ingress (by decide)) d

end Converts

theorem last_encOut (s : State) (c : Nat) (e : EncState) (i q : Int) : (s.encOut c e i q).1.last = e.last := by
  unfold encOut
  dsimp only
  split <;> rfl

/-- An input sample, is kept as the channel's last one whether or not a value leaves the
decimator. -/
theorem encInput_eq (hc : c < 64) (i q : Int) (ok : Bool) :
    ∃ u e, s.encInput c i q ok = u.setEnc c e ∧ e.last = (if ok then (i, q) else (s.encState c).last)
      ∧ (if ok then s else s.count (Page.enc c) Reg.ENC_INVALID 1).Converts u c := by
  unfold encInput
  extract_lets pg e x s₁ m e₁ s₂
  have hlast : e₁.last = if ok then (i, q) else e.last := rfl
  have hmixed : s₁.Converts s₂ c := (Converts.refl s₁ c).encMix hc
  by_cases hfew : e₁.cnt < cicRatio (s₂.reg pg Reg.ENC_CFG)
  · exact ⟨s₂, e₁, if_pos hfew, hlast, hmixed⟩
  · exact ⟨_, _, if_neg hfew, (last_encOut _ _ _ _ _).trans hlast, hmixed.encOut hc⟩

section
variable {i q : Int} {ok : Bool}

theorem last_encInput (hc : c < 64) :
    ((s.encInput c i q ok).encState c).last = if ok then (i, q) else (s.encState c).last := by
  obtain ⟨u, e, heq, hlast, -⟩ := encInput_eq (s := s) hc i q ok
  rw [heq, encState_setEnc_same, hlast]

theorem counted_encInput (hc : c < 64) : s.counted (s.encInput c i q false) (Page.enc c) Reg.ENC_INVALID 1 := by
  obtain ⟨u, e, heq, -, hu⟩ := encInput_eq (s := s) hc i q false
  rw [counted, heq, reg_setEnc, hu.own Reg.ENC_INVALID]
  exact s.count_reg _ _ _

theorem sameFor_encInput (hc : c < 64) (hd : d ≠ c) : s.SameFor (s.encInput c i q ok) d := by
  obtain ⟨u, e, heq, -, hu⟩ := encInput_eq (s := s) hc i q ok
  have hcount : s.SameFor (if ok then s else s.count (Page.enc c) Reg.ENC_INVALID 1) d := by
    split
    · exact .refl s d
    · exact ⟨rfl, fun p off ho hp => reg_setReg_page (hp c hd.symm) ho (by decide), rfl⟩
  rw [heq]
  exact (hcount.trans (hu.sameFor hd)).trans (.setEnc hd)

theorem only.encInput (h : s.only t [.ingress, .regs, .fresh]) (hc : c < 64) :
    s.only (t.encInput c i q ok) [.ingress, .regs, .fresh] := by
  obtain ⟨u, e, heq, -, hu⟩ := encInput_eq (s := t) hc i q ok
  rw [heq]
  exact only.setEnc ((only.branch h h.count).trans hu.parts)

end

/-! ### JESD_MULTIBLOCK (R329, R333, R334) -/

/-- The turn of a channel in a sampling instant. -/
def takeInstant (k : Nat) (good : Bool) (frame : List Nat) (s : State) (c : Nat) : State :=
  if s.encRunning c && s.encLink c == k then
    s.encInput c (s.converter k frame (fld (s.reg (Page.enc c) Reg.ENC_SRC) 3 0))
      (if bit (s.reg (Page.enc c) Reg.ENC_SRC) 31 then s.converter k frame (fld (s.reg (Page.enc c) Reg.ENC_SRC) 3 0 + 1) else 0)
      good
  else s

/-- A multiblock whose CRC-12 fails is counted. -/
def crcShown (s : State) (k : Nat) (good : Bool) : State :=
  if good then s else s.countInt Page.ing (Reg.ING_CRC_ERRk + 0x20 * k) 1 1

theorem exec_jesdMultiblock_of_aligned {link : Fin 4} {ok : Bool} {frame : List Nat} (hclk : s.clocked = true)
    (hon : s.linkOn link = true) (hst : s.linkState link = 4) {good : Bool}
    (hgood : (ok || !(bit (s.reg Page.ing (Reg.ING_LCFGk + 0x20 * link.val)) 1)) = good) :
    exec (.jesdMultiblock link ok [frame]) s
      = .next ((List.range 64).foldl (takeInstant link good frame) (s.crcShown link good)) := by
  subst hgood
  change execJesdMultiblock link ok [frame] s = _
  rw [execJesdMultiblock, if_pos (by simp [hclk, hon, hst])]
  simp only [List.foldl_cons, List.foldl_nil]
  rfl

section
variable {good : Bool} {frame : List Nat}

theorem sameFor_takeInstant (u : State) (c d : Nat) (hc : c < 64) (hd : d ≠ c) :
    u.SameFor (takeInstant k good frame u c) d := by
  unfold takeInstant
  split
  exacts [sameFor_encInput hc hd, .refl u d]

theorem only_crcShown (s : State) (k : Nat) (good : Bool) : s.only (s.crcShown k good) [.regs] :=
  .branch (State.only_refl s _) (State.only_refl s _).countInt

theorem regsBut_crcShown (s : State) (k : Fin 4) (good : Bool) :
    s.regsBut (s.crcShown k good) [(Page.ing, Reg.ING_CRC_ERRk + 0x20 * k.val), (Page.ing, Reg.PG_INT)] := by
  unfold crcShown
  split
  · exact regsBut_refl s _
  · exact regsBut_countInt (regsBut_refl s _) (linkReg_lt k) (by simp) (by simp)

theorem counted_crcShown (s : State) (k : Nat) :
    s.counted (s.crcShown k false) Page.ing (Reg.ING_CRC_ERRk + 0x20 * k) 1 :=
  reg_countInt_same (linkReg_ne_low k)

theorem converter_congr (h : t.link k Reg.ING_LCFGk = s.link k Reg.ING_LCFGk) (frame : List Nat) (m : Nat) :
    t.converter k frame m = s.converter k frame m := by
  unfold converter
  rw [h]

/-- The turn of a channel, in a state that it sees as the multiblock found it (R329, R333). -/
structure Instant (s : State) (k : Nat) (u : State) (c : Nat) : Prop where
  running : u.encRunning c = s.encRunning c
  link : u.encLink c = s.encLink c
  src : u.reg (Page.enc c) Reg.ENC_SRC = s.reg (Page.enc c) Reg.ENC_SRC
  invalid : u.reg (Page.enc c) Reg.ENC_INVALID = s.reg (Page.enc c) Reg.ENC_INVALID
  state : u.encState c = s.encState c
  sample : ∀ frame m, u.converter k frame m = s.converter k frame m

theorem instant_of_sameFor {k : Fin 4} (hu : (s.crcShown k good).SameFor u c) : s.Instant k u c := by
  have hshown := regsBut_crcShown s k good
  have hgrade : (s.crcShown k good).grade = s.grade := only_crcShown s k good .grade (by decide)
  have hcfg : (s.crcShown k good).link k Reg.ING_LCFGk = s.link k Reg.ING_LCFGk := by
    refine hshown _ _ (linkReg_lt k) ?_
    simp [linkReg_ne_low k (by decide : Reg.PG_INT < Reg.ING_LCFGk)]
  exact {
    running := hu.encRunning.trans (encRunning_of_regsBut hshown (by simp) hgrade c)
    link := hu.encLink.trans (encLink_of_regsBut hshown (by simp) c)
    src := (hu.own _).trans (reg_enc_of_regsBut hshown (by simp) c (by decide))
    invalid := (hu.own _).trans (reg_enc_of_regsBut hshown (by simp) c (by decide))
    state := hu.state.trans (encState_congr (only_crcShown s k good .ingress (by decide)) c)
    sample := converter_congr ((hu.ing _ (linkReg_lt k)).trans hcfg) }

/-- A running channel that the link feeds takes its converters' samples, or keeps its last valid one and counts. -/
theorem fed_multiblock {k : Fin 4} (hc : c < 64) (hrun : s.encRunning c = true) (hlink : s.encLink c = k.val) :
    let t := (List.range 64).foldl (takeInstant k good frame) (s.crcShown k good)
    let src := s.reg (Page.enc c) Reg.ENC_SRC
    (good = true → (t.encState c).last = (s.converter k frame (fld src 3 0),
        if bit src 31 then s.converter k frame (fld src 3 0 + 1) else 0))
      ∧ (good = false → (t.encState c).last = (s.encState c).last ∧ s.counted t (Page.enc c) Reg.ENC_INVALID 1) := by
  obtain ⟨u, hu, ht⟩ := turn_of_foldl (sameFor_takeInstant (k := k) (good := good) (frame := frame)) hc (s.crcShown k good)
  have hin := instant_of_sameFor hu
  rw [takeInstant, if_pos (by simp [hin.running, hin.link, hrun, hlink]), hin.src, hin.sample, hin.sample] at ht
  intro t src
  refine ⟨fun hgood => ?_, fun hbad => ?_⟩
  · rw [ht.state, last_encInput hc, if_pos hgood]
  · subst hbad
    refine ⟨by rw [ht.state, last_encInput hc, hin.state]; rfl, ?_⟩
    rw [counted, ht.own Reg.ENC_INVALID, counted_encInput hc, hin.invalid]

theorem unfed_multiblock {k : Fin 4} (hc : c < 64) (hn : ¬ (s.encRunning c = true ∧ s.encLink c = k.val)) :
    ((List.range 64).foldl (takeInstant k good frame) (s.crcShown k good)).encState c = s.encState c := by
  obtain ⟨u, hu, ht⟩ := turn_of_foldl (sameFor_takeInstant (k := k) (good := good) (frame := frame)) hc (s.crcShown k good)
  have hin := instant_of_sameFor hu
  rw [takeInstant, if_neg (by simpa [hin.running, hin.link] using hn)] at ht
  exact ht.state.trans hin.state

theorem only_multiblock (s : State) (k : Nat) : s.only ((List.range 64).foldl (takeInstant k good frame) (s.crcShown k good))
    [.ingress, .regs, .fresh] := by
  refine ((only_crcShown s k good).mono (by decide)).foldl fun {u c} hc hu => ?_
  unfold takeInstant
  exact .branch (hu.encInput (List.mem_range.mp hc)) hu

end

end State

/-- Settles O42: each event of a link is a change of its registers; what follows for the channels is a pass over them, in
which the turn of a channel touches no other. -/
theorem jesdLinksCarrySamples : Obligations.JesdLinksCarrySamples := by
  intro s k cfg stat
  refine ⟨fun req v htakes hoff => ⟨fun href => ?refused, fun hok => ?begun⟩, fun hclk hon =>
    ⟨fun hst => ?cdr, fun hst => ?sync, fun hst => ?emb, fun hst hlemc jitter => ?aligned, fun hst =>
      ⟨fun lane => ?lost, fun ok frame => ?multiblock⟩⟩, fun hclk hgrade hmode => ?sysref⟩
  case refused =>
    have hne : cfg ≠ Reg.PG_ERR := linkReg_ne_low k
    refine ⟨_, State.exec_linkEnable_of_refused rfl htakes hoff href, ?_, State.bit_setErr (by decide),
      (State.only_refl s _).setReg.setErr, State.regsBut_setReg (State.regsBut_setReg (State.regsBut_refl s _) (linkReg_lt k)
        (by simp [cfg]) _) (by decide) (by simp) _⟩
    rw [State.setErr, State.orReg, State.reg_setReg_off hne, State.setLink, State.reg_setReg_same]
    simp [bit]
  case begun =>
    exact ⟨_, State.exec_linkEnable_of_accepted rfl htakes hoff hok, s.cfg_linkBegun k _, s.linkState_linkBegun k _,
      s.lanes_linkBegun k _, s.only_linkBegun k _, s.regsBut_linkBegun k _⟩
  case cdr =>
    exact ⟨_, State.exec_jesdCdrLock_of_down hclk hon hst, s.linkState_setLinkState k 1, (State.only_refl s _).setFld,
      State.regsBut_setReg (State.regsBut_refl s _) (linkReg_lt k) (by simp [stat]) _⟩
  case sync => exact ⟨_, State.exec_jesdSyncLock_of_cdrLock hclk hon hst, s.lanesLocked_parts k (by decide)⟩
  case emb => exact ⟨_, State.exec_jesdEmbLock_of_sync hclk hon hst, s.lanesLocked_parts k (by decide)⟩
  case aligned =>
    obtain ⟨lat, hexec⟩ := State.exec_jesdAligned_of_embLock (jitter := jitter) hclk hon hst hlemc
    exact ⟨_, hexec, s.aligned_parts k lat⟩
  case lost => exact ⟨_, State.exec_jesdLinkLoss_of_aligned hclk hon hst, s.linkLoss_parts k lane⟩
  case multiblock =>
    intro good
    refine ⟨_, State.exec_jesdMultiblock_of_aligned (good := good) hclk hon hst rfl, fun c hc => ?_, fun hbad => ?_,
      s.only_multiblock k⟩
    · split
      · next hfed => exact State.fed_multiblock hc hfed.1 hfed.2
      · next hn => exact State.unfed_multiblock hc hn
    · rw [State.counted, State.ing_of_foldl State.sameFor_takeInstant _ _ (linkReg_lt k), hbad]
      exact s.counted_crcShown k
  case sysref => exact ⟨_, State.exec_sysrefEdge_of_oneShot hclk hgrade hmode, s.sysref_parts⟩

end Sys2Proof.Machine
end

section
/-! # Encoder channels: starting, stopping, posted writes -/
namespace Sys2Proof.Machine
open Sys2Proof

theorem pageKind_enc (c : Fin 64) : pageKind (Page.enc c) = .enc := by
  revert c
  decide

namespace State

variable {s t : State} {c : Nat} {w : W32}

theorem presentIn_of_takes {r : Requester} {p off : Nat} (h : s.takes r p off) : presentIn s.grade p = true := by
  unfold takes judgeWrite admitWith at h
  cases hr : s.reach r p with
  | held => simp [hr] at h
  | gated => simp [hr] at h
  | served =>
    by_contra hp
    simp [hr, Bool.not_eq_true _ ▸ hp] at h

/-- A part that takes a write to a channel's page has the ingress (R327). -/
theorem ingress_of_takes {r : Requester} {c : Fin 64} {off : Nat} (h : s.takes r (Page.enc c) off) : s.grade.ingress = true := by
  have hp := presentIn_of_takes h
  rwa [presentIn, pageKind_enc] at hp

/-! ### Starting and stopping (R342) -/

theorem encRunning_of_mode (hg : s.grade.ingress = true) (hr : s.reg (Page.enc c) Reg.ENC_CFG = w) (h0 : fld w 31 29 ≠ 0)
    (h7 : fld w 31 29 ≠ 7) : s.encRunning c = true := by
  simp [encRunning, encMode, regFld, hg, hr, h0, h7]

theorem encRunning_of_off (hr : s.reg (Page.enc c) Reg.ENC_CFG = w) (h0 : fld w 31 29 = 0) : s.encRunning c = false := by
  simp [encRunning, encMode, regFld, hr, h0]

/-- The configuration is stored, with the rate and the group delay that it gives (R336). -/
def encConfigured (s : State) (c : Nat) (w rate delay : W32) : State :=
  ((s.setReg (Page.enc c) Reg.ENC_CFG w).setReg (Page.enc c) Reg.ENC_RATE_KSPS rate).setReg (Page.enc c) Reg.ENC_GDLY_NS delay

/-- The channel begins with empty state. -/
def encBegun (s : State) (c seq : Nat) : State :=
  (s.setEnc c { phase := (s.reg (Page.enc c) Reg.ENC_NCO_PHASE).toNat, blkSeq := seq }).useFresh

/-- A channel whose link is not aligned reports it. -/
def encReported (s : State) (c : Nat) : State := if s.linkState (s.encLink c) = 4 then s else s.setInt (Page.enc c) 0

theorem encState_encBegun (s : State) (c seq : Nat) :
    (s.encBegun c seq).encState c = { phase := (s.reg (Page.enc c) Reg.ENC_NCO_PHASE).toNat, blkSeq := seq } := by
  rw [encBegun, encState_congr (useFresh_ingress _), encState_setEnc_same]

theorem only_encBegun (s : State) (c seq : Nat) : s.only (s.encBegun c seq) [.ingress, .fresh] :=
  only_useFresh (only.setEnc (State.only_refl s _)) (by simp)

theorem reg_encBegun (s : State) (c seq p off : Nat) : (s.encBegun c seq).reg p off = s.reg p off := rfl

theorem encStart_of_ok {v : W32} (hok : s.encStartOk c (v &&& 0xEFFFC000) = true) : ∃ rate delay seq,
    s.encStart c v = ((s.encConfigured c (v &&& 0xEFFFC000) rate delay).encBegun c seq).encReported c :=
  ⟨_, _, _, if_pos hok⟩

section
variable {r : Requester} {chan : Fin 64} {v : W32} (htakes : s.takes r (Page.enc chan) Reg.ENC_CFG)
include htakes

theorem exec_channelStart_of_off (h0 : fld v 31 29 ≠ 0) (h7 : fld v 31 29 ≠ 7) (hoff : s.encRunning chan = false)
    (hgood : s.faulted (Page.enc chan) = false) : exec (.channelStart r chan v) s = .next (s.encStart chan v) := by
  change execChannelStart r chan v s = _
  rw [execChannelStart, if_neg (by simp [h0, h7]), ifAdmit_of_takes htakes]
  simp [encCfg, h0, h7, hoff, hgood]

theorem exec_channelStop_of_running (hrun : s.encRunning chan = true) :
    exec (.channelStop r chan v) s = .next (s.encStop chan (v &&& 0x1FFFFFFF)) := by
  have hoff : fld (v &&& 0x1FFFFFFF) 31 29 = 0 := fld_and_of_zeros v _ (by decide)
  refine congrArg Host.Outcome.next ?_
  rw [ifAdmit_of_takes htakes]
  rw [encCfg, if_pos hrun]
  exact if_pos (by rw [hoff]; rfl)

end

theorem encReported_parts (s : State) (c : Nat) : (s.encReported c).ingress = s.ingress
    ∧ s.only (s.encReported c) [.regs] ∧ s.regsBut (s.encReported c) [(Page.enc c, Reg.PG_INT)] := by
  unfold encReported
  split
  · exact ⟨rfl, State.only_refl s _, regsBut_refl s _⟩
  · exact ⟨rfl, (State.only_refl s _).setInt, regsBut_setReg (regsBut_refl s _) (by decide) (by simp) _⟩

/-- A started channel runs with empty state. -/
theorem encStart_parts {rate delay : W32} {seq : Nat} (hg : s.grade.ingress = true) (h0 : fld w 31 29 ≠ 0)
    (h7 : fld w 31 29 ≠ 7) :
    let pg := Page.enc c
    let t := ((s.encConfigured c w rate delay).encBegun c seq).encReported c
    t.encRunning c = true ∧ t.reg pg Reg.ENC_CFG = w
      ∧ t.encState c = { phase := (s.reg pg Reg.ENC_NCO_PHASE).toNat, blkSeq := seq } ∧ s.only t [.regs, .ingress, .fresh]
      ∧ s.regsBut t [(pg, Reg.ENC_CFG), (pg, Reg.ENC_RATE_KSPS), (pg, Reg.ENC_GDLY_NS), (pg, Reg.PG_INT)] := by
  intro pg t
  have hset : s.only (s.encConfigured c w rate delay) [.regs] := (State.only_refl s _).setReg.setReg.setReg
  have hbegun := (s.encConfigured c w rate delay).only_encBegun c seq
  obtain ⟨hing, hparts, hregs⟩ := ((s.encConfigured c w rate delay).encBegun c seq).encReported_parts c
  have hall : s.only t [.regs, .ingress, .fresh] := ((hset.mono (by decide)).trans hbegun).trans hparts
  have hgrade : t.grade = s.grade := hall .grade (by decide)
  have hcfg : t.reg pg Reg.ENC_CFG = w := by
    rw [hregs pg Reg.ENC_CFG (by decide) (by simp), reg_encBegun, encConfigured,
      reg_setReg_off (by decide), reg_setReg_off (by decide), reg_setReg_same]
  have hphase : (s.encConfigured c w rate delay).reg pg Reg.ENC_NCO_PHASE = s.reg pg Reg.ENC_NCO_PHASE := by
    rw [encConfigured, reg_setReg_off (by decide), reg_setReg_off (by decide), reg_setReg_off (by decide)]
  refine ⟨encRunning_of_mode (hgrade ▸ hg) hcfg h0 h7, hcfg, ?_, hall, ?_⟩
  · rw [← hphase, encState_congr hing, encState_encBegun]
  · intro p off ho hn
    simp only [List.mem_cons, List.not_mem_nil, or_false, not_or] at hn
    obtain ⟨hcfg, hrate, hdelay, hint⟩ := hn
    rw [hregs p off ho (by simpa using hint), reg_encBegun]
    exact regsBut_setReg (l := [(pg, Reg.ENC_CFG), (pg, Reg.ENC_RATE_KSPS), (pg, Reg.ENC_GDLY_NS)])
      (regsBut_setReg (regsBut_setReg (regsBut_refl s _) (by decide) (by simp [pg]) _) (by decide) (by simp [pg]) _)
      (by decide) (by simp [pg]) _ p off ho (by simp [hcfg, hrate, hdelay])

theorem encStart_of_refused {v : W32} (hbad : s.encStartOk c (v &&& 0xEFFFC000) = false) : s.encStart c v
    = (s.setReg (Page.enc c) Reg.ENC_CFG (v &&& 0xEFFFC000 &&& 0x1FFFFFFF)).setErr (Page.enc c) 0 :=
  if_neg (by rw [hbad]; decide)

/-- A refused start leaves the mode OFF, whatever the word. -/
theorem refused_parts (s : State) (c : Nat) (w : W32) :
    let pg := Page.enc c
    let t := (s.setReg pg Reg.ENC_CFG (w &&& 0x1FFFFFFF)).setErr pg 0
    t.encRunning c = false ∧ bit (t.reg pg Reg.PG_ERR) 0 = true ∧ s.only t [.regs]
      ∧ s.regsBut t [(pg, Reg.ENC_CFG), (pg, Reg.PG_ERR)] := by
  refine ⟨encRunning_of_off (w := w &&& 0x1FFFFFFF) ?_ (fld_and_of_zeros w _ (by decide)), bit_setErr (by decide),
    (State.only_refl s _).setReg.setErr,
    regsBut_setReg (regsBut_setReg (regsBut_refl s _) (by decide) (by simp) _) (by decide) (by simp) _⟩
  rw [setErr, orReg, reg_setReg_off (by decide), reg_setReg_same]

theorem encStop_parts (s : State) (c : Nat) (v : W32) : (s.encStop c v).encRunning c = false ∧ (s.encStop c v).encState c = {}
    ∧ s.only (s.encStop c v) [.regs, .ingress] ∧ s.regsBut (s.encStop c v) [(Page.enc c, Reg.ENC_CFG)] := by
  refine ⟨encRunning_of_off (w := v &&& 0x0FFFC000) ?_ (fld_and_of_zeros v _ (by decide)), encState_setEnc_same _ _ _,
    (State.only_refl s _).setReg.setEnc, regsBut_setReg (regsBut_refl s _) (by decide) (by simp) (v &&& 0x0FFFC000)⟩
  rw [encStop, reg_setEnc, reg_setReg_same]

/-! ### Posted writes of ENC_PARAM in DELTA mode (R339, R342) -/

theorem encPosted_param (v : W64) : encPosted Reg.ENC_PARAM v = [(Reg.ENC_PARAM, v.truncate 32)] := rfl

/-- The word that was posted last counts. -/
theorem foldl_posted_last (l : List (Nat × W32)) (off : Nat) (w x : W32) :
    (l ++ [(off, w)]).foldl (fun w x => if x.1 = off then x.2 else w) x = w := by
  simp [List.foldl_append]

section
variable {r : Requester} {chan : Fin 64} {v : W64} (htakes : s.takes r (Page.enc chan) Reg.ENC_PARAM)
  (hrun : s.encRunning chan = true) (hmode : s.encMode chan = 2)
include htakes hrun hmode

/-- The write is judged by the width that it gives, whatever waits before it. -/
theorem exec_encPostedWrite_delta : exec (.encPostedWrite r chan Reg.ENC_PARAM v) s = .next (
    if 1 ≤ fld (v.truncate 32) 15 0 ∧ fld (v.truncate 32) 15 0 ≤ 32767 then
      if s.running then (s.setEnc chan { s.encState chan with
        posts := (s.encState chan).posts ++ [(Reg.ENC_PARAM, v.truncate 32)] }).posted r
      else s.setReg (Page.enc chan) Reg.ENC_PARAM (v.truncate 32)
    else s.setErr (Page.enc chan) 0) := by
  refine congrArg Host.Outcome.next ?_
  rw [ifAdmit_of_takes htakes]
  simp only [encPost, hrun, hmode, encPosted_param, encParamOk, foldl_posted_last, List.foldl_cons, List.foldl_nil]
  by_cases hgood : 1 ≤ fld (v.truncate 32) 15 0 ∧ fld (v.truncate 32) 15 0 ≤ 32767
  · simp [hgood]
  · simp [hgood]

end

theorem posted_setEnc_parts (s : State) (r : Requester) (c : Nat) (x : EncState) : ((s.setEnc c x).posted r).encState c = x
    ∧ r ∈ ((s.setEnc c x).posted r).step.posters ∧ s.only ((s.setEnc c x).posted r) [.ingress, .step] := by
  refine ⟨?_, mem_posters_posted _ r, only.posted (State.only_refl s _).setEnc⟩
  have hing : ((s.setEnc c x).posted r).ingress = (s.setEnc c x).ingress :=
    (only.posted (State.only_refl (s.setEnc c x) [.step])) .ingress (by decide)
  rw [encState_congr hing, encState_setEnc_same]

end State

end Sys2Proof.Machine
end

section
/-! # Encoder channels: modes -/
namespace Sys2Proof.Machine
open Sys2Proof

namespace State

variable {s t : State} {c : Nat} {e : EncState} {ws : List W32} {x : Int} {n : Nat}

theorem reg_congr (h : t.regs = s.regs) (p off : Nat) : t.reg p off = s.reg p off := by rw [reg, h, reg]

/-! ### What a sample adds to its channel -/

/-- Only the channel has changed: its state is `e`, with events of the words `ws` behind its own. -/
structure Emitted (s t : State) (c : Nat) (e : EncState) (ws : List W32) : Prop where
  parts : s.only t [.ingress]
  state : ∃ l, t.encState c = { e with events := l } ∧ l.map (fun x => x.word) = e.events.map (fun x => x.word) ++ ws

/-- Both destinations of the channel take binary events, and 16 of them find room (R341). -/
structure SendsBinary (s : State) (c : Nat) : Prop where
  upValid : emitValid (s.reg64 (Page.enc c) Reg.ENC_UP) = true
  upKind : emitKind (s.reg64 (Page.enc c) Reg.ENC_UP) = 0
  downValid : emitValid (s.reg64 (Page.enc c) Reg.ENC_DOWN) = true
  downKind : emitKind (s.reg64 (Page.enc c) Reg.ENC_DOWN) = 0
  room : (s.encState c).events.length + 16 ≤ 256

/-- The words of events to the two destinations, with the row selector raised by k. -/
def upWord (s : State) (c k : Nat) : W32 := BitVec.ofNat 32 (s.reg64 (Page.enc c) Reg.ENC_UP + k)
def downWord (s : State) (c k : Nat) : W32 := BitVec.ofNat 32 (s.reg64 (Page.enc c) Reg.ENC_DOWN + k)

theorem encSend_of_binary {dest k : Nat} {g time : Int} (hvalid : emitValid (s.reg64 (Page.enc c) dest) = true)
    (hkind : emitKind (s.reg64 (Page.enc c) dest) = 0) (hroom : (s.encState c).events.length < 256) :
    ∃ x : EncEvent, x.word = BitVec.ofNat 32 (s.reg64 (Page.enc c) dest + k) ∧ s.encSend c dest k g time
      = s.setEnc c { s.encState c with events := (s.encState c).events ++ [x] } := by
  unfold encSend
  simp only [hvalid, hkind, Bool.true_eq_false, if_false, if_true, if_neg (Nat.not_le.mpr hroom)]
  exact ⟨_, rfl, rfl⟩

namespace Emitted

theorem refl (s : State) (c : Nat) : s.Emitted s c (s.encState c) [] :=
  ⟨State.only_refl s _, _, rfl, (List.append_nil _).symm⟩

section
variable (h : s.Emitted t c e ws)
include h

theorem reg_eq (p off : Nat) : t.reg p off = s.reg p off := reg_congr (h.parts .regs (by decide)) p off

theorem reg64_eq (p off : Nat) : t.reg64 p off = s.reg64 p off := by rw [reg64, h.reg_eq, h.reg_eq, reg64]

/-- A change of the channel's state that neither reads nor writes its events. -/
theorem set (f : EncState → EncState) (hf : ∀ e l, f { e with events := l } = { f e with events := l } := by intros; rfl) :
    s.Emitted (t.setEnc c (f (t.encState c))) c (f e) ws := by
  obtain ⟨l, hstate, hwords⟩ := h.state
  have hevents : (f e).events = e.events := by
    have hsame := congrArg EncState.events (hf e e.events)
    exact hsame
  exact ⟨h.parts.setEnc, l, by rw [encState_setEnc_same, hstate, hf], by rw [hwords, hevents]⟩

theorem send {dest k : Nat} {g time : Int} (hvalid : emitValid (s.reg64 (Page.enc c) dest) = true)
    (hkind : emitKind (s.reg64 (Page.enc c) dest) = 0) (hroom : e.events.length + ws.length < 256) :
    s.Emitted (t.encSend c dest k g time) c e (ws ++ [BitVec.ofNat 32 (s.reg64 (Page.enc c) dest + k)]) := by
  obtain ⟨l, hstate, hwords⟩ := h.state
  have hlen : l.length = e.events.length + ws.length := by simpa using congrArg List.length hwords
  rw [← h.reg64_eq] at hvalid hkind ⊢
  obtain ⟨x, hword, hsend⟩ := encSend_of_binary (k := k) (g := g) (time := time) hvalid hkind
    (by rw [hstate]; exact hlen ▸ hroom)
  rw [hsend, hstate]
  exact ⟨h.parts.setEnc, l ++ [x], encState_setEnc_same _ _ _, by simp [hwords, hword]⟩

section
variable {k : Nat} {g time : Int} (hs : s.SendsBinary c) (he : e.events = (s.encState c).events) (hlen : ws.length < 16)
include hs he hlen

theorem sendUp : s.Emitted (t.encSend c Reg.ENC_UP k g time) c e (ws ++ [s.upWord c k]) := by
  have hroom := hs.room
  exact h.send hs.upValid hs.upKind (by rw [he]; omega)

theorem sendDown : s.Emitted (t.encSend c Reg.ENC_DOWN k g time) c e (ws ++ [s.downWord c k]) := by
  have hroom := hs.room
  exact h.send hs.downValid hs.downKind (by rw [he]; omega)

end

end

end Emitted

/-! ### DELTA, ZC, PEAK and LATENCY (R339) -/

section
variable {e₀ : EncState} (h₀ : s.encState c = e₀) (hs : s.SendsBinary c) {time d h : Int}
include h₀

theorem encDelta_within (hd : (s.regFld (Page.enc c) Reg.ENC_PARAM 15 0 : Int) = d) (hup : x - e₀.ref < d)
    (hdown : e₀.ref - x < d) : s.Emitted (encDelta c x time s) c e₀ [] := by
  subst h₀ hd
  rw [encDelta, if_neg (Int.not_le.mpr hup), if_neg (Int.not_le.mpr hdown)]
  exact .refl s c

theorem encPeak_of_hold (hhold : 0 < e₀.hold) : s.Emitted (encPeak c x time s) c
    { e₀ with hold := e₀.hold - 1, x2 := e₀.x1, x1 := x, t1 := time } [] := by
  subst h₀
  unfold encPeak
  dsimp only
  rw [if_pos hhold]
  have hheld := (Emitted.refl s c).set fun e => { e with hold := (s.encState c).hold - 1 }
  exact hheld.set fun e => { e with x2 := (s.encState c).x1, x1 := x, t1 := time }

theorem encLatency_of_disarmed (harmed : e₀.armed = false) : s.Emitted (encLatency c x time s) c e₀ [] := by
  subst h₀
  rw [encLatency, if_neg (by simp [harmed])]
  exact .refl s c

include hs

theorem encDelta_up (hd : (s.regFld (Page.enc c) Reg.ENC_PARAM 15 0 : Int) = d) (hup : d ≤ x - e₀.ref) :
    s.Emitted (encDelta c x time s) c { e₀ with ref := e₀.ref + (x - e₀.ref) / d * d } [s.upWord c 0] := by
  subst h₀ hd
  rw [encDelta, if_pos hup]
  exact ((Emitted.refl s c).sendUp hs rfl (by decide)).set fun e => { e with ref := _ }

theorem encDelta_down (hd : (s.regFld (Page.enc c) Reg.ENC_PARAM 15 0 : Int) = d) (hpos : 0 < d) (hdown : d ≤ e₀.ref - x) :
    s.Emitted (encDelta c x time s) c { e₀ with ref := e₀.ref - (e₀.ref - x) / d * d } [s.downWord c 0] := by
  subst h₀ hd
  rw [encDelta, if_neg (by omega), if_pos hdown]
  exact ((Emitted.refl s c).sendDown hs rfl (by decide)).set fun e => { e with ref := _ }

theorem encZc_up (hh : (s.regFld (Page.enc c) Reg.ENC_PARAM 15 0 : Int) = h) (hpos : e₀.pos = false) (hup : h < x) :
    s.Emitted (encZc c x time s) c { e₀ with pos := true } [s.upWord c 0] := by
  subst h₀ hh
  rw [encZc, if_pos ⟨hpos, hup⟩]
  exact ((Emitted.refl s c).set fun e => { e with pos := true }).sendUp hs rfl (by decide)

theorem encZc_down (hh : (s.regFld (Page.enc c) Reg.ENC_PARAM 15 0 : Int) = h) (hpos : e₀.pos = true) (hdown : x < -h) :
    s.Emitted (encZc c x time s) c { e₀ with pos := false } [s.downWord c 0] := by
  subst h₀ hh
  rw [encZc, if_neg (by simp [hpos]), if_pos ⟨hpos, hdown⟩]
  exact ((Emitted.refl s c).set fun e => { e with pos := false }).sendDown hs rfl (by decide)

theorem encPeak_of_peak (hn : fld (s.reg (Page.enc c) Reg.ENC_PARAM) 31 16 = n) (hhold : e₀.hold = 0)
    (hthr : toSigned 16 (fld (s.reg (Page.enc c) Reg.ENC_PARAM) 15 0) ≤ e₀.x1) (hrise : e₀.x2 < e₀.x1) (hfall : x ≤ e₀.x1) :
    s.Emitted (encPeak c x time s) c { e₀ with hold := n, x2 := e₀.x1, x1 := x, t1 := time } [s.upWord c 0] := by
  subst h₀ hn
  unfold encPeak
  dsimp only
  rw [if_neg (by omega), if_pos ⟨hthr, hrise, hfall⟩]
  have hheld := (Emitted.refl s c).set fun e => { e with hold := fld (s.reg (Page.enc c) Reg.ENC_PARAM) 31 16 }
  have hsent := hheld.sendUp (k := 0) (g := (s.encState c).x1) (time := (s.encState c).t1) hs rfl (by decide)
  exact hsent.set fun e => { e with x2 := (s.encState c).x1, x1 := x, t1 := time }

theorem encLatency_of_armed (harmed : e₀.armed = true) (hthr : toSigned 16 (s.regFld (Page.enc c) Reg.ENC_PARAM 15 0) ≤ x) :
    s.Emitted (encLatency c x time s) c { e₀ with armed := false } [s.upWord c 0] := by
  subst h₀
  rw [encLatency, if_pos ⟨harmed, hthr⟩]
  exact ((Emitted.refl s c).set fun e => { e with armed := false }).sendUp hs rfl (by decide)

end

end State

end Sys2Proof.Machine
end

section
/-! # Encoder channels: LEVEL, and the sample that leaves the decimator -/
namespace Sys2Proof.Machine
open Sys2Proof

namespace State

variable {s t : State} {c n m : Nat} {e : EncState} {ws : List W32} {x time : Int}

/-! ### LEVEL (R339) -/

/-- Threshold i of a channel. -/
def chanThr (s : State) (c i : Nat) : Int := encThr (s.reg (Page.enc c)) i

/-- One threshold is passed upwards, if x has reached it. -/
def passUp (c : Nat) (x time : Int) (n : Nat) (s : State) : State :=
  if (s.encState c).lvl < n ∧ s.chanThr c (s.encState c).lvl ≤ x then
    let t := s.encSend c Reg.ENC_UP (s.encState c).lvl 1 time
    t.setEnc c { t.encState c with lvl := (s.encState c).lvl + 1 }
  else s

/-- One threshold is passed downwards, if x has left it. -/
def passDown (c : Nat) (x time hyst : Int) (s : State) : State :=
  if 0 < (s.encState c).lvl ∧ x < s.chanThr c ((s.encState c).lvl - 1) - hyst then
    let t := s.encSend c Reg.ENC_DOWN ((s.encState c).lvl - 1) (-1) time
    t.setEnc c { t.encState c with lvl := (s.encState c).lvl - 1 }
  else s

theorem levelUp_eq (s : State) (c : Nat) (x time : Int) (n : Nat) : s.levelUp c x time n = (passUp c x time n)^[16] s :=
  List.foldl_const _ _ _

theorem levelDown_eq (s : State) (c : Nat) (x time hyst : Int) : s.levelDown c x time hyst = (passDown c x time hyst)^[16] s :=
  List.foldl_const _ _ _

/-- A pass that has come to rest after m of 16 rounds is at rest after all. -/
theorem iterate_of_rest {f : State → State} (hm : m ≤ 16) (hrest : f (f^[m] s) = f^[m] s) : f^[16] s = f^[m] s := by
  have hsplit : f^[16] s = f^[16 - m] (f^[m] s) := by rw [← Function.iterate_add_apply, Nat.sub_add_cancel hm]
  rw [hsplit, Function.iterate_fixed hrest]

namespace Emitted

section
variable (h : s.Emitted t c e ws)
include h

theorem chanThr_eq (i : Nat) : t.chanThr c i = s.chanThr c i := by
  unfold chanThr encThr
  simp only [h.reg_eq]

theorem lvl_eq : (t.encState c).lvl = e.lvl := by
  obtain ⟨l, hstate, -⟩ := h.state
  rw [hstate]

theorem passUp_rest (hrest : ¬ (e.lvl < n ∧ s.chanThr c e.lvl ≤ x)) : passUp c x time n t = t :=
  if_neg (by rwa [h.lvl_eq, h.chanThr_eq])

theorem passDown_rest {hyst : Int} (hrest : ¬ (0 < e.lvl ∧ x < s.chanThr c (e.lvl - 1) - hyst)) :
    passDown c x time hyst t = t :=
  if_neg (by rwa [h.lvl_eq, h.chanThr_eq])

section
variable (hs : s.SendsBinary c) (he : e.events = (s.encState c).events) (hlen : ws.length < 16)
include hs he hlen

theorem passUp_next (hpass : e.lvl < n ∧ s.chanThr c e.lvl ≤ x) :
    s.Emitted (passUp c x time n t) c { e with lvl := e.lvl + 1 } (ws ++ [s.upWord c e.lvl]) := by
  rw [← h.lvl_eq, ← h.chanThr_eq] at hpass
  rw [passUp, if_pos hpass, h.lvl_eq]
  exact (h.sendUp hs he hlen).set fun e' => { e' with lvl := e.lvl + 1 }

theorem passDown_next {hyst : Int} (hpass : 0 < e.lvl ∧ x < s.chanThr c (e.lvl - 1) - hyst) :
    s.Emitted (passDown c x time hyst t) c { e with lvl := e.lvl - 1 } (ws ++ [s.downWord c (e.lvl - 1)]) := by
  rw [← h.lvl_eq, ← h.chanThr_eq] at hpass
  rw [passDown, if_pos hpass, h.lvl_eq]
  exact (h.sendDown hs he hlen).set fun e' => { e' with lvl := e.lvl - 1 }

end

end

section
variable {e₀ : EncState} (h₀ : s.encState c = e₀) (hs : s.SendsBinary c)
include h₀ hs

/-- Rounds of thresholds that x has reached, in rising order. -/
theorem passUp_rounds (hm : m ≤ 16)
    (hpass : ∀ i, e₀.lvl ≤ i → i < e₀.lvl + m → i < n ∧ s.chanThr c i ≤ x) :
    s.Emitted ((passUp c x time n)^[m] s) c { e₀ with lvl := e₀.lvl + m }
      ((List.range m).map fun i => s.upWord c (e₀.lvl + i)) := by
  induction m with
  | zero =>
    subst h₀
    exact .refl s c
  | succ m ih =>
    have hround := (ih (by omega) fun i hlo hhi => hpass i hlo (by omega)).passUp_next (time := time) hs (h₀ ▸ rfl) (by simp; omega)
      (hpass _ (Nat.le_add_right _ _) (Nat.add_lt_add_left (Nat.lt_succ_self m) _))
    rw [Function.iterate_succ_apply', List.range_succ, List.map_append]
    exact hround

/-- Rounds of thresholds that x has left, in falling order. -/
theorem passDown_rounds {hyst : Int} (hm : m ≤ 16) (hlow : m ≤ e₀.lvl)
    (hpass : ∀ i, e₀.lvl - m ≤ i → i < e₀.lvl → x < s.chanThr c i - hyst) :
    s.Emitted ((passDown c x time hyst)^[m] s) c { e₀ with lvl := e₀.lvl - m }
      ((List.range m).map fun i => s.downWord c (e₀.lvl - 1 - i)) := by
  induction m with
  | zero =>
    subst h₀
    exact .refl s c
  | succ m ih =>
    have hround := (ih (by omega) (by omega) fun i hlo hhi => hpass i (by omega) hhi).passDown_next (time := time) hs (h₀ ▸ rfl)
      (by simp; omega) ⟨Nat.sub_pos_of_lt hlow, hpass (e₀.lvl - m - 1) (by omega) (by omega)⟩
    rw [Function.iterate_succ_apply', List.range_succ, List.map_append]
    have hword : e₀.lvl - 1 - m = e₀.lvl - m - 1 := by omega
    simp only [List.map_cons, List.map_nil, hword]
    exact hround

end

end Emitted

section
variable {e₀ : EncState} (h₀ : s.encState c = e₀) (hs : s.SendsBinary c) {h : Int}
  (hn : fld (s.reg (Page.enc c) Reg.ENC_PARAM) 31 16 = n)
  (hh : (fld (s.reg (Page.enc c) Reg.ENC_PARAM) 15 0 : Int) = h) (hmax : n ≤ 16)
include h₀ hs hn hh hmax

/-- x has reached m more thresholds and not the next; having reached the last of them, it has left none. -/
theorem encLevel_up (hm : 0 < m) (hfit : e₀.lvl + m ≤ n)
    (hpass : ∀ i, e₀.lvl ≤ i → i < e₀.lvl + m → s.chanThr c i ≤ x)
    (hnext : e₀.lvl + m < n → x < s.chanThr c (e₀.lvl + m)) :
    s.Emitted (encLevel c x time s) c { e₀ with lvl := e₀.lvl + m }
      ((List.range m).map fun i => s.upWord c (e₀.lvl + i)) := by
  have hrounds := Emitted.passUp_rounds (time := time) (n := n) h₀ hs (by omega) fun i hlo hhi =>
    ⟨Nat.lt_of_lt_of_le hhi hfit, hpass i hlo hhi⟩
  have hlast := hpass (e₀.lvl + m - 1) (by omega) (by omega)
  have hhyst : 0 ≤ h := hh ▸ Int.natCast_nonneg _
  have hup : s.levelUp c x time n = (passUp c x time n)^[m] s := by
    rw [levelUp_eq, iterate_of_rest (by omega) (hrounds.passUp_rest fun hr => by
      have hleft := hnext hr.1
      exact absurd hr.2 (Int.not_le.mpr hleft))]
  have hdown : ((passUp c x time n)^[m] s).levelDown c x time h = (passUp c x time n)^[m] s := by
    rw [levelDown_eq, Function.iterate_fixed (hrounds.passDown_rest fun hr => by
      have hleft := hr.2
      dsimp only at hleft
      omega)]
  rw [encLevel, hn, hh, hup, hdown]
  exact hrounds

/-- x has left m thresholds and not the next lower one; having left the highest of them, it has reached none above. -/
theorem encLevel_down (hm : 0 < m) (hle : e₀.lvl ≤ n) (hlow : m ≤ e₀.lvl)
    (hrise : ∀ i, i + 1 < n → s.chanThr c i < s.chanThr c (i + 1))
    (hpass : ∀ i, e₀.lvl - m ≤ i → i < e₀.lvl → x < s.chanThr c i - h)
    (hnext : m < e₀.lvl → s.chanThr c (e₀.lvl - m - 1) - h ≤ x) :
    s.Emitted (encLevel c x time s) c { e₀ with lvl := e₀.lvl - m }
      ((List.range m).map fun i => s.downWord c (e₀.lvl - 1 - i)) := by
  have hrounds := Emitted.passDown_rounds (time := time) h₀ hs (by omega) hlow hpass
  have hfirst := hpass (e₀.lvl - 1) (by omega) (by omega)
  have hhyst : 0 ≤ h := hh ▸ Int.natCast_nonneg _
  have hup : s.levelUp c x time n = s := by
    rw [levelUp_eq, Function.iterate_fixed ((Emitted.refl s c).passUp_rest fun hr => by
      rw [h₀] at hr
      have habove := hrise (e₀.lvl - 1) (by omega)
      rw [Nat.sub_add_cancel (by omega)] at habove
      have hreached := hr.2
      omega)]
  have hdown : s.levelDown c x time h = (passDown c x time h)^[m] s := by
    rw [levelDown_eq, iterate_of_rest (by omega) (hrounds.passDown_rest fun hr => by
      have hkept := hnext (Nat.lt_of_sub_pos hr.1)
      exact absurd hr.2 (Int.not_lt.mpr hkept))]
  rw [encLevel, hn, hh, hup, hdown]
  exact hrounds

end

/-! ### A sample leaves the decimator (R337, R340) -/

/-- The channel's oldest sample is taken. -/
def sampleTaken (s : State) (c : Nat) (l : List DecSample) : State :=
  s.setEnc c { s.encState c with samples := l, group := (s.encState c).group + 1 }

theorem node7Credit_congr (h : t.fabric = s.fabric) : t.node7Credit = s.node7Credit := by
  unfold node7Credit bufClaims bufCount
  rw [h]

/-- A full node takes no packet. -/
theorem encInject_of_full (h : s.node7Credit = false) (c : Nat) : s.encInject c = s := by
  unfold encInject
  dsimp only
  split
  · rfl
  · rw [if_neg (by simp [h])]

/-- A channel in a mode, past its first sample, that encodes the real part of its oldest sample while the node is full. -/
structure Sampling (s : State) (c mode : Nat) (d : DecSample) (l : List DecSample) : Prop where
  clock : s.encClock = true
  running : s.encRunning c = true
  mode : s.encMode c = mode
  samples : (s.encState c).samples = d :: l
  started : (s.encState c).first = false
  select : s.regFld (Page.enc c) Reg.ENC_CFG 27 26 = 0
  full : s.node7Credit = false

namespace Sampling

variable {mode : Nat} {d : DecSample} {l : List DecSample} {f : Nat → Int → Int → State → State}
  {e : Int → EncState} (h : s.Sampling c mode d l)
  (hf : ∀ time, (s.sampleTaken c l).Emitted (f c d.i time (s.sampleTaken c l)) c (e time) ws)
include h hf

/-- The sample goes through its mode, and no event leaves the channel. -/
theorem encSample_eq : ∃ time, s.encSample c mode f = f c d.i time (s.sampleTaken c l) := by
  have hvalue : (s.sampleTaken c l).encValue c d = (d.i, s.sampleTaken c l) := by
    have hsel : (s.sampleTaken c l).regFld (Page.enc c) Reg.ENC_CFG 27 26 = 0 := h.select
    simp [encValue, hsel]
  have hfull (time : Int) := (node7Credit_congr ((hf time).parts .fabric (by decide))).trans h.full
  unfold encSample
  dsimp only
  rw [if_pos (by simp [h.clock, h.running, h.mode]), h.samples]
  dsimp only
  rw [← sampleTaken, hvalue, h.started]
  exact ⟨_, encInject_of_full (hfull _) c⟩

/-- The channel's state is what the mode makes of it, with the events of the words `ws` behind its own. -/
theorem encSample_parts (hsamples : ∀ time, (e time).samples = l := by intros; rfl)
    (hgroup : ∀ time, (e time).group = (s.encState c).group + 1 := by intros; rfl)
    (hevents : ∀ time, (e time).events = (s.encState c).events := by intros; rfl) :
    let t := s.encSample c mode f
    (∃ time events, t.encState c = { e time with events := events }) ∧ (t.encState c).samples = l
      ∧ (t.encState c).group = (s.encState c).group + 1
      ∧ (t.encState c).events.map (fun x => x.word) = (s.encState c).events.map (fun x => x.word) ++ ws ∧ s.only t [.ingress] := by
  obtain ⟨time, ht⟩ := h.encSample_eq hf
  obtain ⟨hparts, events, hstate, hwords⟩ := hf time
  rw [← ht] at hparts hstate
  intro t
  refine ⟨⟨time, events, hstate⟩, ?_, ?_, ?_, State.only.trans (only.setEnc (State.only_refl s _)) hparts⟩
  · rw [hstate]
    exact hsamples time
  · rw [hstate]
    exact hgroup time
  · rw [hstate, ← hevents time]
    exact hwords

end Sampling

end State

end Sys2Proof.Machine
end

section
/-! # Sample blocks -/
namespace Sys2Proof.Machine
open Sys2Proof

theorem page_enc_ne_bank {c : Nat} (hc : c < 64) (b : Nat) : Page.enc c ≠ Page.bank b := by
  simp only [Page.enc, Page.bank, Page.region]
  omega

namespace State

variable {s t : State} {c a i m n x : Nat} {d : DecSample} {time : Int}

/-! ### Parts of what is stored -/

theorem num_sramStore_part {l part : List Byte} (h : (l.drop i).take n = part) (hlen : part.length = n) :
    (s.sramStore a l).num (a + i) n = leNat part := by
  have hfit : i + n ≤ l.length ∨ n = 0 := by
    have htake : min n (l.length - i) = n := by rw [← hlen, ← h] at *; simp
    omega
  rw [num]
  congr 1
  refine List.ext_getElem (by simp [bytes, hlen]) fun j hj hj' => ?_
  have hin : i + j < l.length := by omega
  subst h
  simp only [bytes, List.getElem_map, List.getElem_range, List.getElem_take, List.getElem_drop]
  rw [byte_sramStore, Nat.add_assoc, byte_setBytes l s a (i + j) hin]

/-- A number that a change of memory does not reach. -/
theorem num_of_bytesBut (h : s.bytesBut t a n) (hout : x + m ≤ a ∨ a + n ≤ x) : t.num x m = s.num x m := by
  have hbytes : t.bytes x m = s.bytes x m :=
    List.map_congr_left fun j hj => h (x + j) (by have := List.mem_range.mp hj; omega)
  rw [num, hbytes, num]

theorem bytesBut_mono {a' n' : Nat} (h : s.bytesBut t a n) (hlo : a' ≤ a) (hhi : a + n ≤ a' + n') : s.bytesBut t a' n' :=
  fun y hy => h y (by omega)

theorem bytesBut_trans {u : State} (h : s.bytesBut t a n) (hu : t.bytesBut u a n) : s.bytesBut u a n :=
  fun y hy => (hu y hy).trans (h y hy)

/-! ### One point (R344, R345) -/

/-- The codes of a point, as the block configuration has them: BF16 or FP16. -/
def pointCode (s : State) (c : Nat) (v : Int) : Nat :=
  (encodeNum (if bit (s.reg (Page.enc c) Reg.ENC_BLK_CFG) 12 then 7 else 8) false (Num.ofInt v) none).code

def pointBytes (s : State) (c : Nat) (d : DecSample) : List Byte := leBytes 2 (s.pointCode c d.i) ++ leBytes 2 (s.pointCode c d.q)

/-- The place of the channel's next point. -/
def pointAddr (s : State) (c : Nat) : Nat := s.slotAddr c (s.encState c).blkSeq + 64 + 4 * (s.encState c).blkPos

/-- The channel's record of the block in progress, as the point enters it. -/
def blockEntered (s : State) (e : EncState) (d : DecSample) (time : Int) : EncState :=
  let e := if e.blkPos = 0 then { e with blkTime := time, blkStep := s.stepNo, blkBad := 0 } else e
  { e with blkBad := e.blkBad + d.bad }

theorem blockEntered_parts (s : State) (e : EncState) (d : DecSample) (time : Int) :
    (s.blockEntered e d time).blkPos = e.blkPos ∧ (s.blockEntered e d time).blkSeq = e.blkSeq
      ∧ (s.blockEntered e d time).done = e.done ∧ (s.blockEntered e d time).samples = e.samples := by
  unfold blockEntered
  dsimp only
  split <;> exact ⟨rfl, rfl, rfl, rfl⟩

/-- The point is in memory. -/
def pointStored (s : State) (c : Nat) (d : DecSample) : State := s.sramStore (s.pointAddr c) (s.pointBytes c d)

theorem num_pointStored (s : State) (c : Nat) (d : DecSample) :
    (s.pointStored c d).num (s.pointAddr c) 2 = s.pointCode c d.i % 65536
      ∧ (s.pointStored c d).num (s.pointAddr c + 2) 2 = s.pointCode c d.q % 65536 := by
  refine ⟨?_, ?_⟩
  · exact (num_sramStore_part (i := 0) (part := leBytes 2 (s.pointCode c d.i)) (by simp [pointBytes, leBytes]) (by simp)).trans
      (leNat_leBytes 2 _)
  · exact (num_sramStore_part (i := 2) (part := leBytes 2 (s.pointCode c d.q)) (by simp [pointBytes, leBytes]) (by simp)).trans
      (leNat_leBytes 2 _)

theorem bytesBut_pointStored (s : State) (c : Nat) (d : DecSample) : s.bytesBut (s.pointStored c d) (s.pointAddr c) 4 := by
  obtain ⟨-, hbytes⟩ := s.bytes_sramStore (s.pointAddr c) (s.pointBytes c d)
  have hlen : (s.pointBytes c d).length = 4 := by simp [pointBytes]
  rwa [hlen] at hbytes

theorem blkLog_pointStored (s : State) (c : Nat) (d : DecSample) : (s.pointStored c d).blkLog c = s.blkLog c := by
  have hparts : s.only (s.pointStored c d) [.mem, .poison] := (State.only_refl s _).sramStore
  rw [blkLog, blkLog, regFld, regFld, reg_congr (hparts .regs (by decide))]

theorem length_blkHeader (e : EncState) (c : Nat) : (blkHeader e c).length = 64 := by simp [blkHeader]

section
variable (hadmits : s.blkAdmits c = true) {e : EncState} (he : s.blockEntered (s.encState c) d time = e)
include hadmits he

theorem writePoint_of_inner (hpos : (s.encState c).blkPos + 1 < 2 ^ s.blkLog c) :
    s.writePoint c d time = (s.pointStored c d).setEnc c { e with blkPos := e.blkPos + 1 } := by
  obtain ⟨hp, hseq, -, -⟩ := s.blockEntered_parts (s.encState c) d time
  subst he
  have hlog : (s.blockEntered (s.encState c) d time).blkPos + 1 < 2 ^ (s.pointStored c d).blkLog c := by
    rwa [hp, blkLog_pointStored]
  rw [pointStored, pointAddr, ← hp, ← hseq] at hlog ⊢
  unfold writePoint
  rw [if_neg (by simp [hadmits])]
  exact if_pos hlog

theorem writePoint_of_last (hpos : (s.encState c).blkPos + 1 = 2 ^ s.blkLog c) : s.writePoint c d time
    = ((s.pointStored c d).sramStore (s.slotAddr c e.blkSeq) (blkHeader e c)).setEnc c
      { e with blkPos := 0, blkBad := 0, blkSeq := (e.blkSeq + 1) % 2 ^ 32, done := e.done ++ [e.blkSeq] } := by
  obtain ⟨hp, hseq, -, -⟩ := s.blockEntered_parts (s.encState c) d time
  subst he
  have hlog : ¬ (s.blockEntered (s.encState c) d time).blkPos + 1 < 2 ^ (s.pointStored c d).blkLog c := by
    rw [hp, blkLog_pointStored, hpos]
    exact lt_irrefl _
  rw [pointStored, pointAddr, ← hp, ← hseq] at hlog ⊢
  unfold writePoint
  rw [if_neg (by simp [hadmits])]
  exact if_neg hlog

end

theorem writePoint_of_barred (hbarred : s.blkAdmits c = false) :
    s.writePoint c d time = (s.tarnRefuse (s.blkBank c)).2.dropBlock c := if_pos hbarred

/-- What a written point leaves in memory and in its channel. -/
theorem inner_parts (hadmits : s.blkAdmits c = true) (hpos : (s.encState c).blkPos + 1 < 2 ^ s.blkLog c) :
    let t := s.writePoint c d time
    t.num (s.pointAddr c) 2 = s.pointCode c d.i % 65536 ∧ t.num (s.pointAddr c + 2) 2 = s.pointCode c d.q % 65536
      ∧ (t.encState c).samples = (s.encState c).samples ∧ s.only t [.ingress, .mem, .poison]
      ∧ s.bytesBut t (s.pointAddr c) 4 ∧ (t.encState c).blkPos = (s.encState c).blkPos + 1
      ∧ (t.encState c).blkSeq = (s.encState c).blkSeq := by
  obtain ⟨hp, hseq, -, hsamples⟩ := s.blockEntered_parts (s.encState c) d time
  obtain ⟨hi, hq⟩ := s.num_pointStored c d
  intro t
  have ht : t = _ := writePoint_of_inner hadmits rfl hpos
  have hmem : t.mem = (s.pointStored c d).mem := by rw [ht]; rfl
  have hstate := (congrArg (fun u : State => u.encState c) ht).trans (encState_setEnc_same _ _ _)
  refine ⟨(num_congr hmem).trans hi, (num_congr hmem).trans hq, by rw [hstate, hsamples], ?_,
    bytesBut_congr rfl hmem (s.bytesBut_pointStored c d), by rw [hstate, hp], by rw [hstate, hseq]⟩
  rw [ht]
  exact (State.only_refl s _).sramStore.setEnc

/-- The last point adds the header in front of the points. -/
theorem last_parts (hadmits : s.blkAdmits c = true) (hpos : (s.encState c).blkPos + 1 = 2 ^ s.blkLog c) :
    let e := s.encState c
    let t := s.writePoint c d time
    t.num (s.pointAddr c) 2 = s.pointCode c d.i % 65536 ∧ t.num (s.pointAddr c + 2) 2 = s.pointCode c d.q % 65536
      ∧ (t.encState c).samples = e.samples ∧ s.only t [.ingress, .mem, .poison]
      ∧ s.bytesBut t (s.slotAddr c e.blkSeq) (64 + 4 * 2 ^ s.blkLog c) ∧ t.num (s.slotAddr c e.blkSeq) 4 = e.blkSeq % 2 ^ 32
      ∧ (t.encState c).blkPos = 0 ∧ (t.encState c).blkSeq = (e.blkSeq + 1) % 2 ^ 32
      ∧ (t.encState c).done = e.done ++ [e.blkSeq] := by
  obtain ⟨hp, hseq, hdone, hsamples⟩ := s.blockEntered_parts (s.encState c) d time
  obtain ⟨hi, hq⟩ := s.num_pointStored c d
  have hpoint := s.bytesBut_pointStored c d
  intro e t
  have ht : t = _ := writePoint_of_last hadmits rfl hpos
  rw [hseq, hdone] at ht
  set u := (s.pointStored c d).sramStore (s.slotAddr c e.blkSeq) (blkHeader (s.blockEntered e d time) c) with hu
  have hmem : t.mem = u.mem := by rw [ht]; rfl
  have hstate := (congrArg (fun u : State => u.encState c) ht).trans (encState_setEnc_same _ _ _)
  have haddr : s.pointAddr c = s.slotAddr c e.blkSeq + 64 + 4 * e.blkPos := rfl
  obtain ⟨-, hheader⟩ := (s.pointStored c d).bytes_sramStore (s.slotAddr c e.blkSeq) (blkHeader (s.blockEntered e d time) c)
  rw [length_blkHeader, ← hu] at hheader
  have hnumber : u.num (s.slotAddr c e.blkSeq) 4 = e.blkSeq % 2 ^ 32 := by
    refine (num_sramStore_part (i := 0) (part := leBytes 4 (s.blockEntered e d time).blkSeq)
      (by simp [blkHeader, leBytes]) (by simp)).trans ?_
    rw [leNat_leBytes, hseq]
    rfl
  have hlast : e.blkPos + 1 = 2 ^ s.blkLog c := hpos
  refine ⟨?_, ?_, by rw [hstate, hsamples], ?_, ?_, (num_congr hmem).trans hnumber, by rw [hstate], by rw [hstate],
    by rw [hstate]⟩
  · rw [num_congr hmem, num_of_bytesBut hheader (by omega), hi]
  · rw [num_congr hmem, num_of_bytesBut hheader (by omega), hq]
  · rw [ht]
    exact (State.only_refl s _).sramStore.sramStore.setEnc
  · exact bytesBut_congr rfl hmem (bytesBut_trans (bytesBut_mono hpoint (by omega) (by omega))
      (bytesBut_mono hheader (by omega) (by omega)))

/-- A refused block is dropped, and its number stays used. -/
theorem dropped_parts (hc : c < 64) (hbarred : s.blkAdmits c = false) :
    let t := s.writePoint c d time
    s.counted t (Page.enc c) Reg.ENC_BLK_DROP 1 ∧ bit (t.reg (Page.enc c) Reg.PG_INT) 2 = true
      ∧ (t.encState c).blkSeq = ((s.encState c).blkSeq + 1) % 2 ^ 32 ∧ s.only t [.ingress, .regs] := by
  have hrefused : s.only (s.tarnRefuse (s.blkBank c)).2 [.regs] := only_tarnRefuse (State.only_refl s _) (by decide) _
  have hpage : s.pageBut (s.tarnRefuse (s.blkBank c)).2 (Page.enc c) [] := (pageBut.refl s _ _).tarnRefuse (page_enc_ne_bank hc _)
  intro t
  have ht : t = _ := writePoint_of_barred hbarred
  rw [ht, dropBlock]
  refine ⟨?_, ?_, ?_, only.setEnc (only.countInt (hrefused.mono (by decide)))⟩
  · rw [counted, reg_setEnc, reg_countInt_same (by decide), hpage _ (by decide) (by simp)]
  · rw [reg_setEnc]
    exact bit_countInt (by decide)
  · rw [encState_setEnc_same, encState_congr (hrefused .ingress (by decide))]

/-! ### BLOCK and BLOCK_COMPLETE -/

/-- The channel's oldest sample goes to its block. -/
def blockTaken (s : State) (c : Nat) (l : List DecSample) : State := s.setEnc c { s.encState c with samples := l, first := false }

theorem exec_block_of_sample {chan : Fin 64} {l : List DecSample} (hclk : s.encClock = true) (hrun : s.encRunning chan = true)
    (hmode : s.encMode chan = 6) (hsamples : (s.encState chan).samples = d :: l) :
    ∃ time, exec (.block chan) s = .next ((s.blockTaken chan l).writePoint chan d time) := by
  change ∃ time, execBlock chan s = _
  rw [execBlock, if_pos (by simp [hclk, hrun, hmode]), hsamples]
  exact ⟨_, rfl⟩

theorem exec_blockComplete_of_bare {chan : Fin 64} {l : List Nat} (hdone : (s.encState chan).done = n :: l)
    (hclk : s.clocked = true) (hcount : s.blkCount chan = 0) : exec (.blockComplete chan) s
      = .next ((s.setEnc chan { s.encState chan with done := l }).setReg (Page.enc chan) Reg.ENC_BLK_SEQ (BitVec.ofNat 32 n)) := by
  have hkept : ((s.setEnc chan { s.encState chan with done := l }).setReg (Page.enc chan) Reg.ENC_BLK_SEQ
      (BitVec.ofNat 32 n)).blkCount chan = 0 := by
    rw [blkCount, regFld_setReg_off (by decide)]
    exact hcount
  change execBlockComplete chan s = _
  simp only [execBlockComplete, hdone, hclk, hkept, Bool.true_eq_false, if_false, if_true]

end State

end Sys2Proof.Machine
end

section
/-! # Encoder channels: the statement -/
namespace Sys2Proof.Machine
open Sys2Proof

namespace State

variable {s t : State} {c : Nat} {d : DecSample} {l : List DecSample}

theorem encState_sampleTaken (s : State) (c : Nat) (l : List DecSample) :
    (s.sampleTaken c l).encState c = { s.encState c with samples := l, group := (s.encState c).group + 1 } :=
  encState_setEnc_same _ _ _

theorem sendsBinary_sampleTaken (h : s.SendsBinary c) (l : List DecSample) : (s.sampleTaken c l).SendsBinary c where
  upValid := h.upValid
  upKind := h.upKind
  downValid := h.downValid
  downKind := h.downKind
  room := by
    rw [encState_sampleTaken]
    exact h.room

theorem encState_blockTaken (s : State) (c : Nat) (l : List DecSample) :
    (s.blockTaken c l).encState c = { s.encState c with samples := l, first := false } :=
  encState_setEnc_same _ _ _

theorem only_blockTaken (s : State) (c : Nat) (l : List DecSample) : s.only (s.blockTaken c l) [.ingress] :=
  (State.only_refl s _).setEnc

end State

/-- Settles O43: a mode's events are those of one sample in a channel whose configuration and room do not change meanwhile;
a point of a block is one store, and the header another that ends in front of the first point. -/
theorem encoderChannelsEncode : Obligations.EncoderChannelsEncode := by
  intro s c pg e
  refine ⟨fun req v htakes => ⟨fun h0 h7 hoff hgood => ?start, fun hrun => ?stop⟩, fun req v htakes hrun hmode => ?post,
    fun d l hclk hrun hsamples => ⟨fun hfirst hsel hfull hroom hupV hupK hdownV hdownK => ?modes, fun hmode hpos => ?block⟩,
    fun n l hdone hclk hcount => ?complete⟩
  case start =>
    intro w
    have hexec := State.exec_channelStart_of_off htakes h0 h7 hoff hgood
    refine ⟨fun hok => ?_, fun hbad => ⟨_, hexec, ?_⟩⟩
    · obtain ⟨rate, delay, seq, hstart⟩ := State.encStart_of_ok hok
      have hw0 : fld w 31 29 ≠ 0 := by rwa [fld_and_of_ones v _ (by decide)]
      have hw7 : fld w 31 29 ≠ 7 := by rwa [fld_and_of_ones v _ (by decide)]
      obtain ⟨hruns, hcfg, hstate, hparts, hregs⟩ := State.encStart_parts (rate := rate) (delay := delay) (seq := seq)
        (State.ingress_of_takes htakes) hw0 hw7
      refine ⟨_, hexec, ?_⟩
      rw [hstart]
      exact ⟨hruns, hcfg, by rw [hstate], by rw [hstate], by rw [hstate], by rw [hstate], by rw [hstate], hparts, hregs⟩
    · rw [State.encStart_of_refused hbad]
      exact s.refused_parts c w
  case stop => exact ⟨_, State.exec_channelStop_of_running htakes hrun, s.encStop_parts c _⟩
  case post =>
    have hexec := State.exec_encPostedWrite_delta (v := v) htakes hrun hmode
    refine ⟨fun hbad => ⟨_, hexec, ?_⟩, fun hgood htime => ⟨_, hexec, ?_⟩, fun hgood htime => ⟨_, hexec, ?_⟩⟩
    · rw [if_neg hbad]
      exact ⟨State.bit_setErr (by decide), (State.only_refl s _).setErr,
        State.regsBut_setReg (State.regsBut_refl s _) (by decide) (by simp [pg]) _⟩
    · rw [if_pos hgood, if_pos htime]
      exact s.posted_setEnc_parts req c _
    · rw [if_pos hgood, if_neg (by simp [htime])]
      exact ⟨State.reg_setReg_same _ _ _ _, (State.only_refl s _).setReg,
        State.regsBut_setReg (State.regsBut_refl s _) (by decide) (by simp [pg]) _⟩
  case modes =>
    have hs := State.sendsBinary_sampleTaken ⟨hupV, hupK, hdownV, hdownK, hroom⟩ l
    have h₀ := s.encState_sampleTaken c l
    have hsampling (mode : Nat) (hmode : s.encMode c = mode) : s.Sampling c mode d l :=
      ⟨hclk, hrun, hmode, hsamples, hfirst, hsel, hfull⟩
    refine ⟨fun hmode hle hmax hrise => ⟨fun m hm hfit hpass hnext => ?levelUp, fun m hm hlow hpass hnext => ?levelDown⟩,
      fun hmode hlo => ⟨fun hup => ?deltaUp, fun hdown => ?deltaDown, fun hup hdown => ?deltaWithin⟩,
      fun hmode => ⟨fun hpos hup => ?zcUp, fun hpos hdown => ?zcDown⟩,
      fun hmode => ⟨fun hhold hthr hrise hfall => ?peak, fun hhold => ?held⟩,
      fun hmode => ⟨fun harmed hthr => ?armed, fun harmed => ?disarmed⟩⟩
    case levelUp =>
      obtain ⟨⟨time, _, hstate⟩, hafter⟩ := (hsampling 1 hmode).encSample_parts
        fun _ => State.encLevel_up h₀ hs rfl rfl hmax hm hfit hpass hnext
      exact ⟨_, rfl, by rw [hstate], hafter⟩
    case levelDown =>
      obtain ⟨⟨time, _, hstate⟩, hafter⟩ := (hsampling 1 hmode).encSample_parts
        fun _ => State.encLevel_down h₀ hs rfl rfl hmax hm hle hlow hrise hpass hnext
      exact ⟨_, rfl, by rw [hstate], hafter⟩
    case deltaUp =>
      obtain ⟨⟨time, _, hstate⟩, hafter⟩ := (hsampling 2 hmode).encSample_parts
        fun _ => State.encDelta_up h₀ hs rfl hup
      exact ⟨_, rfl, by rw [hstate]; rfl, hafter⟩
    case deltaDown =>
      obtain ⟨⟨time, _, hstate⟩, hafter⟩ := (hsampling 2 hmode).encSample_parts
        fun _ => State.encDelta_down h₀ hs rfl hlo hdown
      exact ⟨_, rfl, by rw [hstate]; rfl, hafter⟩
    case deltaWithin =>
      obtain ⟨⟨time, _, hstate⟩, hafter⟩ := (hsampling 2 hmode).encSample_parts
        fun _ => State.encDelta_within h₀ rfl hup hdown
      exact ⟨_, rfl, by rw [hstate], hafter⟩
    case zcUp =>
      obtain ⟨⟨time, _, hstate⟩, hafter⟩ := (hsampling 3 hmode).encSample_parts
        fun _ => State.encZc_up h₀ hs rfl hpos hup
      exact ⟨_, rfl, by rw [hstate], hafter⟩
    case zcDown =>
      obtain ⟨⟨time, _, hstate⟩, hafter⟩ := (hsampling 3 hmode).encSample_parts
        fun _ => State.encZc_down h₀ hs rfl hpos hdown
      exact ⟨_, rfl, by rw [hstate], hafter⟩
    case peak =>
      obtain ⟨⟨time, _, hstate⟩, hafter⟩ := (hsampling 4 hmode).encSample_parts
        fun _ => State.encPeak_of_peak h₀ hs rfl hhold hthr hrise hfall
      exact ⟨_, rfl, by rw [hstate]; rfl, ⟨by rw [hstate], by rw [hstate]⟩, hafter⟩
    case held =>
      obtain ⟨⟨time, _, hstate⟩, hafter⟩ := (hsampling 4 hmode).encSample_parts
        fun _ => State.encPeak_of_hold h₀ hhold
      exact ⟨_, rfl, by rw [hstate], ⟨by rw [hstate], by rw [hstate]⟩, hafter⟩
    case armed =>
      obtain ⟨⟨time, _, hstate⟩, hafter⟩ := (hsampling 5 hmode).encSample_parts
        fun _ => State.encLatency_of_armed h₀ hs harmed hthr
      exact ⟨_, rfl, by rw [hstate], hafter⟩
    case disarmed =>
      obtain ⟨⟨time, _, hstate⟩, hafter⟩ := (hsampling 5 hmode).encSample_parts
        fun _ => State.encLatency_of_disarmed h₀ harmed
      exact ⟨_, rfl, by rw [hstate]; exact harmed, hafter⟩
  case block =>
    intro a f code stored
    obtain ⟨time, hexec⟩ := State.exec_block_of_sample hclk hrun hmode hsamples
    have htaken := s.encState_blockTaken c l
    have hfield : (s.blockTaken c l).pointAddr c = a + 64 + 4 * e.blkPos := by
      rw [State.pointAddr, htaken]
      rfl
    refine ⟨fun hadmits hinner => ⟨_, hexec, ?_⟩, fun hadmits hlast => ⟨_, hexec, ?_⟩, fun hbarred => ⟨_, hexec, ?_⟩⟩
    · have hparts := State.inner_parts (s := s.blockTaken c l) (d := d) (time := time) hadmits (by rw [htaken]; exact hinner)
      simp only [hfield, htaken] at hparts
      obtain ⟨hi, hq, hleft, honly, hbytes, hnext, hseq⟩ := hparts
      exact ⟨⟨hi, hq, hleft, ((s.only_blockTaken c l).mono (by decide)).trans honly⟩, hbytes, hnext, hseq⟩
    · have hparts := State.last_parts (s := s.blockTaken c l) (d := d) (time := time) hadmits (by rw [htaken]; exact hlast)
      simp only [hfield, htaken] at hparts
      obtain ⟨hi, hq, hleft, honly, hbytes, hnumber, hnext, hseq, hdone⟩ := hparts
      exact ⟨⟨hi, hq, hleft, ((s.only_blockTaken c l).mono (by decide)).trans honly⟩, hbytes, hnumber, hnext, hseq, hdone⟩
    · have hparts := State.dropped_parts (s := s.blockTaken c l) (d := d) (time := time) c.isLt hbarred
      simp only [htaken] at hparts
      obtain ⟨hcount, hint, hseq, honly⟩ := hparts
      exact ⟨hcount, hint, hseq, ((s.only_blockTaken c l).mono (by decide)).trans honly⟩
  case complete =>
    refine ⟨_, State.exec_blockComplete_of_bare hdone hclk hcount, State.reg_setReg_same _ _ _ _, ?_,
      (State.only_refl s _).setEnc.setReg, State.regsBut_setReg (State.regsBut_refl s _) (by decide) (by simp [pg]) _⟩
    exact State.encState_setEnc_same _ _ _

end Sys2Proof.Machine
end

section
/-! # CSI-2 receivers -/
namespace Sys2Proof.Machine
open Sys2Proof

namespace State

variable {s t : State} {p off b n : Nat} {rx : Fin 4}

theorem bit_orReg (hb : b < 32) : bit ((s.orReg p off (bitWord b)).reg p off) b = true := by
  rw [orReg, reg_setReg_same]
  exact bit_or_bitWord _ hb

/-! ### Lock and frames (R347, R349, R357) -/

theorem exec_csi2LockChange_of_gain (hclk : s.clocked = true) (hen : bit (s.reg (Page.evc rx) Reg.EVC_CTRL) 0 = true) :
    exec (.csi2LockChange rx true) s = .next (s.orReg (Page.evc rx) Reg.EVC_STAT (bitWord 31)) := by
  change execCsi2LockChange rx true s = _
  simp [execCsi2LockChange, hclk, hen]

theorem exec_csi2LockChange_of_loss (hclk : s.clocked = true) (hlock : bit (s.reg (Page.evc rx) Reg.EVC_STAT) 31 = true) :
    exec (.csi2LockChange rx false) s
      = .next ((s.clrReg (Page.evc rx) Reg.EVC_STAT (bitWord 31)).setInt (Page.evc rx) 1) := by
  change execCsi2LockChange rx false s = _
  simp [execCsi2LockChange, hclk, hlock]

/-- The anchor of a virtual channel at the arrival of a frame. -/
def anchored (s : State) (rx vc : Nat) : State := s.setAnchor rx vc { s.anchor rx vc with start := some s.elapsed, ts0 := none }

theorem anchor_anchored (s : State) (rx vc : Nat) :
    (s.anchored rx vc).anchor rx vc = { s.anchor rx vc with start := some s.elapsed, ts0 := none } := by
  rw [anchored, anchor, setAnchor]
  exact congrArg (fun a => a.getD ({} : CsiAnchor)) (Store.find_put_same _ _ _)

theorem exec_csi2FrameStart_of_good {vc : Fin 16} (htakes : s.evcTakes rx = true) : exec (.csi2FrameStart rx vc 0) s
    = .next ((s.anchored rx vc).orReg (Page.evc rx) Reg.EVC_STAT (bitWord vc)) := by
  change execCsi2FrameStart rx vc 0 s = _
  rw [execCsi2FrameStart, if_pos htakes]
  rfl

theorem exec_csi2FrameStart_of_bad {vc : Fin 16} (htakes : s.evcTakes rx = true) :
    exec (.csi2FrameStart rx vc 2) s = .next (s.countInt (Page.evc rx) Reg.EVC_ECC_ERR 1 1) := by
  change execCsi2FrameStart rx vc 2 s = _
  rw [execCsi2FrameStart, if_pos htakes]
  rfl

/-- A counter of a page counts one and raises its interrupt. -/
theorem countInt_parts (s : State) (p : Nat) (ho : off < 4096) (hne : off ≠ Reg.PG_INT) (hb : b < 32) :
    s.counted (s.countInt p off b 1) p off 1 ∧ bit ((s.countInt p off b 1).reg p Reg.PG_INT) b = true
      ∧ s.only (s.countInt p off b 1) [.regs] ∧ s.regsBut (s.countInt p off b 1) [(p, off), (p, Reg.PG_INT)] :=
  ⟨reg_countInt_same hne, bit_countInt hb, (State.only_refl s _).countInt,
    regsBut_countInt (regsBut_refl s _) ho (by simp) (by simp)⟩

/-! ### Long packets (R347, R348, R354) -/

/-- A template serves the packets of a virtual channel and data type. -/
def tplServes (s : State) (rx vc dt i : Nat) : Bool :=
  bit (s.tpl rx i 0) 31 && fld (s.tpl rx i 0) 30 27 == vc && fld (s.tpl rx i 0) 26 21 == dt

/-- The words of a payload under a template. -/
def packetWords (s : State) (rx vc i : Nat) (payload : List Byte) : State :=
  let bytes := tplSize (s.tpl rx i 0) / 8
  (List.range (payload.length / bytes)).foldl (fun u k => u.sensorWord rx vc (s.tpl rx i 0) (s.tpl rx i 1) (s.tpl rx i 2)
    (s.tpl rx i 3) (leNat ((payload.drop (bytes * k)).take bytes))) s

section
variable {vc : Fin 16} {dt : Fin 64} {payload : List Byte} (htakes : s.evcTakes rx = true)
include htakes

theorem exec_csi2LongPacket_of_badCrc : exec (.csi2LongPacket rx vc dt 0 false payload) s
    = .next (s.countInt (Page.evc rx) Reg.EVC_CRC_ERR 1 1) := by
  change execCsi2LongPacket rx vc dt 0 false payload s = _
  rw [execCsi2LongPacket, if_pos htakes]
  rfl

theorem exec_csi2LongPacket_of_unserved (hnone : ∀ i, i < 8 → s.tplServes rx vc dt i = false) :
    exec (.csi2LongPacket rx vc dt 0 true payload) s = .next (s.count (Page.evc rx) Reg.EVC_DT_OTHER 1) := by
  have hfind : (List.range 8).find? (s.tplServes rx vc dt) = none := by
    rw [List.find?_eq_none]
    intro i hi
    simp [hnone i (List.mem_range.mp hi)]
  unfold tplServes at hfind
  change execCsi2LongPacket rx vc dt 0 true payload s = _
  simp [execCsi2LongPacket, htakes, evcHeader, hfind]

theorem exec_csi2LongPacket_of_served {i : Nat} (hi : i < 8) (hserves : s.tplServes rx vc dt i = true)
    (hfirst : ∀ j, j < i → s.tplServes rx vc dt j = false) :
    exec (.csi2LongPacket rx vc dt 0 true payload) s = .next (s.packetWords rx vc i payload) := by
  have hfind : (List.range 8).find? (s.tplServes rx vc dt) = some i := by
    rw [List.find?_range_eq_some]
    exact ⟨hserves, List.mem_range.mpr hi, fun j hj => by simp [hfirst j hj]⟩
  unfold tplServes at hfind
  change execCsi2LongPacket rx vc dt 0 true payload s = _
  simp [execCsi2LongPacket, htakes, evcHeader, hfind, packetWords]

end

theorem tplSize_pos (w : W32) : 0 < tplSize w / 8 := by
  unfold tplSize
  split_ifs <;> decide

/-- A payload of one word is that word. -/
theorem packetWords_of_single {vc i : Nat} {rx : Nat} {payload : List Byte} (hlen : payload.length = tplSize (s.tpl rx i 0) / 8) :
    s.packetWords rx vc i payload
      = s.sensorWord rx vc (s.tpl rx i 0) (s.tpl rx i 1) (s.tpl rx i 2) (s.tpl rx i 3) (leNat payload) := by
  have hbytes := tplSize_pos (s.tpl rx i 0)
  unfold packetWords
  dsimp only
  rw [← hlen] at hbytes ⊢
  rw [Nat.div_self hbytes, List.range_one, List.foldl_cons, List.foldl_nil, Nat.mul_zero, List.drop_zero, List.take_length]

theorem sensorField_eq (w pos width : Nat) : sensorField w pos width = w / 2 ^ pos % 2 ^ width := by
  rw [sensorField, Nat.shiftRight_eq_div_pow]

/-- The event of a word under a template without type and time fields: its time is that of the packet. -/
def plainEvent (s : State) (rx : Nat) (w1 w2 w3 : W32) (x : Nat) : SensorEvent where
  src := rx
  map := fld w3 2 0
  x := x / 2 ^ fld w1 31 26 % 2 ^ fld w1 25 22
  y := x / 2 ^ fld w1 21 16 % 2 ^ fld w1 15 12
  p := if bit w2 26 then x / 2 ^ fld w1 11 6 % 2 else 0
  t := some ((s.elapsed : Int) - s.regFld (Page.evc rx) Reg.EVC_TOFF_NS 15 0)

theorem sensorWord_of_plain {w0 w1 w2 w3 : W32} (rx vc x : Nat) (htype : fld w0 12 10 = 0) (htime : fld w2 31 27 = 0) :
    s.sensorWord rx vc w0 w1 w2 w3 x = s.bufferSensor (s.plainEvent rx w1 w2 w3 x) := by
  unfold sensorWord
  dsimp only
  rw [if_pos (.inl htype)]
  simp only [sensorTime, htime, if_true, sensorField_eq, pow_one, plainEvent]

theorem bufferSensor_of_room {e : SensorEvent} (hroom : s.sensorCount e.src < 4096) :
    (s.bufferSensor e).ingress.events = s.ingress.events ++ [e] ∧ s.counted (s.bufferSensor e) (Page.evc e.src) Reg.EVC_EVENTS 1
      ∧ s.only (s.bufferSensor e) [.ingress, .regs] ∧ s.regsBut (s.bufferSensor e) [(Page.evc e.src, Reg.EVC_EVENTS)] := by
  have hbuf : s.bufferSensor e = { s.count (Page.evc e.src) Reg.EVC_EVENTS 1 with
      ingress := { s.ingress with events := s.ingress.events ++ [e] } } := if_neg (Nat.not_le.mpr hroom)
  rw [hbuf]
  exact ⟨rfl, s.count_reg _ _ _, (State.only_refl s _).count.ingress,
    regsBut_count (regsBut_refl s [(Page.evc e.src, Reg.EVC_EVENTS)]) (by decide) (by simp)⟩

/-! ### Templates (R348) -/

theorem exec_templateWrite_of_takes {r : Requester} {word : Fin 32} {v : W32}
    (htakes : s.takes r (Page.evc rx) (Reg.EVC_TPL + 4 * word.val)) :
    exec (.templateWrite r rx word v) s = .next (s.tplWrite rx word v) :=
  congrArg Host.Outcome.next (ifAdmit_of_takes htakes _)

end State

end Sys2Proof.Machine
end

section
/-! # AER ports -/
namespace Sys2Proof.Machine
open Sys2Proof

namespace State

variable {s t : State} {l : List Part} {port : Fin 2} {word : W32} {w : AerWord}

theorem only.aerTake (h : s.only t l) (hi : Part.ingress ∈ l := by decide) (hr : Part.regs ∈ l := by decide) :
    s.only (t.aerTake w) l := (h.ingress hi).count hr

theorem only.aerAckHigh (h : s.only t l) {j : Nat} (hi : Part.ingress ∈ l := by decide) : s.only (t.aerAckHigh j) l :=
  h.ingress hi

theorem mem_aerAck_aerAckHigh (s : State) (j : Nat) : j ∈ (s.aerAckHigh j).ingress.aerAck := mem_setIns_self _ _

/-! ### A word arrives (R350) -/

section
variable (hruns : s.runs (186 + port) = true) (hen : bit (s.reg (Page.aer port) Reg.AER_CTRL) 0 = true)
  (hidle : port.val ∉ s.ingress.aerAck) (hheld : ∀ x ∈ s.ingress.aerHeld, x.port ≠ port.val)
include hruns hen hidle hheld

/-- A port between two handshakes takes its word, drops it or keeps it waiting. -/
theorem exec_aerWord_of_idle : exec (.aerWord port word) s = .next (
    if s.aerFifo port < 1024 then (s.aerTake { port := port, word := word, t := s.elapsed }).aerAckHigh port
    else if bit (s.reg (Page.aer port) Reg.AER_CTRL) 1 then (s.countInt (Page.aer port) Reg.AER_DROP 0 1).aerAckHigh port
    else { s with ingress := { s.ingress with
      aerHeld := s.ingress.aerHeld ++ [{ port := port, word := word, t := s.elapsed }] } }) := by
  have hfree : s.ingress.aerHeld.all (fun x => x.port != port.val) = true := by simpa using hheld
  change execAerWord port word s = _
  rw [execAerWord, if_pos (by simp [hruns, hen, hidle, hfree])]
  dsimp only
  split
  · rfl
  · split <;> rfl

end

/-- A word enters the buffer, and the acknowledge rises. -/
theorem aerTaken_parts (s : State) (w : AerWord) (j : Nat) : let t := (s.aerTake w).aerAckHigh j
    t.ingress.aer = s.ingress.aer ++ [w] ∧ j ∈ t.ingress.aerAck ∧ s.counted t (Page.aer w.port) Reg.AER_EVENTS 1
      ∧ s.only t [.ingress, .regs] ∧ s.regsBut t [(Page.aer w.port, Reg.AER_EVENTS)] :=
  ⟨rfl, mem_aerAck_aerAckHigh _ j, s.count_reg _ _ _, (State.only_refl s _).aerTake.aerAckHigh,
    regsBut_count (regsBut_refl s [(Page.aer w.port, Reg.AER_EVENTS)]) (by decide) (by simp)⟩

/-! ### The end of a handshake -/

theorem exec_aerAckRelease_of_room (hfind : s.ingress.aerHeld.find? (fun y => y.port == port.val) = some w)
    (hruns : s.runs (186 + port) = true) (hroom : s.aerFifo port < 1024) : exec (.aerAckRelease port) s
      = .next ((({ s with ingress := { s.ingress with aerHeld := eraseFirst w s.ingress.aerHeld } }).aerTake w).aerAckHigh port) := by
  change execAerAckRelease port s = _
  rw [execAerAckRelease, hfind]
  exact if_pos (by simp [hruns, hroom])

theorem exec_aerReqFall_of_clocked (hclk : s.clocked = true) : exec (.aerReqFall port) s
    = .next { s with ingress := { s.ingress with aerAck := setDel s.ingress.aerAck port } } := if_pos hclk

theorem not_mem_setDel (l : List Nat) (x : Nat) : x ∉ setDel l x := by simp [setDel]

end State

end Sys2Proof.Machine
end

section
/-! # The sensor map unit -/
namespace Sys2Proof.Machine
open Sys2Proof

namespace State

variable {s t : State} {l : List Part} {src : Fin 6} {e : SensorEvent} {m off d n : Nat}

/-! ### Serving an event (R352) -/

theorem only.serveMap (h : s.only t l) (hr : Part.regs ∈ l := by decide) (hn : Part.fresh ∈ l := by decide)
    (hf : Part.fabric ∈ l := by decide) (hs : Part.step ∈ l := by decide) : s.only (t.serveMap e m) l :=
  .branch (h.count hr) ((only_useFresh h hn).sendNode hf hs)

theorem reg_serveMap (hne : off ≠ Reg.EVC_MAP_NONE) : (s.serveMap e m).reg Page.evcMap off = s.reg Page.evcMap off := by
  unfold serveMap
  split
  · exact reg_setReg_off hne
  · rfl

/-! ### MAP_LOOKUP (R351, R353, R354) -/

/-- The oldest event of a receiver leaves its buffer. -/
def eventTaken (s : State) (e : SensorEvent) : State :=
  { s with ingress := { s.ingress with events := eraseFirst e s.ingress.events } }

theorem only_eventTaken (s : State) (e : SensorEvent) : s.only (s.eventTaken e) [.ingress] := (State.only_refl s _).ingress

theorem takeSensor_of_event (hsrc : src.val < 4) (hfind : s.ingress.events.find? (fun x => x.src == src.val) = some e) :
    s.takeSensor src = (some e, s.eventTaken e) := by
  unfold takeSensor
  rw [if_pos hsrc, hfind]
  rfl

/-- The line of an event in the cache. -/
def cachedLine (s : State) (e : SensorEvent) : Option (Nat × Nat) :=
  (s.ingress.cache.take s.mapLines).find? (fun x => x.1 == s.mapAddr e / 64 * 64)

section
variable (hsrc : src.val < 4) (hfind : s.ingress.events.find? (fun x => x.src == src.val) = some e)
  (hclk : s.clocked = true) (hnode : s.node7Credit = true) (hroom : s.ingress.misses.length < 64)
include hsrc hfind hclk hnode hroom

theorem exec_mapLookup_of_outside (hout : 2 ^ s.mapX e.map ≤ e.x ∨ 2 ^ s.mapY e.map ≤ e.y) :
    exec (.mapLookup src) s = .next ((s.eventTaken e).countInt (Page.evc src) Reg.EVC_DROP_RANGE 0 1) := by
  have hdrop : (s.eventTaken e).dropRange src = (s.eventTaken e).countInt (Page.evc src) Reg.EVC_DROP_RANGE 0 1 := if_pos hsrc
  change execMapLookup src s = _
  rw [execMapLookup, if_pos (by simp [hclk, hnode, hroom]), takeSensor_of_event hsrc hfind, ← hdrop]
  exact if_pos hout

theorem exec_mapLookup_of_miss (hin : ¬ (2 ^ s.mapX e.map ≤ e.x ∨ 2 ^ s.mapY e.map ≤ e.y))
    (hmiss : s.cachedLine e = none) :
    exec (.mapLookup src) s = .next ((s.eventTaken e).missMap e (s.mapAddr e)) := by
  have hlookup : (s.eventTaken e).cachedLine e = none := hmiss
  change execMapLookup src s = _
  rw [execMapLookup, if_pos (by simp [hclk, hnode, hroom]), takeSensor_of_event hsrc hfind]
  refine (if_neg hin).trans ?_
  dsimp only
  rw [← cachedLine, hlookup]
  rfl

theorem exec_mapLookup_of_hit (hin : ¬ (2 ^ s.mapX e.map ≤ e.x ∨ 2 ^ s.mapY e.map ≤ e.y))
    (hhit : (s.cachedLine e).isSome = true) :
    ∃ entry, exec (.mapLookup src) s = .next (((s.eventTaken e).count Page.evcMap Reg.EVC_HITS 1).serveMap e entry) := by
  obtain ⟨line, hline⟩ := Option.isSome_iff_exists.mp hhit
  have hlookup : (s.eventTaken e).cachedLine e = some line := hline
  refine ⟨line.2 / 2 ^ (8 * (s.mapAddr e % 64)) % 2 ^ 64, ?_⟩
  change execMapLookup src s = _
  rw [execMapLookup, if_pos (by simp [hclk, hnode, hroom]), takeSensor_of_event hsrc hfind]
  refine (if_neg hin).trans ?_
  dsimp only
  rw [← cachedLine, hlookup]
  rfl

end

/-- The event waits for its line. -/
def missWaiting (s : State) (e : SensorEvent) (a : Nat) : State :=
  { s with ingress := { s.ingress with misses := s.ingress.misses ++ [{ id := s.fresh + 1, addr := a, ev := e }] } }

theorem missMap_parts (s : State) (e : SensorEvent) (a : Nat) : let t := s.missMap e a
    t.ingress = { s.ingress with misses := s.ingress.misses ++ [{ id := s.fresh + 1, addr := a, ev := e }] }
      ∧ s.only t [.ingress, .fresh, .dram] := by
  have hwaits : s.only (s.missWaiting e a).useFresh [.ingress, .fresh, .dram] :=
    only_useFresh (State.only_refl s _).ingress (by decide)
  have hrequests : (s.missWaiting e a).useFresh.only (s.missMap e a) [.dram] :=
    .branch (State.only_refl _ _).pushReqs (State.only_refl _ _)
  exact ⟨hrequests .ingress (by decide), .branch hwaits.pushReqs hwaits⟩

theorem hit_parts (s : State) (e : SensorEvent) (entry : Nat) :
    let t := ((s.eventTaken e).count Page.evcMap Reg.EVC_HITS 1).serveMap e entry
    s.counted t Page.evcMap Reg.EVC_HITS 1 ∧ t.ingress = (s.eventTaken e).ingress
      ∧ s.only t [.ingress, .regs, .fresh, .fabric, .step] := by
  intro t
  have hserved : ((s.eventTaken e).count Page.evcMap Reg.EVC_HITS 1).only t [.regs, .fresh, .fabric, .step] :=
    (State.only_refl _ _).serveMap
  refine ⟨?_, hserved .ingress (by decide), ((s.only_eventTaken e).mono (by decide)).count.serveMap⟩
  rw [counted, reg_serveMap (by decide)]
  exact count_reg (s.eventTaken e) _ _ _

/-! ### MAP_MISS_FILL (R353) -/

theorem only_dramRead (s : State) (secure : Bool) (d n : Nat) : s.only (s.dramRead secure d n).2 [.dram, .regs] := by
  unfold dramRead
  split_ifs
  · exact State.only_refl s _
  · exact (State.only_refl s _).count
  · exact (State.only_refl s _).touchRange.count

theorem reg_touchRange {p : Nat} (ho : off < 4096) (hstat : off ≠ Reg.DRM_SLICE_STAT) :
    (s.touchRange d n).reg p off = s.reg p off := by
  unfold touchRange
  generalize granules d n = g
  induction g generalizing s with
  | nil => rfl
  | cons x g ih => exact ih.trans (reg_touchSlice ho hstat)

/-- A read of DRAM leaves the registers at offsets other than those of the slices' power state and of the two counters. -/
theorem reg_dramRead {p : Nat} {secure : Bool} (ho : off < 4096) (hstat : off ≠ Reg.DRM_SLICE_STAT)
    (hpoison : off ≠ Reg.DRM_POISON_RD) (hrefused : off ≠ Reg.BDR_REFUSED) :
    (s.dramRead secure d n).2.reg p off = s.reg p off := by
  unfold dramRead
  split_ifs
  · rfl
  · exact reg_setReg_of_off_ne hrefused ho (by decide)
  · exact (reg_setReg_of_off_ne hpoison ho (by decide)).trans (reg_touchRange ho hstat)

theorem mapLines_congr (h : ∀ p, t.reg p Reg.TAR_OWNER_ACK = s.reg p Reg.TAR_OWNER_ACK) : t.mapLines = s.mapLines := by
  simp only [mapLines, owner, regFld, h]

theorem fillLine_parts (s : State) (a v : Nat) : (s.fillLine a v).regs = s.regs
    ∧ (s.fillLine a v).ingress.misses = s.ingress.misses
    ∧ (0 < s.mapLines → (s.fillLine a v).ingress.cache.head?.map (fun l => l.1) = some a)
    ∧ s.only (s.fillLine a v) [.ingress, .fresh] := by
  unfold fillLine
  dsimp only
  split
  · next hnone => exact ⟨rfl, rfl, fun hpos => absurd hnone hpos.ne', State.only_refl s _⟩
  · exact ⟨rfl, rfl, fun _ => rfl, only_useFresh (State.only_refl s _).ingress (by decide)⟩

/-- A miss is over: the line that the read brought enters the cache. -/
def missTaken (s : State) (m : MapMiss) : State :=
  { s with ingress := { s.ingress with misses := eraseFirst m s.ingress.misses } }

def lineRead (s : State) (secure : Bool) (a : Nat) : State :=
  let r := s.dramRead secure a 64
  (r.2.fillLine a r.1.1).count Page.evcMap Reg.EVC_MISSES 1

theorem exec_mapMissFill_of_done {id : Nat} {m : MapMiss} (hfind : s.ingress.misses.find? (fun m => m.id == id) = some m)
    (hclk : s.clocked = true) (hnode : s.node7Credit = true) (hdone : s.reqsDone id = true) : ∃ secure entry,
    exec (.mapMissFill id) s = .next (((s.missTaken m).lineRead secure (m.addr / 64 * 64)).serveMap m.ev entry) := by
  change ∃ secure entry, execMapMissFill id s = _
  rw [execMapMissFill, hfind]
  exact ⟨_, _, if_pos (by simp [hclk, hnode, hdone])⟩

theorem lineFilled_parts {a v : Nat} (hread : s.only t [.dram, .regs])
    (hcounter : t.reg Page.evcMap Reg.EVC_MISSES = s.reg Page.evcMap Reg.EVC_MISSES)
    (hlines : t.mapLines = s.mapLines) : let u := (t.fillLine a v).count Page.evcMap Reg.EVC_MISSES 1
    s.counted u Page.evcMap Reg.EVC_MISSES 1 ∧ u.ingress.misses = s.ingress.misses
      ∧ (0 < s.mapLines → u.ingress.cache.head?.map (fun l => l.1) = some a) ∧ s.only u [.ingress, .regs, .dram, .fresh] := by
  obtain ⟨hregs, hmisses, hcache, hfilled⟩ := t.fillLine_parts a v
  have hing : t.ingress = s.ingress := hread .ingress (by decide)
  have hparts : s.only t [.ingress, .regs, .dram, .fresh] := hread.mono (by decide)
  refine ⟨?_, hmisses.trans (by rw [hing]), fun hpos => hcache (hlines ▸ hpos), (hparts.trans hfilled).count⟩
  rw [counted, ← hcounter, ← reg_congr hregs]
  exact count_reg _ _ _ _

theorem lineRead_parts (s : State) (secure : Bool) (a : Nat) : let t := s.lineRead secure a
    s.counted t Page.evcMap Reg.EVC_MISSES 1 ∧ t.ingress.misses = s.ingress.misses
      ∧ (0 < s.mapLines → t.ingress.cache.head?.map (fun l => l.1) = some a) ∧ s.only t [.ingress, .regs, .dram, .fresh] :=
  lineFilled_parts (s.only_dramRead secure a 64) (reg_dramRead (by decide) (by decide) (by decide) (by decide))
    (mapLines_congr fun _ => reg_dramRead (by decide) (by decide) (by decide) (by decide))

theorem fill_parts (s : State) (m : MapMiss) (secure : Bool) (entry : Nat) :
    let t := ((s.missTaken m).lineRead secure (m.addr / 64 * 64)).serveMap m.ev entry
    s.counted t Page.evcMap Reg.EVC_MISSES 1 ∧ t.ingress.misses = eraseFirst m s.ingress.misses
      ∧ (0 < s.mapLines → t.ingress.cache.head?.map (fun l => l.1) = some (m.addr / 64 * 64)) ∧ t.mem = s.mem
      ∧ s.only t [.ingress, .regs, .dram, .fresh, .fabric, .step] := by
  obtain ⟨hcount, hmisses, hcache, hparts⟩ := (s.missTaken m).lineRead_parts secure (m.addr / 64 * 64)
  intro t
  have hserved : ((s.missTaken m).lineRead secure (m.addr / 64 * 64)).only t [.regs, .fresh, .fabric, .step] :=
    (State.only_refl _ _).serveMap
  have hing : t.ingress = _ := hserved .ingress (by decide)
  have htaken : s.only (s.missTaken m) [.ingress, .regs, .dram, .fresh, .fabric, .step] := (State.only_refl s _).ingress
  have hall : s.only t [.ingress, .regs, .dram, .fresh, .fabric, .step] := (htaken.trans hparts).serveMap
  refine ⟨?_, by rw [hing, hmisses]; rfl, by rw [hing]; exact hcache, hall .mem (by decide), hall⟩
  rw [counted, reg_serveMap (by decide)]
  exact hcount

/-! ### EVC_MAP_FLUSH (R353) -/

theorem exec_evcMapFlush_of_takes {r : Requester} (htakes : s.takes r Page.evcMap Reg.EVC_MAP_FLUSH) : exec (.evcMapFlush r) s
    = .next (if s.running then (s.setReg Page.evcMap Reg.EVC_MAP_FLUSH 1).posted r else s.flushMap) :=
  congrArg Host.Outcome.next (ifAdmit_of_takes htakes _)

theorem flushPosted_parts (s : State) (r : Requester) : let t := (s.setReg Page.evcMap Reg.EVC_MAP_FLUSH 1).posted r
    t.reg Page.evcMap Reg.EVC_MAP_FLUSH = 1 ∧ r ∈ t.step.posters ∧ t.ingress = s.ingress ∧ s.only t [.regs, .step] := by
  intro t
  have hposted : (s.setReg Page.evcMap Reg.EVC_MAP_FLUSH 1).only t [.step] := (State.only_refl _ _).posted
  refine ⟨?_, mem_posters_posted _ r, hposted .ingress (by decide), (State.only_refl s _).setReg.posted⟩
  rw [reg_congr (hposted .regs (by decide)), reg_setReg_same]

theorem flushMap_parts (s : State) : s.flushMap.ingress.cache = [] ∧ bit (s.flushMap.reg Page.evcMap Reg.PG_INT) 0 = true
    ∧ s.only s.flushMap [.regs, .ingress] :=
  ⟨rfl, bit_setInt (by decide), (State.only_refl s _).ingress.setReg.setInt⟩

end State

end Sys2Proof.Machine
end

section
/-! # Sensors: the statement -/
namespace Sys2Proof.Machine
open Sys2Proof

/-- Settles O44: an event is taken, counted or buffered by one operation on the ingress and the registers of its page; a hit
serves it, and a miss leaves it waiting for the line that the fill puts into the cache. -/
theorem sensorsReachTheMap : Obligations.SensorsReachTheMap := by
  intro s
  refine ⟨fun rx => ⟨fun hclk => ⟨fun hen => ?gain, fun hlock => ?loss⟩,
      fun htakes vc => ⟨?frame, ?badHeader, fun dt payload => ⟨?badCrc, fun hnone => ?unserved,
        fun i hi hserves hfirst hlen htype htime hroom => ?served⟩⟩, fun req word v htakes => ?template⟩,
    fun port word => ⟨fun hruns hen hidle hheld => ?word, fun x hfind hruns hroom => ?release, fun hclk => ?fall⟩,
    fun src e hsrc hfind hclk hnode hroom => ⟨fun hout => ?outside, fun hin hmiss => ?miss, fun hin hhit => ?hit⟩,
    fun id m hfind hclk hnode hdone => ?fill, fun req htakes => ?flush⟩
  case gain =>
    exact ⟨_, State.exec_csi2LockChange_of_gain hclk hen, State.bit_orReg (by decide), (State.only_refl s _).orReg,
      State.regsBut_setReg (State.regsBut_refl s _) (by decide) (by simp) _⟩
  case loss =>
    refine ⟨_, State.exec_csi2LockChange_of_loss hclk hlock, ?_, State.bit_setInt (by decide),
      (State.only_refl s _).clrReg.setInt, State.regsBut_setReg (State.regsBut_setReg (State.regsBut_refl s _) (by decide)
        (by simp) _) (by decide) (by simp) _⟩
    rw [State.setInt, State.orReg, State.reg_setReg_off (by decide)]
    exact State.bit_clrReg (by decide)
  case frame =>
    refine ⟨_, State.exec_csi2FrameStart_of_good htakes, ?_, ?_, ?_, State.bit_orReg (by omega),
      ((State.only_refl s _).ingress : s.only (s.anchored rx vc) [.ingress, .regs]).orReg,
      State.regsBut_setReg (t := s.anchored rx vc) (State.regsBut_refl s _) (by decide) (by simp) _⟩
    · exact congrArg CsiAnchor.start (s.anchor_anchored rx vc)
    · exact congrArg CsiAnchor.ts0 (s.anchor_anchored rx vc)
    · exact (congrArg CsiAnchor.timeHi (s.anchor_anchored rx vc) :)
  case badHeader =>
    obtain ⟨hcount, hint, honly, -⟩ := s.countInt_parts (b := 1) (Page.evc rx)
      (by decide : Reg.EVC_ECC_ERR < 4096) (by decide) (by decide)
    exact ⟨_, State.exec_csi2FrameStart_of_bad htakes, hcount, hint, honly⟩
  case badCrc =>
    exact ⟨_, State.exec_csi2LongPacket_of_badCrc htakes, s.countInt_parts _ (by decide) (by decide) (by decide)⟩
  case unserved =>
    exact ⟨_, State.exec_csi2LongPacket_of_unserved htakes hnone, s.count_reg _ _ _, (State.only_refl s _).count,
      regsBut_count (State.regsBut_refl s _) (by decide) (by simp)⟩
  case served =>
    refine ⟨_, State.exec_csi2LongPacket_of_served htakes hi hserves hfirst, ?_⟩
    rw [State.packetWords_of_single hlen, State.sensorWord_of_plain _ _ _ htype htime]
    exact State.bufferSensor_of_room hroom
  case template =>
    have hexec := State.exec_templateWrite_of_takes (v := v) htakes
    refine ⟨fun hbad => ⟨_, hexec, ?_⟩, fun hgood => ⟨_, hexec, ?_⟩⟩
    · have hwrite : s.tplWrite rx word v = s.setErr (Page.evc rx) 0 := if_pos hbad
      rw [hwrite]
      exact ⟨State.bit_setErr (by decide), (State.only_refl s _).setErr,
        State.regsBut_setReg (State.regsBut_refl s _) (by decide) (by simp) _⟩
    · have hwrite : s.tplWrite rx word v = s.setReg (Page.evc rx) (Reg.EVC_TPL + 4 * word.val) (v &&& tplMask (word.val % 4)) :=
        if_neg (by rw [hgood]; decide)
      rw [hwrite]
      exact ⟨State.reg_setReg_same _ _ _ _, (State.only_refl s _).setReg,
        State.regsBut_setReg (State.regsBut_refl s _) (by unfold Reg.EVC_TPL; omega) (by simp) _⟩
  case word =>
    have hexec := State.exec_aerWord_of_idle (word := word) hruns hen hidle hheld
    refine ⟨fun hroom => ⟨_, hexec, ?_⟩, fun hfull => ⟨fun hdrop => ⟨_, hexec, ?_⟩, fun hhold => ⟨_, hexec, ?_⟩⟩⟩
    · rw [if_pos hroom]
      exact s.aerTaken_parts _ port
    · rw [if_neg (Nat.not_lt.mpr hfull), if_pos hdrop]
      obtain ⟨hcount, hint, honly, -⟩ := s.countInt_parts (b := 0) (Page.aer port)
        (by decide : Reg.AER_DROP < 4096) (by decide) (by decide)
      have hing : (s.countInt (Page.aer port) Reg.AER_DROP 0 1).ingress = s.ingress := honly .ingress (by decide)
      exact ⟨(congrArg IngressState.aer hing :), State.mem_aerAck_aerAckHigh _ _, hcount, hint,
        (honly.mono (by decide)).aerAckHigh⟩
    · rw [if_neg (Nat.not_lt.mpr hfull), if_neg (by rw [hhold]; decide)]
      exact ⟨rfl, (State.only_refl s _).ingress⟩
  case release =>
    exact ⟨_, State.exec_aerAckRelease_of_room hfind hruns hroom, rfl, rfl, State.mem_aerAck_aerAckHigh _ _,
      (State.only_refl s _).ingress.aerTake.aerAckHigh⟩
  case fall =>
    exact ⟨_, State.exec_aerReqFall_of_clocked hclk, State.not_mem_setDel _ _, (State.only_refl s _).ingress⟩
  case outside =>
    obtain ⟨hcount, -, honly, -⟩ := (s.eventTaken e).countInt_parts (b := 0) (Page.evc src)
      (by decide : Reg.EVC_DROP_RANGE < 4096) (by decide) (by decide)
    exact ⟨_, State.exec_mapLookup_of_outside hsrc hfind hclk hnode hroom hout, hcount,
      congrArg IngressState.events (honly .ingress (by decide)), ((s.only_eventTaken e).mono (by decide)).countInt⟩
  case miss =>
    obtain ⟨hing, honly⟩ := (s.eventTaken e).missMap_parts e (s.mapAddr e)
    exact ⟨_, State.exec_mapLookup_of_miss hsrc hfind hclk hnode hroom hin hmiss, congrArg IngressState.misses hing,
      congrArg IngressState.events hing, ((s.only_eventTaken e).mono (by decide)).trans honly⟩
  case hit =>
    obtain ⟨entry, hexec⟩ := State.exec_mapLookup_of_hit hsrc hfind hclk hnode hroom hin hhit
    obtain ⟨hcount, hing, honly⟩ := s.hit_parts e entry
    exact ⟨_, hexec, hcount, (congrArg IngressState.misses hing :), congrArg IngressState.events hing, honly⟩
  case fill =>
    obtain ⟨secure, entry, hexec⟩ := State.exec_mapMissFill_of_done hfind hclk hnode hdone
    exact ⟨_, hexec, s.fill_parts m secure entry⟩
  case flush =>
    have hexec := State.exec_evcMapFlush_of_takes htakes
    refine ⟨fun hrun => ⟨_, hexec, ?_⟩, fun hstop => ⟨_, hexec, ?_⟩⟩
    · rw [if_pos hrun]
      exact s.flushPosted_parts req
    · rw [if_neg (by rw [hstop]; decide)]
      exact s.flushMap_parts

end Sys2Proof.Machine
end
